-- ==== Sys2Proof/Word.lean ====
section
/-!
DEFINITION. Word.lean: the word types of the module (R7: a word is 32 bits, a line is 128 bits).
-/

namespace Sys2Proof

/-- A register word, 32 bits. -/
abbrev Word := BitVec 32

/-- A byte. -/
abbrev Byte := BitVec 8

/-- A memory line, 128 bits. -/
abbrev Line := BitVec 128

end Sys2Proof
end

