-- ==== Sys2Proof/Syntax.lean ====
section
/-!
DEFINITION. Syntax.lean: the commands the module takes, one constructor of `Instr` per row of the opcode table, with the
data that arrives with the command as its operands. The table gives a row no bits: the operands are those that the rule
of the row names (a written value, a received frame, a measured quantity, what a check of flash content finds).
-/

namespace Sys2Proof

/-- Who makes a register or memory access: the legal core, a hart of the application core, or a DMA ring (R84, R93). -/
inductive Initiator where
  | legal
  | hart (h : Fin 2)
  | ring (r : Fin 256)
deriving DecidableEq, Repr

/-- What a register read addresses: a byte address and the size of the access in bytes (R92). -/
structure ReadAt where
  addr : Word
  size : Nat := 4
deriving DecidableEq, Repr

/-- A read of a memory line, or a write of the bytes that `mask` selects (bit i: byte i). -/
inductive MemOp where
  | read
  | write (mask : BitVec 16) (data : Line)
deriving DecidableEq, Repr

/-- What stage S1 finds outside the ledger, the flash die and the SRAM: the contacts (R817), the self-test of the signing engine (R328), and
the nominal frequency of the site. -/
structure S1Check where
  coverOpen : Bool
  pushPressed : Bool
  selfTestOk : Bool
  nom60 : Bool           -- ANG.CTL.NOM as the legal image sets it for its site before it counts the nominal cycles (R49, R56)
deriving DecidableEq, Repr

/-- Does the flash die deliver the safety parameter block to stage S2 (R123)? What it holds stands in State. -/
structure S2Check where
  readable : Bool
deriving DecidableEq, Repr

/-- Does the flash die deliver the manifest of the bank to stage S3 (R726)? What it holds stands in State. -/
structure S3Check where
  readable : Bool
deriving DecidableEq, Repr

/-- The wake sources of R151. -/
inductive WakeSource where
  | pilot
  | safety
  | alarm (n : Fin 64)
deriving DecidableEq, Repr

/-- An input of the safety island: channel A or B of a pair, or a feedback input (R380). -/
inductive SafetyInput where
  | pairA (p : Fin 16)
  | pairB (p : Fin 16)
  | fb (n : Fin 8)
deriving DecidableEq, Repr

/-- A received frame of the Llyn link: its fields (Table 13-3), its level in dBµV and its signal-to-noise ratio in dB. -/
structure LlynFrame where
  dst : BitVec 6
  src : BitVec 6
  seq : BitVec 4
  pay : BitVec 36
  level : BitVec 8
  snr : BitVec 8
deriving DecidableEq, Repr

/-- A tag that an inventory round singulates: its PC word (first byte on air lowest), EPC, RSSI in dBm, and the twelve TID
bytes where they were read. -/
structure UhfTag where
  pc : BitVec 16
  epc : List Byte
  rssi : Byte
  tid : Option (List Byte)
deriving DecidableEq, Repr

/-- What the boot ROM measures at a cold start: the hold-up in 0.1 ms (R789). -/
structure ColdCheck where
  pred : BitVec 16
deriving DecidableEq, Repr

/-- The commands of the module: the rows of the opcode table, in its order. -/
inductive Instr where
  /-- R91: A write by a core or ring to a register that has no row of its own, with the outcome given by Table 3-3 for the writer's domain, the access code and the seal state. -/
  | registerWrite (who : Initiator) (a : Word) (size : Nat) (v : BitVec 64)
  /-- R304: A core or ring stalled by an RWS change while UNSEALED resumes once more than 16 counted-queue entries are free. -/
  | stalledWriteResume (who : Initiator)
  /-- R82: An access to an address in 0x4000_0000-0x400F_FFFF that lies in no page returns a bus error and logs event 0x0212. -/
  | unmappedAccess (who : Initiator) (a : Word) (write : Bool)
  /-- R13: A read of an RC field by its owning domain returns the value and clears the field; in a 128-bit snapshot it clears at the read of the lowest word. -/
  | rcFieldRead (who : Initiator) (a : ReadAt)
  /-- R98: A read of the lowest word of a wide register loads the reading domain's snapshot buffer with every word in one clock cycle. -/
  | wideSnapshotRead (who : Initiator) (a : ReadAt)
  /-- R99: A write to a non-highest word of a wide register is held in the writer's staging buffer and marks that word as written. -/
  | wideStagingWrite (who : Initiator) (a : Word) (v : Word)
  /-- R88: Writing back the value read from FAULT.CODE clears CODE and COUNT, except on SAF and EFM. -/
  | faultClear (who : Initiator) (page : Word) (v : Word)
  /-- R95: The legal domain writes OWNER.DOMAIN of a transferable page; when the rule holds the page resets, XCOUNT increments and event 0x0210 is logged, otherwise event 0x0211. -/
  | ownerTransfer (page : Word) (dom : BitVec 2)
  /-- R103: SEAL.CMD.OP = ARM sets ARMED when the state is FACTORY or UNSEALED and ARMED is 0. -/
  | sealArm
  /-- R103: The push contact, pressed after ARM, has been held for 2 s: PUSHED is set. -/
  | sealPushQualified (recorded : Bool)
  /-- R103: SEAL.CMD.OP = COMMIT after a committed sealing record writes the seal cell, sets SEALED, locks RWS fields, disconnects X22 and clears ARMED and PUSHED. -/
  | sealCommit
  /-- R103: SEAL.CMD.OP = CANCEL clears ARMED and PUSHED before COMMIT. -/
  | sealCancel
  /-- R103: No qualified push within 60 s of ARM: ARMED clears and event 0x0206 is logged. -/
  | sealArmExpiry
  /-- R103: No COMMIT within 1 s of PUSHED: ARMED and PUSHED clear and event 0x0207 is logged. -/
  | sealCommitExpiry
  /-- R104: With the cover contact open, the push contact has been held for 5 s: the seal cell is written, the state becomes UNSEALED, RWS locks clear, X22 connects and the unsealing record is committed. -/
  | unseal
  /-- R114: The push contact is pressed or released, starting or restarting the hold counts of sealing and unsealing. -/
  | pushContactChange (pressed : Bool)
  /-- R45: The verification cover is opened; while SEALED, event 0x0204 is logged and counted. -/
  | coverOpen
  /-- R110: The verification cover is closed and event 0x0205 is logged without counting. -/
  | coverClose
  /-- R785: The 24 V supply has been at or above 18.0 V for 100 ms with the hold-up store charged. -/
  | supplyValid (z : ColdCheck) (utc : Option (BitVec 64))
  /-- R121: The legal image copy is verified, then the stepping, seal, ledger, clocks and head ports are handled. -/
  | stageS1 (c : S1Check)
  /-- R123: The safety parameter block is checked and loaded into SAF and EFM and the island is released, or Winter mode with reason 4 is entered. -/
  | stageS2 (c : S2Check)
  /-- R130: The application manifest and tested-with set are checked, the tag key is derived and loaded, and the application domain is released. -/
  | stageS3 (c : S3Check) (z : ColdCheck)
  /-- R133: The application image starts and the 120 s start deadline begins. -/
  | stageS4
  /-- R120: An application start begins at S3 while the legal domain keeps running, after an application reset or a wake. -/
  | applicationStart (c : S3Check) (z : ColdCheck)
  /-- R125: The legal core watchdog expires, and both domains are reset and a cold start begins. -/
  | legalWatchdogExpiry (z : ColdCheck)
  /-- R125: The lockstep cores disagree at a compare point, and both domains are reset and a cold start begins. -/
  | lockstepMismatch (z : ColdCheck)
  /-- R139: The legal domain has run for 600 s after S2 without a legal reset, and LCONSEC clears. -/
  | legalRunQualified
  /-- R131: A line read through the execution window fails its tag: the read faults, the bank is marked suspect and event 0x0109 is logged. -/
  | fetchTagMismatch (who : Initiator) (ofs : BitVec 28)
  /-- R131: 1 ms after a tag mismatch, the application domain is reset and the failed start is counted. -/
  | mismatchReset (z : ColdCheck)
  /-- R133: A write to SYS.START_CONF of 0x0000_5A3C sets START_OK and stops the deadline; a wrong value logs event 0x0115. -/
  | startConfirmation (v : Word)
  /-- R134: The start deadline expires: event 0x0107 is logged and the application domain is reset. -/
  | startDeadlineExpiry (z : ColdCheck)
  /-- R135: 600 s pass after START_OK without an application reset: the start becomes good and CONSEC clears. -/
  | startGood
  /-- R149: SYS.MODE_REQ REQ = 2 is checked against the Standby conditions and accepted or refused with event 0x0114. -/
  | standbyRequest
  /-- R151: A pilot change, a SAF or EFM interrupt bit or a WAKE alarm leaves Standby, records SYS.WAKE and makes an application start. -/
  | wake (src : WakeSource)
  /-- R154: SYS.MODE_REQ REQ = 1 returns the module to Run. -/
  | runRequest
  /-- R357: SYS.MODE_REQ REQ = 3 is checked against the vehicle-role conditions and accepted or refused. -/
  | vehicleRoleRequest
  /-- R48: A carry out of bit 47 of the phase accumulator increments ANG.CYCLES by one. -/
  | cycleEnd
  /-- R816: At the positive-going zero crossing of the source, the phase error is taken and the loop corrects ANG.INC. -/
  | zeroCrossingComparison (freq : Word)
  /-- R51: The fundamental has been at least 90 V r.m.s. for 5 consecutive cycles. -/
  | sourcePresent (freq : Word)
  /-- R51: The fundamental has been below 70 V in 2 consecutive half-cycles, and the clock goes to HOLDOVER. -/
  | sourceAbsent
  /-- R51: The source frequency leaves 45-65 Hz while present: INRANGE falls and event 0x83 and RANGE arise once. -/
  | sourceOutOfRange (freq : Word)
  /-- R53: 10 s in HOLDOVER without ACQUIRE: the clock enters FREERUN. -/
  | holdoverTimeout
  /-- R53: ANG.CTL.EN written from 0 to 1 enters FREERUN and raises REFOK. -/
  | angEnable
  /-- R78: ANG.CTL.EN cleared holds the accumulator and is treated at once as a reference deviation. -/
  | angDisable
  /-- R49: ANG.CTL.SRC selects X2 or free run; free run enters FREERUN. -/
  | angSourceSelect (freeRun : Bool)
  /-- R56: The legal domain commits ANG.CYCLES while EN is 0; a value below the present count is ignored. -/
  | angCyclesCommit (v : Word)
  /-- R66: A commit to an alarm takes effect at the next reference tick, arming the new setting with FIRED, LATE and SKIP cleared. -/
  | alarmCommit (n : Fin 64) (v : Word)
  /-- R59: An armed alarm reaches its target: it sets FIRED, acts as its ACT gives, and clears ARM or moves its target on. -/
  | alarmFire (ns : List (Fin 64))
  /-- R68: A timer is loaded from LOAD and starts, on EN written to 1 or on an alarm with ACT = 5. -/
  | timerStart (n : Fin 8)
  /-- R68: A timer's count reaches zero: it sets its interrupt bit and reloads or stops as PER gives. -/
  | timerZero (n : Fin 8)
  /-- R70: A write setting TMR.WDG_CTL.EN enables the application watchdog with WIN and TIMEOUT, or is ignored when TIMEOUT is 0. -/
  | watchdogEnable (v : Word)
  /-- R70: A write of 0x0000_A5C3 to TMR.WDG_KICK services the watchdog; with WIN = 1, a kick in the first half is an expiry. -/
  | watchdogKick (v : Word) (z : ColdCheck)
  /-- R70: One eighth of the timeout remains: WDGWARN is set. -/
  | watchdogWarning
  /-- R70: The application watchdog expires: the event is logged and the application domain is reset. -/
  | watchdogExpiry (z : ColdCheck)
  /-- R72: The application commits TMR.UTCREQ to request a setting of the real-time clock. -/
  | utcRequest (v : Word)
  /-- R73: The legal image handles the latest request within 1 ms: it slews, steps or refuses, and writes RTC.SETSTAT. -/
  | utcRequestHandle (elapsed : BitVec 16) (buildTime : BitVec 64)
  /-- R73: The slew has used up its Δ, and SLEWING and SLEWLEFT return to 0. -/
  | rtcSlewEnd
  /-- R76: The reference and the 32.768 kHz oscillator have differed by more than 200 ppm for 1 s: REFOK falls and every channel becomes invalid. -/
  | referenceDeviation
  /-- R76: REFOK has been 1 again for 1 s, and the channels may settle. -/
  | referenceRecovered
  /-- R71: The supercapacitor voltage is measured every 1 s into RTC.SUPV. -/
  | supercapMeasure (mv : BitVec 16)
  /-- R174: HEADn.CTL.EN set powers the port and enters POWER. -/
  | headPortEnable (p : Fin 8)
  /-- R201: HEADn.CTL.EN cleared invalidates the channels, enters OFF and removes port power within 1 ms. -/
  | headPortDisable (p : Fin 8)
  /-- R174: Upstream transitions have been seen for 1 µs in POWER, and the port enters SYNC. -/
  | upstreamActivity (p : Fin 8)
  /-- R175: A 32-bit status word is received and judged good or not, advancing SYNC, IDENT, HELLO, RUN, link errors and loss of lock. -/
  | statusWord (p : Fin 8) (w : Word) (violation : Bool) (rtd : BitVec 16)
  /-- R179: No upstream transition for 1 µs: loss of lock is declared. -/
  | upstreamSilence (p : Fin 8)
  /-- R177: No HELLO echo within 2 ms: event 0x034B is logged. -/
  | helloEchoTimeout (p : Fin 8)
  /-- R177: 100 ms after an echo timeout, HELLO starts again with a new nonce. -/
  | helloRetry (p : Fin 8)
  /-- R183: An overcurrent, or a supply that has not risen in time, removes port power within 10 µs and enters PFAULT. -/
  | portPowerFault (p : Fin 8)
  /-- R174: 1 s in PFAULT, and the port returns to POWER. -/
  | pfaultRecovery (p : Fin 8)
  /-- R26: A head is plugged into a powered port, and the link then passes through SYNC and IDENT. -/
  | headConnect (p : Fin 8)
  /-- R40: A head cable is unplugged: the channels become invalid and held energy is integrated. -/
  | headDisconnect (p : Fin 8)
  /-- R170: A head receives command IDLE and does nothing. -/
  | headIdle (p : Fin 8) (w : Word)
  /-- R170: A head receives HELLO and copies the nonce into status slot 15. -/
  | headHello (p : Fin 8) (w : Word)
  /-- R170: A head receives RUN, starts its modulators and sets the RUN flag. -/
  | headRun (p : Fin 8) (w : Word)
  /-- R170: A head receives HALT, stops its modulators, clears RUN and sends zeros. -/
  | headHalt (p : Fin 8) (w : Word)
  /-- R429: A PH-DC or PH-DCX head receives AUXCTL, switches its bleeder within 1 ms and echoes ARG in slot 10. -/
  | headAuxctl (p : Fin 8) (w : Word)
  /-- R766: A head receives PATTERN and sends the test sequence on V, I and X, or ends it on ARG 0. -/
  | headPattern (p : Fin 8) (w : Word)
  /-- R181: A head with no good command word for 125 µs stops its modulators and clears RUN. -/
  | headCommandTimeout (p : Fin 8)
  /-- R186: Every 2048 reference ticks, all 24 channels produce an output sample with its value and flags. -/
  | outputSample (bits : List (BitVec 2048))
  /-- R186: FIL.CTL.EN set defines the chain epoch and clears every chain register. -/
  | chainEnable
  /-- R202: A change of a FIL.CHEN bit restarts that channel from reset to settle. -/
  | channelEnableChange (mask : BitVec 24)
  /-- R216: At each engine cycle end, per-element cycle values are formed, accumulators are added to and result registers are updated in one clock cycle. -/
  | engineCycleClose
  /-- R207: A write of MEn_CFG that leaves EN at 1 is checked against R206 and refused whole with event 0x0302 when it fails. -/
  | meCfgWrite (n : Fin 8) (v : Word)
  /-- R230: A write of ACCn_CFG that sets EN is refused for an empty, mixed or ICH-sharing ELEM, and otherwise takes effect at the next close. -/
  | accCfgWrite (n : Fin 64) (v : Word)
  /-- R242: A write of MET.BRn that sets EN is refused unless the accumulator is enabled, measured and billable; a refusal logs event 0x0301. -/
  | brWrite (n : Fin 8) (v : Word)
  /-- R224: CAL.CMD.APPLY validates every table, and either schedules the replacement or refuses with event 0x0309. -/
  | calApply
  /-- R227: In FACTORY, a write of 0x0000_C1EA to MET.ACCCLR clears all accumulators at the next close. -/
  | accumulatorClear (v : Word)
  /-- R239: A held run has lasted longer than HOLDMAX: held energy stops, HOLDEXP is set and counted event 0x0305 is logged. -/
  | heldRunLimit (n : Fin 8)
  /-- R260: 1024 ticks after a close, each enabled output takes R0 and D and places its pulses for the window. -/
  | pulseWindowStart (len : Word)
  /-- R264: A pulse is emitted at its placement, or later under R265, incrementing POn_COUNT. -/
  | pulseActiveEdge (n : Fin 4)
  /-- R264: A pulse's width elapses and the output returns to inactive. -/
  | pulseEnd (n : Fin 4)
  /-- R256: A write of POn_CFG setting EN is refused for PO0 following an unbilled accumulator, with event 0x0355. -/
  | poCfgWrite (n : Fin 4) (v : Word)
  /-- R267: The legal domain writes POn_TEST; while not SEALED, a change is logged and counted as event 0x0353. -/
  | poTestWrite (n : Fin 4) (v : Word)
  /-- R274: PLS.CMD.SNAP requests a snapshot at the next window start. -/
  | pulseSnapshotRequest
  /-- R284: A core or ring reads or writes an SRAM line, which is checked, corrected or refused under its tag. -/
  | sramAccess (who : Initiator) (a : BitVec 40) (op : MemOp) (upset : BitVec 160)
  /-- R287: A write to SYS.SRAMCLR or LDG.SRAMCLR writes the line with zeros and a fresh tag. -/
  | sramLineClear (who : Initiator) (a : Word)
  /-- R284: A write of LDG.LRD_IDX starts a legal read of a ledger line with its tag check. -/
  | ledgerReadRequest (line : BitVec 18) (upset : BitVec 160)
  /-- R325: A write of SYS.LQ_RIDX starts an application read of a ledger line, completing within 2 µs. -/
  | appLedgerRead (line : BitVec 18) (upset : BitVec 160)
  /-- R285: A commit of LDG.LW_DATA queues a legal ledger line write with its index and mask. -/
  | ledgerWriteQueue (v : Word)
  /-- R325: A commit of SYS.LQ_DATA queues an application write, or refuses it with event 0x040A. -/
  | appLedgerWrite (v : Word)
  /-- R292: The commit engine takes the next line, legal queue first, and writes it with a fresh tag within 1 µs. -/
  | commitEngineLineWrite (upset : BitVec 160)
  /-- R294: While SCRUB is set, the next ledger line is read at low priority and handled under R284. -/
  | scrubRead (upset : BitVec 160)
  /-- R297: LDG.CMD.MIRROR requests a mirror commit. -/
  | mirrorRequest
  /-- R297: At a close due by MIRPER, by request or by the spacing, a mirror slot is committed with line 76 last. -/
  | mirrorCommit
  /-- R300: At the first close at least 1 s after an RWS change, a configuration copy is written into the older copy, first line last. -/
  | configCopy
  /-- R303: The event collector commits the next event record, in order of occurrence, to the counted log or the event ring. -/
  | eventRecordCommit
  /-- R315: SYS.SESS_REQ with OP = 1 is checked against Table 8-9, and the tenant counter is incremented or the request refused. -/
  | sessionOpenRequest (tenant : BitVec 4) (seq : BitVec 8)
  /-- R316: SYS.SESS_REQ with OP = 2 closes the open session: the legal condition is withdrawn at once. -/
  | sessionCloseRequest (appReason : BitVec 8) (seq : BitVec 8)
  /-- R319: SYS.SESS_REQ with OP = 3 requests an interim or on-demand reading at the next close. -/
  | readingRequest (seq : BitVec 8)
  /-- R315: At the next engine close after an accepted open, the start reading is taken for signing. -/
  | startReading
  /-- R315: The signed start record is committed to the session slot and the legal condition is given. -/
  | startRecordCommit
  /-- R316: At the first close at least 200 ms after withdrawal, the end reading is taken, signed and committed. -/
  | endReading
  /-- R319: At the next close after OP = 3, an interim or on-demand reading is taken and signed into SIG.OUT. -/
  | interimReading
  /-- R323: SIG.CMD.SIGN makes the signing engine sign SIG.IN. -/
  | signCommand
  /-- R323: A signature completes within 30 ms and its record goes to SIG.OUT. -/
  | signatureComplete
  /-- R786: The 24 V supply falls below 16.0 V, or exceeds 36 V: t0 of the power-fail sequence. -/
  | supplyFailure
  /-- R786: The supply has lain below 18.0 V for 10 s, which is a supply failure. -/
  | supplyLowTimeout
  /-- R310: After the write in progress, the commit engine writes the PFAIL mirror slot, counted records, a configuration copy, ring records and event 0x0401, then locks. -/
  | powerFailCommit (us : BitVec 16)
  /-- R313: The supply returns after t0: the sequence completes, and a cold start follows once the supply is valid. -/
  | supplyReturnDuringPfail
  /-- R810: HUREADY falls while running; the module continues without the hold-up guarantee. -/
  | holdupStoreFail
  /-- R332: A 1 kHz pilot period begins, applying any new mode, duty, staged duty or cable limit. -/
  | pilotPeriodStart
  /-- R336: The high and low samples of a period are windowed, qualifying states, diode faults and observed events. -/
  | pilotSample (high : BitVec 16) (low : BitVec 16) (obs : BitVec 2) (obsHigh : BitVec 15)
  /-- R338: An invalid-level or stuck-pilot condition has held for INVT: the pilot fault is declared. -/
  | pilotFault (stuck : Bool)
  /-- R341: VEH.DUTY is written: it takes effect at the next period, or is staged for an ACT 7 alarm; reserved values log event 0x0507. -/
  | dutyWrite (v : Word)
  /-- R346: Every 1 ms the PP resistance is measured, and after 10 consecutive measurements a code is qualified. -/
  | ppMeasurement (ohms : BitVec 24)
  /-- R350: GPM.CTL.EN = 1 starts the modem from its firmware. -/
  | modemEnable
  /-- R350: GPM.CTL.EN cleared removes modem power within 1 ms and leaves the fault state. -/
  | modemDisable
  /-- R350: The modem reaches MSTATE ready and logs event 0x0520. -/
  | modemReady (fw : Word)
  /-- R350: The modem has not answered for 1 s: it is restarted, or held in fault after the third restart in 60 s. -/
  | modemWatchdog (silent : BitVec 16)
  /-- R351: CTL.SLACEN = 1 starts a SLAC run in the current role. -/
  | slacEnable
  /-- R351: The EVSE modem answers the first CM_SLAC_PARM.REQ and receives the sounds. -/
  | slacParmReq (mac : BitVec 48) (run : BitVec 64) (sounds : BitVec 8) (att : BitVec 8)
  /-- R351: The EVSE modem answers CM_SLAC_MATCH.REQ with the network identifier and key and joins the network. -/
  | slacMatchReq (mac : BitVec 48) (run : BitVec 64)
  /-- R351: A SLAC run ends matched with event 0x0523, or failed with its cause and event 0x0524. -/
  | slacResult (ok : Bool) (cause : BitVec 4) (rate : BitVec 8)
  /-- R353: The vehicle requests validation; with VALEN the modem counts the B-C-B toggles, otherwise it answers not supported. -/
  | validationRequest (announced : BitVec 8) (toggles : BitVec 8)
  /-- R354: On state A, E or F, no proximity, or SLACEN cleared, the modem leaves the network within 100 ms. -/
  | logicalNetworkLeave (cause : BitVec 2)
  /-- R355: A received frame is checked and passed to the receive ring, or dropped and counted. -/
  | modemFrameReceived (frame : List Byte) (fcsOk : Bool)
  /-- R355: A frame from the transmit ring is sent, or consumed unsent while LINK is 0. -/
  | modemFrameTransmit
  /-- R359: VEH.VR_NET selects the emulation network, taking effect within 10 µs. -/
  | vrNetWrite (v : Word)
  /-- R361: VR_PROFCTL RUN = 1 starts the load profile at step 0, setting EMU and PPR. -/
  | profileRun (steps : BitVec 6)
  /-- R361: A step's duration elapses: the next step starts, or after the last step DONE is set with event 0x0512. -/
  | profileStepEnd
  /-- R361: Clearing RUN stops the profile at once, leaving the network as it is. -/
  | profileStop
  /-- R380: A safety or feedback input's filtered level changes after 60 used samples, driving demands, releases, resets, chatter and feedback faults. -/
  | inputFilterChange (i : SafetyInput) (level : Bool) (chatter : Bool) (quiet : BitVec 16) (demandMs : BitVec 16)
  /-- R381: TP0 or TP1 falls to 0 V for TPW, every TPPER. -/
  | testPulseStart (src : Fin 2)
  /-- R382: 100 µs before a pulse ends, inputs are checked for stuck-high and cross-short faults, and the sources are read back. -/
  | testPulseCheck (src : Fin 2) (levels : BitVec 40) (low : Bool) (high : Bool)
  /-- R373: Every 1 ms the lanes compare their states; disagreement in 3 comparisons is a class 3 fault. -/
  | laneComparison (agree : Bool)
  /-- R374: The island oscillator has deviated by more than 3 % for 10 ms: a class 3 fault. -/
  | oscillatorDeviation (dev : BitVec 16)
  /-- R374: A lane state machine misses its 1 ms progress mark: a class 3 fault and LOCKOUT. -/
  | islandWatchdog
  /-- R378: Every 100 ms each lane recomputes the loaded block's CRC; a mismatch is a class 3 fault. -/
  | parameterCrcCheck (w : Fin 128) (flip : Word)
  /-- R385: A and B equal for longer than DISC latch a class 1 discrepancy fault. -/
  | discrepancyFault (p : Fin 16)
  /-- R388: A reset pair released for 1 s without a fault clears its own faults. -/
  | resetPairFaultClear (p : Fin 16)
  /-- R404: After S2, a stop pair released for one TPPER gives its channels back or sets RSTREQ. -/
  | restartQualify (p : Fin 16)
  /-- R389: A write of 0x0000_5AF1 to SYS.SAFRST clears class 1 latches, and with EFAPPRST earth-fault latches, whose cause is gone. -/
  | safetyResetRequest (v : Word) (quiet : BitVec 16)
  /-- R393: FBn has not become 0 within TCLOSE of both legs conducting: a class 2 feedback fault. -/
  | closeDeadline (n : Fin 8)
  /-- R393: FBn has not become 1 within TOPEN of a leg stopping: a class 2 feedback fault. -/
  | openDeadline (n : Fin 8)
  /-- R394: Every 10 ms the island forms the weld window of each checked port over the last 160 samples. -/
  | weldWindow
  /-- R423: Every 40 samples the island forms IDC, IDCF, IAC and EXC and evaluates trips, warnings and monitoring loss. -/
  | residualEvaluation
  /-- R430: Each evaluation takes U, starting cycles after 100 ms at or above 50 V or stopping them after 20 evaluations below. -/
  | insulationEvaluation
  /-- R430: A bleeder step of TSTEP ends; the next step is commanded, or the cycle is computed or discarded. -/
  | insulationStepEnd
  /-- R430: TESTINT hours of normal cycles have passed, and a test cycle is run. -/
  | selfTestDue
  /-- R429: Slot 10 has not echoed ARG within 2 ms: an insulation monitor fault is latched. -/
  | bleederEchoTimeout
  /-- R448: A write to REQSET, or an ACT 1 alarm, sets REQ bits, subject to the pilot interlock. -/
  | reqsetWrite (x : Fin 2) (mask : BitVec 12)
  /-- R448: A write to REQCLR, or an ACT 2 alarm, clears REQ bits. -/
  | reqclrWrite (x : Fin 2) (mask : BitVec 12)
  /-- R448: A write to SWx.REQ sets and clears the request bits. -/
  | reqWrite (x : Fin 2) (mask : BitVec 12)
  /-- R450: 50 µs after the low leg turns on, the high-side terminal is checked and then the high leg turns on. -/
  | turnOnCheck (n : Fin 8) (hsHigh : Bool)
  /-- R452: A channel has regulated at the limit in force for 200 µs and trips. -/
  | regulationTrip (n : Fin 24)
  /-- R453: The blanking window ends and the limit in force falls to the regulated limit. -/
  | blankingEnd (n : Fin 24)
  /-- R454: A leg reaches the hard-short level, and every leg turns off within 2 µs. -/
  | hardShort (n : Fin 24)
  /-- R455: A switch junction reaches 175 °C, and the channel trips at once. -/
  | thermalTrip (n : Fin 24) (temp : BitVec 12)
  /-- R456: A pause and its stagger elapse: RETRY increments and conduction restarts, or the channel goes OFF. -/
  | retryInstant (n : Fin 24)
  /-- R459: Clean running reaches 10 s and RETRY clears. -/
  | cleanRunningComplete (n : Fin 24)
  /-- R460: A write of 1 to SWx.LATCH clears a latched channel, its RETRY and CLEAN, with event 0x0805. -/
  | latchClear (x : Fin 2) (mask : BitVec 12)
  /-- R463: A leg that conducts when commanded off, or unequal leg currents, puts a safety channel into LEGFLT. -/
  | legFault (n : Fin 8)
  /-- R464: Both legs short at once, and the channel enters LEGFLT without retry. -/
  | twoLegShort (n : Fin 8)
  /-- R462: Every 100 ms, with the legs off, the load between a safety channel's terminals is measured. -/
  | loadMeasurement (n : Fin 8) (r : BitVec 16) (quiet : Bool)
  /-- R469: A clamp event ends and its energy is recorded, with event 0x0809 beyond R467. -/
  | clampEvent (n : Fin 24) (hs : BitVec 24) (ls : BitVec 24) (ms : BitVec 16)
  /-- R470: The total VSW current has been above 44 A for 100 ms: channels are shed from SW23 down, one per 1 ms. -/
  | shedding (cur : BitVec 16)
  /-- R476: VSW leaves its range: no channel conducts, and event 0x0806 is logged. -/
  | vswOutOfRange (mv : BitVec 16)
  /-- R477: VSW has lain in range for 10 ms, and event 0x0807 is logged. -/
  | vswInRange (mv : BitVec 16)
  /-- R477: n × 1.25 ms after VSW returns, channel n restarts with a new blanking window. -/
  | vswRestart (n : Fin 24)
  /-- R487: 1.5 ms after angle 0, slot A opens and the master sends its POLL, GRANT, ADMIT or broadcast, or listens. -/
  | slotAStart (rxBits : BitVec 96)
  /-- R487: 1.5 ms after angle 0x8000, slot B opens and an addressed module sends its answer. -/
  | slotBStart (rxBits : BitVec 96)
  /-- R503: At the end of slot B, the master counts a missing answer and removes an address after 3. -/
  | slotBEnd
  /-- R502: A good POLL is received: it sets the CCN, and a module at that address answers JOIN or ends its admission. -/
  | pollReceived (f : LlynFrame)
  /-- R515: A good GRANT is held until its EFF cycle, and the member answers STATUS, BULKREQ or LEAVE. -/
  | grantReceived (f : LlynFrame)
  /-- R504: An ADMIT with its own EKEY admits the module; another EKEY sets DUP. -/
  | admitReceived (f : LlynFrame)
  /-- R512: A good BEACON sets the CCN, adopting a new one with event 0x090A when it differs by more than 1. -/
  | beaconReceived (f : LlynFrame)
  /-- R516: A TIME frame is extended and stored in CLU.TIMERX with event 0x090F. -/
  | timeReceived (f : LlynFrame)
  /-- R517: An ACTIVATE frame is stored in CLU.ACTRX, with event 0x0910 when it differs. -/
  | activateReceived (f : LlynFrame)
  /-- R513: A BULKGRANT assigns the following NCYC cycles to a transfer. -/
  | bulkgrantReceived (f : LlynFrame)
  /-- R509: A CLAIM heard while waiting or claiming stops the candidate. -/
  | claimReceived (f : LlynFrame)
  /-- R513: A BULK data frame of a granted slot is received into its frame position. -/
  | bulkReceived (f : LlynFrame) (slotB : Bool)
  /-- R503: The master takes a STATUS as the answer, admitting a joining address or recording demand and draw. -/
  | statusReceived (f : LlynFrame)
  /-- R504: The master records the JOIN of a vacant address as joining, or counts a conflicting one as unanswered. -/
  | joinReceived (f : LlynFrame)
  /-- R506: The master receives LEAVE from a member. -/
  | leaveReceived (f : LlynFrame)
  /-- R513: The master receives a BULKREQ and grants it within the rule of R501. -/
  | bulkreqReceived (f : LlynFrame)
  /-- R513: The bulk sender receives the MAP, completing or failing the transfer. -/
  | bulkackReceived (f : LlynFrame)
  /-- R495: A frame that is misplaced or fails SYNC, CRC, type or address checks is discarded and counted. -/
  | badFrame (cause : BitVec 2)
  /-- R508: 96 cycles pass without a good master frame: NOMASTER, event 0x0903, and a candidate starts waiting. -/
  | lossOfMaster
  /-- R509: A candidate's wait of PRIO × 32 + EKEY mod 32 cycles and the round boundary end, and it starts claiming. -/
  | electionWaitEnd
  /-- R509: A candidate completes 32 claim cycles unopposed and becomes master, with event 0x0906. -/
  | claimRoundEnd
  /-- R511: A master that has not transmitted for 96 cycles gives up the role. -/
  | masterSilence
  /-- R504: A write of CLU.CTL.EN starts or stops the link and clears DUP and admission. -/
  | linkEnable (en : Bool)
  /-- R506: CLU.CTL.LEAVE makes the module send LEAVE at its next GRANT and clear EN. -/
  | leaveRequest
  /-- R516: CLU.TIMECMD.SEND on a master sends TIME at its next admitted beacon cycle. -/
  | timeCommand
  /-- R517: A master commits CLU.ACTTX, so that ACTIVATE frames are sent while SEND is 1. -/
  | acttxCommit (v : Word)
  /-- R514: A BULKREQ not granted within 4 poll rounds is dropped, with event 0x090C. -/
  | bulkreqTimeout
  /-- R515: At the positive crossing of the EFF cycle, the GRANT takes effect and ALLOW changes. -/
  | grantApply
  /-- R535: At the first crossing after a change of row in Table 14-1, ALLOW, OUTCOME and REASON change. -/
  | allowanceUpdate
  /-- R566: A write of TEN.AUTHREQ copies the ID or token and starts an authorisation. -/
  | authRequest (v : Word)
  /-- R569: The candidate slots are decided, and AUTHRES, AUTHDIG and the token fields are written, with event 0x0B20 or 0x0B21. -/
  | authComplete
  /-- R563: TEN.CMD.ALCHECK starts a check of the selected slot's allow list. -/
  | allowListCheck
  /-- R563: The list check completes, setting ALOK with event 0x0B24, or failing with event 0x0B25. -/
  | allowListCheckDone
  /-- R594: TEN.CMD.WIPE queues zeros to every line of a disabled slot's partition and clears ALOK. -/
  | partitionWipe
  /-- R560: A write to a tenant slot block field is refused while the slot is enabled or in session, with event 0x0B23. -/
  | slotWrite (word : BitVec 6) (v : Word)
  /-- R574: The open session's period in force changes, and an interim reading is requested, with event 0x0B27. -/
  | tariffBoundary
  /-- R574: A boundary waiting for SESS_REQ.OP to read 0 writes its interim request then. -/
  | tariffRequestDeferred
  /-- R576: RDR.CTL.HFEN set tunes the antenna within 20 ms and enters WAIT, or FAULT. -/
  | hfEnable (tuned : Bool) (code : Byte)
  /-- R592: HFEN cleared turns the field off within 1 ms and ends any exchange with XRES 4. -/
  | hfDisable
  /-- R576: Every 60 s in WAIT the matching network is retuned. -/
  | antennaRetune (tuned : Bool) (code : Byte)
  /-- R577: Every 100 ms in WAIT the reader sends REQA at the waiting level. -/
  | reqaPoll (answer : Bool)
  /-- R578: A card found by REQA is woken, resolved, selected and optionally ISO-DEP activated, with event 0x0B01. -/
  | cardActivation (answered : Bool) (collision : Bool) (atqa : BitVec 16) (sak : Byte) (uid : List Byte) (ats : List Byte) (rate : BitVec 2)
  /-- R581: HFCMD OP = 1 sends an APDU from HFTXBUF. -/
  | cardExchange (txlen : BitVec 11)
  /-- R581: An exchange ends: the answer is in HFRXBUF, XRES is written and XDONE set. -/
  | exchangeDone (xres : BitVec 3) (answer : List Byte) (block : Byte)
  /-- R582: HFCMD OP = 2 deselects and halts the card and enters HALTWATCH. -/
  | cardRelease
  /-- R582: Every 500 ms in HALTWATCH, WUPA probes the card; two silent probes report it removed. -/
  | haltwatchProbe (answer : Bool)
  /-- R583: A card held ACTTO seconds without HFCMD is released, with event 0x0B05. -/
  | activeTimeout
  /-- R583: A card leaves the field while ACTIVE or ISODEP, and the reader returns to WAIT. -/
  | cardLeftField
  /-- R585: Every UHFPER ms a round of Select, Query and QueryRep reads tags on one channel. -/
  | inventoryRound (channel : Byte) (tags : List UhfTag) (crcErrors : Byte)
  /-- R585: Reflected power beyond a 3:1 mismatch stops the transmitter and enters FAULT. -/
  | uhfReflectionFault (power : BitVec 16)
  /-- R586: A write of 1 to RDR.UHFPOP releases the oldest tag record. -/
  | uhfPop
  /-- R609: A panel frame boundary: updates end, the stale pattern and queued requests are taken, and late layers are counted. -/
  | frameBoundary (legal : List (BitVec 21)) (bad : List (BitVec 22))
  /-- R608: A commit of EPD.LnREQ is checked against Table 16-5 and queued, or refused with event 0x0C01. -/
  | panelRequest (n : Fin 3) (v : Word)
  /-- R610: 5 ms after power-up the rails are checked good, and a frame boundary is made at once. -/
  | railsGood (bad : List (BitVec 23))
  /-- R598: A rail not good, or over its current limit for 1 ms, powers the rails down and ends updates unfinished. -/
  | railFault (rail : BitVec 3) (limit : Bool)
  /-- R597: RAILHOLD after the last update ends, and the rails power down. -/
  | railHoldExpiry
  /-- R599: Every 1 s the panel temperature is measured, updating the band in force and TFAULT. -/
  | panelTemperature (t : BitVec 12)
  /-- R624: After t0, once the row in progress ends, a neutral frame is driven and then the rails power down. -/
  | panelNeutralFrame
  /-- R629: AUD.CTL.EN set starts the output with a 5 ms ramp; cleared, it ramps to silence. -/
  | audioEnable (en : Bool)
  /-- R628: At each 16 kHz instant a frame is taken from the ring and output, or the output ramps to silence on underrun. -/
  | audioSample
  /-- R630: Overcurrent or overtemperature turns the output off within 10 µs, with event 0x0C41. -/
  | audioFault (current heat : Bool)
  /-- R630: 1 s after a fault the output restarts, unless held after three faults in 60 s. -/
  | audioRestart
  /-- R660: RINGr.CTL.EN = 1 enters RUN, or is refused with event 0x0D07. -/
  | ringEnable (r : Fin 256) (v : Word)
  /-- R659: CMD.KICK, or an ACT 6 alarm, makes the ring re-read its HEAD descriptor, or is remembered in RUN or WAIT. -/
  | ringKick (r : Fin 256)
  /-- R666: CMD.ABORT, or EN written 0, enters ABORTING; after the burst in progress the descriptor is written back with RESULT 2. -/
  | ringAbort (r : Fin 256)
  /-- R665: CMD.RESUME in HALTED moves HEAD on and enters RUN. -/
  | ringResume (r : Fin 256)
  /-- R665: CMD.RESET in OFF or HALTED sets HEAD to 0 and clears the error registers. -/
  | ringReset (r : Fin 256)
  /-- R657: At a burst boundary arbitration grants one ready ring a burst: a descriptor take, up to 256 bytes of data, or a write-back. -/
  | burst (upset : BitVec 160)
  /-- R650: A device receive element arrives and fills the descriptor, or is discarded and counted in DROP. -/
  | receiveElement (r : Fin 256) (data : List Byte) (w2 : Option Word) (aux : Option Word)
  /-- R652: A data write of a BAR = 0 descriptor fails after write-back, and the ring halts. -/
  | lateWriteFailure (r : Fin 256) (a : BitVec 40) (cause : BitVec 3)
  /-- R683: A character completes and is stored in the receive queue with its flags. -/
  | uartCharacterReceived (n : Fin 4) (data : BitVec 8) (fe : Bool) (pe : Bool) (brk : Bool)
  /-- R683: The line has been idle IDLEG character times: RXIDLE is set and a ring element ends. -/
  | uartIdleGap (n : Fin 4)
  /-- R686: A character written to TXDATA is queued, or discarded when the queue is full. -/
  | uartTxdataWrite (n : Fin 4) (v : Word)
  /-- R686: A transmitted character ends; the next one starts, or TXDONE is set. -/
  | uartCharacterSent (n : Fin 4) (readBack : BitVec 8)
  /-- R686: CMD.BRK sends a break of two character times once the queue is empty. -/
  | uartBreakCommand (n : Fin 4)
  /-- R683: CMD.RXFLUSH empties the receive queue. -/
  | uartRxFlush (n : Fin 4)
  /-- R686: CMD.TXFLUSH empties the transmit queue. -/
  | uartTxFlush (n : Fin 4)
  /-- R692: CMD.TXRESUME clears TXHOLD. -/
  | uartTxResume (n : Fin 4)
  /-- R683: A read of RXDATA returns and removes the oldest entry, or EMPTY. -/
  | uartRxdataRead (n : Fin 4)
  /-- R690: DEPOST bit times after the last stop bit, with nothing queued, the driver is disabled. -/
  | rs485DriverOff (n : Fin 4)
  /-- R692: Current limit for 1 ms, or thermal shutdown, disables the driver, flushes the queue and sets TXHOLD. -/
  | rs485DriverFault (n : Fin 4) (thermal : Bool)
  /-- R697: A write of TW.XFER with GO = 1 starts a controller transfer when the bus is free. -/
  | twXfer (n : Fin 2) (v : Word)
  /-- R696: The bus becomes free after tBUF, or after 100 µs high, and a waiting transfer starts. -/
  | twBusFree (n : Fin 2)
  /-- R697: A byte and its acknowledge complete in either role, moving queues, matching addresses or ending the transfer. -/
  | twByteComplete (n : Fin 2) (data : BitVec 8) (ack : Bool)
  /-- R699: SDA reads 0 while sending 1: arbitration is lost and the transfer is retried. -/
  | twArbitrationLost (n : Fin 2) (sampled : BitVec 8)
  /-- R701: A START by another controller begins address reception as target. -/
  | twStartDetected (n : Fin 2)
  /-- R701: A STOP or repeated START ends a target transfer and sets TGTEND. -/
  | twStopDetected (n : Fin 2) (stop : Bool)
  /-- R703: SCL has been low for TOUT ms: the block releases the bus and ends its part. -/
  | twTimeout (n : Fin 2)
  /-- R704: A START or STOP inside a byte is a bus error: the block ends its part. -/
  | twBusError (n : Fin 2)
  /-- R705: CMD.BUSCLEAR sends up to 9 SCL pulses and STOP to free SDA. -/
  | twBusClear (n : Fin 2) (pulses : BitVec 4) (freed : Bool)
  /-- R705: CMD.ABORT ends a controller transfer at the next bit with RESULT 7. -/
  | twAbort (n : Fin 2)
  /-- R719: TW.CTL.EN cleared releases both lines and ends a controller transfer without STOP. -/
  | twDisable (n : Fin 2)
  /-- R706: A read of TW.RXDATA returns and removes the oldest byte. -/
  | twRxdataRead (n : Fin 2)
  /-- R697: A byte written to TW.TXDATA is queued. -/
  | twTxdataWrite (n : Fin 2) (v : Word)
  /-- R709: A received frame is filtered, checked and given to the receive ring, or dropped. -/
  | ethFrameReceived (frame : List Byte) (fcsOk : Bool) (sfdUs : Word)
  /-- R710: A transmit frame is sent or discarded after 16 attempts, and its descriptor completes. -/
  | ethFrameSent (attempts : BitVec 5) (sent : Bool) (late : Bool) (sfdUs : Word)
  /-- R711: The Ethernet link comes up, with event 0x0E20. -/
  | ethLinkUp (speed100 : Bool) (full : Bool) (anDone : Bool) (mdix : Bool)
  /-- R711: The Ethernet link goes down, with event 0x0E21. -/
  | ethLinkDown
  /-- R708: A write of ETH.ADDR that changes it logs event 0x0E24. -/
  | ethAddrWrite (v : Word)
  /-- R720: ETH.CTL.TXEN cleared cuts the frame in progress, with DISC. -/
  | ethTxDisable
  /-- R732: UPD.CMD OPEN checks a manifest and, on success, erases the target bank and enters STAGING. -/
  | updOpen
  /-- R732: OPEN completes within 120 s with its RESULT and the KEEP parts copied. -/
  | openDone (err : Option Word)
  /-- R735: UPD.CMD WRITE stores bytes into a part at its offset, writing application tags. -/
  | updWrite
  /-- R735: A WRITE completes; a complete part is verified or failed by digest. -/
  | writeDone (err : Option Word)
  /-- R737: UPD.CMD PREPARE verifies the target bank and copies the settings. -/
  | updPrepare
  /-- R737: Preparation completes, committing COMPL and entering PREPARED, or fails with RESULT 12. -/
  | prepareDone (err : Option Word)
  /-- R740: UPD.CMD ACTIVATE begins activation at once, or arms ALM15 for ACTCYC. -/
  | updActivate
  /-- R741: After any end record, the mirror and the bank-select record are committed with the new ACTIVE, and a cold start follows. -/
  | bankFlip (z : ColdCheck)
  /-- R736: UPD.CMD ABORT ends staging, disarms ALM15 and returns the engine to IDLE. -/
  | updAbort
  /-- R754: UPD.CMD FWRITE programs one 4 KiB sector of the flash data window, unless settings writes are blocked. -/
  | updFwrite
  /-- R754: An FWRITE completes within 60 ms. -/
  | fwriteDone (err : Option Word)
  /-- R746: At TARGET - 256, the master compares ARMMAP with REQMAP and aborts when an address is not armed. -/
  | activationDecision
  /-- R746: At the TARGET cycle, the master clears ACTTX.SEND. -/
  | activationTargetCycle
  /-- R748: A write of 0x0000_3C5A to UPD.PENDCMD with START_OK confirms the bank and raises the floors. -/
  | pendingConfirm
  /-- R750: A write of 0x0000_A5E7 to UPD.PENDCMD while pending reverts to the previous bank. -/
  | pendingRevert (z : ColdCheck)
  /-- R748: Every 60 s of powered time SLEFT is reduced and committed. -/
  | confirmationWindowTick (z : ColdCheck)
  /-- R752: Recovery HELLO is answered with mode, Winter reason, UID, REV and banks. -/
  | recoveryHello (eth : Bool)
  /-- R752: Recovery MANBUF stores manifest bytes in the service buffer. -/
  | recoveryManbuf (eth : Bool) (ofs : Word) (data : List Byte)
  /-- R752: Recovery OPEN runs OPEN on the buffered manifest. -/
  | recoveryOpen (eth : Bool) (total : Word)
  /-- R752: Recovery DATA runs WRITE of a part. -/
  | recoveryData (eth : Bool) (part : Byte) (ofs : Word) (data : List Byte)
  /-- R752: Recovery PREPARE runs PREPARE. -/
  | recoveryPrepare (eth : Bool)
  /-- R752: Recovery ACTIVATE begins activation at once. -/
  | recoveryActivate (eth : Bool)
  /-- R752: Recovery ABORT runs ABORT. -/
  | recoveryAbort (eth : Bool)
  /-- R753: A retry request is verified, and in legal Winter with reason 1 or 5 it sets CONSEC to 2 and makes one application start. -/
  | recoveryRetry (eth : Bool) (request : BitVec 768)
  /-- R752: A recovery message failing its CRC or format is discarded without answer. -/
  | recoveryBadMessage (eth : Bool)
  /-- R765: PAT.CTL.GEN set starts the generator, or is refused with event 0x1011 when its condition is unmet. -/
  | patternGeneratorStart (page : Word) (v : Word)
  /-- R766: PAT.CTL.GEN cleared stops the generator, ending a head pattern with ARG 0. -/
  | patternGeneratorStop (page : Word)
  /-- R764: PAT.CTL.CHK set clears the counters and starts loading the checker. -/
  | patternCheckerStart (page : Word) (v : Word)
  /-- R763: PAT.INJ inverts the next generated bit once. -/
  | patternInject (page : Word)
  /-- R769: Service SHELLO answers with UID, REV, SEAL.STAT, SEAL.LEC and mode. -/
  | serviceShello
  /-- R769: Service RDREG reads words as the legal core. -/
  | serviceRdreg (a : Word) (count : BitVec 16)
  /-- R769: Service WRREG writes words as the legal domain under Table 3-3. -/
  | serviceWrreg (a : Word) (words : List Word)
  /-- R770: Service PTENTER enters Production test when permitted, holding the island and counting event 0x1001. -/
  | servicePtenter
  /-- R772: Service PTEXIT leaves Production test with event 0x1002 and a cold start. -/
  | servicePtexit (z : ColdCheck)
  /-- R773: In Production test, FLPROG erases, programs and reads back flash sectors. -/
  | serviceFlprog (ofs : Word) (data : List Byte) (ok : Bool)
  /-- R769: In Production test, FLREAD returns raw bytes of the flash die. -/
  | serviceFlread (ofs : Word) (len : Word)
  /-- R455: After a thermal trip, the switch junction cools below 160 °C, and a retry that waited past its pause may start conduction. -/
  | junctionCooled (n : Fin 24)
  /-- R478: The switch array of a page rises above 125 °C: STAT.HOT and IRQ HOT are set and event 0x080A is logged. -/
  | switchArrayHot (x : Fin 2) (temp : BitVec 12)
  /-- R688: The CTS input of U0 or U1 changes; with CTSEN, a transmitter held by CTS not ready starts its next character when CTS becomes ready. -/
  | ctsChange (n : Fin 4) (ready : Bool)
  /-- R707: The pause time requested by a received PAUSE frame runs out, STAT.PAUSED clears and transmission resumes. -/
  | pauseExpiry
  /-- R352: In vehicle role, the modem receives an EVSE's CM_ATTEN_CHAR.IND and collects its attenuation profile for the choice of EVSE. -/
  | attenuationProfileReceived (mac : BitVec 48) (att : BitVec 8)
  /-- R352: In vehicle role, the modem receives the match confirmation and joins the logical network that it names. -/
  | matchConfirmationReceived (mac : BitVec 48) (nid : BitVec 56)
  /-- R769: A message on the X22 service link that fails its CRC or format is discarded without answer. -/
  | serviceBadMessage
  /-- R451: Every 100 µs the current sense of each leg is sampled into CHn_SENSE, reading 0x3FFF in PAUSE, LATCHED or LEGFLT. -/
  | currentSenseSample (n : Fin 24) (hs : BitVec 16) (ls : BitVec 16)
  /-- R805: The 24 V supply is measured every 1 ms and the interior temperature every 1 s, into SYS.ENV and the extremes of SYS.ENVEXT. -/
  | environmentMeasurement (vsup : BitVec 16) (tint : Option (BitVec 12))
deriving DecidableEq, Repr

end Sys2Proof
end

