-- ==== Sys2Proof/Machine/Filters.lean ====
section
/-!
DEFINITION. Machine/Filters.lean: the fixed filters of the signal path: the four half-band stages (R190, R192), the fractional delay of the
current path and the 90° shift of the reactive path (R213). The spec binds them by properties and does not give their coefficients. Each is a
structure: any coefficients, with the properties of the spec, the frequency responses on a grid of frequencies. The default of each structure
is a design of its own, there only to show that such a filter exists; `Config` holds the filters of the die, which nothing can look into.

A number with q fraction bits is written as an integer in units of 2^-q.
-/

namespace Sys2Proof.Machine

/-- The product of two numbers with `q` fraction bits. -/
def fixMul (q : Nat) (a b : Int) : Int := (a * b) >>> q

/-- Σ cⱼ xⱼ over a sequence of cosines or sines of equally spaced angles, xⱼ₊₁ = m xⱼ - xⱼ₋₁ with m twice the cosine of the spacing, from `x` and the
member `y` before it. -/
def spacedSum (q : Nat) (m : Int) : List Int → Int → Int → Int
  | [], _, _ => 0
  | c :: cs, x, y => c * x + spacedSum q m cs (fixMul q m x - y) x

/-- The cosines and sines of `n` equally spaced angles: the first (c, s), the spacing (dc, ds). -/
def angles (q : Nat) (dc ds : Int) : Nat → Int → Int → List (Int × Int)
  | 0, _, _ => []
  | n + 1, c, s => (c, s) :: angles q dc ds n (fixMul q c dc - fixMul q s ds) (fixMul q s dc + fixMul q c ds)

/-! ### The half-band stages (R190 to R192) -/

/-- The cosine of twice an angle, with 96 fraction bits. -/
def octave (u : Int) : Int := fixMul 96 (2 * u) u - 79228162514264337593543950336

/-- The product of (1 + cos 2ⁱx) / 2 for i = 0 to n - 1 with p, and cos 2ⁿx. -/
def cicPart : Nat → Int → Int → Int × Int
  | 0, u, p => (p, u)
  | n + 1, u, p => cicPart n (octave u) (fixMul 97 p (u + 79228162514264337593543950336))

/-- The response of a half-band stage at the angle with cosine `u`: 0.5 and the cosines of its odd taps, whose coefficients have 31 fraction bits. -/
def stageGain (coef : List Int) (u : Int) : Int :=
  39614081257132168796771975168 + (spacedSum 96 (2 * octave u) coef u u) >>> 30

/-- The power gain of the chain against that at DC, at the frequency whose angle at 16.384 MHz has cosine `u`: five CIC sections (R188), |sin 128x /
128 sin x| being the product of cos 2ⁱx for i = 0 to 6, then the half-band stages, each at half the rate of the one before. -/
def chainPower (coef : List (List Int)) (u : Int) : Int :=
  let c := cicPart 7 u 79228162514264337593543950336
  let p2 := fixMul 96 c.1 c.1
  let p5 := fixMul 96 (fixMul 96 p2 p2) c.1
  (coef.foldl (fun (a : Int × Int) l => let g := stageGain l a.2; (fixMul 96 (fixMul 96 a.1 g) g, octave a.2)) (p5, c.2)).1

/-- 0, 200, 400 … 64 000 Hz at 16.384 MHz. -/
def chainGrid : List (Int × Int) :=
  angles 96 79228162281224892593350912155
    6076723951860174537262006 321 79228162514264337593543950336 0

/-- R192 at 200 `i` Hz, from the power gain: within ±0.05 dB up to 3 kHz; at least 100 dB down where the frequency aliases into that band. -/
def chainBound (i : Nat) (power : Int) : Bool :=
  let f := 200 * i
  if f ≤ 3000 then decide (988553 * 79228162514264337593543950336 ≤ power * 1000000) && decide (power * 1000000 ≤ 1011580 * 79228162514264337593543950336)
  else !(decide (f % 8000 ≤ 3000) || decide (5000 ≤ f % 8000)) || decide (power * 10000000000 ≤ 79228162514264337593543950336)

/-- R190 and R192: the coefficients of each stage, HBk_COEF from the one beside the centre outwards, sum to a quarter in units of 2⁻³¹, so that with the
centre tap of 0.5 and both sides the taps sum to 1; and the responses of R192. -/
def halfBandOk (coef : List (List Int)) : Bool :=
  coef.map List.length == [2, 3, 5, 15] && coef.all (fun l => l.sum == 536870912 && l.all fun c => decide (-2147483648 ≤ c ∧ c < 2147483648))
    && (chainGrid.zipIdx).all fun e => chainBound e.2 (chainPower coef e.1.1)

/-- The half-band stages. Above 64 kHz the stages repeat and the CIC attenuates more. -/
structure HalfBand where
  coef : List (List Int) := [
    [605081709, -68210797],
    [631854663, -109015403, 14031652],
    [656388071, -157251973, 47092930, -10628522, 1270406],
    [679454247, -215793817, 117471837, -72404640, 46128166, -29264701, 18106906, -10764582, 6068241, -3198240, 1548569, -672016, 251183, -74952, 14711]]
  ok : halfBandOk coef = true := by decide +kernel
deriving Inhabited

/-! ### shift90 (R213) -/

/-- The gain of the 90° shift at the angle with cosine and sine `a`, with 256 fraction bits: twice the sum of the taps, 30 fraction bits, times the sines. -/
def shiftGain (taps : List Int) (a : Int × Int) : Int := (2 * spacedSum 256 (2 * a.1) taps a.2 0) >>> 30

/-- 45, 70, 95 … 2 495 Hz at 8 kHz. -/
def shiftGrid : List (Int × Int) :=
  angles 256
    115769769210014107223003570315962677230093266749511858375578397602247218835842
    2273426269459094547873229140163174240557789147124513289648171589139150667132 99
    115719777553088519812392751331446982459334434669854863493188088947881333493740
    4091578302600042599699483624574563650503345145433729173304638219013791479607

/-- Terms of the series of cosine and sine: x is the angle, t the last term of either. -/
def sinCosSeries (x : Int) : Nat → Nat → Int → Int × Int
  | 0, _, _ => (0, 0)
  | n + 1, k, t =>
    let r := sinCosSeries x n (k + 1) (fixMul 256 t x / (k + 1))
    -- the terms alternate: t is a term of the cosine here, of the sine in the rest
    (t - r.2, r.1)

/-- Cosine and sine of the angle that a sample interval of 125 µs advances at the increment `inc` of the angle clock: 2π inc / 2³⁷. -/
def fundamental (inc : Nat) : Int × Int :=
  sinCosSeries ((727543153783532648560469885555459725306786754656784859917544302235877788932371 * inc) >>> 37) 48 0 (2 ^ 256)

/-- R213: antisymmetric taps, 127 on a side, with a gain within 1 ± 0.2 % from 45 Hz to 2.5 kHz, and a correction for the increment of the angle clock, 30
fraction bits, with which the gain at the fundamental lies within 1 ± 0.02 %, from 45 Hz to 65 Hz. Antisymmetry makes the phase exact. -/
def shiftOk (taps : List Int) (corr : Nat → Int) : Bool :=
  taps.length == 127
    && shiftGrid.all (fun a => let g := shiftGain taps a * 1000; decide (998 * 2 ^ 256 ≤ g ∧ g ≤ 1002 * 2 ^ 256))
    && (List.range 21).all fun i =>
      let inc := (45 + i) * 2 ^ 48 / 16384000
      let g := shiftGain taps (fundamental inc) * corr inc * 10000
      decide (9998 * 2 ^ 286 ≤ g ∧ g ≤ 10002 * 2 ^ 286)

/-- The 90° shift. -/
structure Shift90 where
  taps : List Int := [
    107024878553544070183905529404864012044187741765691456653103377, -211594080031694062758808882744222578595303493271835180889076487,
    311344923142054595895384153996688734074583420206745254116970696, -404095835392690432843091852221399044494104901522334859757902329,
    487925027031792203643480405722627248249606500603000177025331790, -561235796082214662897299502981341302839656074958522262942708391,
    622805410820134637780456415025327148153267871752084207773853190, -671815572392405362922584937300555818501459136402073508714533451,
    707863614533921236497049027427968844865296611479487554046483356, -730954762058306514351767236536606741512968571422159184132241782,
    741476859999670605784750450156669554589570598533236010118732858, -740159925774821520486519479254605407734509138470115000885154053,
    728023608054209416101136193458875269243769405916769482510095432, -706316118694080329111616001215960857251503052070206190690198266,
    676448420732069636269705713796898376919383099659389670641340884, -639927410816115868995370806468458334607045455915450456673425131,
    598291553291669836379441401542531644587026161490704341847561095, -553051946592545338826715686807604257638551329351693456412462966,
    505641183049126004044576893031185222738551896729979938980830064, -457371659134316346753733066356188957569627451760075739330557582,
    409404263309985322879971103482380339702649784060129031818963804, -362727667250045158639629545736536791836455459015699199498200363,
    318147818961585629939728883755781455865961084285821059544705648, -276286717513722568743816114515323119365786193694409705302141071,
    237589160259376813451060286463396964764984693273617634215570261, -202335903284132424875620261454308392996292278285498342641505404,
    170661561235641000539509784382914910412564374577733763045915796, -142575580753510864082872204714539553743881069512575251390023090,
    117984732241466854863269110491561245607695387504077744337854905, -96715753045069609649653779993309398514717378385960310775405269,
    78537014851573914517085850906067130906441775764160408478145336, -63178353680252415681099604223866661541925104548641663247979156,
    50348469244256963546111886625945051701118506910274315365557876, -39749552872453306587105395291434239873322062302589313592173584,
    31089025551252460638274907579112875788429813895379539174690667, -24088450983987943416690226247951715834793621916741186682976124,
    18489828620693278176551432693292722050740565222591845721304531, -14059568247064319770671939251504500987275890821367414714039690,
    10590504048016899458530557255075065731689238438007321489980478, -7902327475099663030997973540094437389822158824295496217642539,
    5840811483670801046857004096153500780908074467825654944136737, -4276170990840162979110750845795547237104215259435862937642280,
    3100862760225889575772669006546698385966490898249647514730996, -2227078650675744696166813654182558062011333897268800994564954,
    1584134539066772299709489022959197288376550674789365419979294, -1115907313432577013430141425623985480729419321013188210237393,
    778426996590016979689401889741410156841017443579082623483078, -537692054501753020436416420197735966159067400661015181141631,
    367744072269558493048503911536846436426210961243650741350127, -249013300854933360509714919149552855172237999130086613277023,
    166928607000276348412805569646428749760977828208444763653454, -110773270424124652950765136351509804356182719817729624522464,
    72760861990508339294136089688310955690446375444692913337800, -47302055434148216993105469442834243194391900590769290364936,
    30432676257133631150648625803428859561858616163180549083802, -19374691282654316315079774955161582326143603543938171877014,
    12204454441408139346773628770619985483562135095131240001290, -7605768695265446048729130574379564861769058176457530603524,
    4688770664105971536529437899024719543503619276558875817262, -2858996622668393494364677436760311069296414369125281834551,
    1724059678464713600542733329003320605543850061328469208906, -1028058144536083655221323603117995851401121065588723173335,
    606107875907733328020107184404606845681703414969886951856, -353253506883304095509441316741931968839819693797161841857,
    203498856147814781305597564255433991678018277275385056174, -115853217664782824675630436127232934596445238759698316080,
    65170868219700422263581286303468484426133565392473938418, -36217930614345710480343525741470504565968694300804965895,
    19881107038735072586445768335656607733956025467796367905, -10777620032458096028927956477870610823617623432517119601,
    5768799152490211129069960045728858298514095133344275864, -3048170095574059340925464291128341011633081322633734049,
    1589611857474723845405653793175718032394852023611457248, -817981859264056167934597798917902335567936858046702410,
    415235940770978630822896398506394598400327307175430676, -207892137094843662038947315592640773055820697353042930,
    102626877884957224269148059336906104414172691376609996, -49939793121235622573815333568438819104414236379170021,
    23948141389737072978323619867247355794006569777321722, -11313763616706524729283398379704165950012454724851611,
    5264011588351707178221003694447656731654313395370872, -2411339165981279802596013419836745137687949754191787,
    1087129638024738367029775691941194568940532148108108, -482200697802971590584371903300773981333124873696603,
    210344500580393425330045085292732609379309613160313, -90201868220939594219483939953776913121098696260709,
    38009776769651279184483934000042642727839689009044, -15731650567501731877419650384586850233808925919044,
    6392117875581331521579380132369149963378965208764, -2548512217502626445826075750488811644670826844978,
    996475587047900307303427148362079271505525094664, -381888497533060835576263267536074590598419881869,
    143361515385877554655444532531157725810198582537, -52683364781395200795116281943987605087089822676, 18939096360851320921721651284415395855037796626,
    -6655320908243946681099405548933779906237429123, 2284331426201898457532087074560131137843165278, -765175073325582459170435025748504439268911872,
    249906471830345258531175561798247876586217889, -79502670377896722909747212619328937168524763, 24609999566523014977576764633917336420736257,
    -7404008228273215826817744405776831329928251, 2162241305499053704801148899086171382525205, -612112662736993306435485183541627506679483,
    167726387942252791645905379037166170519744, -44412422070641583538742025693635463662705, 11343812151554745075539534994894367635838,
    -2789336917735747348062716780295516760996, 658825603130549942345209157485881472340, -149106285817179602582727131951015004156,
    32245895079621802691212362320247801608, -6642735012139252644059406136182471563, 1298875244528066601179476375318742076,
    -240084068196926648012477871571680797, 41752629529346086731701999083002530, -6794096897852570373779405015896935, 1027711806470429656812560297483081,
    -143384037540645974315001020073717, 18275542395094389279108578862621, -2102876279974007077486552120636, 215147497028321000044118181943,
    -19184261947793030734447836683, 1450397475442861198076437425, -89317509319530303413093109, 4203326220681009366212124, -134480778455099925195638,
    2195774774031418101283]
  corr : Nat → Int := fun inc => 2 ^ 286 / shiftGain taps (fundamental inc)
  ok : shiftOk taps corr = true := by decide +kernel
deriving Inhabited

/-! ### fracdelay (R213) -/

/-- 0, 200 … 3 000 Hz at 8 kHz, with 64 fraction bits. -/
def delayGrid : List (Int × Int) := angles 64 18219634043545378001 2885706540904802817 16 18446744073709551616 0

/-- The power gain of taps with 30 fraction bits at an angle. -/
def delayPower (taps : List Int) (a : Int × Int) : Int :=
  let re := (spacedSum 64 (2 * a.1) taps 18446744073709551616 a.1) >>> 30
  let im := (spacedSum 64 (2 * a.1) taps 0 (-a.2)) >>> 30
  fixMul 64 re re + fixMul 64 im im

/-- R213, for one delay in 1/65 536 sample: 17 taps; a gain within ±0.01 dB of unity up to 3 kHz; at DC a delay that differs from the one asked for by at
most half of the resolution. -/
def delayOk (d : Int) (taps : List Int) : Bool :=
  let moment := (taps.zipIdx).foldl (fun (a : Int) e => a + e.1 * e.2) 0
  taps.length == 17 && decide (2 * (moment * 65536 - d * taps.sum).natAbs ≤ taps.sum.natAbs)
    && delayGrid.all fun a => let p := delayPower taps a * 1000000; decide (997700 * 18446744073709551616 ≤ p ∧ p ≤ 1002306 * 18446744073709551616)

/-- A polynomial in x / 65 536, lowest coefficient first. -/
def polyAt (x : Int) : List Int → Int
  | [] => 0
  | c :: cs => c + (polyAt x cs * x) >>> 16

/-- The fractional delay: taps for each delay in 1/65 536 sample from 7 to 9 samples, with R213 at each eighth of a sample. -/
structure FracDelay where
  taps : Int → List Int := fun d => [
    [-8, 3218874, -314357, -5094656, 495818, 2242829, -215896, -367218, 34451],
    [38, -12529398, 1478255, 19770665, -2324371, -8642785, 1004911, 1402158, -158869],
    [-113, 31828785, -4707991, -49984057, 7368674, 21608689, -3151808, -3454955, 491348],
    [278, -68671200, 12676187, 107026520, -19691516, -45452340, 8275466, 7100055, -1260685],
    [-589, 132395285, -31553604, -203432520, 48335257, 83515223, -19645812, -12482975, 2865320],
    [1087, -242880930, 78846846, 361644560, -117066976, -137395345, 44046608, 18638495, -5828620],
    [-1719, 453044348, -223959267, -612218524, 301843913, 180587220, -88075544, -21420111, 10194290],
    [2286, -1029559881, 1026635114, 620367781, -615464903, -142882868, 140276106, 15208730, -14579917],
    [1073739307, 0, -1718202365, 0, 793008209, 0, -165028062, 0, 16485365],
    [2286, 1029559881, 1026635114, -620367781, -615464903, 142882868, 140276106, -15208730, -14579917],
    [-1719, -453044348, -223959267, 612218524, 301843913, -180587220, -88075544, 21420111, 10194290],
    [1087, 242880930, 78846846, -361644560, -117066976, 137395345, 44046608, -18638495, -5828620],
    [-589, -132395285, -31553604, 203432520, 48335257, -83515223, -19645812, 12482975, 2865320],
    [278, 68671200, 12676187, -107026520, -19691516, 45452340, 8275466, -7100055, -1260685],
    [-113, -31828785, -4707991, 49984057, 7368674, -21608689, -3151808, 3454955, 491348],
    [38, 12529398, 1478255, -19770665, -2324371, 8642785, 1004911, -1402158, -158869],
    [-8, -3218874, -314357, 5094656, 495818, -2242829, -215896, 367218, 34451]].map (polyAt (d - 524288))
  ok : ((List.range 17).all fun k => delayOk (458752 + 8192 * k) (taps (458752 + 8192 * k))) = true := by decide +kernel
deriving Inhabited

end Sys2Proof.Machine
end

