-- ==== Sys2Proof/Config.lean ====
section
/-!
DEFINITION. Config.lean: what one die or one implementation fixes and the spec does not state, and the free values.
Every constant here is opaque, without a body: no proof can see a value of it.
-/

namespace Sys2Proof.Config

/-- A fresh free value: the n-th value that the spec leaves open in a run (the counter is `State.fresh`). -/
opaque freeValue : Nat → Nat

/-- SYS.UID, written at manufacture (Table 3-5), as one 128-bit number. -/
opaque uid : BitVec 128

/-- The factory Ethernet address of the unit (ETH.MAC). -/
opaque ethMac : BitVec 48

/-- The modem MAC address of the unit (GPM.MAC). -/
opaque gpmMac : BitVec 48

/-- What the unit drew for its private signing key at manufacture (R323). -/
opaque signKey : BitVec 256

/-- The UTC of manufacture in ms, and the signature of the key certificate by the device-certification key of Fjomen Instruments,
r then s, first byte lowest (R324, Table 8-12). -/
opaque madeUtc : BitVec 64
opaque certSig : BitVec 512

/-- The device-unique key-derivation key of the controller die, first byte lowest (R128). -/
opaque deviceKey : BitVec 128

/-- The vendor legal key held in the boot ROM (R725): X then Y, first byte lowest. -/
opaque vendorKey : BitVec 512

/-- The half-band stages of the die (R190, R192): HBk_COEF has the properties of `HalfBand`, and no value that the spec gives. -/
opaque halfBand : Machine.HalfBand

/-- fracdelay of the die (R213). -/
opaque fracDelay : Machine.FracDelay

/-- shift90 of the die, with its gain correction (R213). -/
opaque shift90 : Machine.Shift90

/-- What fracdelay and shift90 take for entry `i` of their window (newest sample first) where no valid sample stands there: the spec does not
say. -/
opaque gapFill : List (Option Int) → Nat → Int

/-- Does a list of parity-check columns give an extended Hamming code over 135 bits with 9 check bits (R283): distinct columns of odd
weight, none of them the column of a check bit? Every such code in systematic form has columns of this form, and each of them corrects a
single wrong bit and detects two. -/
def lineCodeOk (cols : List (BitVec 9)) : Bool :=
  cols.length == 135 && cols.all (fun c => (List.range 9).foldl (fun p i => p != c.getLsbD i) false && (c &&& (c - 1)) != 0)
    && decide (cols.Nodup)

/-- The extended Hamming code of a line (R283): the column of each of the 128 data bits and of the 7 OWNER bits. R283 says that the code is
fixed in the die, not which of these codes it is. -/
structure LineCode where
  cols : List (BitVec 9) := ((List.range 512).map (BitVec.ofNat 9)).filter (fun c =>
    (List.range 9).foldl (fun p i => p != c.getLsbD i) false && (c &&& (c - 1)) != 0) |>.take 135
  ok : lineCodeOk cols = true := by decide +kernel
deriving Inhabited

/-- The code of the die. -/
opaque lineCode : LineCode

end Sys2Proof.Config
end

