-- ==== Sys2Proof/Machine/Crypto.lean ====
section
/-!
DEFINITION. Machine/Crypto.lean: the algorithms that the rules name: SHA-256 (FIPS 180-4), HMAC-SHA-256, AES-128 and its CMAC (R128, R129,
R283), and ECDSA over P-256 with the nonce of RFC 6979 (R323, R725, R753). Only keys are left open (Config). Byte strings are lists, first
byte first. The definitions are irreducible, so that no proof unfolds a digest by accident.
-/

namespace Sys2Proof.Machine

/-! ### Numbers as byte strings -/

/-- Byte `i` of a little-endian number. -/
def byteOf (n i : Nat) : Byte := BitVec.ofNat 8 (n / 2 ^ (8 * i))

/-- The `k` low bytes of a number, first byte lowest. -/
def toBytes (k n : Nat) : List Byte := (List.range k).map (byteOf n)

/-- A byte string as a number, first byte lowest. -/
def ofBytes : List Byte → Nat
  | [] => 0
  | b :: bs => b.toNat + 256 * ofBytes bs

/-- A byte string as a big-endian number. -/
def ofBytesBE (l : List Byte) : Nat := l.foldl (fun n b => 256 * n + b.toNat) 0

/-- The `k` bytes of a number, highest first. -/
def toBytesBE (k n : Nat) : List Byte := (List.range k).map fun i => BitVec.ofNat 8 (n / 2 ^ (8 * (k - 1 - i)))

/-! ### SHA-256 -/

/-- Rotate a word of 32 bits right. -/
def rotr32 (n x : Nat) : Nat := (x / 2 ^ n) ||| (x * 2 ^ (32 - n) % 2 ^ 32)

/-- The round constants. -/
def shaK : List Nat :=
  [0x428A2F98, 0x71374491, 0xB5C0FBCF, 0xE9B5DBA5, 0x3956C25B, 0x59F111F1, 0x923F82A4, 0xAB1C5ED5,
   0xD807AA98, 0x12835B01, 0x243185BE, 0x550C7DC3, 0x72BE5D74, 0x80DEB1FE, 0x9BDC06A7, 0xC19BF174]
  ++ [0xE49B69C1, 0xEFBE4786, 0xFC19DC6, 0x240CA1CC, 0x2DE92C6F, 0x4A7484AA, 0x5CB0A9DC, 0x76F988DA,
   0x983E5152, 0xA831C66D, 0xB00327C8, 0xBF597FC7, 0xC6E00BF3, 0xD5A79147, 0x6CA6351, 0x14292967]
  ++ [0x27B70A85, 0x2E1B2138, 0x4D2C6DFC, 0x53380D13, 0x650A7354, 0x766A0ABB, 0x81C2C92E, 0x92722C85,
   0xA2BFE8A1, 0xA81A664B, 0xC24B8B70, 0xC76C51A3, 0xD192E819, 0xD6990624, 0xF40E3585, 0x106AA070]
  ++ [0x19A4C116, 0x1E376C08, 0x2748774C, 0x34B0BCB5, 0x391C0CB3, 0x4ED8AA4A, 0x5B9CCA4F, 0x682E6FF3,
   0x748F82EE, 0x78A5636F, 0x84C87814, 0x8CC70208, 0x90BEFFFA, 0xA4506CEB, 0xBEF9A3F7, 0xC67178F2]

/-- The initial value. -/
def shaInit : List Nat := [0x6A09E667, 0xBB67AE85, 0x3C6EF372, 0xA54FF53A, 0x510E527F, 0x9B05688C, 0x1F83D9AB, 0x5BE0CD19]

/-- The next word of the message schedule; the words so far, newest first. -/
def shaNext (w : List Nat) : Nat :=
  let a := w.getD 1 0
  let b := w.getD 14 0
  ((rotr32 17 a ^^^ rotr32 19 a ^^^ (a / 2 ^ 10)) + w.getD 6 0 + (rotr32 7 b ^^^ rotr32 18 b ^^^ (b / 2 ^ 3)) + w.getD 15 0) % 2 ^ 32

/-- The message schedule extended by `n` words, newest first. -/
def shaSchedule : Nat → List Nat → List Nat
  | 0, w => w
  | n + 1, w => shaSchedule n (shaNext w :: w)

/-- One round: the eight working words, and a constant with its word of the schedule. -/
def shaRound (s : List Nat) (kw : Nat × Nat) : List Nat :=
  match s with
  | [a, b, c, d, e, f, g, h] =>
    let t1 := h + (rotr32 6 e ^^^ rotr32 11 e ^^^ rotr32 25 e) + ((e &&& f) ^^^ ((2 ^ 32 - 1 - e) &&& g)) + kw.1 + kw.2
    let t2 := (rotr32 2 a ^^^ rotr32 13 a ^^^ rotr32 22 a) + ((a &&& b) ^^^ (a &&& c) ^^^ (b &&& c))
    [(t1 + t2) % 2 ^ 32, a, b, c, (d + t1) % 2 ^ 32, e, f, g]
  | _ => s

/-- Compress one block of 64 bytes. -/
def shaBlock (h : List Nat) (m : List Byte) : List Nat :=
  let w := (List.range 16).map fun i => ofBytesBE ((m.drop (4 * i)).take 4)
  let sched := (shaSchedule 48 w.reverse).reverse
  List.zipWith (fun a b => (a + b) % 2 ^ 32) h ((List.zip shaK sched).foldl shaRound h)

/-- Compress `n` blocks. -/
def shaBlocks : Nat → List Nat → List Byte → List Nat
  | 0, h, _ => h
  | n + 1, h, m => shaBlocks n (shaBlock h (m.take 64)) (m.drop 64)

/-- SHA-256 as 32 bytes. -/
@[irreducible] def sha256Bytes (m : List Byte) : List Byte :=
  let n := m.length
  let padded := m ++ [0x80] ++ List.replicate ((119 - n % 64) % 64) 0 ++ toBytesBE 8 (8 * n)
  (shaBlocks (padded.length / 64) shaInit padded).flatMap (toBytesBE 4)

/-- SHA-256 as a number, the digest's first byte lowest. -/
def sha256 (m : List Byte) : Nat := ofBytes (sha256Bytes m)

/-- HMAC-SHA-256 with a key of at most 64 bytes. -/
def hmacSha256 (k m : List Byte) : List Byte :=
  let k0 := k ++ List.replicate (64 - k.length) 0
  sha256Bytes ((k0.map (· ^^^ 0x5C)) ++ sha256Bytes ((k0.map (· ^^^ 0x36)) ++ m))

/-! ### AES-128 and CMAC -/

/-- Multiplication by x in GF(2⁸) modulo x⁸ + x⁴ + x³ + x + 1. -/
def xtime (b : Byte) : Byte := (b <<< 1) ^^^ (if b.msb then 0x1B else 0)

/-- The substitution box, 16 values a row. -/
def aesBox : List (List Byte) :=
  [[0x63, 0x7C, 0x77, 0x7B, 0xF2, 0x6B, 0x6F, 0xC5, 0x30, 0x01, 0x67, 0x2B, 0xFE, 0xD7, 0xAB, 0x76],
   [0xCA, 0x82, 0xC9, 0x7D, 0xFA, 0x59, 0x47, 0xF0, 0xAD, 0xD4, 0xA2, 0xAF, 0x9C, 0xA4, 0x72, 0xC0],
   [0xB7, 0xFD, 0x93, 0x26, 0x36, 0x3F, 0xF7, 0xCC, 0x34, 0xA5, 0xE5, 0xF1, 0x71, 0xD8, 0x31, 0x15],
   [0x04, 0xC7, 0x23, 0xC3, 0x18, 0x96, 0x05, 0x9A, 0x07, 0x12, 0x80, 0xE2, 0xEB, 0x27, 0xB2, 0x75]]
  ++ [[0x09, 0x83, 0x2C, 0x1A, 0x1B, 0x6E, 0x5A, 0xA0, 0x52, 0x3B, 0xD6, 0xB3, 0x29, 0xE3, 0x2F, 0x84],
   [0x53, 0xD1, 0x00, 0xED, 0x20, 0xFC, 0xB1, 0x5B, 0x6A, 0xCB, 0xBE, 0x39, 0x4A, 0x4C, 0x58, 0xCF],
   [0xD0, 0xEF, 0xAA, 0xFB, 0x43, 0x4D, 0x33, 0x85, 0x45, 0xF9, 0x02, 0x7F, 0x50, 0x3C, 0x9F, 0xA8],
   [0x51, 0xA3, 0x40, 0x8F, 0x92, 0x9D, 0x38, 0xF5, 0xBC, 0xB6, 0xDA, 0x21, 0x10, 0xFF, 0xF3, 0xD2]]
  ++ [[0xCD, 0x0C, 0x13, 0xEC, 0x5F, 0x97, 0x44, 0x17, 0xC4, 0xA7, 0x7E, 0x3D, 0x64, 0x5D, 0x19, 0x73],
   [0x60, 0x81, 0x4F, 0xDC, 0x22, 0x2A, 0x90, 0x88, 0x46, 0xEE, 0xB8, 0x14, 0xDE, 0x5E, 0x0B, 0xDB],
   [0xE0, 0x32, 0x3A, 0x0A, 0x49, 0x06, 0x24, 0x5C, 0xC2, 0xD3, 0xAC, 0x62, 0x91, 0x95, 0xE4, 0x79],
   [0xE7, 0xC8, 0x37, 0x6D, 0x8D, 0xD5, 0x4E, 0xA9, 0x6C, 0x56, 0xF4, 0xEA, 0x65, 0x7A, 0xAE, 0x08]]
  ++ [[0xBA, 0x78, 0x25, 0x2E, 0x1C, 0xA6, 0xB4, 0xC6, 0xE8, 0xDD, 0x74, 0x1F, 0x4B, 0xBD, 0x8B, 0x8A],
   [0x70, 0x3E, 0xB5, 0x66, 0x48, 0x03, 0xF6, 0x0E, 0x61, 0x35, 0x57, 0xB9, 0x86, 0xC1, 0x1D, 0x9E],
   [0xE1, 0xF8, 0x98, 0x11, 0x69, 0xD9, 0x8E, 0x94, 0x9B, 0x1E, 0x87, 0xE9, 0xCE, 0x55, 0x28, 0xDF],
   [0x8C, 0xA1, 0x89, 0x0D, 0xBF, 0xE6, 0x42, 0x68, 0x41, 0x99, 0x2D, 0x0F, 0xB0, 0x54, 0xBB, 0x16]]

/-- SubBytes of one byte. -/
def aesSub (b : Byte) : Byte := (aesBox.getD (b.toNat / 16) []).getD (b.toNat % 16) 0

/-- Bytes of two strings added. -/
def xorBytes (a b : List Byte) : List Byte := List.zipWith (· ^^^ ·) a b

/-- The round key after `k`, with its round constant. -/
def aesNextKey (rcon : Byte) (k : List Byte) : List Byte :=
  let w (i : Nat) : List Byte := (k.drop (4 * i)).take 4
  let t := match (w 3).map aesSub with
    | [a, b, c, d] => [b ^^^ rcon, c, d, a]
    | l => l
  let w0 := xorBytes (w 0) t
  let w1 := xorBytes (w 1) w0
  let w2 := xorBytes (w 2) w1
  w0 ++ w1 ++ w2 ++ xorBytes (w 3) w2

/-- SubBytes and ShiftRows: byte r + 4 c comes from column c + r. -/
def aesShift (s : List Byte) : List Byte := (List.range 16).map fun i => aesSub (s.getD ((i + 4 * (i % 4)) % 16) 0)

/-- MixColumns. -/
def aesMix (s : List Byte) : List Byte :=
  (List.range 16).map fun i =>
    let at_ (k : Nat) : Byte := s.getD (i / 4 * 4 + (i + k) % 4) 0
    xtime (at_ 0) ^^^ (xtime (at_ 1) ^^^ at_ 1) ^^^ at_ 2 ^^^ at_ 3

/-- The rounds 1 to 10; `n` rounds are left after the present one. -/
def aesRounds (rcon : Byte) (k : List Byte) : Nat → List Byte → List Byte
  | 0, s => xorBytes (aesShift s) (aesNextKey rcon k)
  | n + 1, s => let k1 := aesNextKey rcon k
                aesRounds (xtime rcon) k1 n (xorBytes (aesMix (aesShift s)) k1)

/-- AES-128 of one block of 16 bytes. -/
@[irreducible] def aes128 (k m : List Byte) : List Byte := aesRounds 1 k 9 (xorBytes m k)

/-- Doubling in GF(2¹²⁸) for the subkeys of CMAC. -/
def cmacDouble (l : List Byte) : List Byte :=
  let n := ofBytesBE l
  toBytesBE 16 ((2 * n % 2 ^ 128) ^^^ (if n < 2 ^ 127 then 0 else 0x87))

/-- The chain of CMAC over the blocks before the last, `n` of them; then the last block with its subkey. -/
def cmacChain (k : List Byte) : Nat → List Byte → List Byte → List Byte
  | 0, x, m =>
    let k1 := cmacDouble (aes128 k (List.replicate 16 0))
    let last := if m.length = 16 then xorBytes m k1 else xorBytes (m ++ [0x80] ++ List.replicate (15 - m.length) 0) (cmacDouble k1)
    aes128 k (xorBytes x last)
  | n + 1, x, m => cmacChain k n (aes128 k (xorBytes x (m.take 16))) (m.drop 16)

/-- AES-128-CMAC (NIST SP 800-38B), 16 bytes. -/
def cmac (k m : List Byte) : List Byte := cmacChain k ((m.length - 1) / 16) (List.replicate 16 0) m

/-! ### P-256 -/

/-- The field prime, the order of the base point, the constant b and the base point of P-256. -/
def p256P : Nat := 0xFFFFFFFF00000001000000000000000000000000FFFFFFFFFFFFFFFFFFFFFFFF
def p256N : Nat := 0xFFFFFFFF00000000FFFFFFFFFFFFFFFFBCE6FAADA7179E84F3B9CAC2FC632551
def p256B : Nat := 0x5AC635D8AA3A93E7B3EBBD55769886BC651D06B0CC53B0F63BCE3C3E27D2604B
def p256G : Nat × Nat := (0x6B17D1F2E12C4247F8BCE6E563A440F277037D812DEB33A0F4A13945D898C296,
  0x4FE342E2FE1A7F9B8EE7EB4A7C0F9E162BCE33576B315ECECBB6406837BF51F5)

/-- `a ^ e` modulo `m`, the exponent in `n` bits. -/
def powMod (m : Nat) : Nat → Nat → Nat → Nat
  | 0, _, _ => 1
  | n + 1, a, e => (if e % 2 = 1 then a else 1) * powMod m n (a * a % m) (e / 2) % m

/-- The inverse modulo a prime of 256 bits. -/
def invMod (m a : Nat) : Nat := powMod m 256 (a % m) (m - 2)

/-- A point: none is the point at infinity. -/
abbrev Point := Option (Nat × Nat)

/-- The third point of a line of slope `l` through the first two, reflected. -/
def slopePoint (l x1 y1 x2 : Nat) : Point :=
  let p := p256P
  let x := (l * l + 2 * p - x1 - x2) % p
  some (x, (l * (x1 + p - x) + p - y1) % p)

/-- The sum of two points. -/
def addPoint : Point → Point → Point
  | none, q => q
  | q, none => q
  | some (x1, y1), some (x2, y2) =>
    let p := p256P
    if x1 = x2 then
      if (y1 + y2) % p = 0 then none
      else slopePoint ((3 * x1 * x1 + p - 3) * invMod p (2 * y1) % p) x1 y1 x1
    else slopePoint ((y2 + p - y1) * invMod p (x2 + p - x1) % p) x1 y1 x2

/-- `k` times a point, `k` in `n` bits. -/
def mulPoint : Nat → Nat → Point → Point
  | 0, _, _ => none
  | n + 1, k, q => addPoint (if k % 2 = 1 then q else none) (mulPoint n (k / 2) (addPoint q q))

/-- Is it a point of the curve? -/
def onCurve (x y : Nat) : Bool :=
  decide (x < p256P ∧ y < p256P) && y * y % p256P == (x * x * x + p256P * 3 - 3 * x + p256B) % p256P

/-! ### ECDSA -/

/-- ECDSA P-256 with SHA-256: does the signature, r then s in 64 bytes, verify under the key, X then Y in 64 bytes? -/
@[irreducible] def ecdsaVerify (key msg sig : List Byte) : Bool :=
  let r := ofBytesBE (sig.take 32)
  let s := ofBytesBE ((sig.drop 32).take 32)
  if r = 0 ∨ p256N ≤ r ∨ s = 0 ∨ p256N ≤ s then false
  else
    let x := ofBytesBE (key.take 32)
    let y := ofBytesBE ((key.drop 32).take 32)
    let w := invMod p256N s
    let e := ofBytesBE (sha256Bytes msg)
    onCurve x y && (match addPoint (mulPoint 256 (e * w % p256N) (some p256G)) (mulPoint 256 (r * w % p256N) (some (x, y))) with
      | some (px, _) => px % p256N == r
      | none => false)

/-- The nonces of RFC 6979 from a state K, V on: the first of at most `n` that gives a signature. -/
def signFrom (d e : Nat) : Nat → List Byte → List Byte → Nat × Nat
  | 0, _, _ => (0, 0)
  | n + 1, k, v =>
    let v1 := hmacSha256 k v
    let t := ofBytesBE v1
    let r := match mulPoint 256 t (some p256G) with
      | some (x, _) => x % p256N
      | none => 0
    let s := invMod p256N t * ((e + r * d) % p256N) % p256N
    if 0 < t ∧ t < p256N ∧ r ≠ 0 ∧ s ≠ 0 then (r, s)
    else
      let k1 := hmacSha256 k (v1 ++ [0x00])
      signFrom d e n k1 (hmacSha256 k1 v1)

/-- The ECDSA P-256 signature with SHA-256 and the deterministic nonce of RFC 6979 under the private key `d`: r then s, 64 bytes. -/
@[irreducible] def ecdsaSign (d : Nat) (msg : List Byte) : List Byte :=
  let h := sha256Bytes msg
  let e := ofBytesBE h
  let seed := toBytesBE 32 d ++ toBytesBE 32 (e % p256N)
  let v0 := List.replicate 32 (1 : Byte)
  let k1 := hmacSha256 (List.replicate 32 0) (v0 ++ [0x00] ++ seed)
  let v1 := hmacSha256 k1 v0
  let k2 := hmacSha256 k1 (v1 ++ [0x01] ++ seed)
  let q := signFrom d e 64 k2 (hmacSha256 k2 v1)
  toBytesBE 32 q.1 ++ toBytesBE 32 q.2

/-- The public key of a private key: X then Y, 64 bytes. -/
@[irreducible] def ecdsaPublic (d : Nat) : List Byte :=
  match mulPoint 256 d (some p256G) with
  | some (x, y) => toBytesBE 32 x ++ toBytesBE 32 y
  | none => List.replicate 64 0

/-! ### The keys of the die -/

/-- The private part of the signing key, 1 to n - 1 (R323), and the public key of SIG.PUBKEY. -/
def signingKey : Nat := Config.signKey.toNat % (p256N - 1) + 1
def signingPublic : List Byte := ecdsaPublic signingKey

/-- The key-derivation key of the die as a byte string (R128). -/
def deviceKey : List Byte := toBytes 16 Config.deviceKey.toNat

/-- The tag key K of an application image (R128): its bank, digest and compatibility generation. -/
def tagKey (b digest gen : Nat) : List Byte :=
  cmac deviceKey ([0x53, 0x56, 0x58, 0x54, 0x41, 0x47, 0x30, 0x31] ++ [BitVec.ofNat 8 b] ++ toBytes 32 digest ++ toBytes 4 gen)

/-- The tag under K of the line of 16 bytes at application-area offset `a` (R129), its first byte lowest. -/
def lineTag (k : List Byte) (a : Nat) (l : List Byte) : Nat := ofBytes ((cmac k (l ++ toBytes 4 a)).take 4)

/-- The ledger key (R283). -/
def ledgerKey : List Byte := cmac deviceKey [0x53, 0x56, 0x58, 0x4C, 0x44, 0x47, 0x30, 0x31]

/-- MAC of a ledger line (R283): the leftmost 16 bits of the CMAC over data, line index and OWNER, its first byte lowest. -/
def lineMac (data : Line) (i : Nat) (owner : BitVec 7) : Nat :=
  ofBytes ((cmac ledgerKey (toBytes 16 data.toNat ++ toBytes 4 i ++ toBytes 1 owner.toNat)).take 2)

/-- The key certificate, 160 bytes (Table 8-12): bytes 0 to 95 as they are signed, then r and s. -/
def keyCert : List Byte :=
  [0x53, 0x56, 0x58, 0x4B, 1, 0, 0, 0] ++ toBytes 16 Config.uid.toNat ++ signingPublic ++ toBytes 8 Config.madeUtc.toNat
    ++ toBytes 64 Config.certSig.toNat

end Sys2Proof.Machine
end

