-- ==== Sys2Proof/Machine/Regs.lean ====
section
/-!
DEFINITION. Machine/Regs.lean: the register map of the spec as data. `Field` names one field of one register by the
address of its word, its lowest bit and its width; the constants of the namespace `F` are the fields of the register
tables of chapters 2 to 21 (Tables 2-5 to 21-x and the bit tables beside them), named PAGE_REGISTER_FIELD. A field of
an indexed register carries the strides of its one or two indexes.
-/

namespace Sys2Proof.Machine

/-- One field of one register: word address, lowest bit, width, and the address strides of its indexes (0 where it has none). -/
structure Field where
  addr : Nat
  lo : Nat
  width : Nat
  stride : Nat
  stride2 : Nat
deriving DecidableEq, Repr

/-- The field of instance `n` of an indexed register. -/
def Field.i (f : Field) (n : Nat) : Field := { f with addr := f.addr + n * f.stride }

/-- The field of instance `n`, `m` of a doubly indexed register. -/
def Field.ij (f : Field) (n m : Nat) : Field := { f with addr := f.addr + n * f.stride + m * f.stride2 }

/-- The field of a common or pattern register (given by its offset) on the page at `base`. -/
def Field.on (f : Field) (base : Nat) : Field := { f with addr := base + f.addr }

namespace F

/-! ### The common page layout (R85, Table 3-2); offsets, to be used with `Field.on` -/
def IRQ_RAW : Field := ⟨0x010, 0, 32, 0x0, 0x0⟩
def IRQ_EN : Field := ⟨0x014, 0, 32, 0x0, 0x0⟩
def FAULT_CODE : Field := ⟨0x01C, 0, 16, 0x0, 0x0⟩
def FAULT_COUNT : Field := ⟨0x01C, 16, 8, 0x0, 0x0⟩
def OWNER_DOMAIN : Field := ⟨0x020, 0, 2, 0x0, 0x0⟩
def OWNER_XFER : Field := ⟨0x020, 2, 1, 0x0, 0x0⟩
def OWNER_XCOUNT : Field := ⟨0x020, 8, 8, 0x0, 0x0⟩
def LOCKSTAT_DENIED : Field := ⟨0x024, 1, 1, 0x0, 0x0⟩
def LOCKSTAT_DDOM : Field := ⟨0x024, 2, 2, 0x0, 0x0⟩
def LOCKSTAT_DCOUNT : Field := ⟨0x024, 8, 8, 0x0, 0x0⟩
def LOCKSTAT_DWORD : Field := ⟨0x024, 16, 10, 0x0, 0x0⟩

/-! ### ANG -/
def ANG_CTL_EN : Field := ⟨0x40001008, 0, 1, 0x0, 0x0⟩
def ANG_CTL_SRC : Field := ⟨0x40001008, 1, 1, 0x0, 0x0⟩
def ANG_CTL_NOM : Field := ⟨0x40001008, 2, 1, 0x0, 0x0⟩
def ANG_STAT_STATE : Field := ⟨0x4000100C, 0, 2, 0x0, 0x0⟩
def ANG_STAT_PRESENT : Field := ⟨0x4000100C, 2, 1, 0x0, 0x0⟩
def ANG_STAT_INRANGE : Field := ⟨0x4000100C, 3, 1, 0x0, 0x0⟩
def ANG_STAT_REFOK : Field := ⟨0x4000100C, 4, 1, 0x0, 0x0⟩
def ANG_ANGLE : Field := ⟨0x40001040, 0, 32, 0x0, 0x0⟩
def ANG_FREQ : Field := ⟨0x40001044, 0, 32, 0x0, 0x0⟩
def ANG_INC : Field := ⟨0x40001048, 0, 32, 0x0, 0x0⟩
def ANG_PHERR_ERR : Field := ⟨0x4000104C, 0, 16, 0x0, 0x0⟩
def ANG_STAMP : Field := ⟨0x40001050, 0, 128, 0x0, 0x0⟩
def ANG_CYCLES : Field := ⟨0x40001060, 0, 64, 0x0, 0x0⟩
def ANG_LOSS_N : Field := ⟨0x40001068, 0, 16, 0x0, 0x0⟩
def ANG_ALMEV_BITS : Field := ⟨0x40001070, 0, 16, 0x0, 0x0⟩
def ANG_ALM_ARM : Field := ⟨0x40001400, 0, 1, 0x10, 0x0⟩
def ANG_ALM_PER : Field := ⟨0x40001400, 1, 1, 0x10, 0x0⟩
def ANG_ALM_LATEPOL : Field := ⟨0x40001400, 2, 1, 0x10, 0x0⟩
def ANG_ALM_WAKE : Field := ⟨0x40001400, 3, 1, 0x10, 0x0⟩
def ANG_ALM_LOCKREQ : Field := ⟨0x40001400, 4, 1, 0x10, 0x0⟩
def ANG_ALM_ACT : Field := ⟨0x40001400, 8, 4, 0x10, 0x0⟩
def ANG_ALM_ARG : Field := ⟨0x40001400, 16, 8, 0x10, 0x0⟩
def ANG_ALM_FIRED : Field := ⟨0x40001400, 24, 1, 0x10, 0x0⟩
def ANG_ALM_LATE : Field := ⟨0x40001400, 25, 1, 0x10, 0x0⟩
def ANG_ALM_SKIP : Field := ⟨0x40001400, 26, 1, 0x10, 0x0⟩
def ANG_ALM_ANGLE : Field := ⟨0x40001404, 0, 16, 0x10, 0x0⟩
def ANG_ALM_PERIOD : Field := ⟨0x40001404, 16, 16, 0x10, 0x0⟩
def ANG_ALM_TARGET : Field := ⟨0x40001408, 0, 64, 0x10, 0x0⟩
/-! ### TMR -/
def TMR_US : Field := ⟨0x40002040, 0, 64, 0x0, 0x0⟩
def TMR_T_CTL_EN : Field := ⟨0x40002080, 0, 1, 0x10, 0x0⟩
def TMR_T_CTL_PER : Field := ⟨0x40002080, 1, 1, 0x10, 0x0⟩
def TMR_T_CTL_TRIG : Field := ⟨0x40002080, 2, 1, 0x10, 0x0⟩
def TMR_T_CTL_TICK : Field := ⟨0x40002080, 3, 2, 0x10, 0x0⟩
def TMR_T_LOAD : Field := ⟨0x40002084, 0, 32, 0x10, 0x0⟩
def TMR_T_COUNT : Field := ⟨0x40002088, 0, 32, 0x10, 0x0⟩
def TMR_WDG_CTL_EN : Field := ⟨0x40002100, 0, 1, 0x0, 0x0⟩
def TMR_WDG_CTL_WIN : Field := ⟨0x40002100, 1, 1, 0x0, 0x0⟩
def TMR_WDG_CTL_TIMEOUT : Field := ⟨0x40002100, 16, 16, 0x0, 0x0⟩
def TMR_WDG_KICK : Field := ⟨0x40002104, 0, 32, 0x0, 0x0⟩
def TMR_WDG_LEFT_MS : Field := ⟨0x40002108, 0, 16, 0x0, 0x0⟩
def TMR_UTCREQ_SRC : Field := ⟨0x40002110, 0, 8, 0x0, 0x0⟩
def TMR_UTCREQ_SEQ : Field := ⟨0x40002110, 8, 8, 0x0, 0x0⟩
def TMR_UTCREQ_UTC : Field := ⟨0x40002118, 0, 64, 0x0, 0x0⟩
def TMR_ALMEV_L : Field := ⟨0x40002120, 0, 32, 0x0, 0x0⟩
def TMR_ALMEV_H_BITS : Field := ⟨0x40002124, 0, 16, 0x0, 0x0⟩
def TMR_ALM_ARM : Field := ⟨0x40002400, 0, 1, 0x10, 0x0⟩
def TMR_ALM_PER : Field := ⟨0x40002400, 1, 1, 0x10, 0x0⟩
def TMR_ALM_LATEPOL : Field := ⟨0x40002400, 2, 1, 0x10, 0x0⟩
def TMR_ALM_WAKE : Field := ⟨0x40002400, 3, 1, 0x10, 0x0⟩
def TMR_ALM_LOCKREQ : Field := ⟨0x40002400, 4, 1, 0x10, 0x0⟩
def TMR_ALM_ACT : Field := ⟨0x40002400, 8, 4, 0x10, 0x0⟩
def TMR_ALM_ARG : Field := ⟨0x40002400, 16, 8, 0x10, 0x0⟩
def TMR_ALM_FIRED : Field := ⟨0x40002400, 24, 1, 0x10, 0x0⟩
def TMR_ALM_LATE : Field := ⟨0x40002400, 25, 1, 0x10, 0x0⟩
def TMR_ALM_SKIP : Field := ⟨0x40002400, 26, 1, 0x10, 0x0⟩
def TMR_ALM_ANGLE : Field := ⟨0x40002404, 0, 16, 0x10, 0x0⟩
def TMR_ALM_PERIOD : Field := ⟨0x40002404, 16, 16, 0x10, 0x0⟩
def TMR_ALM_TARGET : Field := ⟨0x40002408, 0, 64, 0x10, 0x0⟩
/-! ### RTC -/
def RTC_STAT_VALID : Field := ⟨0x4000300C, 0, 1, 0x0, 0x0⟩
def RTC_STAT_HELD : Field := ⟨0x4000300C, 1, 1, 0x0, 0x0⟩
def RTC_STAT_SLEWING : Field := ⟨0x4000300C, 2, 1, 0x0, 0x0⟩
def RTC_UTC : Field := ⟨0x40003040, 0, 64, 0x0, 0x0⟩
def RTC_SLEWLEFT : Field := ⟨0x40003048, 0, 32, 0x0, 0x0⟩
def RTC_LASTSTEP_OLD : Field := ⟨0x40003050, 0, 64, 0x0, 0x0⟩
def RTC_LASTSTEP_NEW : Field := ⟨0x40003058, 0, 64, 0x0, 0x0⟩
def RTC_SETSTAT_RESULT : Field := ⟨0x40003060, 0, 3, 0x0, 0x0⟩
def RTC_SETSTAT_SEQ : Field := ⟨0x40003060, 8, 8, 0x0, 0x0⟩
def RTC_SUPV_MV : Field := ⟨0x40003064, 0, 16, 0x0, 0x0⟩
/-! ### SYS -/
def SYS_UID : Field := ⟨0x40000040, 0, 128, 0x0, 0x0⟩
def SYS_IRQLVL : Field := ⟨0x40000050, 0, 64, 0x0, 0x0⟩
def SYS_NOTE_EN_LO : Field := ⟨0x40000058, 1, 1, 0x0, 0x0⟩
def SYS_NOTE_EN_MID : Field := ⟨0x40000058, 3, 17, 0x0, 0x0⟩
def SYS_MODE_MODE : Field := ⟨0x40000060, 0, 3, 0x0, 0x0⟩
def SYS_MODE_VERIF : Field := ⟨0x40000060, 3, 1, 0x0, 0x0⟩
def SYS_MODE_REQRES : Field := ⟨0x40000060, 8, 2, 0x0, 0x0⟩
def SYS_MODE_REQ_REQ : Field := ⟨0x40000064, 0, 2, 0x0, 0x0⟩
def SYS_START_CONF : Field := ⟨0x40000068, 0, 32, 0x0, 0x0⟩
def SYS_WAKE_PILOT : Field := ⟨0x4000006C, 0, 1, 0x0, 0x0⟩
def SYS_WAKE_SAFETY : Field := ⟨0x4000006C, 1, 1, 0x0, 0x0⟩
def SYS_WAKE_ALARM : Field := ⟨0x4000006C, 2, 1, 0x0, 0x0⟩
def SYS_WAKE_ALMNUM : Field := ⟨0x4000006C, 8, 6, 0x0, 0x0⟩
def SYS_SESS_AUTH : Field := ⟨0x40000100, 0, 256, 0x0, 0x0⟩
def SYS_SESS_REQ_OP : Field := ⟨0x40000120, 0, 2, 0x0, 0x0⟩
def SYS_SESS_REQ_TENANT : Field := ⟨0x40000120, 4, 4, 0x0, 0x0⟩
def SYS_SESS_REQ_APPREASON : Field := ⟨0x40000120, 8, 8, 0x0, 0x0⟩
def SYS_SESS_REQ_SEQ : Field := ⟨0x40000120, 16, 8, 0x0, 0x0⟩
def SYS_LQ_IDX_LINE : Field := ⟨0x40000130, 0, 18, 0x0, 0x0⟩
def SYS_LQ_MASK_MASK : Field := ⟨0x40000134, 0, 16, 0x0, 0x0⟩
def SYS_LQ_ST_RESULT : Field := ⟨0x40000138, 0, 2, 0x0, 0x0⟩
def SYS_LQ_ST_FULL : Field := ⟨0x40000138, 2, 1, 0x0, 0x0⟩
def SYS_LQ_ST_QUEUED : Field := ⟨0x40000138, 8, 5, 0x0, 0x0⟩
def SYS_LQ_ST_DONE : Field := ⟨0x40000138, 16, 16, 0x0, 0x0⟩
def SYS_LQ_DATA : Field := ⟨0x40000140, 0, 128, 0x0, 0x0⟩
def SYS_LQ_RIDX_LINE : Field := ⟨0x40000150, 0, 18, 0x0, 0x0⟩
def SYS_LQ_RST_DONE : Field := ⟨0x40000154, 0, 1, 0x0, 0x0⟩
def SYS_LQ_RST_TAGFAIL : Field := ⟨0x40000154, 1, 1, 0x0, 0x0⟩
def SYS_LQ_RST_CORR : Field := ⟨0x40000154, 2, 1, 0x0, 0x0⟩
def SYS_LQ_RST_POISON : Field := ⟨0x40000154, 3, 1, 0x0, 0x0⟩
def SYS_LQ_RDATA : Field := ⟨0x40000160, 0, 128, 0x0, 0x0⟩
def SYS_SRAMERR_CORRS : Field := ⟨0x40000170, 0, 16, 0x0, 0x0⟩
def SYS_SRAMERR_POISONS : Field := ⟨0x40000170, 16, 16, 0x0, 0x0⟩
def SYS_SRAMBAD : Field := ⟨0x40000174, 0, 32, 0x0, 0x0⟩
def SYS_SRAMCLR : Field := ⟨0x40000178, 0, 32, 0x0, 0x0⟩
def SYS_SAFRST : Field := ⟨0x40000080, 0, 32, 0x0, 0x0⟩
def SYS_ENV_VSUP : Field := ⟨0x400000A0, 0, 16, 0x0, 0x0⟩
def SYS_ENV_TINT : Field := ⟨0x400000A0, 16, 12, 0x0, 0x0⟩
def SYS_HOLDUP_PRED : Field := ⟨0x400000A4, 0, 16, 0x0, 0x0⟩
def SYS_HOLDUP_HUREADY : Field := ⟨0x400000A4, 16, 1, 0x0, 0x0⟩
def SYS_ENVEXT_VMIN : Field := ⟨0x400000A8, 0, 16, 0x0, 0x0⟩
def SYS_ENVEXT_TMAX : Field := ⟨0x400000A8, 16, 12, 0x0, 0x0⟩
/-! ### SEAL -/
def SEAL_STAT_STATE : Field := ⟨0x4000400C, 0, 2, 0x0, 0x0⟩
def SEAL_STAT_COVER : Field := ⟨0x4000400C, 2, 1, 0x0, 0x0⟩
def SEAL_STAT_PUSH : Field := ⟨0x4000400C, 3, 1, 0x0, 0x0⟩
def SEAL_STAT_X22ON : Field := ⟨0x4000400C, 4, 1, 0x0, 0x0⟩
def SEAL_STAT_ARMED : Field := ⟨0x4000400C, 5, 1, 0x0, 0x0⟩
def SEAL_STAT_PUSHED : Field := ⟨0x4000400C, 6, 1, 0x0, 0x0⟩
def SEAL_STAT_LECSAT : Field := ⟨0x4000400C, 7, 1, 0x0, 0x0⟩
def SEAL_CMD_OP : Field := ⟨0x40004040, 0, 2, 0x0, 0x0⟩
def SEAL_LEC : Field := ⟨0x40004044, 0, 32, 0x0, 0x0⟩
def SEAL_LASTEV_CODE : Field := ⟨0x40004048, 0, 16, 0x0, 0x0⟩
def SEAL_TRANS_N : Field := ⟨0x4000404C, 0, 16, 0x0, 0x0⟩
def SEAL_LASTSEAL_UTC : Field := ⟨0x40004050, 0, 64, 0x0, 0x0⟩
def SEAL_LASTSEAL_CYCLES : Field := ⟨0x40004058, 0, 64, 0x0, 0x0⟩
def SEAL_DIGEST : Field := ⟨0x40004080, 0, 256, 0x0, 0x0⟩
/-! ### BOOT -/
def BOOT_STAT_STAGE : Field := ⟨0x4000500C, 0, 3, 0x0, 0x0⟩
def BOOT_STAT_START_OK : Field := ⟨0x4000500C, 3, 1, 0x0, 0x0⟩
def BOOT_STAT_GOOD : Field := ⟨0x4000500C, 4, 1, 0x0, 0x0⟩
def BOOT_STAT_BANK : Field := ⟨0x4000500C, 5, 1, 0x0, 0x0⟩
def BOOT_STAT_SUSP_SPR : Field := ⟨0x4000500C, 6, 1, 0x0, 0x0⟩
def BOOT_STAT_SUSP_AUT : Field := ⟨0x4000500C, 7, 1, 0x0, 0x0⟩
def BOOT_STAT_ROMW : Field := ⟨0x4000500C, 8, 1, 0x0, 0x0⟩
def BOOT_STARTS_CONSEC : Field := ⟨0x40005040, 0, 4, 0x0, 0x0⟩
def BOOT_STARTS_LCONSEC : Field := ⟨0x40005040, 4, 4, 0x0, 0x0⟩
def BOOT_STARTS_TOTAL : Field := ⟨0x40005040, 16, 16, 0x0, 0x0⟩
def BOOT_WINTER_REASON : Field := ⟨0x40005044, 0, 8, 0x0, 0x0⟩
def BOOT_WINTER_CODE : Field := ⟨0x40005044, 16, 16, 0x0, 0x0⟩
def BOOT_CUST_ACTIVE : Field := ⟨0x40005048, 0, 1, 0x0, 0x0⟩
def BOOT_CUST_STEP : Field := ⟨0x40005048, 1, 1, 0x0, 0x0⟩
def BOOT_CUST_PART : Field := ⟨0x40005048, 2, 1, 0x0, 0x0⟩
def BOOT_CUST_PARTIDX : Field := ⟨0x40005048, 8, 6, 0x0, 0x0⟩
def BOOT_DEADLINE_MS : Field := ⟨0x4000504C, 0, 17, 0x0, 0x0⟩
def BOOT_GOODLEFT_S : Field := ⟨0x40005050, 0, 10, 0x0, 0x0⟩
def BOOT_APPRST_CAUSE : Field := ⟨0x40005054, 0, 4, 0x0, 0x0⟩
def BOOT_FAILOFS : Field := ⟨0x40005058, 0, 32, 0x0, 0x0⟩
/-! ### HEAD -/
def HEAD_CTL_EN : Field := ⟨0x40010008, 0, 1, 0x1000, 0x0⟩
def HEAD_STAT_STATE : Field := ⟨0x4001000C, 0, 3, 0x1000, 0x0⟩
def HEAD_STAT_PRESENT : Field := ⟨0x4001000C, 3, 1, 0x1000, 0x0⟩
def HEAD_STAT_LOCK : Field := ⟨0x4001000C, 4, 1, 0x1000, 0x0⟩
def HEAD_STAT_BOUND : Field := ⟨0x4001000C, 5, 1, 0x1000, 0x0⟩
def HEAD_STAT_TYPEOK : Field := ⟨0x4001000C, 6, 1, 0x1000, 0x0⟩
def HEAD_STAT_HEADFLT : Field := ⟨0x4001000C, 7, 1, 0x1000, 0x0⟩
def HEAD_CFG_TYPE : Field := ⟨0x40010040, 0, 8, 0x1000, 0x0⟩
def HEAD_IDENT_TYPE : Field := ⟨0x40010044, 0, 8, 0x1000, 0x0⟩
def HEAD_IDENT_PROTO : Field := ⟨0x40010044, 8, 4, 0x1000, 0x0⟩
def HEAD_IDENT_STEPLET : Field := ⟨0x40010044, 16, 8, 0x1000, 0x0⟩
def HEAD_IDENT_STEPNUM : Field := ⟨0x40010044, 24, 4, 0x1000, 0x0⟩
def HEAD_SERIAL_NUM : Field := ⟨0x40010048, 0, 48, 0x1000, 0x0⟩
def HEAD_RATING_VFS : Field := ⟨0x40010050, 0, 12, 0x1000, 0x0⟩
def HEAD_RATING_IFS : Field := ⟨0x40010050, 12, 12, 0x1000, 0x0⟩
def HEAD_XRATING_XFS : Field := ⟨0x40010054, 0, 12, 0x1000, 0x0⟩
def HEAD_HEALTH_TEMP : Field := ⟨0x40010058, 0, 12, 0x1000, 0x0⟩
def HEAD_HEALTH_SUPPLY : Field := ⟨0x40010058, 16, 12, 0x1000, 0x0⟩
def HEAD_HFAULT_CODE : Field := ⟨0x4001005C, 0, 12, 0x1000, 0x0⟩
def HEAD_RTD_DELAY : Field := ⟨0x40010060, 0, 16, 0x1000, 0x0⟩
def HEAD_LERR_ERRS : Field := ⟨0x40010064, 0, 16, 0x1000, 0x0⟩
def HEAD_LERR_LOSSES : Field := ⟨0x40010064, 16, 16, 0x1000, 0x0⟩
def HEAD_OVL_V : Field := ⟨0x40010068, 0, 8, 0x1000, 0x0⟩
def HEAD_OVL_I : Field := ⟨0x40010068, 8, 8, 0x1000, 0x0⟩
def HEAD_OVL_X : Field := ⟨0x40010068, 16, 8, 0x1000, 0x0⟩
def HEAD_AUXST_ARG : Field := ⟨0x4001006C, 0, 12, 0x1000, 0x0⟩
def HEAD_AUXST_ECHO : Field := ⟨0x4001006C, 12, 1, 0x1000, 0x0⟩
def HEAD_BIND_TYPE : Field := ⟨0x40010070, 0, 8, 0x1000, 0x0⟩
def HEAD_BINDSER_NUM : Field := ⟨0x40010078, 0, 48, 0x1000, 0x0⟩
/-! ### FIL -/
def FIL_CTL_EN : Field := ⟨0x40018008, 0, 1, 0x0, 0x0⟩
def FIL_STAT_RUN : Field := ⟨0x4001800C, 0, 1, 0x0, 0x0⟩
def FIL_CHEN_MASK : Field := ⟨0x40018040, 0, 24, 0x0, 0x0⟩
def FIL_VALID_MASK : Field := ⟨0x40018044, 0, 24, 0x0, 0x0⟩
def FIL_SATNOW_MASK : Field := ⟨0x40018048, 0, 24, 0x0, 0x0⟩
def FIL_OVRNOW_MASK : Field := ⟨0x4001804C, 0, 24, 0x0, 0x0⟩
def FIL_SETTLE_MASK : Field := ⟨0x40018050, 0, 24, 0x0, 0x0⟩
def FIL_CH_OUT : Field := ⟨0x40018080, 0, 32, 0x4, 0x0⟩
def FIL_CH_ST_FLAGS : Field := ⟨0x40018100, 0, 8, 0x4, 0x0⟩
def FIL_CH_ST_LEFT : Field := ⟨0x40018100, 8, 6, 0x4, 0x0⟩
def FIL_CH_ST_SIDX : Field := ⟨0x40018100, 16, 16, 0x4, 0x0⟩
def FIL_CH_CNT_OVR : Field := ⟨0x40018180, 0, 16, 0x4, 0x0⟩
def FIL_CH_CNT_SAT : Field := ⟨0x40018180, 16, 16, 0x4, 0x0⟩
def FIL_SIDX : Field := ⟨0x400181E0, 0, 64, 0x0, 0x0⟩
def FIL_SAMPANG_IDX : Field := ⟨0x400181F0, 0, 64, 0x0, 0x0⟩
def FIL_SAMPANG_ANGLE : Field := ⟨0x400181F8, 0, 32, 0x0, 0x0⟩
def FIL_HB_COEF : Field := ⟨0x40018400, 0, 32, 0x40, 0x4⟩
/-! ### MET -/
def MET_CTL_EN : Field := ⟨0x40020008, 0, 1, 0x0, 0x0⟩
def MET_STAT_RUN : Field := ⟨0x4002000C, 0, 1, 0x0, 0x0⟩
def MET_STAT_FROZEN : Field := ⟨0x4002000C, 1, 1, 0x0, 0x0⟩
def MET_ME_CFG_EN : Field := ⟨0x40020040, 0, 1, 0x4, 0x0⟩
def MET_ME_CFG_BILLABLE : Field := ⟨0x40020040, 1, 1, 0x4, 0x0⟩
def MET_ME_CFG_KIND : Field := ⟨0x40020040, 2, 1, 0x4, 0x0⟩
def MET_ME_CFG_VCH : Field := ⟨0x40020040, 8, 5, 0x4, 0x0⟩
def MET_ME_CFG_ICH : Field := ⟨0x40020040, 16, 5, 0x4, 0x0⟩
def MET_ME_STAT_VALID : Field := ⟨0x40020060, 0, 1, 0x4, 0x0⟩
def MET_ME_STAT_HELD : Field := ⟨0x40020060, 1, 1, 0x4, 0x0⟩
def MET_ME_STAT_HOLDEXP : Field := ⟨0x40020060, 2, 1, 0x4, 0x0⟩
def MET_ME_STAT_NOLOAD : Field := ⟨0x40020060, 3, 1, 0x4, 0x0⟩
def MET_ME_STAT_OVR : Field := ⟨0x40020060, 4, 1, 0x4, 0x0⟩
def MET_ME_STAT_HFLT : Field := ⟨0x40020060, 5, 1, 0x4, 0x0⟩
def MET_ME_STAT_ADVLIM : Field := ⟨0x40020060, 6, 1, 0x4, 0x0⟩
def MET_ME_STAT_EXPORT : Field := ⟨0x40020060, 7, 1, 0x4, 0x0⟩
def MET_ME_STAT_QUAD : Field := ⟨0x40020060, 8, 2, 0x4, 0x0⟩
def MET_HOLDMAX_MS : Field := ⟨0x40020080, 0, 16, 0x0, 0x0⟩
def MET_ACCCLR : Field := ⟨0x40020084, 0, 32, 0x0, 0x0⟩
def MET_LASTCYC : Field := ⟨0x40020088, 0, 64, 0x0, 0x0⟩
def MET_RES_SEQ : Field := ⟨0x40020100, 0, 32, 0x20, 0x0⟩
def MET_RES_V : Field := ⟨0x40020104, 0, 32, 0x20, 0x0⟩
def MET_RES_I : Field := ⟨0x40020108, 0, 32, 0x20, 0x0⟩
def MET_RES_P : Field := ⟨0x4002010C, 0, 32, 0x20, 0x0⟩
def MET_RES_Q : Field := ⟨0x40020110, 0, 32, 0x20, 0x0⟩
def MET_RES_S : Field := ⟨0x40020114, 0, 32, 0x20, 0x0⟩
def MET_RES_PF_PF : Field := ⟨0x40020118, 0, 16, 0x20, 0x0⟩
def MET_RES_PF_CYCLES : Field := ⟨0x40020118, 16, 8, 0x20, 0x0⟩
def MET_RES_SEQ2 : Field := ⟨0x4002011C, 0, 32, 0x20, 0x0⟩
def MET_ACC_CFG_ELEM : Field := ⟨0x40020200, 0, 8, 0x4, 0x0⟩
def MET_ACC_CFG_QTY : Field := ⟨0x40020200, 8, 4, 0x4, 0x0⟩
def MET_ACC_CFG_HELD : Field := ⟨0x40020200, 12, 1, 0x4, 0x0⟩
def MET_ACC_CFG_APPV : Field := ⟨0x40020200, 13, 1, 0x4, 0x0⟩
def MET_ACC_CFG_EN : Field := ⟨0x40020200, 14, 1, 0x4, 0x0⟩
def MET_ACC : Field := ⟨0x40020400, 0, 128, 0x10, 0x0⟩
def MET_BR_ACC : Field := ⟨0x40020800, 0, 6, 0x4, 0x0⟩
def MET_BR_EN : Field := ⟨0x40020800, 6, 1, 0x4, 0x0⟩
def MET_BR_DEC : Field := ⟨0x40020800, 8, 3, 0x4, 0x0⟩
def MET_ME_HP_P : Field := ⟨0x40020840, 0, 32, 0x10, 0x0⟩
def MET_ME_HP_P1 : Field := ⟨0x40020844, 0, 32, 0x10, 0x0⟩
def MET_ME_HP_Q : Field := ⟨0x40020848, 0, 32, 0x10, 0x0⟩
def MET_ME_HP_S : Field := ⟨0x4002084C, 0, 32, 0x10, 0x0⟩
/-! ### CAL -/
def CAL_CMD_APPLY : Field := ⟨0x40021040, 0, 1, 0x0, 0x0⟩
def CAL_APPLYST_SEQ : Field := ⟨0x40021044, 0, 16, 0x0, 0x0⟩
def CAL_APPLYST_REF : Field := ⟨0x40021044, 16, 1, 0x0, 0x0⟩
def CAL_APPLYST_ELEM : Field := ⟨0x40021044, 17, 3, 0x0, 0x0⟩
def CAL_CH_GAIN : Field := ⟨0x40021080, 0, 32, 0x4, 0x0⟩
def CAL_CH_OFS : Field := ⟨0x400210E0, 0, 32, 0x4, 0x0⟩
def CAL_ME_IREF_MA : Field := ⟨0x40021140, 0, 24, 0x4, 0x0⟩
def CAL_ME_ISTART_MA : Field := ⟨0x40021160, 0, 24, 0x4, 0x0⟩
def CAL_ME_NSEG_N : Field := ⟨0x40021180, 0, 4, 0x4, 0x0⟩
def CAL_ME_BP_BP : Field := ⟨0x40021200, 0, 16, 0x80, 0x10⟩
def CAL_ME_BP_GAIN : Field := ⟨0x40021204, 0, 32, 0x80, 0x10⟩
def CAL_ME_BP_PHASE : Field := ⟨0x40021208, 0, 32, 0x80, 0x10⟩
def CAL_ME_NOW_G : Field := ⟨0x40021600, 0, 32, 0x10, 0x0⟩
def CAL_ME_NOW_PHI : Field := ⟨0x40021604, 0, 32, 0x10, 0x0⟩
def CAL_ME_NOW_X : Field := ⟨0x40021608, 0, 32, 0x10, 0x0⟩
def CAL_ME_NOW_ADV : Field := ⟨0x4002160C, 0, 32, 0x10, 0x0⟩
/-! ### PLS -/
def PLS_CTL_EN : Field := ⟨0x40022008, 0, 1, 0x0, 0x0⟩
def PLS_STAT_ACTIVE : Field := ⟨0x4002200C, 0, 4, 0x0, 0x0⟩
def PLS_STAT_OVRATE : Field := ⟨0x4002200C, 4, 4, 0x0, 0x0⟩
def PLS_STAT_TEST : Field := ⟨0x4002200C, 8, 4, 0x0, 0x0⟩
def PLS_PO_CFG_ACC : Field := ⟨0x40022040, 0, 6, 0x40, 0x0⟩
def PLS_PO_CFG_EN : Field := ⟨0x40022040, 6, 1, 0x40, 0x0⟩
def PLS_PO_CFG_INV : Field := ⟨0x40022040, 7, 1, 0x40, 0x0⟩
def PLS_PO_CONST_C : Field := ⟨0x40022044, 0, 17, 0x40, 0x0⟩
def PLS_PO_WIDTH_W : Field := ⟨0x40022048, 0, 14, 0x40, 0x0⟩
def PLS_PO_TEST_TCONST : Field := ⟨0x4002204C, 0, 24, 0x40, 0x0⟩
def PLS_PO_TEST_TEN : Field := ⟨0x4002204C, 24, 1, 0x40, 0x0⟩
def PLS_PO_COUNT : Field := ⟨0x40022050, 0, 64, 0x40, 0x0⟩
def PLS_PO_RES : Field := ⟨0x40022060, 0, 128, 0x40, 0x0⟩
def PLS_PO_PERIOD : Field := ⟨0x40022070, 0, 32, 0x40, 0x0⟩
def PLS_PO_BACKLOG_N : Field := ⟨0x40022074, 0, 16, 0x40, 0x0⟩
def PLS_CMD_SNAP : Field := ⟨0x40022180, 0, 1, 0x0, 0x0⟩
def PLS_SNAPSEQ_N : Field := ⟨0x40022184, 0, 16, 0x0, 0x0⟩
def PLS_PO_SNAP_ACC : Field := ⟨0x40022200, 0, 128, 0x40, 0x0⟩
def PLS_PO_SNAP_COUNT : Field := ⟨0x40022210, 0, 64, 0x40, 0x0⟩
def PLS_PO_SNAP_RES : Field := ⟨0x40022220, 0, 128, 0x40, 0x0⟩
def PLS_PO_SNAP_CYC : Field := ⟨0x40022230, 0, 64, 0x40, 0x0⟩
def PLS_PO_SNAP_CONST : Field := ⟨0x40022238, 0, 32, 0x40, 0x0⟩
/-! ### LDG -/
def LDG_CTL_EN : Field := ⟨0x40024008, 0, 1, 0x0, 0x0⟩
def LDG_CTL_SCRUB : Field := ⟨0x40024008, 1, 1, 0x0, 0x0⟩
def LDG_STAT_RUN : Field := ⟨0x4002400C, 0, 1, 0x0, 0x0⟩
def LDG_STAT_LOCKED : Field := ⟨0x4002400C, 1, 1, 0x0, 0x0⟩
def LDG_STAT_CLOGLOW : Field := ⟨0x4002400C, 2, 1, 0x0, 0x0⟩
def LDG_STAT_CLOGFULL : Field := ⟨0x4002400C, 3, 1, 0x0, 0x0⟩
def LDG_STAT_MIRBUSY : Field := ⟨0x4002400C, 4, 1, 0x0, 0x0⟩
def LDG_STAT_CFGLOST : Field := ⟨0x4002400C, 5, 1, 0x0, 0x0⟩
def LDG_MIRPER_MS : Field := ⟨0x40024040, 0, 16, 0x0, 0x0⟩
def LDG_SESSKEEP_DAYS : Field := ⟨0x40024044, 0, 12, 0x0, 0x0⟩
def LDG_MSEQ : Field := ⟨0x40024048, 0, 64, 0x0, 0x0⟩
def LDG_MSLOT_N : Field := ⟨0x40024050, 0, 6, 0x0, 0x0⟩
def LDG_CLOG_USED : Field := ⟨0x40024054, 0, 16, 0x0, 0x0⟩
def LDG_CLOG_MISS : Field := ⟨0x40024054, 16, 16, 0x0, 0x0⟩
def LDG_EVRING_NEXT : Field := ⟨0x40024058, 0, 13, 0x0, 0x0⟩
def LDG_EVRING_EVLOST : Field := ⟨0x40024058, 16, 16, 0x0, 0x0⟩
def LDG_SESSRING_NEXT : Field := ⟨0x4002405C, 0, 11, 0x0, 0x0⟩
def LDG_SESSRING_OVER : Field := ⟨0x4002405C, 16, 16, 0x0, 0x0⟩
def LDG_TAGERR_FAILS : Field := ⟨0x40024060, 0, 16, 0x0, 0x0⟩
def LDG_TAGERR_CORRS : Field := ⟨0x40024060, 16, 16, 0x0, 0x0⟩
def LDG_LASTBAD_LINE : Field := ⟨0x40024064, 0, 18, 0x0, 0x0⟩
def LDG_LASTBAD_LEGAL : Field := ⟨0x40024064, 18, 1, 0x0, 0x0⟩
def LDG_SCRUBPOS_LINE : Field := ⟨0x40024068, 0, 18, 0x0, 0x0⟩
def LDG_CMD_MIRROR : Field := ⟨0x4002406C, 0, 1, 0x0, 0x0⟩
def LDG_LRD_IDX_LINE : Field := ⟨0x40024070, 0, 18, 0x0, 0x0⟩
def LDG_LRD_ST_DONE : Field := ⟨0x40024074, 0, 1, 0x0, 0x0⟩
def LDG_LRD_ST_TAGFAIL : Field := ⟨0x40024074, 1, 1, 0x0, 0x0⟩
def LDG_LRD_ST_CORR : Field := ⟨0x40024074, 2, 1, 0x0, 0x0⟩
def LDG_LRD_ST_POISON : Field := ⟨0x40024074, 3, 1, 0x0, 0x0⟩
def LDG_LRD_DATA : Field := ⟨0x40024080, 0, 128, 0x0, 0x0⟩
def LDG_LW_IDX_LINE : Field := ⟨0x40024090, 0, 18, 0x0, 0x0⟩
def LDG_LW_MASK_MASK : Field := ⟨0x40024094, 0, 16, 0x0, 0x0⟩
def LDG_LW_ST_RESULT : Field := ⟨0x40024098, 0, 2, 0x0, 0x0⟩
def LDG_LW_ST_FULL : Field := ⟨0x40024098, 2, 1, 0x0, 0x0⟩
def LDG_LW_ST_QUEUED : Field := ⟨0x40024098, 8, 5, 0x0, 0x0⟩
def LDG_LW_ST_DONE : Field := ⟨0x40024098, 16, 16, 0x0, 0x0⟩
def LDG_LW_DATA : Field := ⟨0x400240A0, 0, 128, 0x0, 0x0⟩
def LDG_SRAMERR_CORRS : Field := ⟨0x400240B0, 0, 16, 0x0, 0x0⟩
def LDG_SRAMERR_POISONS : Field := ⟨0x400240B0, 16, 16, 0x0, 0x0⟩
def LDG_SRAMBAD : Field := ⟨0x400240B4, 0, 32, 0x0, 0x0⟩
def LDG_SRAMCLR : Field := ⟨0x400240B8, 0, 32, 0x0, 0x0⟩
def LDG_PARTWR : Field := ⟨0x400240C0, 0, 32, 0x4, 0x0⟩
def LDG_PFLOG_US : Field := ⟨0x40024104, 0, 16, 0x0, 0x0⟩
def LDG_PFLOG_LINES : Field := ⟨0x40024104, 16, 16, 0x0, 0x0⟩
/-! ### SIG -/
def SIG_STAT_BUSY : Field := ⟨0x4002500C, 0, 1, 0x0, 0x0⟩
def SIG_STAT_SESS : Field := ⟨0x4002500C, 1, 2, 0x0, 0x0⟩
def SIG_STAT_KEYOK : Field := ⟨0x4002500C, 3, 1, 0x0, 0x0⟩
def SIG_CMD_SIGN : Field := ⟨0x40025040, 0, 1, 0x0, 0x0⟩
def SIG_SEQ : Field := ⟨0x40025044, 0, 32, 0x0, 0x0⟩
def SIG_SESSST_RESULT : Field := ⟨0x40025048, 0, 8, 0x0, 0x0⟩
def SIG_SESSST_SEQ : Field := ⟨0x40025048, 8, 8, 0x0, 0x0⟩
def SIG_SESSST_TENANT : Field := ⟨0x40025048, 16, 4, 0x0, 0x0⟩
def SIG_SESSST_SLOT : Field := ⟨0x40025048, 20, 11, 0x0, 0x0⟩
def SIG_ENDRSN_REASON : Field := ⟨0x4002504C, 0, 8, 0x0, 0x0⟩
def SIG_ENDRSN_APPREASON : Field := ⟨0x4002504C, 8, 8, 0x0, 0x0⟩
def SIG_TCNT : Field := ⟨0x40025080, 0, 32, 0x4, 0x0⟩
def SIG_PUBKEY : Field := ⟨0x40025100, 0, 512, 0x0, 0x0⟩
def SIG_KEYCERT : Field := ⟨0x40025140, 0, 1280, 0x0, 0x0⟩
def SIG_IN : Field := ⟨0x40025200, 0, 32, 0x4, 0x0⟩
def SIG_OUT : Field := ⟨0x40025400, 0, 2560, 0x0, 0x0⟩
/-! ### VEH -/
def VEH_CTL_AUTOOFF : Field := ⟨0x40030008, 0, 1, 0x0, 0x0⟩
def VEH_CTL_VENT : Field := ⟨0x40030008, 1, 1, 0x0, 0x0⟩
def VEH_CTL_PPLIM : Field := ⟨0x40030008, 2, 1, 0x0, 0x0⟩
def VEH_STAT_STATE : Field := ⟨0x4003000C, 0, 3, 0x0, 0x0⟩
def VEH_STAT_RAW : Field := ⟨0x4003000C, 3, 3, 0x0, 0x0⟩
def VEH_STAT_PWMON : Field := ⟨0x4003000C, 6, 1, 0x0, 0x0⟩
def VEH_STAT_DIODE : Field := ⟨0x4003000C, 7, 1, 0x0, 0x0⟩
def VEH_STAT_STUCK : Field := ⟨0x4003000C, 8, 1, 0x0, 0x0⟩
def VEH_STAT_INVAL : Field := ⟨0x4003000C, 9, 1, 0x0, 0x0⟩
def VEH_STAT_LIMITED : Field := ⟨0x4003000C, 10, 1, 0x0, 0x0⟩
def VEH_STAT_BLOCK : Field := ⟨0x4003000C, 11, 1, 0x0, 0x0⟩
def VEH_STAT_VROLE : Field := ⟨0x4003000C, 12, 1, 0x0, 0x0⟩
def VEH_GEN_MODE : Field := ⟨0x40030040, 0, 2, 0x0, 0x0⟩
def VEH_DUTY_VALUE : Field := ⟨0x40030044, 0, 13, 0x0, 0x0⟩
def VEH_DUTY_CURSEL : Field := ⟨0x40030044, 13, 1, 0x0, 0x0⟩
def VEH_DUTY_TRIG : Field := ⟨0x40030044, 14, 1, 0x0, 0x0⟩
def VEH_DUTY_STAGED : Field := ⟨0x40030044, 15, 1, 0x0, 0x0⟩
def VEH_DUTYNOW_DUTY : Field := ⟨0x40030048, 0, 10, 0x0, 0x0⟩
def VEH_DUTYNOW_CURR : Field := ⟨0x40030048, 16, 13, 0x0, 0x0⟩
def VEH_DUTYNOW_HLC : Field := ⟨0x40030048, 29, 1, 0x0, 0x0⟩
def VEH_TIMING_DEB : Field := ⟨0x4003004C, 0, 5, 0x0, 0x0⟩
def VEH_TIMING_INVT : Field := ⟨0x4003004C, 16, 11, 0x0, 0x0⟩
def VEH_CPMASK_MASK : Field := ⟨0x40030050, 0, 8, 0x0, 0x0⟩
def VEH_LEVEL_HIGH : Field := ⟨0x40030054, 0, 16, 0x0, 0x0⟩
def VEH_LEVEL_LOW : Field := ⟨0x40030054, 16, 16, 0x0, 0x0⟩
def VEH_PPCFG_MODE : Field := ⟨0x40030058, 0, 2, 0x0, 0x0⟩
def VEH_PPCFG_SINGLE : Field := ⟨0x40030058, 2, 1, 0x0, 0x0⟩
def VEH_PPCFG_THR : Field := ⟨0x40030058, 8, 8, 0x0, 0x0⟩
def VEH_PPSTAT_OHMS : Field := ⟨0x4003005C, 0, 16, 0x0, 0x0⟩
def VEH_PPSTAT_CODE : Field := ⟨0x4003005C, 16, 4, 0x0, 0x0⟩
def VEH_PPSTAT_RATING : Field := ⟨0x4003005C, 24, 8, 0x0, 0x0⟩
def VEH_STAMP_NEW : Field := ⟨0x40030060, 0, 3, 0x0, 0x0⟩
def VEH_STAMP_OLD : Field := ⟨0x40030060, 4, 3, 0x0, 0x0⟩
def VEH_STAMP_ANGLE : Field := ⟨0x40030064, 0, 32, 0x0, 0x0⟩
def VEH_STAMP_CYCLES : Field := ⟨0x40030068, 0, 64, 0x0, 0x0⟩
def VEH_FLTCNT_DIODE : Field := ⟨0x40030070, 0, 8, 0x0, 0x0⟩
def VEH_FLTCNT_STUCK : Field := ⟨0x40030070, 8, 8, 0x0, 0x0⟩
def VEH_FLTCNT_INVAL : Field := ⟨0x40030070, 16, 8, 0x0, 0x0⟩
def VEH_FLTCNT_OFFS : Field := ⟨0x40030070, 24, 8, 0x0, 0x0⟩
def VEH_VR_NET_EMU : Field := ⟨0x40030100, 0, 3, 0x0, 0x0⟩
def VEH_VR_NET_PPR : Field := ⟨0x40030100, 4, 3, 0x0, 0x0⟩
def VEH_VR_PROFCTL_RUN : Field := ⟨0x40030104, 0, 1, 0x0, 0x0⟩
def VEH_VR_PROFCTL_STEPS : Field := ⟨0x40030104, 8, 6, 0x0, 0x0⟩
def VEH_VR_STAT_STEP : Field := ⟨0x40030108, 0, 5, 0x0, 0x0⟩
def VEH_VR_STAT_DONE : Field := ⟨0x40030108, 5, 1, 0x0, 0x0⟩
def VEH_VR_STAT_OBS : Field := ⟨0x40030108, 6, 2, 0x0, 0x0⟩
def VEH_VR_STAT_DUTY : Field := ⟨0x40030108, 8, 10, 0x0, 0x0⟩
def VEH_VR_STAT_CURR : Field := ⟨0x40030108, 18, 13, 0x0, 0x0⟩
def VEH_VR_DEMAND_CURR : Field := ⟨0x4003010C, 0, 13, 0x0, 0x0⟩
def VEH_VR_EVSTAMP_OBS : Field := ⟨0x40030110, 0, 2, 0x0, 0x0⟩
def VEH_VR_EVSTAMP_DUTY : Field := ⟨0x40030110, 2, 10, 0x0, 0x0⟩
def VEH_VR_EVSTAMP_ANGLE : Field := ⟨0x40030114, 0, 32, 0x0, 0x0⟩
def VEH_VR_EVSTAMP_CYCLES : Field := ⟨0x40030118, 0, 64, 0x0, 0x0⟩
def VEH_VR_STEP_EMU : Field := ⟨0x40030200, 0, 3, 0x8, 0x0⟩
def VEH_VR_STEP_PPR : Field := ⟨0x40030200, 4, 3, 0x8, 0x0⟩
def VEH_VR_STEP_DEMAND : Field := ⟨0x40030200, 8, 7, 0x8, 0x0⟩
def VEH_VR_STEP_WAITPWM : Field := ⟨0x40030200, 16, 1, 0x8, 0x0⟩
def VEH_VR_STEP_DUR : Field := ⟨0x40030204, 0, 24, 0x8, 0x0⟩
/-! ### GPM -/
def GPM_CTL_EN : Field := ⟨0x40031008, 0, 1, 0x0, 0x0⟩
def GPM_CTL_SLACEN : Field := ⟨0x40031008, 1, 1, 0x0, 0x0⟩
def GPM_CTL_VALEN : Field := ⟨0x40031008, 2, 1, 0x0, 0x0⟩
def GPM_STAT_MSTATE : Field := ⟨0x4003100C, 0, 3, 0x0, 0x0⟩
def GPM_STAT_LINK : Field := ⟨0x4003100C, 3, 1, 0x0, 0x0⟩
def GPM_STAT_ROLE : Field := ⟨0x4003100C, 4, 1, 0x0, 0x0⟩
def GPM_STAT_PATH : Field := ⟨0x4003100C, 5, 1, 0x0, 0x0⟩
def GPM_MAC_ADDR : Field := ⟨0x40031040, 0, 48, 0x0, 0x0⟩
def GPM_SLACCFG_INIT : Field := ⟨0x40031048, 0, 7, 0x0, 0x0⟩
def GPM_SLACCFG_ATTMAX : Field := ⟨0x40031048, 8, 8, 0x0, 0x0⟩
def GPM_SLACCFG_TXATT : Field := ⟨0x40031048, 16, 5, 0x0, 0x0⟩
def GPM_RESULT_CAUSE : Field := ⟨0x4003104C, 0, 4, 0x0, 0x0⟩
def GPM_RESULT_ATT : Field := ⟨0x4003104C, 8, 8, 0x0, 0x0⟩
def GPM_RESULT_SOUNDS : Field := ⟨0x4003104C, 16, 8, 0x0, 0x0⟩
def GPM_RESULT_RUNS : Field := ⟨0x4003104C, 24, 8, 0x0, 0x0⟩
def GPM_PEER_MAC : Field := ⟨0x40031050, 0, 48, 0x0, 0x0⟩
def GPM_PEER_RUN : Field := ⟨0x40031058, 0, 64, 0x0, 0x0⟩
def GPM_NID_ID : Field := ⟨0x40031060, 0, 56, 0x0, 0x0⟩
def GPM_RINGS_RXRING : Field := ⟨0x40031068, 0, 8, 0x0, 0x0⟩
def GPM_RINGS_TXRING : Field := ⟨0x40031068, 8, 8, 0x0, 0x0⟩
def GPM_CNT_BAD : Field := ⟨0x4003106C, 0, 8, 0x0, 0x0⟩
def GPM_CNT_DROP : Field := ⟨0x4003106C, 8, 8, 0x0, 0x0⟩
def GPM_CNT_RESTARTS : Field := ⟨0x4003106C, 16, 8, 0x0, 0x0⟩
def GPM_FWVER : Field := ⟨0x40031070, 0, 32, 0x0, 0x0⟩
def GPM_LINKQ_RATE : Field := ⟨0x40031074, 0, 8, 0x0, 0x0⟩
/-! ### SAF -/
def SAF_STAT_STATE : Field := ⟨0x4003200C, 0, 2, 0x0, 0x0⟩
def SAF_STAT_HOLDSRC : Field := ⟨0x4003200C, 2, 2, 0x0, 0x0⟩
def SAF_STAT_TP0OK : Field := ⟨0x4003200C, 4, 1, 0x0, 0x0⟩
def SAF_STAT_TP1OK : Field := ⟨0x4003200C, 5, 1, 0x0, 0x0⟩
def SAF_STAT_LANEOK : Field := ⟨0x4003200C, 6, 1, 0x0, 0x0⟩
def SAF_STAT_OSCOK : Field := ⟨0x4003200C, 7, 1, 0x0, 0x0⟩
def SAF_PAIRST : Field := ⟨0x40032040, 0, 32, 0x4, 0x0⟩
def SAF_PAIRFLT : Field := ⟨0x40032050, 0, 32, 0x4, 0x0⟩
def SAF_CHST : Field := ⟨0x40032060, 0, 32, 0x4, 0x0⟩
def SAF_CHFLT : Field := ⟨0x40032070, 0, 32, 0x0, 0x0⟩
def SAF_WELDVOLT : Field := ⟨0x40032080, 0, 32, 0x4, 0x0⟩
def SAF_CNT_DEMANDS : Field := ⟨0x40032090, 0, 8, 0x0, 0x0⟩
def SAF_CNT_RESETS : Field := ⟨0x40032090, 8, 8, 0x0, 0x0⟩
def SAF_CNT_REFUSED : Field := ⟨0x40032090, 16, 8, 0x0, 0x0⟩
def SAF_CNT_PRECLOSE : Field := ⟨0x40032090, 24, 8, 0x0, 0x0⟩
def SAF_OSCDEV_DEV : Field := ⟨0x40032094, 0, 16, 0x0, 0x0⟩
def SAF_PAR : Field := ⟨0x40032100, 0, 32, 0x4, 0x0⟩
def SAF_PDIGEST : Field := ⟨0x40032200, 0, 32, 0x4, 0x0⟩
/-! ### EFM -/
def EFM_STAT_RCON : Field := ⟨0x4003300C, 0, 1, 0x0, 0x0⟩
def EFM_STAT_RCOK : Field := ⟨0x4003300C, 1, 1, 0x0, 0x0⟩
def EFM_STAT_ACWARN : Field := ⟨0x4003300C, 2, 1, 0x0, 0x0⟩
def EFM_STAT_RCTRIP : Field := ⟨0x4003300C, 3, 1, 0x0, 0x0⟩
def EFM_STAT_INSSTATE : Field := ⟨0x4003300C, 4, 2, 0x0, 0x0⟩
def EFM_STAT_INSMF : Field := ⟨0x4003300C, 6, 1, 0x0, 0x0⟩
def EFM_STAT_MEASURING : Field := ⟨0x4003300C, 7, 1, 0x0, 0x0⟩
def EFM_STAT_TESTING : Field := ⟨0x4003300C, 8, 1, 0x0, 0x0⟩
def EFM_STAT_FRESH : Field := ⟨0x4003300C, 9, 1, 0x0, 0x0⟩
def EFM_RESDC_IDC : Field := ⟨0x40033040, 0, 16, 0x0, 0x0⟩
def EFM_RESDC_IDCF : Field := ⟨0x40033040, 16, 16, 0x0, 0x0⟩
def EFM_RESAC_IAC : Field := ⟨0x40033044, 0, 16, 0x0, 0x0⟩
def EFM_RFMON_TEMP : Field := ⟨0x40033048, 0, 12, 0x0, 0x0⟩
def EFM_RFMON_EXC : Field := ⟨0x40033048, 16, 8, 0x0, 0x0⟩
def EFM_RFMON_LOST : Field := ⟨0x40033048, 24, 3, 0x0, 0x0⟩
def EFM_RCHOLD_T1 : Field := ⟨0x4003304C, 0, 16, 0x0, 0x0⟩
def EFM_RCHOLD_T2 : Field := ⟨0x4003304C, 16, 8, 0x0, 0x0⟩
def EFM_RCHOLD_T3 : Field := ⟨0x4003304C, 24, 8, 0x0, 0x0⟩
def EFM_RCLATCH_TIER : Field := ⟨0x40033050, 0, 2, 0x0, 0x0⟩
def EFM_RCLATCH_LATCHED : Field := ⟨0x40033050, 2, 1, 0x0, 0x0⟩
def EFM_RCLATCH_EST : Field := ⟨0x40033050, 16, 16, 0x0, 0x0⟩
def EFM_ACHOLD_N : Field := ⟨0x40033054, 0, 16, 0x0, 0x0⟩
def EFM_INSU_U : Field := ⟨0x40033060, 0, 16, 0x0, 0x0⟩
def EFM_INSI_I1 : Field := ⟨0x40033064, 0, 16, 0x0, 0x0⟩
def EFM_INSI_I2 : Field := ⟨0x40033064, 16, 16, 0x0, 0x0⟩
def EFM_INSRP_R : Field := ⟨0x40033068, 0, 24, 0x0, 0x0⟩
def EFM_INSRN_R : Field := ⟨0x4003306C, 0, 24, 0x0, 0x0⟩
def EFM_INSR_R : Field := ⟨0x40033070, 0, 24, 0x0, 0x0⟩
def EFM_INSCYC_NORMAL : Field := ⟨0x40033074, 0, 16, 0x0, 0x0⟩
def EFM_INSCYC_DISC : Field := ⟨0x40033074, 16, 8, 0x0, 0x0⟩
def EFM_INSCYC_STEP : Field := ⟨0x40033074, 24, 2, 0x0, 0x0⟩
def EFM_INSCYC_TEST : Field := ⟨0x40033074, 26, 1, 0x0, 0x0⟩
def EFM_INSTEST_RT : Field := ⟨0x40033078, 0, 24, 0x0, 0x0⟩
def EFM_INSTEST_PASS : Field := ⟨0x40033078, 24, 1, 0x0, 0x0⟩
def EFM_CNT_DC : Field := ⟨0x40033080, 0, 8, 0x0, 0x0⟩
def EFM_CNT_AC : Field := ⟨0x40033080, 8, 8, 0x0, 0x0⟩
def EFM_CNT_INS : Field := ⟨0x40033080, 16, 8, 0x0, 0x0⟩
def EFM_CNT_LOSS : Field := ⟨0x40033080, 24, 8, 0x0, 0x0⟩
def EFM_PAR : Field := ⟨0x40033100, 0, 32, 0x4, 0x0⟩
/-! ### SW -/
def SW_CTL_EN : Field := ⟨0x40034008, 0, 1, 0x1000, 0x0⟩
def SW_STAT_VSWOK : Field := ⟨0x4003400C, 0, 1, 0x1000, 0x0⟩
def SW_STAT_SHEDACT : Field := ⟨0x4003400C, 1, 1, 0x1000, 0x0⟩
def SW_STAT_HOT : Field := ⟨0x4003400C, 2, 1, 0x1000, 0x0⟩
def SW_REQ_MASK : Field := ⟨0x40034040, 0, 12, 0x1000, 0x0⟩
def SW_REQSET_MASK : Field := ⟨0x40034044, 0, 12, 0x1000, 0x0⟩
def SW_REQCLR_MASK : Field := ⟨0x40034048, 0, 12, 0x1000, 0x0⟩
def SW_ON_MASK : Field := ⟨0x4003404C, 0, 12, 0x1000, 0x0⟩
def SW_LATCH_MASK : Field := ⟨0x40034050, 0, 12, 0x1000, 0x0⟩
def SW_SHED_MASK : Field := ⟨0x40034054, 0, 12, 0x1000, 0x0⟩
def SW_VSWMON_MV : Field := ⟨0x40034058, 0, 16, 0x1000, 0x0⟩
def SW_VSWMON_CURR : Field := ⟨0x40034058, 16, 16, 0x1000, 0x0⟩
def SW_TEMP_T : Field := ⟨0x4003405C, 0, 12, 0x1000, 0x0⟩
def SW_SC_LOAD_R : Field := ⟨0x400340C0, 0, 16, 0x1000, 0x4⟩
def SW_CH_CFG_BLANK : Field := ⟨0x40034100, 0, 7, 0x1000, 0x20⟩
def SW_CH_CFG_NRETRY : Field := ⟨0x40034100, 8, 4, 0x1000, 0x20⟩
def SW_CH_SENSE_SENSE : Field := ⟨0x40034104, 0, 14, 0x1000, 0x20⟩
def SW_CH_SENSE_LSENSE : Field := ⟨0x40034104, 16, 14, 0x1000, 0x20⟩
def SW_CH_ST_STATE : Field := ⟨0x40034108, 0, 3, 0x1000, 0x20⟩
def SW_CH_ST_RETRY : Field := ⟨0x40034108, 3, 4, 0x1000, 0x20⟩
def SW_CH_ST_REG : Field := ⟨0x40034108, 7, 1, 0x1000, 0x20⟩
def SW_CH_ST_HARD : Field := ⟨0x40034108, 8, 1, 0x1000, 0x20⟩
def SW_CH_ST_THERM : Field := ⟨0x40034108, 9, 1, 0x1000, 0x20⟩
def SW_CH_ST_HOLD : Field := ⟨0x40034108, 10, 2, 0x1000, 0x20⟩
def SW_CH_ST_PAUSELEFT : Field := ⟨0x40034108, 16, 16, 0x1000, 0x20⟩
def SW_CH_CLEAN_MS : Field := ⟨0x4003410C, 0, 14, 0x1000, 0x20⟩
def SW_CH_CLAMP_LAST : Field := ⟨0x40034110, 0, 16, 0x1000, 0x20⟩
def SW_CH_CLAMP_MAX : Field := ⟨0x40034110, 16, 16, 0x1000, 0x20⟩
def SW_CH_CNT_TRIPS : Field := ⟨0x40034114, 0, 8, 0x1000, 0x20⟩
def SW_CH_CNT_HARDS : Field := ⟨0x40034114, 8, 8, 0x1000, 0x20⟩
def SW_CH_CNT_LATCHES : Field := ⟨0x40034114, 16, 8, 0x1000, 0x20⟩
def SW_CH_CNT_CLAMPS : Field := ⟨0x40034114, 24, 8, 0x1000, 0x20⟩
def SW_CH_CYCLES : Field := ⟨0x40034118, 0, 32, 0x1000, 0x20⟩
/-! ### CLU -/
def CLU_CTL_EN : Field := ⟨0x40040008, 0, 1, 0x0, 0x0⟩
def CLU_CTL_BULKEN : Field := ⟨0x40040008, 1, 1, 0x0, 0x0⟩
def CLU_CTL_LEAVE : Field := ⟨0x40040008, 2, 1, 0x0, 0x0⟩
def CLU_STAT_LSTATE : Field := ⟨0x4004000C, 0, 3, 0x0, 0x0⟩
def CLU_STAT_CCNOK : Field := ⟨0x4004000C, 3, 1, 0x0, 0x0⟩
def CLU_STAT_TXOK : Field := ⟨0x4004000C, 4, 1, 0x0, 0x0⟩
def CLU_STAT_DUP : Field := ⟨0x4004000C, 5, 1, 0x0, 0x0⟩
def CLU_STAT_BULK : Field := ⟨0x4004000C, 6, 1, 0x0, 0x0⟩
def CLU_CFG_ADDR : Field := ⟨0x40040040, 0, 6, 0x0, 0x0⟩
def CLU_CFG_ROLE : Field := ⟨0x40040040, 6, 2, 0x0, 0x0⟩
def CLU_CFG_PRIO : Field := ⟨0x40040040, 8, 4, 0x0, 0x0⟩
def CLU_CFG_ATT : Field := ⟨0x40040040, 12, 5, 0x0, 0x0⟩
def CLU_EKEY : Field := ⟨0x40040044, 0, 32, 0x0, 0x0⟩
def CLU_CCN : Field := ⟨0x40040048, 0, 32, 0x0, 0x0⟩
def CLU_CCNOFS : Field := ⟨0x4004004C, 0, 32, 0x0, 0x0⟩
def CLU_GRANTRX_PAY : Field := ⟨0x40040050, 0, 36, 0x0, 0x0⟩
def CLU_GRANTRX_SEQ : Field := ⟨0x40040054, 8, 4, 0x0, 0x0⟩
def CLU_GRANTRX_CYC : Field := ⟨0x40040058, 0, 64, 0x0, 0x0⟩
def CLU_TIMERX_UTC : Field := ⟨0x40040060, 0, 64, 0x0, 0x0⟩
def CLU_TIMERX_CYC : Field := ⟨0x40040068, 0, 64, 0x0, 0x0⟩
def CLU_ACTRX_TARGET : Field := ⟨0x40040070, 0, 32, 0x0, 0x0⟩
def CLU_ACTRX_ACTID : Field := ⟨0x40040074, 0, 3, 0x0, 0x0⟩
def CLU_ACTRX_ABORT : Field := ⟨0x40040074, 3, 1, 0x0, 0x0⟩
def CLU_ACTRX_VALID : Field := ⟨0x40040074, 4, 1, 0x0, 0x0⟩
def CLU_ACTTX_TARGET : Field := ⟨0x40040078, 0, 32, 0x0, 0x0⟩
def CLU_ACTTX_ACTID : Field := ⟨0x4004007C, 0, 3, 0x0, 0x0⟩
def CLU_ACTTX_ABORT : Field := ⟨0x4004007C, 3, 1, 0x0, 0x0⟩
def CLU_ACTTX_SEND : Field := ⟨0x4004007C, 4, 1, 0x0, 0x0⟩
def CLU_TIMECMD_SEND : Field := ⟨0x40040080, 0, 1, 0x0, 0x0⟩
def CLU_RINGS_RXRING : Field := ⟨0x40040084, 0, 8, 0x0, 0x0⟩
def CLU_RINGS_TXRING : Field := ⟨0x40040084, 8, 8, 0x0, 0x0⟩
def CLU_BULKST_TID : Field := ⟨0x40040088, 0, 4, 0x0, 0x0⟩
def CLU_BULKST_DONE : Field := ⟨0x40040088, 4, 1, 0x0, 0x0⟩
def CLU_BULKST_FAIL : Field := ⟨0x40040088, 5, 1, 0x0, 0x0⟩
def CLU_BULKST_LEN : Field := ⟨0x40040088, 6, 5, 0x0, 0x0⟩
def CLU_BULKMAP_MAP : Field := ⟨0x4004008C, 0, 31, 0x0, 0x0⟩
def CLU_LINKQ_LEVEL : Field := ⟨0x40040090, 0, 8, 0x0, 0x0⟩
def CLU_LINKQ_SNR : Field := ⟨0x40040090, 8, 8, 0x0, 0x0⟩
def CLU_CNT_CRC : Field := ⟨0x40040094, 0, 8, 0x0, 0x0⟩
def CLU_CNT_MISPL : Field := ⟨0x40040094, 8, 8, 0x0, 0x0⟩
def CLU_CNT_UNANS : Field := ⟨0x40040094, 16, 8, 0x0, 0x0⟩
def CLU_CNT_LOSSES : Field := ⟨0x40040094, 24, 8, 0x0, 0x0⟩
def CLU_MEMBERS : Field := ⟨0x40040098, 0, 32, 0x0, 0x0⟩
def CLU_MEM_EKEY : Field := ⟨0x40040100, 0, 32, 0x8, 0x0⟩
def CLU_MEM_MISSES : Field := ⟨0x40040104, 0, 2, 0x8, 0x0⟩
def CLU_MEM_ADMITTED : Field := ⟨0x40040104, 2, 1, 0x8, 0x0⟩
def CLU_MEM_JOINING : Field := ⟨0x40040104, 3, 1, 0x8, 0x0⟩
def CLU_MEM_SEQ : Field := ⟨0x40040104, 4, 4, 0x8, 0x0⟩
/-! ### PWA -/
def PWA_CTL_EN : Field := ⟨0x40041008, 0, 1, 0x0, 0x0⟩
def PWA_STAT_OUTCOME : Field := ⟨0x4004100C, 0, 2, 0x0, 0x0⟩
def PWA_STAT_REASON : Field := ⟨0x4004100C, 2, 4, 0x0, 0x0⟩
def PWA_STAT_MASTER : Field := ⟨0x4004100C, 6, 1, 0x0, 0x0⟩
def PWA_STAT_FALLBACK : Field := ⟨0x4004100C, 7, 1, 0x0, 0x0⟩
def PWA_MDEMAND_DEMAND : Field := ⟨0x40041040, 0, 14, 0x0, 0x0⟩
def PWA_MDEMAND_CLASS : Field := ⟨0x40041040, 16, 3, 0x0, 0x0⟩
def PWA_MDEMAND_PHMASK : Field := ⟨0x40041040, 20, 3, 0x0, 0x0⟩
def PWA_MCFG_FALLBACK : Field := ⟨0x40041044, 0, 14, 0x0, 0x0⟩
def PWA_MCFG_DRAWELEM : Field := ⟨0x40041044, 16, 8, 0x0, 0x0⟩
def PWA_MDRAW_DRAW : Field := ⟨0x40041048, 0, 14, 0x0, 0x0⟩
def PWA_ALLOW_ALLOW : Field := ⟨0x4004104C, 0, 14, 0x0, 0x0⟩
def PWA_ALLOW_OUTCOME : Field := ⟨0x4004104C, 14, 2, 0x0, 0x0⟩
def PWA_ALLOW_REASON : Field := ⟨0x4004104C, 16, 4, 0x0, 0x0⟩
def PWA_ALLOW_PHMASK : Field := ⟨0x4004104C, 20, 3, 0x0, 0x0⟩
def PWA_ALLOWCYC : Field := ⟨0x40041050, 0, 64, 0x0, 0x0⟩
def PWA_LIM_LIM : Field := ⟨0x40041080, 0, 16, 0x4, 0x0⟩
def PWA_LIM_RESV : Field := ⟨0x40041080, 16, 16, 0x4, 0x0⟩
def PWA_ALLOCCFG_MIN : Field := ⟨0x4004108C, 0, 5, 0x0, 0x0⟩
def PWA_ALLOCCFG_SETTLE : Field := ⟨0x4004108C, 8, 4, 0x0, 0x0⟩
def PWA_ALLOCCFG_RAMP : Field := ⟨0x4004108C, 16, 8, 0x0, 0x0⟩
def PWA_ALLOCCFG_DEFERMAX : Field := ⟨0x4004108C, 24, 8, 0x0, 0x0⟩
def PWA_ROSTER_FALLBACK : Field := ⟨0x40041100, 0, 14, 0x4, 0x0⟩
def PWA_ROSTER_PHMASK : Field := ⟨0x40041100, 16, 3, 0x4, 0x0⟩
def PWA_PHSUM_SUMK : Field := ⟨0x40041180, 0, 16, 0x4, 0x0⟩
def PWA_PHSUM_H : Field := ⟨0x40041180, 16, 16, 0x4, 0x0⟩
def PWA_ROUND_N : Field := ⟨0x4004118C, 0, 27, 0x0, 0x0⟩
def PWA_MEM_DEMAND : Field := ⟨0x40041200, 0, 14, 0x10, 0x0⟩
def PWA_MEM_CLASS : Field := ⟨0x40041200, 16, 3, 0x10, 0x0⟩
def PWA_MEM_PHMASK : Field := ⟨0x40041200, 20, 3, 0x10, 0x0⟩
def PWA_MEM_ADMITTED : Field := ⟨0x40041200, 23, 1, 0x10, 0x0⟩
def PWA_MEM_DRAW : Field := ⟨0x40041204, 0, 14, 0x10, 0x0⟩
def PWA_MEM_K : Field := ⟨0x40041204, 16, 14, 0x10, 0x0⟩
def PWA_MEM_G : Field := ⟨0x40041208, 0, 14, 0x10, 0x0⟩
def PWA_MEM_OUTCOME : Field := ⟨0x40041208, 14, 2, 0x10, 0x0⟩
def PWA_MEM_REASON : Field := ⟨0x40041208, 16, 4, 0x10, 0x0⟩
def PWA_MEM_ANSWERED : Field := ⟨0x40041208, 20, 1, 0x10, 0x0⟩
def PWA_MEM_DEFERS : Field := ⟨0x4004120C, 0, 16, 0x10, 0x0⟩
/-! ### TEN -/
def TEN_CTL_AUTOHF : Field := ⟨0x40042008, 0, 1, 0x0, 0x0⟩
def TEN_CTL_AUTOUHF : Field := ⟨0x40042008, 1, 1, 0x0, 0x0⟩
def TEN_CTL_AUTOINT : Field := ⟨0x40042008, 2, 1, 0x0, 0x0⟩
def TEN_STAT_BUSY : Field := ⟨0x4004200C, 0, 1, 0x0, 0x0⟩
def TEN_STAT_AUTOPEND : Field := ⟨0x4004200C, 1, 1, 0x0, 0x0⟩
def TEN_STAT_PERIOD : Field := ⟨0x4004200C, 2, 3, 0x0, 0x0⟩
def TEN_STAT_PERVALID : Field := ⟨0x4004200C, 5, 1, 0x0, 0x0⟩
def TEN_STAT_WIPING : Field := ⟨0x4004200C, 6, 1, 0x0, 0x0⟩
def TEN_SLOTSEL_SLOT : Field := ⟨0x40042040, 0, 4, 0x0, 0x0⟩
def TEN_LOCALOFS_MIN : Field := ⟨0x40042044, 0, 12, 0x0, 0x0⟩
def TEN_CMD_ALCHECK : Field := ⟨0x40042048, 0, 1, 0x0, 0x0⟩
def TEN_CMD_WIPE : Field := ⟨0x40042048, 1, 1, 0x0, 0x0⟩
def TEN_AUTHREQ_METHOD : Field := ⟨0x4004204C, 0, 3, 0x0, 0x0⟩
def TEN_AUTHREQ_AUTO : Field := ⟨0x4004204C, 3, 1, 0x0, 0x0⟩
def TEN_AUTHREQ_TENANT : Field := ⟨0x4004204C, 4, 4, 0x0, 0x0⟩
def TEN_AUTHREQ_LEN : Field := ⟨0x4004204C, 8, 7, 0x0, 0x0⟩
def TEN_AUTHREQ_SEQ : Field := ⟨0x4004204C, 16, 8, 0x0, 0x0⟩
def TEN_AUTHRES_RESULT : Field := ⟨0x40042050, 0, 5, 0x0, 0x0⟩
def TEN_AUTHRES_METHOD : Field := ⟨0x40042050, 5, 3, 0x0, 0x0⟩
def TEN_AUTHRES_TENANT : Field := ⟨0x40042050, 8, 4, 0x0, 0x0⟩
def TEN_AUTHRES_SEQ : Field := ⟨0x40042050, 16, 8, 0x0, 0x0⟩
def TEN_AUTHRES_DONE : Field := ⟨0x40042050, 24, 1, 0x0, 0x0⟩
def TEN_AUTHTOK_MAXCUR : Field := ⟨0x40042054, 0, 16, 0x0, 0x0⟩
def TEN_AUTHTSEQ : Field := ⟨0x40042058, 0, 32, 0x0, 0x0⟩
def TEN_SLOTBLK : Field := ⟨0x40042100, 0, 32, 0x4, 0x0⟩
def TEN_AUTHDIG : Field := ⟨0x40042200, 0, 256, 0x0, 0x0⟩
def TEN_AUTHID : Field := ⟨0x40042300, 0, 32, 0x4, 0x0⟩
def TEN_TOKEN : Field := ⟨0x40042400, 0, 32, 0x4, 0x0⟩
/-! ### RDR -/
def RDR_CTL_HFEN : Field := ⟨0x40043008, 0, 1, 0x0, 0x0⟩
def RDR_CTL_UHFEN : Field := ⟨0x40043008, 1, 1, 0x0, 0x0⟩
def RDR_STAT_HFSTATE : Field := ⟨0x4004300C, 0, 3, 0x0, 0x0⟩
def RDR_STAT_CARD : Field := ⟨0x4004300C, 3, 2, 0x0, 0x0⟩
def RDR_STAT_CARDPRES : Field := ⟨0x4004300C, 5, 1, 0x0, 0x0⟩
def RDR_STAT_UHFSTATE : Field := ⟨0x4004300C, 6, 2, 0x0, 0x0⟩
def RDR_STAT_TUNEOK : Field := ⟨0x4004300C, 8, 1, 0x0, 0x0⟩
def RDR_HFCFG_MAXRATE : Field := ⟨0x40043040, 0, 2, 0x0, 0x0⟩
def RDR_HFCFG_ONECARD : Field := ⟨0x40043040, 2, 1, 0x0, 0x0⟩
def RDR_HFCFG_AUTORATS : Field := ⟨0x40043040, 3, 1, 0x0, 0x0⟩
def RDR_HFCFG_WAITLVL : Field := ⟨0x40043040, 8, 4, 0x0, 0x0⟩
def RDR_HFCFG_ACTTO : Field := ⟨0x40043040, 16, 8, 0x0, 0x0⟩
def RDR_HFCFG_DRIVE : Field := ⟨0x40043040, 24, 8, 0x0, 0x0⟩
def RDR_HFCMD_OP : Field := ⟨0x40043044, 0, 2, 0x0, 0x0⟩
def RDR_HFCMD_TXLEN : Field := ⟨0x40043044, 16, 11, 0x0, 0x0⟩
def RDR_HFXST_RXLEN : Field := ⟨0x40043048, 0, 11, 0x0, 0x0⟩
def RDR_HFXST_XRES : Field := ⟨0x40043048, 16, 3, 0x0, 0x0⟩
def RDR_HFCARD_ATQA : Field := ⟨0x4004304C, 0, 16, 0x0, 0x0⟩
def RDR_HFCARD_SAK : Field := ⟨0x4004304C, 16, 8, 0x0, 0x0⟩
def RDR_HFCARD_UIDLEN : Field := ⟨0x4004304C, 24, 4, 0x0, 0x0⟩
def RDR_HFCARD_RATE : Field := ⟨0x4004304C, 28, 2, 0x0, 0x0⟩
def RDR_HFCARD_ISODEP : Field := ⟨0x4004304C, 30, 1, 0x0, 0x0⟩
def RDR_HFCARD_MULTI : Field := ⟨0x4004304C, 31, 1, 0x0, 0x0⟩
def RDR_HFUID : Field := ⟨0x40043050, 0, 128, 0x0, 0x0⟩
def RDR_HFATS : Field := ⟨0x40043060, 0, 256, 0x0, 0x0⟩
def RDR_HFCNT_CARDS : Field := ⟨0x40043080, 0, 8, 0x0, 0x0⟩
def RDR_HFCNT_ERRS : Field := ⟨0x40043080, 8, 8, 0x0, 0x0⟩
def RDR_HFCNT_COLLS : Field := ⟨0x40043080, 16, 8, 0x0, 0x0⟩
def RDR_HFCNT_GONE : Field := ⟨0x40043080, 24, 8, 0x0, 0x0⟩
def RDR_UHFCFG_REGION : Field := ⟨0x40043090, 0, 1, 0x0, 0x0⟩
def RDR_UHFCFG_TXPWR : Field := ⟨0x40043090, 1, 5, 0x0, 0x0⟩
def RDR_UHFCFG_SESSION : Field := ⟨0x40043090, 6, 2, 0x0, 0x0⟩
def RDR_UHFCFG_TARGET : Field := ⟨0x40043090, 8, 1, 0x0, 0x0⟩
def RDR_UHFCFG_Q0 : Field := ⟨0x40043090, 9, 4, 0x0, 0x0⟩
def RDR_UHFCFG_TIDREAD : Field := ⟨0x40043090, 13, 1, 0x0, 0x0⟩
def RDR_UHFCFG_MODE : Field := ⟨0x40043090, 14, 1, 0x0, 0x0⟩
def RDR_UHFCFG_HOLD : Field := ⟨0x40043090, 16, 8, 0x0, 0x0⟩
def RDR_UHFPER_MS : Field := ⟨0x40043094, 0, 13, 0x0, 0x0⟩
def RDR_UHFSEL_SELEN : Field := ⟨0x40043098, 0, 1, 0x0, 0x0⟩
def RDR_UHFSEL_LEN : Field := ⟨0x40043098, 1, 7, 0x0, 0x0⟩
def RDR_UHFSEL_POINTER : Field := ⟨0x40043098, 8, 8, 0x0, 0x0⟩
def RDR_UHFMASK : Field := ⟨0x400430A0, 0, 32, 0x4, 0x0⟩
def RDR_UHFQ_N : Field := ⟨0x400430B0, 0, 4, 0x0, 0x0⟩
def RDR_UHFQ_HEAD : Field := ⟨0x400430B0, 4, 3, 0x0, 0x0⟩
def RDR_UHFQ_DROP : Field := ⟨0x400430B0, 8, 8, 0x0, 0x0⟩
def RDR_UHFPOP_POP : Field := ⟨0x400430B4, 0, 1, 0x0, 0x0⟩
def RDR_UHFCNT_ROUNDS : Field := ⟨0x400430B8, 0, 8, 0x0, 0x0⟩
def RDR_UHFCNT_TAGS : Field := ⟨0x400430B8, 8, 8, 0x0, 0x0⟩
def RDR_UHFCNT_CRC : Field := ⟨0x400430B8, 16, 8, 0x0, 0x0⟩
def RDR_UHFCNT_TIDFAIL : Field := ⟨0x400430B8, 24, 8, 0x0, 0x0⟩
def RDR_HFTXBUF : Field := ⟨0x40043400, 0, 32, 0x4, 0x0⟩
def RDR_HFRXBUF : Field := ⟨0x40043800, 0, 32, 0x4, 0x0⟩
def RDR_TAG : Field := ⟨0x40043C00, 0, 32, 0x60, 0x4⟩
/-! ### EPD -/
def EPD_CTL_EN : Field := ⟨0x40050008, 0, 1, 0x0, 0x0⟩
def EPD_STAT_RAILST : Field := ⟨0x4005000C, 0, 2, 0x0, 0x0⟩
def EPD_STAT_WAVEOK : Field := ⟨0x4005000C, 2, 1, 0x0, 0x0⟩
def EPD_STAT_LEGALSTALE : Field := ⟨0x4005000C, 3, 1, 0x0, 0x0⟩
def EPD_STAT_L0LATE : Field := ⟨0x4005000C, 4, 1, 0x0, 0x0⟩
def EPD_STAT_L1LATE : Field := ⟨0x4005000C, 5, 1, 0x0, 0x0⟩
def EPD_STAT_L2LATE : Field := ⟨0x4005000C, 6, 1, 0x0, 0x0⟩
def EPD_STAT_PFABORT : Field := ⟨0x4005000C, 7, 1, 0x0, 0x0⟩
def EPD_STAT_INFLIGHT : Field := ⟨0x4005000C, 8, 4, 0x0, 0x0⟩
def EPD_STAT_BAND : Field := ⟨0x4005000C, 12, 4, 0x0, 0x0⟩
def EPD_STAT_RAILHELD : Field := ⟨0x4005000C, 16, 1, 0x0, 0x0⟩
def EPD_PANEL_W : Field := ⟨0x40050040, 0, 11, 0x0, 0x0⟩
def EPD_PANEL_H : Field := ⟨0x40050040, 16, 11, 0x0, 0x0⟩
def EPD_PANELID : Field := ⟨0x40050044, 0, 32, 0x0, 0x0⟩
def EPD_LEGALRECT_LX : Field := ⟨0x40050048, 0, 11, 0x0, 0x0⟩
def EPD_LEGALRECT_LY : Field := ⟨0x40050048, 16, 11, 0x0, 0x0⟩
def EPD_LEGALRECT_LW : Field := ⟨0x4005004C, 0, 11, 0x0, 0x0⟩
def EPD_LEGALRECT_LH : Field := ⟨0x4005004C, 16, 11, 0x0, 0x0⟩
def EPD_WAVEVER : Field := ⟨0x40050050, 0, 32, 0x0, 0x0⟩
def EPD_FRAMECFG_IDLERATE : Field := ⟨0x40050054, 0, 7, 0x0, 0x0⟩
def EPD_FRAMECFG_RAILHOLD : Field := ⟨0x40050054, 16, 14, 0x0, 0x0⟩
def EPD_VCOMADJ_MV : Field := ⟨0x40050058, 0, 11, 0x0, 0x0⟩
def EPD_RATE_HZ : Field := ⟨0x4005005C, 0, 7, 0x0, 0x0⟩
def EPD_FRAMENO : Field := ⟨0x40050060, 0, 32, 0x0, 0x0⟩
def EPD_TEMP_T : Field := ⟨0x40050064, 0, 12, 0x0, 0x0⟩
def EPD_TEMP_TFAULT : Field := ⟨0x40050064, 16, 1, 0x0, 0x0⟩
def EPD_REFUSE_REASON : Field := ⟨0x40050068, 0, 3, 0x0, 0x0⟩
def EPD_REFUSE_LAYER : Field := ⟨0x40050068, 4, 2, 0x0, 0x0⟩
def EPD_CNT_TAKEN : Field := ⟨0x4005006C, 0, 8, 0x0, 0x0⟩
def EPD_CNT_REFUSED : Field := ⟨0x4005006C, 8, 8, 0x0, 0x0⟩
def EPD_CNT_DISC : Field := ⟨0x4005006C, 16, 8, 0x0, 0x0⟩
def EPD_CNT_ALMS : Field := ⟨0x4005006C, 24, 8, 0x0, 0x0⟩
def EPD_LCTL_OPEN : Field := ⟨0x40050080, 0, 1, 0x4, 0x0⟩
def EPD_LCTL_L0ON : Field := ⟨0x40050080, 1, 1, 0x4, 0x0⟩
def EPD_LREQ_X : Field := ⟨0x40050090, 0, 11, 0x8, 0x0⟩
def EPD_LREQ_Y : Field := ⟨0x40050090, 16, 11, 0x8, 0x0⟩
def EPD_LREQ_W : Field := ⟨0x40050094, 0, 11, 0x8, 0x0⟩
def EPD_LREQ_H : Field := ⟨0x40050094, 16, 11, 0x8, 0x0⟩
def EPD_LREQ_MODE : Field := ⟨0x40050094, 28, 2, 0x8, 0x0⟩
def EPD_LQ_N : Field := ⟨0x400500B0, 0, 4, 0x4, 0x0⟩
def EPD_LQ_CONSEC : Field := ⟨0x400500B0, 8, 8, 0x4, 0x0⟩
def EPD_LQ_LATES : Field := ⟨0x400500B0, 16, 16, 0x4, 0x0⟩
def EPD_SLOT_X : Field := ⟨0x40050200, 0, 11, 0x10, 0x0⟩
def EPD_SLOT_Y : Field := ⟨0x40050200, 16, 11, 0x10, 0x0⟩
def EPD_SLOT_W : Field := ⟨0x40050204, 0, 11, 0x10, 0x0⟩
def EPD_SLOT_H : Field := ⟨0x40050204, 16, 11, 0x10, 0x0⟩
def EPD_SLOT_LAYER : Field := ⟨0x40050208, 0, 2, 0x10, 0x0⟩
def EPD_SLOT_MODE : Field := ⟨0x40050208, 2, 2, 0x10, 0x0⟩
def EPD_SLOT_BAND : Field := ⟨0x40050208, 4, 4, 0x10, 0x0⟩
def EPD_SLOT_FRAME : Field := ⟨0x40050208, 8, 6, 0x10, 0x0⟩
def EPD_SLOT_NFRAMES : Field := ⟨0x40050208, 16, 6, 0x10, 0x0⟩
def EPD_SLOT_BUSY : Field := ⟨0x40050208, 31, 1, 0x10, 0x0⟩
def EPD_SLOT_FRAMENO : Field := ⟨0x4005020C, 0, 32, 0x10, 0x0⟩
/-! ### AUD -/
def AUD_CTL_EN : Field := ⟨0x40051008, 0, 1, 0x0, 0x0⟩
def AUD_STAT_PLAYING : Field := ⟨0x4005100C, 0, 1, 0x0, 0x0⟩
def AUD_STAT_UNDERRUN : Field := ⟨0x4005100C, 1, 1, 0x0, 0x0⟩
def AUD_STAT_FAULT : Field := ⟨0x4005100C, 2, 1, 0x0, 0x0⟩
def AUD_STAT_HELD : Field := ⟨0x4005100C, 3, 1, 0x0, 0x0⟩
def AUD_CFG_VOL0 : Field := ⟨0x40051040, 0, 7, 0x0, 0x0⟩
def AUD_CFG_VOL1 : Field := ⟨0x40051040, 8, 7, 0x0, 0x0⟩
def AUD_CFG_RING : Field := ⟨0x40051040, 16, 8, 0x0, 0x0⟩
def AUD_LEVEL_PEAK : Field := ⟨0x40051044, 0, 16, 0x0, 0x0⟩
def AUD_CNT_UNDER : Field := ⟨0x40051048, 0, 8, 0x0, 0x0⟩
def AUD_CNT_LIMITED : Field := ⟨0x40051048, 8, 8, 0x0, 0x0⟩
def AUD_CNT_FAULTS : Field := ⟨0x40051048, 16, 8, 0x0, 0x0⟩
/-! ### DMA -/
def DMA_STAT_ACTIVE : Field := ⟨0x4006000C, 0, 1, 0x0, 0x0⟩
def DMA_STAT_ANYHALT : Field := ⟨0x4006000C, 1, 1, 0x0, 0x0⟩
def DMA_ARB_C1SHARE : Field := ⟨0x40060040, 0, 3, 0x0, 0x0⟩
def DMA_ARB_W2 : Field := ⟨0x40060040, 4, 4, 0x0, 0x0⟩
def DMA_ARB_W3 : Field := ⟨0x40060040, 8, 4, 0x0, 0x0⟩
def DMA_ARB_DEFLIM : Field := ⟨0x40060040, 16, 8, 0x0, 0x0⟩
def DMA_CLASSGR : Field := ⟨0x40060050, 0, 32, 0x4, 0x0⟩
def DMA_HALTED : Field := ⟨0x40060060, 0, 32, 0x4, 0x0⟩
def DMA_DEFERRED : Field := ⟨0x40060080, 0, 32, 0x4, 0x0⟩
def DMA_ACTIVE : Field := ⟨0x400600A0, 0, 32, 0x4, 0x0⟩
def DMA_LASTHALT_RING : Field := ⟨0x400600C0, 0, 8, 0x0, 0x0⟩
def DMA_LASTHALT_CAUSE : Field := ⟨0x400600C0, 8, 3, 0x0, 0x0⟩
/-! ### RING -/
def RING_CTL_EN : Field := ⟨0x40061000, 0, 1, 0x40, 0x0⟩
def RING_CTL_STREAM : Field := ⟨0x40061000, 1, 1, 0x40, 0x0⟩
def RING_CTL_C3 : Field := ⟨0x40061000, 2, 1, 0x40, 0x0⟩
def RING_CTL_SIZE : Field := ⟨0x40061000, 8, 4, 0x40, 0x0⟩
def RING_STAT_STATE : Field := ⟨0x40061004, 0, 3, 0x40, 0x0⟩
def RING_STAT_PORT : Field := ⟨0x40061004, 8, 6, 0x40, 0x0⟩
def RING_STAT_HALTC : Field := ⟨0x40061004, 16, 3, 0x40, 0x0⟩
def RING_STAT_DEFERRED : Field := ⟨0x40061004, 20, 1, 0x40, 0x0⟩
def RING_BASE_A : Field := ⟨0x40061008, 5, 35, 0x40, 0x0⟩
def RING_HEAD_IDX : Field := ⟨0x40061010, 0, 12, 0x40, 0x0⟩
def RING_HEAD_WBS : Field := ⟨0x40061010, 16, 16, 0x40, 0x0⟩
def RING_CMD_KICK : Field := ⟨0x40061014, 0, 1, 0x40, 0x0⟩
def RING_CMD_ABORT : Field := ⟨0x40061014, 1, 1, 0x40, 0x0⟩
def RING_CMD_RESUME : Field := ⟨0x40061014, 2, 1, 0x40, 0x0⟩
def RING_CMD_RESET : Field := ⟨0x40061014, 3, 1, 0x40, 0x0⟩
def RING_SEL_MASK : Field := ⟨0x40061018, 0, 24, 0x40, 0x0⟩
def RING_IRQ_DONE : Field := ⟨0x4006101C, 0, 1, 0x40, 0x0⟩
def RING_IRQ_HALT : Field := ⟨0x4006101C, 1, 1, 0x40, 0x0⟩
def RING_IRQ_ABORT : Field := ⟨0x4006101C, 2, 1, 0x40, 0x0⟩
def RING_IRQ_OVFL : Field := ⟨0x4006101C, 3, 1, 0x40, 0x0⟩
def RING_IRQ_DEFER : Field := ⟨0x4006101C, 4, 1, 0x40, 0x0⟩
def RING_IRQEN_EN : Field := ⟨0x40061020, 0, 5, 0x40, 0x0⟩
def RING_WAIT_N : Field := ⟨0x40061024, 0, 16, 0x40, 0x0⟩
def RING_WAITMAX_MAX : Field := ⟨0x40061028, 0, 16, 0x40, 0x0⟩
def RING_WAITMAX_DEFERS : Field := ⟨0x40061028, 16, 16, 0x40, 0x0⟩
def RING_DROP_N : Field := ⟨0x4006102C, 0, 16, 0x40, 0x0⟩
def RING_ERRADDR_A : Field := ⟨0x40061030, 0, 40, 0x40, 0x0⟩
def RING_ERRST_DIR : Field := ⟨0x40061038, 0, 1, 0x40, 0x0⟩
def RING_ERRST_CAUSE : Field := ⟨0x40061038, 1, 3, 0x40, 0x0⟩
def RING_ERRST_LATE : Field := ⟨0x40061038, 4, 1, 0x40, 0x0⟩
def RING_ERRST_IDX : Field := ⟨0x40061038, 16, 12, 0x40, 0x0⟩
/-! ### U -/
def U_CTL_EN : Field := ⟨0x40070008, 0, 1, 0x1000, 0x0⟩
def U_CTL_RXEN : Field := ⟨0x40070008, 1, 1, 0x1000, 0x0⟩
def U_CTL_TXEN : Field := ⟨0x40070008, 2, 1, 0x1000, 0x0⟩
def U_STAT_TXBUSY : Field := ⟨0x4007000C, 0, 1, 0x1000, 0x0⟩
def U_STAT_RXBUSY : Field := ⟨0x4007000C, 1, 1, 0x1000, 0x0⟩
def U_STAT_CTS : Field := ⟨0x4007000C, 2, 1, 0x1000, 0x0⟩
def U_STAT_RTS : Field := ⟨0x4007000C, 3, 1, 0x1000, 0x0⟩
def U_STAT_DE : Field := ⟨0x4007000C, 4, 1, 0x1000, 0x0⟩
def U_STAT_TXHOLD : Field := ⟨0x4007000C, 5, 1, 0x1000, 0x0⟩
def U_FMT_DATA : Field := ⟨0x40070040, 0, 2, 0x1000, 0x0⟩
def U_FMT_PARITY : Field := ⟨0x40070040, 2, 2, 0x1000, 0x0⟩
def U_FMT_STOP2 : Field := ⟨0x40070040, 4, 1, 0x1000, 0x0⟩
def U_FMT_QSIZE : Field := ⟨0x40070040, 8, 2, 0x1000, 0x0⟩
def U_BAUD_BRD : Field := ⟨0x40070044, 0, 22, 0x1000, 0x0⟩
def U_FLOW_RTSEN : Field := ⟨0x40070048, 0, 1, 0x1000, 0x0⟩
def U_FLOW_CTSEN : Field := ⟨0x40070048, 1, 1, 0x1000, 0x0⟩
def U_FLOW_RTSOFF : Field := ⟨0x40070048, 8, 7, 0x1000, 0x0⟩
def U_FLOW_RTSON : Field := ⟨0x40070048, 16, 7, 0x1000, 0x0⟩
def U_TRIG_RXTRIG : Field := ⟨0x4007004C, 0, 8, 0x1000, 0x0⟩
def U_TRIG_TXTRIG : Field := ⟨0x4007004C, 8, 8, 0x1000, 0x0⟩
def U_TRIG_IDLEG : Field := ⟨0x4007004C, 16, 8, 0x1000, 0x0⟩
def U_RXDATA : Field := ⟨0x40070050, 0, 32, 0x1000, 0x0⟩
def U_TXDATA_CH : Field := ⟨0x40070054, 0, 8, 0x1000, 0x0⟩
def U_QLEVEL_RX : Field := ⟨0x40070058, 0, 8, 0x1000, 0x0⟩
def U_QLEVEL_TX : Field := ⟨0x40070058, 16, 8, 0x1000, 0x0⟩
def U_CMD_RXFLUSH : Field := ⟨0x4007005C, 0, 1, 0x1000, 0x0⟩
def U_CMD_TXFLUSH : Field := ⟨0x4007005C, 1, 1, 0x1000, 0x0⟩
def U_CMD_BRK : Field := ⟨0x4007005C, 2, 1, 0x1000, 0x0⟩
def U_CMD_TXRESUME : Field := ⟨0x4007005C, 3, 1, 0x1000, 0x0⟩
def U_RINGS_RXRING : Field := ⟨0x40070060, 0, 8, 0x1000, 0x0⟩
def U_RINGS_RXR : Field := ⟨0x40070060, 8, 1, 0x1000, 0x0⟩
def U_RINGS_WIDE : Field := ⟨0x40070060, 9, 1, 0x1000, 0x0⟩
def U_RINGS_TXRING : Field := ⟨0x40070060, 16, 8, 0x1000, 0x0⟩
def U_RINGS_TXR : Field := ⟨0x40070060, 24, 1, 0x1000, 0x0⟩
def U_CNT_OVW : Field := ⟨0x40070064, 0, 8, 0x1000, 0x0⟩
def U_CNT_FE : Field := ⟨0x40070064, 8, 8, 0x1000, 0x0⟩
def U_CNT_PE : Field := ⟨0x40070064, 16, 8, 0x1000, 0x0⟩
def U_CNT_BRK : Field := ⟨0x40070064, 24, 8, 0x1000, 0x0⟩
def U_CNT2_DISC : Field := ⟨0x40070068, 0, 8, 0x1000, 0x0⟩
def U_CNT2_COLL : Field := ⟨0x40070068, 8, 8, 0x1000, 0x0⟩
def U_CNT2_DRVF : Field := ⟨0x40070068, 16, 8, 0x1000, 0x0⟩
def U_RS485_DEPRE : Field := ⟨0x40070070, 0, 4, 0x1000, 0x0⟩
def U_RS485_DEPOST : Field := ⟨0x40070070, 4, 4, 0x1000, 0x0⟩
def U_RS485_ECHO : Field := ⟨0x40070070, 8, 1, 0x1000, 0x0⟩
def U_RS485_CDSTOP : Field := ⟨0x40070070, 9, 1, 0x1000, 0x0⟩
def U_RS485_TERM : Field := ⟨0x40070070, 10, 1, 0x1000, 0x0⟩
def U_RS485_BIAS : Field := ⟨0x40070070, 11, 1, 0x1000, 0x0⟩
/-! ### TW -/
def TW_CTL_EN : Field := ⟨0x40074008, 0, 1, 0x1000, 0x0⟩
def TW_CTL_CTLEN : Field := ⟨0x40074008, 1, 1, 0x1000, 0x0⟩
def TW_CTL_TGTEN : Field := ⟨0x40074008, 2, 1, 0x1000, 0x0⟩
def TW_STAT_BUSY : Field := ⟨0x4007400C, 0, 1, 0x1000, 0x0⟩
def TW_STAT_CTLACT : Field := ⟨0x4007400C, 1, 1, 0x1000, 0x0⟩
def TW_STAT_TGTACT : Field := ⟨0x4007400C, 2, 1, 0x1000, 0x0⟩
def TW_STAT_TGTREAD : Field := ⟨0x4007400C, 3, 1, 0x1000, 0x0⟩
def TW_STAT_SCL : Field := ⟨0x4007400C, 4, 1, 0x1000, 0x0⟩
def TW_STAT_SDA : Field := ⟨0x4007400C, 5, 1, 0x1000, 0x0⟩
def TW_STAT_HOLD : Field := ⟨0x4007400C, 6, 1, 0x1000, 0x0⟩
def TW_CFG_SPEED : Field := ⟨0x40074040, 0, 2, 0x1000, 0x0⟩
def TW_CFG_GCEN : Field := ⟨0x40074040, 2, 1, 0x1000, 0x0⟩
def TW_CFG_STRETCH : Field := ⟨0x40074040, 3, 1, 0x1000, 0x0⟩
def TW_CFG_RETRY : Field := ⟨0x40074040, 4, 3, 0x1000, 0x0⟩
def TW_CFG_TOUT : Field := ⟨0x40074040, 8, 8, 0x1000, 0x0⟩
def TW_OWNADDR_ADDR : Field := ⟨0x40074044, 0, 10, 0x1000, 0x0⟩
def TW_OWNADDR_TEN10 : Field := ⟨0x40074044, 10, 1, 0x1000, 0x0⟩
def TW_XFER_ADDR : Field := ⟨0x40074048, 0, 10, 0x1000, 0x0⟩
def TW_XFER_TEN10 : Field := ⟨0x40074048, 10, 1, 0x1000, 0x0⟩
def TW_XFER_READ : Field := ⟨0x40074048, 11, 1, 0x1000, 0x0⟩
def TW_XFER_LEN : Field := ⟨0x40074048, 12, 8, 0x1000, 0x0⟩
def TW_XFER_STOP : Field := ⟨0x40074048, 20, 1, 0x1000, 0x0⟩
def TW_XFER_GO : Field := ⟨0x40074048, 21, 1, 0x1000, 0x0⟩
def TW_XRES_RESULT : Field := ⟨0x4007404C, 0, 3, 0x1000, 0x0⟩
def TW_XRES_BYTES : Field := ⟨0x4007404C, 8, 8, 0x1000, 0x0⟩
def TW_XRES_RETRIES : Field := ⟨0x4007404C, 16, 3, 0x1000, 0x0⟩
def TW_RXDATA : Field := ⟨0x40074050, 0, 32, 0x1000, 0x0⟩
def TW_TXDATA_BYTE : Field := ⟨0x40074054, 0, 8, 0x1000, 0x0⟩
def TW_QLEVEL_RX : Field := ⟨0x40074058, 0, 6, 0x1000, 0x0⟩
def TW_QLEVEL_TX : Field := ⟨0x40074058, 16, 6, 0x1000, 0x0⟩
def TW_TRIG_RXTRIG : Field := ⟨0x4007405C, 0, 6, 0x1000, 0x0⟩
def TW_TRIG_TXTRIG : Field := ⟨0x4007405C, 8, 6, 0x1000, 0x0⟩
def TW_TGTINFO_ADDR : Field := ⟨0x40074060, 0, 10, 0x1000, 0x0⟩
def TW_TGTINFO_READ : Field := ⟨0x40074060, 10, 1, 0x1000, 0x0⟩
def TW_TGTINFO_GC : Field := ⟨0x40074060, 11, 1, 0x1000, 0x0⟩
def TW_CMD_ABORT : Field := ⟨0x40074064, 0, 1, 0x1000, 0x0⟩
def TW_CMD_BUSCLEAR : Field := ⟨0x40074064, 1, 1, 0x1000, 0x0⟩
def TW_CMD_RXFLUSH : Field := ⟨0x40074064, 2, 1, 0x1000, 0x0⟩
def TW_CMD_TXFLUSH : Field := ⟨0x40074064, 3, 1, 0x1000, 0x0⟩
def TW_RINGS_RXRING : Field := ⟨0x40074068, 0, 8, 0x1000, 0x0⟩
def TW_RINGS_RXR : Field := ⟨0x40074068, 8, 1, 0x1000, 0x0⟩
def TW_RINGS_TXRING : Field := ⟨0x40074068, 16, 8, 0x1000, 0x0⟩
def TW_RINGS_TXR : Field := ⟨0x40074068, 24, 1, 0x1000, 0x0⟩
def TW_CNT_LOST : Field := ⟨0x4007406C, 0, 8, 0x1000, 0x0⟩
def TW_CNT_SWITCH : Field := ⟨0x4007406C, 8, 8, 0x1000, 0x0⟩
def TW_CNT_TOUTS : Field := ⟨0x4007406C, 16, 8, 0x1000, 0x0⟩
def TW_CNT_DISC : Field := ⟨0x4007406C, 24, 8, 0x1000, 0x0⟩
/-! ### ETH -/
def ETH_CTL_EN : Field := ⟨0x40076008, 0, 1, 0x0, 0x0⟩
def ETH_CTL_RXEN : Field := ⟨0x40076008, 1, 1, 0x0, 0x0⟩
def ETH_CTL_TXEN : Field := ⟨0x40076008, 2, 1, 0x0, 0x0⟩
def ETH_CTL_PROMISC : Field := ⟨0x40076008, 3, 1, 0x0, 0x0⟩
def ETH_CTL_ALLMULTI : Field := ⟨0x40076008, 4, 1, 0x0, 0x0⟩
def ETH_CTL_BCDIS : Field := ⟨0x40076008, 5, 1, 0x0, 0x0⟩
def ETH_CTL_PAUSEEN : Field := ⟨0x40076008, 6, 1, 0x0, 0x0⟩
def ETH_STAT_LINK : Field := ⟨0x4007600C, 0, 1, 0x0, 0x0⟩
def ETH_STAT_SPEED100 : Field := ⟨0x4007600C, 1, 1, 0x0, 0x0⟩
def ETH_STAT_FULL : Field := ⟨0x4007600C, 2, 1, 0x0, 0x0⟩
def ETH_STAT_ANDONE : Field := ⟨0x4007600C, 3, 1, 0x0, 0x0⟩
def ETH_STAT_MDIX : Field := ⟨0x4007600C, 4, 1, 0x0, 0x0⟩
def ETH_STAT_PAUSED : Field := ⟨0x4007600C, 5, 1, 0x0, 0x0⟩
def ETH_PHYCFG_ANEN : Field := ⟨0x40076040, 0, 1, 0x0, 0x0⟩
def ETH_PHYCFG_FORCE100 : Field := ⟨0x40076040, 1, 1, 0x0, 0x0⟩
def ETH_PHYCFG_FORCEFULL : Field := ⟨0x40076040, 2, 1, 0x0, 0x0⟩
def ETH_PHYCFG_ADV : Field := ⟨0x40076040, 3, 4, 0x0, 0x0⟩
def ETH_PHYCFG_PAUSE : Field := ⟨0x40076040, 7, 1, 0x0, 0x0⟩
def ETH_MAC_ADDR : Field := ⟨0x40076044, 0, 48, 0x0, 0x0⟩
def ETH_ADDR_ADDR : Field := ⟨0x40076050, 0, 48, 0x0, 0x0⟩
def ETH_MC_ADDR : Field := ⟨0x40076060, 0, 48, 0x8, 0x0⟩
def ETH_MC_VALID : Field := ⟨0x40076064, 31, 1, 0x8, 0x0⟩
def ETH_RINGS_RXRING : Field := ⟨0x400760E0, 0, 8, 0x0, 0x0⟩
def ETH_RINGS_RXR : Field := ⟨0x400760E0, 8, 1, 0x0, 0x0⟩
def ETH_RINGS_TXRING : Field := ⟨0x400760E0, 16, 8, 0x0, 0x0⟩
def ETH_RINGS_TXR : Field := ⟨0x400760E0, 24, 1, 0x0, 0x0⟩
def ETH_CNT_FCS : Field := ⟨0x400760E4, 0, 8, 0x0, 0x0⟩
def ETH_CNT_NODESC : Field := ⟨0x400760E4, 8, 8, 0x0, 0x0⟩
def ETH_CNT_LENERR : Field := ⟨0x400760E4, 16, 8, 0x0, 0x0⟩
def ETH_CNT_TXDISC : Field := ⟨0x400760E4, 24, 8, 0x0, 0x0⟩
def ETH_CNT2_COLL : Field := ⟨0x400760E8, 0, 8, 0x0, 0x0⟩
def ETH_CNT2_LATE : Field := ⟨0x400760E8, 8, 8, 0x0, 0x0⟩
def ETH_CNT2_PAUSES : Field := ⟨0x400760E8, 16, 8, 0x0, 0x0⟩
/-! ### UPD -/
def UPD_CTL_FOLLOW : Field := ⟨0x40080008, 0, 1, 0x0, 0x0⟩
def UPD_CTL_EXPID : Field := ⟨0x40080008, 1, 3, 0x0, 0x0⟩
def UPD_STAT_STATE : Field := ⟨0x4008000C, 0, 3, 0x0, 0x0⟩
def UPD_STAT_BUSY : Field := ⟨0x4008000C, 3, 1, 0x0, 0x0⟩
def UPD_STAT_PENDING : Field := ⟨0x4008000C, 4, 1, 0x0, 0x0⟩
def UPD_STAT_TGTBANK : Field := ⟨0x4008000C, 5, 1, 0x0, 0x0⟩
def UPD_STAT_TWOK : Field := ⟨0x4008000C, 6, 1, 0x0, 0x0⟩
def UPD_STAT_SETBLK : Field := ⟨0x4008000C, 7, 1, 0x0, 0x0⟩
def UPD_STAT_ENGIDLE : Field := ⟨0x4008000C, 8, 1, 0x0, 0x0⟩
def UPD_CMD_OP : Field := ⟨0x40080040, 0, 4, 0x0, 0x0⟩
def UPD_ARG_PART : Field := ⟨0x40080044, 0, 6, 0x0, 0x0⟩
def UPD_ARG_AMODE : Field := ⟨0x40080044, 8, 1, 0x0, 0x0⟩
def UPD_SRC_A : Field := ⟨0x40080048, 0, 40, 0x0, 0x0⟩
def UPD_OFS : Field := ⟨0x40080050, 0, 32, 0x0, 0x0⟩
def UPD_LEN_N : Field := ⟨0x40080054, 0, 17, 0x0, 0x0⟩
def UPD_RES_RESULT : Field := ⟨0x40080058, 0, 5, 0x0, 0x0⟩
def UPD_RES_PART : Field := ⟨0x40080058, 8, 6, 0x0, 0x0⟩
def UPD_RES_OP : Field := ⟨0x40080058, 16, 4, 0x0, 0x0⟩
def UPD_ACTCYC : Field := ⟨0x40080060, 0, 64, 0x0, 0x0⟩
def UPD_PENDCMD : Field := ⟨0x40080068, 0, 32, 0x0, 0x0⟩
def UPD_PEND_STARTS : Field := ⟨0x4008006C, 0, 3, 0x0, 0x0⟩
def UPD_PEND_SLEFT : Field := ⟨0x4008006C, 8, 17, 0x0, 0x0⟩
def UPD_BANKS_CONF_SPR : Field := ⟨0x40080070, 0, 1, 0x0, 0x0⟩
def UPD_BANKS_CONF_AUT : Field := ⟨0x40080070, 1, 1, 0x0, 0x0⟩
def UPD_BANKS_COMPL_SPR : Field := ⟨0x40080070, 2, 1, 0x0, 0x0⟩
def UPD_BANKS_COMPL_AUT : Field := ⟨0x40080070, 3, 1, 0x0, 0x0⟩
def UPD_ACTST_ACTID : Field := ⟨0x40080074, 0, 3, 0x0, 0x0⟩
def UPD_ACTST_VALID : Field := ⟨0x40080074, 3, 1, 0x0, 0x0⟩
def UPD_ACTST_ABORTSEEN : Field := ⟨0x40080074, 4, 1, 0x0, 0x0⟩
def UPD_ACTST_COMMITSEEN : Field := ⟨0x40080074, 5, 1, 0x0, 0x0⟩
def UPD_REQMAP : Field := ⟨0x40080078, 0, 32, 0x0, 0x0⟩
def UPD_ARMMAP : Field := ⟨0x4008007C, 0, 32, 0x0, 0x0⟩
def UPD_CUSTKEY : Field := ⟨0x40080080, 0, 32, 0x4, 0x0⟩
def UPD_RQSEQ : Field := ⟨0x400800C0, 0, 32, 0x0, 0x0⟩
def UPD_FLOOR : Field := ⟨0x40080104, 0, 32, 0x4, 0x0⟩
def UPD_PART_BYTES : Field := ⟨0x40080200, 0, 32, 0x8, 0x0⟩
def UPD_PART_ST : Field := ⟨0x40080204, 0, 2, 0x8, 0x0⟩
def UPD_PART_KEEP : Field := ⟨0x40080204, 2, 1, 0x8, 0x0⟩
/-! ### PAT -/
def PAT_CTL_GEN : Field := ⟨0x00000F00, 0, 1, 0x0, 0x0⟩
def PAT_CTL_CHK : Field := ⟨0x00000F00, 1, 1, 0x0, 0x0⟩
def PAT_CTL_PATTERN : Field := ⟨0x00000F00, 2, 4, 0x0, 0x0⟩
def PAT_CTL_INV : Field := ⟨0x00000F00, 6, 1, 0x0, 0x0⟩
def PAT_CTL_LOOP : Field := ⟨0x00000F00, 7, 2, 0x0, 0x0⟩
def PAT_CTL_SLOTS : Field := ⟨0x00000F00, 9, 2, 0x0, 0x0⟩
def PAT_STAT_GENON : Field := ⟨0x00000F04, 0, 1, 0x0, 0x0⟩
def PAT_STAT_LOOPON : Field := ⟨0x00000F04, 1, 1, 0x0, 0x0⟩
def PAT_STAT_SYNC : Field := ⟨0x00000F04, 2, 3, 0x0, 0x0⟩
def PAT_WORD : Field := ⟨0x00000F08, 0, 32, 0x0, 0x0⟩
def PAT_INJ_INJ : Field := ⟨0x00000F0C, 0, 1, 0x0, 0x0⟩
def PAT_BITS : Field := ⟨0x00000F10, 0, 64, 0x0, 0x0⟩
def PAT_ERR : Field := ⟨0x00000F18, 0, 64, 0x8, 0x0⟩
def PAT_SLIP_LOSSES : Field := ⟨0x00000F30, 0, 16, 0x0, 0x0⟩
def PAT_SLIP_MISSING : Field := ⟨0x00000F30, 16, 16, 0x0, 0x0⟩

end F


/-- The access codes of Table 0-3, with the conditional ones that the register tables state: `rwOff` and `rwlOff` are
writable while the EN bit of the register's block is 0 and RO otherwise; `rwVeh` is RW in vehicle role and RO otherwise;
`wol` is a WO field of the legal domain; `layer` and `layer0` are the panel-layer fields (RWL for layer 0, RW for
layers 1 and 2; `layer0` exists on layer 0 only); `slot` is the tenant slot block shown by TEN.SLOTSEL; `pat` is PAT.CTL
(RW, RWS on the HEAD pages). -/
inductive Access where
  | rw | ro | w1c | w1s | wo | wol | rc | rws | rwl
  | rwOff | rwlOff | rwVeh | layer | layer0 | slot | pat
deriving DecidableEq, Repr

/-- One row of the access map: the piece of a field that lies in one word, its access code, the count and stride of each
index of its register, and the inclusive ranges of the values its table lists (empty: every value). -/
structure FieldRow where
  addr : Nat
  lo : Nat
  width : Nat
  acc : Access
  reps : List (Nat × Nat)
  legal : List (Nat × Nat)
deriving DecidableEq, Repr

/-- Does the register at `base`, repeated as `reps` gives, have an instance at address `a`? -/
def hitsReps (base : Nat) (reps : List (Nat × Nat)) (a : Nat) : Bool :=
  match reps with
  | [] => decide (a = base)
  | [(n, st)] => decide (base ≤ a ∧ (a - base) % st = 0 ∧ (a - base) / st < n)
  | (n, st) :: (m, st2) :: _ =>
    decide (base ≤ a ∧ (a - base) / st < n ∧ (a - base) % st % st2 = 0 ∧ (a - base) % st / st2 < m)

/-- The fields of the ANG registers that a write or a read can change, word by word; every other bit is RO or reserved. -/
def fieldRowsANG : List FieldRow :=
  [ ⟨0x40001008, 0, 1, .rwl, [], []⟩
  , ⟨0x40001008, 1, 1, .rwl, [], []⟩
  , ⟨0x40001008, 2, 1, .rwl, [], []⟩
  , ⟨0x40001060, 0, 32, .rwlOff, [], []⟩
  , ⟨0x40001064, 0, 32, .rwlOff, [], []⟩
  , ⟨0x40001070, 0, 16, .w1c, [], []⟩
  , ⟨0x40001400, 0, 1, .rwl, [(16, 0x10)], []⟩
  , ⟨0x40001400, 1, 1, .rwl, [(16, 0x10)], []⟩
  , ⟨0x40001400, 2, 1, .rwl, [(16, 0x10)], []⟩
  , ⟨0x40001400, 3, 1, .rwl, [(16, 0x10)], []⟩
  , ⟨0x40001400, 4, 1, .rwl, [(16, 0x10)], []⟩
  , ⟨0x40001400, 8, 4, .rwl, [(16, 0x10)], []⟩
  , ⟨0x40001400, 16, 8, .rwl, [(16, 0x10)], []⟩
  , ⟨0x40001404, 0, 16, .rwl, [(16, 0x10)], []⟩
  , ⟨0x40001404, 16, 16, .rwl, [(16, 0x10)], []⟩
  , ⟨0x40001408, 0, 32, .rwl, [(16, 0x10)], []⟩
  , ⟨0x4000140C, 0, 32, .rwl, [(16, 0x10)], []⟩ ]

/-- The fields of the TMR registers that a write or a read can change, word by word; every other bit is RO or reserved. -/
def fieldRowsTMR : List FieldRow :=
  [ ⟨0x40002080, 0, 1, .rw, [(8, 0x10)], []⟩
  , ⟨0x40002080, 1, 1, .rw, [(8, 0x10)], []⟩
  , ⟨0x40002080, 2, 1, .rw, [(8, 0x10)], []⟩
  , ⟨0x40002080, 3, 2, .rw, [(8, 0x10)], [(0, 2)]⟩
  , ⟨0x40002084, 0, 32, .rw, [(8, 0x10)], []⟩
  , ⟨0x40002100, 0, 1, .w1s, [], []⟩
  , ⟨0x40002100, 1, 1, .rwOff, [], []⟩
  , ⟨0x40002100, 16, 16, .rwOff, [], [(1, 65535)]⟩
  , ⟨0x40002104, 0, 32, .wo, [], []⟩
  , ⟨0x40002110, 0, 8, .rw, [], [(0, 4)]⟩
  , ⟨0x40002110, 8, 8, .rw, [], []⟩
  , ⟨0x40002118, 0, 32, .rw, [], []⟩
  , ⟨0x4000211C, 0, 32, .rw, [], []⟩
  , ⟨0x40002120, 0, 32, .w1c, [], []⟩
  , ⟨0x40002124, 0, 16, .w1c, [], []⟩
  , ⟨0x40002400, 0, 1, .rw, [(48, 0x10)], []⟩
  , ⟨0x40002400, 1, 1, .rw, [(48, 0x10)], []⟩
  , ⟨0x40002400, 2, 1, .rw, [(48, 0x10)], []⟩
  , ⟨0x40002400, 3, 1, .rw, [(48, 0x10)], []⟩
  , ⟨0x40002400, 4, 1, .rw, [(48, 0x10)], []⟩
  , ⟨0x40002400, 8, 4, .rw, [(48, 0x10)], []⟩
  , ⟨0x40002400, 16, 8, .rw, [(48, 0x10)], []⟩
  , ⟨0x40002404, 0, 16, .rw, [(48, 0x10)], []⟩
  , ⟨0x40002404, 16, 16, .rw, [(48, 0x10)], []⟩
  , ⟨0x40002408, 0, 32, .rw, [(48, 0x10)], []⟩
  , ⟨0x4000240C, 0, 32, .rw, [(48, 0x10)], []⟩ ]

/-- The fields of the SYS registers that a write or a read can change, word by word; every other bit is RO or reserved. -/
def fieldRowsSYS : List FieldRow :=
  [ ⟨0x40000058, 1, 1, .rw, [], []⟩
  , ⟨0x40000058, 3, 17, .rw, [], []⟩
  , ⟨0x40000064, 0, 2, .rw, [], []⟩
  , ⟨0x40000068, 0, 32, .wo, [], []⟩
  , ⟨0x40000100, 0, 32, .rw, [], []⟩
  , ⟨0x40000104, 0, 32, .rw, [], []⟩
  , ⟨0x40000108, 0, 32, .rw, [], []⟩
  , ⟨0x4000010C, 0, 32, .rw, [], []⟩
  , ⟨0x40000110, 0, 32, .rw, [], []⟩
  , ⟨0x40000114, 0, 32, .rw, [], []⟩
  , ⟨0x40000118, 0, 32, .rw, [], []⟩
  , ⟨0x4000011C, 0, 32, .rw, [], []⟩
  , ⟨0x40000120, 0, 2, .rw, [], []⟩
  , ⟨0x40000120, 4, 4, .rw, [], []⟩
  , ⟨0x40000120, 8, 8, .rw, [], []⟩
  , ⟨0x40000120, 16, 8, .rw, [], []⟩
  , ⟨0x40000130, 0, 18, .rw, [], []⟩
  , ⟨0x40000134, 0, 16, .rw, [], []⟩
  , ⟨0x40000140, 0, 32, .rw, [], []⟩
  , ⟨0x40000144, 0, 32, .rw, [], []⟩
  , ⟨0x40000148, 0, 32, .rw, [], []⟩
  , ⟨0x4000014C, 0, 32, .rw, [], []⟩
  , ⟨0x40000150, 0, 18, .rw, [], []⟩
  , ⟨0x40000178, 0, 32, .wo, [], []⟩
  , ⟨0x40000080, 0, 32, .wo, [], []⟩
  , ⟨0x400000A8, 0, 16, .rc, [], []⟩
  , ⟨0x400000A8, 16, 12, .rc, [], []⟩ ]

/-- The fields of the SEAL registers that a write or a read can change, word by word; every other bit is RO or reserved. -/
def fieldRowsSEAL : List FieldRow :=
  [ ⟨0x40004040, 0, 2, .rwl, [], []⟩ ]

/-- The fields of the HEAD registers that a write or a read can change, word by word; every other bit is RO or reserved. -/
def fieldRowsHEAD : List FieldRow :=
  [ ⟨0x40010008, 0, 1, .rwl, [(8, 0x1000)], []⟩
  , ⟨0x40010040, 0, 8, .rws, [(8, 0x1000)], [(0, 4)]⟩
  , ⟨0x40010068, 0, 8, .rc, [(8, 0x1000)], []⟩
  , ⟨0x40010068, 8, 8, .rc, [(8, 0x1000)], []⟩
  , ⟨0x40010068, 16, 8, .rc, [(8, 0x1000)], []⟩ ]

/-- The fields of the FIL registers that a write or a read can change, word by word; every other bit is RO or reserved. -/
def fieldRowsFIL : List FieldRow :=
  [ ⟨0x40018008, 0, 1, .rwl, [], []⟩
  , ⟨0x40018040, 0, 24, .rws, [], []⟩
  , ⟨0x40018180, 0, 16, .rc, [(24, 0x4)], []⟩
  , ⟨0x40018180, 16, 16, .rc, [(24, 0x4)], []⟩ ]

/-- The fields of the MET registers that a write or a read can change, word by word; every other bit is RO or reserved. -/
def fieldRowsMET : List FieldRow :=
  [ ⟨0x40020008, 0, 1, .rwl, [], []⟩
  , ⟨0x40020040, 0, 1, .rws, [(8, 0x4)], []⟩
  , ⟨0x40020040, 1, 1, .rws, [(8, 0x4)], []⟩
  , ⟨0x40020040, 8, 5, .rws, [(8, 0x4)], [(0, 23)]⟩
  , ⟨0x40020040, 16, 5, .rws, [(8, 0x4)], [(0, 23)]⟩
  , ⟨0x40020080, 0, 16, .rws, [], [(100, 60000)]⟩
  , ⟨0x40020084, 0, 32, .wo, [], []⟩
  , ⟨0x40020200, 0, 8, .rws, [(64, 0x4)], []⟩
  , ⟨0x40020200, 8, 4, .rws, [(64, 0x4)], []⟩
  , ⟨0x40020200, 12, 1, .rws, [(64, 0x4)], []⟩
  , ⟨0x40020200, 13, 1, .rws, [(64, 0x4)], []⟩
  , ⟨0x40020200, 14, 1, .rws, [(64, 0x4)], []⟩
  , ⟨0x40020800, 0, 6, .rws, [(8, 0x4)], []⟩
  , ⟨0x40020800, 6, 1, .rws, [(8, 0x4)], []⟩
  , ⟨0x40020800, 8, 3, .rws, [(8, 0x4)], [(0, 6)]⟩ ]

/-- The fields of the CAL registers that a write or a read can change, word by word; every other bit is RO or reserved. -/
def fieldRowsCAL : List FieldRow :=
  [ ⟨0x40021040, 0, 1, .wo, [], []⟩
  , ⟨0x40021080, 0, 32, .rws, [(24, 0x4)], [(0, 50000), (4294917296, 4294967295)]⟩
  , ⟨0x400210E0, 0, 32, .rws, [(24, 0x4)], []⟩
  , ⟨0x40021140, 0, 24, .rws, [(8, 0x4)], []⟩
  , ⟨0x40021160, 0, 24, .rws, [(8, 0x4)], []⟩
  , ⟨0x40021180, 0, 4, .rws, [(8, 0x4)], [(1, 8)]⟩
  , ⟨0x40021200, 0, 16, .rws, [(8, 0x80), (8, 0x10)], []⟩
  , ⟨0x40021204, 0, 32, .rws, [(8, 0x80), (8, 0x10)], []⟩
  , ⟨0x40021208, 0, 32, .rws, [(8, 0x80), (8, 0x10)], []⟩ ]

/-- The fields of the PLS registers that a write or a read can change, word by word; every other bit is RO or reserved. -/
def fieldRowsPLS : List FieldRow :=
  [ ⟨0x40022008, 0, 1, .rwl, [], []⟩
  , ⟨0x40022040, 0, 6, .rws, [(4, 0x40)], []⟩
  , ⟨0x40022040, 6, 1, .rws, [(4, 0x40)], []⟩
  , ⟨0x40022040, 7, 1, .rws, [(4, 0x40)], []⟩
  , ⟨0x40022044, 0, 17, .rws, [(4, 0x40)], [(1, 100000)]⟩
  , ⟨0x40022048, 0, 14, .rws, [], [(1, 10000)]⟩
  , ⟨0x40022088, 0, 14, .rws, [(3, 0x40)], [(10, 10000)]⟩
  , ⟨0x4002204C, 0, 24, .rwl, [(4, 0x40)], [(1, 10000000)]⟩
  , ⟨0x4002204C, 24, 1, .rwl, [(4, 0x40)], []⟩
  , ⟨0x40022180, 0, 1, .wo, [], []⟩ ]

/-- The fields of the LDG registers that a write or a read can change, word by word; every other bit is RO or reserved. -/
def fieldRowsLDG : List FieldRow :=
  [ ⟨0x40024008, 0, 1, .rwl, [], []⟩
  , ⟨0x40024008, 1, 1, .rwl, [], []⟩
  , ⟨0x40024040, 0, 16, .rws, [], [(1000, 60000)]⟩
  , ⟨0x40024044, 0, 12, .rws, [], [(0, 3650)]⟩
  , ⟨0x4002406C, 0, 1, .wol, [], []⟩
  , ⟨0x40024070, 0, 18, .rwl, [], []⟩
  , ⟨0x40024090, 0, 18, .rwl, [], []⟩
  , ⟨0x40024094, 0, 16, .rwl, [], []⟩
  , ⟨0x400240A0, 0, 32, .rwl, [], []⟩
  , ⟨0x400240A4, 0, 32, .rwl, [], []⟩
  , ⟨0x400240A8, 0, 32, .rwl, [], []⟩
  , ⟨0x400240AC, 0, 32, .rwl, [], []⟩
  , ⟨0x400240B8, 0, 32, .wol, [], []⟩ ]

/-- The fields of the SIG registers that a write or a read can change, word by word; every other bit is RO or reserved. -/
def fieldRowsSIG : List FieldRow :=
  [ ⟨0x40025040, 0, 1, .rwl, [], []⟩
  , ⟨0x40025200, 0, 32, .rwl, [(64, 0x4)], []⟩ ]

/-- The fields of the VEH registers that a write or a read can change, word by word; every other bit is RO or reserved. -/
def fieldRowsVEH : List FieldRow :=
  [ ⟨0x40030008, 0, 1, .rw, [], []⟩
  , ⟨0x40030008, 1, 1, .rw, [], []⟩
  , ⟨0x40030008, 2, 1, .rw, [], []⟩
  , ⟨0x40030040, 0, 2, .rw, [], []⟩
  , ⟨0x40030044, 0, 13, .rw, [], []⟩
  , ⟨0x40030044, 13, 1, .rw, [], []⟩
  , ⟨0x40030044, 14, 1, .rw, [], []⟩
  , ⟨0x4003004C, 0, 5, .rw, [], [(1, 20)]⟩
  , ⟨0x4003004C, 16, 11, .rw, [], [(10, 2000)]⟩
  , ⟨0x40030050, 0, 8, .rw, [], []⟩
  , ⟨0x40030058, 0, 2, .rw, [], []⟩
  , ⟨0x40030058, 2, 1, .rw, [], []⟩
  , ⟨0x40030058, 8, 8, .rw, [], [(1, 255)]⟩
  , ⟨0x40030070, 0, 8, .rc, [], []⟩
  , ⟨0x40030070, 8, 8, .rc, [], []⟩
  , ⟨0x40030070, 16, 8, .rc, [], []⟩
  , ⟨0x40030070, 24, 8, .rc, [], []⟩
  , ⟨0x40030100, 0, 3, .rwVeh, [], []⟩
  , ⟨0x40030100, 4, 3, .rwVeh, [], []⟩
  , ⟨0x40030104, 0, 1, .rw, [], []⟩
  , ⟨0x40030104, 8, 6, .rw, [], []⟩
  , ⟨0x40030200, 0, 3, .rw, [(32, 0x8)], [(0, 5)]⟩
  , ⟨0x40030200, 4, 3, .rw, [(32, 0x8)], [(0, 6)]⟩
  , ⟨0x40030200, 8, 7, .rw, [(32, 0x8)], [(0, 100)]⟩
  , ⟨0x40030200, 16, 1, .rw, [(32, 0x8)], []⟩
  , ⟨0x40030204, 0, 24, .rw, [(32, 0x8)], [(1, 16777215)]⟩ ]

/-- The fields of the GPM registers that a write or a read can change, word by word; every other bit is RO or reserved. -/
def fieldRowsGPM : List FieldRow :=
  [ ⟨0x40031008, 0, 1, .rw, [], []⟩
  , ⟨0x40031008, 1, 1, .rw, [], []⟩
  , ⟨0x40031008, 2, 1, .rw, [], []⟩
  , ⟨0x40031048, 0, 7, .rw, [], [(1, 120)]⟩
  , ⟨0x40031048, 8, 8, .rw, [], [(0, 100)]⟩
  , ⟨0x40031048, 16, 5, .rw, [], [(0, 20)]⟩
  , ⟨0x40031068, 0, 8, .rw, [], [(32, 63)]⟩
  , ⟨0x40031068, 8, 8, .rw, [], [(32, 63)]⟩
  , ⟨0x4003106C, 0, 8, .rc, [], []⟩
  , ⟨0x4003106C, 8, 8, .rc, [], []⟩
  , ⟨0x4003106C, 16, 8, .rc, [], []⟩ ]

/-- The fields of the SAF registers that a write or a read can change, word by word; every other bit is RO or reserved. -/
def fieldRowsSAF : List FieldRow :=
  [ ⟨0x40032090, 0, 8, .rc, [], []⟩
  , ⟨0x40032090, 8, 8, .rc, [], []⟩
  , ⟨0x40032090, 16, 8, .rc, [], []⟩
  , ⟨0x40032090, 24, 8, .rc, [], []⟩ ]

/-- The fields of the EFM registers that a write or a read can change, word by word; every other bit is RO or reserved. -/
def fieldRowsEFM : List FieldRow :=
  [ ⟨0x40033080, 0, 8, .rc, [], []⟩
  , ⟨0x40033080, 8, 8, .rc, [], []⟩
  , ⟨0x40033080, 16, 8, .rc, [], []⟩
  , ⟨0x40033080, 24, 8, .rc, [], []⟩ ]

/-- The fields of the SW registers that a write or a read can change, word by word; every other bit is RO or reserved. -/
def fieldRowsSW : List FieldRow :=
  [ ⟨0x40034008, 0, 1, .rw, [(2, 0x1000)], []⟩
  , ⟨0x40034040, 0, 12, .rw, [(2, 0x1000)], []⟩
  , ⟨0x40034044, 0, 12, .wo, [(2, 0x1000)], []⟩
  , ⟨0x40034048, 0, 12, .wo, [(2, 0x1000)], []⟩
  , ⟨0x40034050, 0, 12, .w1c, [(2, 0x1000)], []⟩
  , ⟨0x40034100, 0, 7, .rw, [(2, 0x1000), (12, 0x20)], [(0, 100)]⟩
  , ⟨0x40034100, 8, 4, .rw, [(2, 0x1000), (12, 0x20)], [(1, 15)]⟩
  , ⟨0x40034114, 0, 8, .rc, [(2, 0x1000), (12, 0x20)], []⟩
  , ⟨0x40034114, 8, 8, .rc, [(2, 0x1000), (12, 0x20)], []⟩
  , ⟨0x40034114, 16, 8, .rc, [(2, 0x1000), (12, 0x20)], []⟩
  , ⟨0x40034114, 24, 8, .rc, [(2, 0x1000), (12, 0x20)], []⟩ ]

/-- The fields of the CLU registers that a write or a read can change, word by word; every other bit is RO or reserved. -/
def fieldRowsCLU : List FieldRow :=
  [ ⟨0x40040008, 0, 1, .rw, [], []⟩
  , ⟨0x40040008, 1, 1, .rw, [], []⟩
  , ⟨0x40040008, 2, 1, .w1s, [], []⟩
  , ⟨0x40040040, 0, 6, .rwOff, [], [(1, 32)]⟩
  , ⟨0x40040040, 6, 2, .rwOff, [], [(1, 2)]⟩
  , ⟨0x40040040, 8, 4, .rwOff, [], []⟩
  , ⟨0x40040040, 12, 5, .rwOff, [], [(0, 20)]⟩
  , ⟨0x40040078, 0, 32, .rw, [], []⟩
  , ⟨0x4004007C, 0, 3, .rw, [], []⟩
  , ⟨0x4004007C, 3, 1, .rw, [], []⟩
  , ⟨0x4004007C, 4, 1, .rw, [], []⟩
  , ⟨0x40040080, 0, 1, .wo, [], []⟩
  , ⟨0x40040084, 0, 8, .rw, [], [(32, 63)]⟩
  , ⟨0x40040084, 8, 8, .rw, [], [(32, 63)]⟩
  , ⟨0x40040094, 0, 8, .rc, [], []⟩
  , ⟨0x40040094, 8, 8, .rc, [], []⟩
  , ⟨0x40040094, 16, 8, .rc, [], []⟩
  , ⟨0x40040094, 24, 8, .rc, [], []⟩ ]

/-- The fields of the PWA registers that a write or a read can change, word by word; every other bit is RO or reserved. -/
def fieldRowsPWA : List FieldRow :=
  [ ⟨0x40041008, 0, 1, .rw, [], []⟩
  , ⟨0x40041040, 0, 14, .rw, [], []⟩
  , ⟨0x40041040, 16, 3, .rw, [], []⟩
  , ⟨0x40041040, 20, 3, .rw, [], []⟩
  , ⟨0x40041044, 0, 14, .rw, [], []⟩
  , ⟨0x40041044, 16, 8, .rw, [], []⟩
  , ⟨0x40041080, 0, 16, .rw, [(3, 0x4)], []⟩
  , ⟨0x40041080, 16, 16, .rw, [(3, 0x4)], []⟩
  , ⟨0x4004108C, 0, 5, .rw, [], [(1, 31)]⟩
  , ⟨0x4004108C, 8, 4, .rw, [], []⟩
  , ⟨0x4004108C, 16, 8, .rw, [], [(1, 255)]⟩
  , ⟨0x4004108C, 24, 8, .rw, [], []⟩
  , ⟨0x40041100, 0, 14, .rw, [(32, 0x4)], []⟩
  , ⟨0x40041100, 16, 3, .rw, [(32, 0x4)], []⟩ ]

/-- The fields of the TEN registers that a write or a read can change, word by word; every other bit is RO or reserved. -/
def fieldRowsTEN : List FieldRow :=
  [ ⟨0x40042008, 0, 1, .rw, [], []⟩
  , ⟨0x40042008, 1, 1, .rw, [], []⟩
  , ⟨0x40042008, 2, 1, .rw, [], []⟩
  , ⟨0x40042040, 0, 4, .rw, [], []⟩
  , ⟨0x40042044, 0, 12, .rw, [], [(0, 840), (3376, 4095)]⟩
  , ⟨0x40042048, 0, 1, .wo, [], []⟩
  , ⟨0x40042048, 1, 1, .wo, [], []⟩
  , ⟨0x4004204C, 0, 3, .rw, [], []⟩
  , ⟨0x4004204C, 3, 1, .rw, [], []⟩
  , ⟨0x4004204C, 4, 4, .rw, [], []⟩
  , ⟨0x4004204C, 8, 7, .rw, [], []⟩
  , ⟨0x4004204C, 16, 8, .rw, [], []⟩
  , ⟨0x40042100, 0, 32, .slot, [(64, 0x4)], []⟩
  , ⟨0x40042300, 0, 32, .rw, [(16, 0x4)], []⟩
  , ⟨0x40042400, 0, 32, .rw, [(36, 0x4)], []⟩ ]

/-- The fields of the RDR registers that a write or a read can change, word by word; every other bit is RO or reserved. -/
def fieldRowsRDR : List FieldRow :=
  [ ⟨0x40043008, 0, 1, .rw, [], []⟩
  , ⟨0x40043008, 1, 1, .rw, [], []⟩
  , ⟨0x40043040, 0, 2, .rw, [], [(0, 2)]⟩
  , ⟨0x40043040, 2, 1, .rw, [], []⟩
  , ⟨0x40043040, 3, 1, .rw, [], []⟩
  , ⟨0x40043040, 8, 4, .rw, [], [(2, 10)]⟩
  , ⟨0x40043040, 16, 8, .rw, [], [(1, 60)]⟩
  , ⟨0x40043040, 24, 8, .rw, [], [(10, 125)]⟩
  , ⟨0x40043044, 0, 2, .rw, [], [(0, 2)]⟩
  , ⟨0x40043044, 16, 11, .rw, [], [(1, 1024)]⟩
  , ⟨0x40043080, 0, 8, .rc, [], []⟩
  , ⟨0x40043080, 8, 8, .rc, [], []⟩
  , ⟨0x40043080, 16, 8, .rc, [], []⟩
  , ⟨0x40043080, 24, 8, .rc, [], []⟩
  , ⟨0x40043090, 0, 1, .rw, [], []⟩
  , ⟨0x40043090, 1, 5, .rw, [], [(0, 20)]⟩
  , ⟨0x40043090, 6, 2, .rw, [], []⟩
  , ⟨0x40043090, 8, 1, .rw, [], []⟩
  , ⟨0x40043090, 9, 4, .rw, [], []⟩
  , ⟨0x40043090, 13, 1, .rw, [], []⟩
  , ⟨0x40043090, 14, 1, .rw, [], []⟩
  , ⟨0x40043090, 16, 8, .rw, [], [(1, 60)]⟩
  , ⟨0x40043094, 0, 13, .rw, [], [(100, 5000)]⟩
  , ⟨0x40043098, 0, 1, .rw, [], []⟩
  , ⟨0x40043098, 1, 7, .rw, [], [(1, 96)]⟩
  , ⟨0x40043098, 8, 8, .rw, [], []⟩
  , ⟨0x400430A0, 0, 32, .rw, [(3, 0x4)], []⟩
  , ⟨0x400430B4, 0, 1, .wo, [], []⟩
  , ⟨0x400430B8, 0, 8, .rc, [], []⟩
  , ⟨0x400430B8, 8, 8, .rc, [], []⟩
  , ⟨0x400430B8, 16, 8, .rc, [], []⟩
  , ⟨0x400430B8, 24, 8, .rc, [], []⟩
  , ⟨0x40043400, 0, 32, .rw, [(256, 0x4)], []⟩ ]

/-- The fields of the EPD registers that a write or a read can change, word by word; every other bit is RO or reserved. -/
def fieldRowsEPD : List FieldRow :=
  [ ⟨0x40050008, 0, 1, .rw, [], []⟩
  , ⟨0x40050054, 0, 7, .rw, [], [(1, 100)]⟩
  , ⟨0x40050054, 16, 14, .rw, [], [(0, 10000)]⟩
  , ⟨0x40050058, 0, 11, .rw, [], [(0, 500), (1548, 2047)]⟩
  , ⟨0x4005006C, 0, 8, .rc, [], []⟩
  , ⟨0x4005006C, 8, 8, .rc, [], []⟩
  , ⟨0x4005006C, 16, 8, .rc, [], []⟩
  , ⟨0x4005006C, 24, 8, .rc, [], []⟩
  , ⟨0x40050080, 0, 1, .layer, [(3, 0x4)], []⟩
  , ⟨0x40050080, 1, 1, .layer0, [(3, 0x4)], []⟩
  , ⟨0x40050090, 0, 11, .layer, [(3, 0x8)], []⟩
  , ⟨0x40050090, 16, 11, .layer, [(3, 0x8)], []⟩
  , ⟨0x40050094, 0, 11, .layer, [(3, 0x8)], []⟩
  , ⟨0x40050094, 16, 11, .layer, [(3, 0x8)], []⟩
  , ⟨0x40050094, 28, 2, .layer, [(3, 0x8)], []⟩ ]

/-- The fields of the AUD registers that a write or a read can change, word by word; every other bit is RO or reserved. -/
def fieldRowsAUD : List FieldRow :=
  [ ⟨0x40051008, 0, 1, .rw, [], []⟩
  , ⟨0x40051040, 0, 7, .rw, [], []⟩
  , ⟨0x40051040, 8, 7, .rw, [], []⟩
  , ⟨0x40051040, 16, 8, .rw, [], [(32, 63)]⟩
  , ⟨0x40051044, 0, 16, .rc, [], []⟩
  , ⟨0x40051048, 0, 8, .rc, [], []⟩
  , ⟨0x40051048, 8, 8, .rc, [], []⟩
  , ⟨0x40051048, 16, 8, .rc, [], []⟩ ]

/-- The fields of the DMA registers that a write or a read can change, word by word; every other bit is RO or reserved. -/
def fieldRowsDMA : List FieldRow :=
  [ ⟨0x40060040, 0, 3, .rw, [], [(0, 4)]⟩
  , ⟨0x40060040, 4, 4, .rw, [], [(1, 15)]⟩
  , ⟨0x40060040, 8, 4, .rw, [], [(1, 15)]⟩
  , ⟨0x40060040, 16, 8, .rw, [], [(8, 255)]⟩
  , ⟨0x40060050, 0, 32, .rc, [(4, 0x4)], []⟩ ]

/-- The fields of the RING registers that a write or a read can change, word by word; every other bit is RO or reserved. -/
def fieldRowsRING : List FieldRow :=
  [ ⟨0x40061000, 0, 1, .rw, [(256, 0x40)], []⟩
  , ⟨0x40061000, 1, 1, .rwOff, [(256, 0x40)], []⟩
  , ⟨0x40061000, 2, 1, .rwOff, [(256, 0x40)], []⟩
  , ⟨0x40061000, 8, 4, .rwOff, [(256, 0x40)], [(2, 12)]⟩
  , ⟨0x40061008, 5, 27, .rwOff, [(256, 0x40)], []⟩
  , ⟨0x4006100C, 0, 8, .rwOff, [(256, 0x40)], []⟩
  , ⟨0x40061014, 0, 1, .wo, [(256, 0x40)], []⟩
  , ⟨0x40061014, 1, 1, .wo, [(256, 0x40)], []⟩
  , ⟨0x40061014, 2, 1, .wo, [(256, 0x40)], []⟩
  , ⟨0x40061014, 3, 1, .wo, [(256, 0x40)], []⟩
  , ⟨0x40061018, 0, 24, .rw, [(256, 0x40)], []⟩
  , ⟨0x4006101C, 0, 1, .w1c, [(256, 0x40)], []⟩
  , ⟨0x4006101C, 1, 1, .w1c, [(256, 0x40)], []⟩
  , ⟨0x4006101C, 2, 1, .w1c, [(256, 0x40)], []⟩
  , ⟨0x4006101C, 3, 1, .w1c, [(256, 0x40)], []⟩
  , ⟨0x4006101C, 4, 1, .w1c, [(256, 0x40)], []⟩
  , ⟨0x40061020, 0, 5, .rw, [(256, 0x40)], []⟩
  , ⟨0x40061028, 0, 16, .rc, [(256, 0x40)], []⟩
  , ⟨0x40061028, 16, 16, .rc, [(256, 0x40)], []⟩
  , ⟨0x4006102C, 0, 16, .rc, [(256, 0x40)], []⟩ ]

/-- The fields of the U registers that a write or a read can change, word by word; every other bit is RO or reserved. -/
def fieldRowsU : List FieldRow :=
  [ ⟨0x40070008, 0, 1, .rw, [(4, 0x1000)], []⟩
  , ⟨0x40070008, 1, 1, .rw, [(4, 0x1000)], []⟩
  , ⟨0x40070008, 2, 1, .rw, [(4, 0x1000)], []⟩
  , ⟨0x40070040, 0, 2, .rwOff, [(4, 0x1000)], [(0, 1)]⟩
  , ⟨0x40070040, 2, 2, .rwOff, [(4, 0x1000)], [(0, 2)]⟩
  , ⟨0x40070040, 4, 1, .rwOff, [(4, 0x1000)], []⟩
  , ⟨0x40070040, 8, 2, .rwOff, [(4, 0x1000)], []⟩
  , ⟨0x40070044, 0, 22, .rwOff, [(4, 0x1000)], [(1049, 2621440)]⟩
  , ⟨0x40070048, 0, 1, .rwOff, [(2, 0x1000)], []⟩
  , ⟨0x40070048, 1, 1, .rwOff, [(2, 0x1000)], []⟩
  , ⟨0x40070048, 8, 7, .rwOff, [(2, 0x1000)], []⟩
  , ⟨0x40070048, 16, 7, .rwOff, [(2, 0x1000)], []⟩
  , ⟨0x4007004C, 0, 8, .rw, [(4, 0x1000)], []⟩
  , ⟨0x4007004C, 8, 8, .rw, [(4, 0x1000)], []⟩
  , ⟨0x4007004C, 16, 8, .rw, [(4, 0x1000)], []⟩
  , ⟨0x40070050, 0, 32, .rc, [(4, 0x1000)], []⟩
  , ⟨0x40070054, 0, 8, .wo, [(4, 0x1000)], []⟩
  , ⟨0x4007005C, 0, 1, .wo, [(4, 0x1000)], []⟩
  , ⟨0x4007005C, 1, 1, .wo, [(4, 0x1000)], []⟩
  , ⟨0x4007005C, 2, 1, .wo, [(4, 0x1000)], []⟩
  , ⟨0x4007005C, 3, 1, .wo, [(4, 0x1000)], []⟩
  , ⟨0x40070060, 0, 8, .rwOff, [(4, 0x1000)], []⟩
  , ⟨0x40070060, 8, 1, .rwOff, [(4, 0x1000)], []⟩
  , ⟨0x40070060, 9, 1, .rwOff, [(4, 0x1000)], []⟩
  , ⟨0x40070060, 16, 8, .rwOff, [(4, 0x1000)], []⟩
  , ⟨0x40070060, 24, 1, .rwOff, [(4, 0x1000)], []⟩
  , ⟨0x40070064, 0, 8, .rc, [(4, 0x1000)], []⟩
  , ⟨0x40070064, 8, 8, .rc, [(4, 0x1000)], []⟩
  , ⟨0x40070064, 16, 8, .rc, [(4, 0x1000)], []⟩
  , ⟨0x40070064, 24, 8, .rc, [(4, 0x1000)], []⟩
  , ⟨0x40070068, 0, 8, .rc, [(4, 0x1000)], []⟩
  , ⟨0x40070068, 8, 8, .rc, [(4, 0x1000)], []⟩
  , ⟨0x40070068, 16, 8, .rc, [(4, 0x1000)], []⟩
  , ⟨0x40072070, 0, 4, .rwOff, [(2, 0x1000)], []⟩
  , ⟨0x40072070, 4, 4, .rwOff, [(2, 0x1000)], []⟩
  , ⟨0x40072070, 8, 1, .rwOff, [(2, 0x1000)], []⟩
  , ⟨0x40072070, 9, 1, .rwOff, [(2, 0x1000)], []⟩
  , ⟨0x40072070, 10, 1, .rwOff, [(2, 0x1000)], []⟩
  , ⟨0x40072070, 11, 1, .rwOff, [(2, 0x1000)], []⟩ ]

/-- The fields of the TW registers that a write or a read can change, word by word; every other bit is RO or reserved. -/
def fieldRowsTW : List FieldRow :=
  [ ⟨0x40074008, 0, 1, .rw, [(2, 0x1000)], []⟩
  , ⟨0x40074008, 1, 1, .rw, [(2, 0x1000)], []⟩
  , ⟨0x40074008, 2, 1, .rw, [(2, 0x1000)], []⟩
  , ⟨0x40074040, 0, 2, .rwOff, [(2, 0x1000)], [(0, 2)]⟩
  , ⟨0x40074040, 2, 1, .rwOff, [(2, 0x1000)], []⟩
  , ⟨0x40074040, 3, 1, .rwOff, [(2, 0x1000)], []⟩
  , ⟨0x40074040, 4, 3, .rwOff, [(2, 0x1000)], []⟩
  , ⟨0x40074040, 8, 8, .rwOff, [(2, 0x1000)], [(1, 255)]⟩
  , ⟨0x40074044, 0, 10, .rwOff, [(2, 0x1000)], []⟩
  , ⟨0x40074044, 10, 1, .rwOff, [(2, 0x1000)], []⟩
  , ⟨0x40074048, 0, 10, .rw, [(2, 0x1000)], []⟩
  , ⟨0x40074048, 10, 1, .rw, [(2, 0x1000)], []⟩
  , ⟨0x40074048, 11, 1, .rw, [(2, 0x1000)], []⟩
  , ⟨0x40074048, 12, 8, .rw, [(2, 0x1000)], []⟩
  , ⟨0x40074048, 20, 1, .rw, [(2, 0x1000)], []⟩
  , ⟨0x40074048, 21, 1, .rw, [(2, 0x1000)], []⟩
  , ⟨0x40074050, 0, 32, .rc, [(2, 0x1000)], []⟩
  , ⟨0x40074054, 0, 8, .wo, [(2, 0x1000)], []⟩
  , ⟨0x4007405C, 0, 6, .rw, [(2, 0x1000)], [(1, 32)]⟩
  , ⟨0x4007405C, 8, 6, .rw, [(2, 0x1000)], [(0, 31)]⟩
  , ⟨0x40074064, 0, 1, .wo, [(2, 0x1000)], []⟩
  , ⟨0x40074064, 1, 1, .wo, [(2, 0x1000)], []⟩
  , ⟨0x40074064, 2, 1, .wo, [(2, 0x1000)], []⟩
  , ⟨0x40074064, 3, 1, .wo, [(2, 0x1000)], []⟩
  , ⟨0x40074068, 0, 8, .rwOff, [(2, 0x1000)], []⟩
  , ⟨0x40074068, 8, 1, .rwOff, [(2, 0x1000)], []⟩
  , ⟨0x40074068, 16, 8, .rwOff, [(2, 0x1000)], []⟩
  , ⟨0x40074068, 24, 1, .rwOff, [(2, 0x1000)], []⟩
  , ⟨0x4007406C, 0, 8, .rc, [(2, 0x1000)], []⟩
  , ⟨0x4007406C, 8, 8, .rc, [(2, 0x1000)], []⟩
  , ⟨0x4007406C, 16, 8, .rc, [(2, 0x1000)], []⟩
  , ⟨0x4007406C, 24, 8, .rc, [(2, 0x1000)], []⟩ ]

/-- The fields of the ETH registers that a write or a read can change, word by word; every other bit is RO or reserved. -/
def fieldRowsETH : List FieldRow :=
  [ ⟨0x40076008, 0, 1, .rw, [], []⟩
  , ⟨0x40076008, 1, 1, .rw, [], []⟩
  , ⟨0x40076008, 2, 1, .rw, [], []⟩
  , ⟨0x40076008, 3, 1, .rw, [], []⟩
  , ⟨0x40076008, 4, 1, .rw, [], []⟩
  , ⟨0x40076008, 5, 1, .rw, [], []⟩
  , ⟨0x40076008, 6, 1, .rw, [], []⟩
  , ⟨0x40076040, 0, 1, .rwOff, [], []⟩
  , ⟨0x40076040, 1, 1, .rwOff, [], []⟩
  , ⟨0x40076040, 2, 1, .rwOff, [], []⟩
  , ⟨0x40076040, 3, 4, .rwOff, [], []⟩
  , ⟨0x40076040, 7, 1, .rwOff, [], []⟩
  , ⟨0x40076050, 0, 32, .rwOff, [], []⟩
  , ⟨0x40076054, 0, 16, .rwOff, [], []⟩
  , ⟨0x40076060, 0, 32, .rw, [(16, 0x8)], []⟩
  , ⟨0x40076064, 0, 16, .rw, [(16, 0x8)], []⟩
  , ⟨0x40076064, 31, 1, .rw, [(16, 0x8)], []⟩
  , ⟨0x400760E0, 0, 8, .rwOff, [], []⟩
  , ⟨0x400760E0, 8, 1, .rwOff, [], []⟩
  , ⟨0x400760E0, 16, 8, .rwOff, [], []⟩
  , ⟨0x400760E0, 24, 1, .rwOff, [], []⟩
  , ⟨0x400760E4, 0, 8, .rc, [], []⟩
  , ⟨0x400760E4, 8, 8, .rc, [], []⟩
  , ⟨0x400760E4, 16, 8, .rc, [], []⟩
  , ⟨0x400760E4, 24, 8, .rc, [], []⟩
  , ⟨0x400760E8, 0, 8, .rc, [], []⟩
  , ⟨0x400760E8, 8, 8, .rc, [], []⟩
  , ⟨0x400760E8, 16, 8, .rc, [], []⟩ ]

/-- The fields of the UPD registers that a write or a read can change, word by word; every other bit is RO or reserved. -/
def fieldRowsUPD : List FieldRow :=
  [ ⟨0x40080008, 0, 1, .rw, [], []⟩
  , ⟨0x40080008, 1, 3, .rw, [], []⟩
  , ⟨0x40080040, 0, 4, .wo, [], [(1, 6)]⟩
  , ⟨0x40080044, 0, 6, .rw, [], []⟩
  , ⟨0x40080044, 8, 1, .rw, [], []⟩
  , ⟨0x40080048, 0, 32, .rw, [], []⟩
  , ⟨0x4008004C, 0, 8, .rw, [], []⟩
  , ⟨0x40080050, 0, 32, .rw, [], []⟩
  , ⟨0x40080054, 0, 17, .rw, [], [(1, 65536)]⟩
  , ⟨0x40080060, 0, 32, .rw, [], []⟩
  , ⟨0x40080064, 0, 32, .rw, [], []⟩
  , ⟨0x40080068, 0, 32, .wo, [], []⟩
  , ⟨0x40080078, 0, 32, .rw, [], []⟩
  , ⟨0x40080080, 0, 32, .rws, [(16, 0x4)], []⟩ ]

/-- The fields of the PAT registers that a write or a read can change, word by word; every other bit is RO or reserved. PAT.WORD has
`wordBits` bits (section 6 of chapter 20: 11 on TW0 and TW1, else 32). -/
def fieldRowsPAT (wordBits : Nat) : List FieldRow :=
  [ ⟨0x00000F00, 0, 1, .pat, [], []⟩
  , ⟨0x00000F00, 1, 1, .pat, [], []⟩
  , ⟨0x00000F00, 2, 4, .pat, [], [(1, 8)]⟩
  , ⟨0x00000F00, 6, 1, .pat, [], []⟩
  , ⟨0x00000F00, 7, 2, .pat, [], []⟩
  , ⟨0x00000F00, 9, 2, .pat, [], [(0, 2)]⟩
  , ⟨0x00000F08, 0, wordBits, .rw, [], []⟩
  , ⟨0x00000F0C, 0, 1, .wo, [], []⟩ ]

/-- The wide registers: address of the lowest word, indexes, number of words (R98, R99). -/
def wideRegs : List (Nat × List (Nat × Nat) × Nat) :=
  [ (0x40001050, [], 4)
  , (0x40010F10, [(8, 0x1000)], 2)
  , (0x40010F18, [(8, 0x1000), (3, 8)], 2)
  , (0x40031F10, [], 2)
  , (0x40031F18, [(3, 8)], 2)
  , (0x40040F10, [], 2)
  , (0x40040F18, [(3, 8)], 2)
  , (0x40070F10, [(7, 0x1000)], 2)
  , (0x40070F18, [(7, 0x1000), (3, 8)], 2)
  , (0x40022200, [(4, 0x40)], 16)
  , (0x40001060, [], 2)
  , (0x40001400, [(16, 0x10)], 4)
  , (0x40002040, [], 2)
  , (0x40002110, [], 4)
  , (0x40002400, [(48, 0x10)], 4)
  , (0x40003040, [], 2)
  , (0x40003050, [], 4)
  , (0x40000040, [], 4)
  , (0x40000050, [], 2)
  , (0x40000058, [], 2)
  , (0x40004050, [], 4)
  , (0x40010048, [(8, 0x1000)], 2)
  , (0x40010078, [(8, 0x1000)], 2)
  , (0x400181E0, [], 2)
  , (0x400181F0, [], 4)
  , (0x40020088, [], 2)
  , (0x40020400, [(64, 0x10)], 4)
  , (0x40020840, [(8, 0x10)], 4)
  , (0x40021200, [(8, 0x80), (8, 0x10)], 4)
  , (0x40021600, [(8, 0x10)], 4)
  , (0x40022050, [(4, 0x40)], 2)
  , (0x40022060, [(4, 0x40)], 4)
  , (0x40024048, [], 2)
  , (0x40024080, [], 4)
  , (0x400240A0, [], 4)
  , (0x40025400, [], 80)
  , (0x40000100, [], 8)
  , (0x40000140, [], 4)
  , (0x40000160, [], 4)
  , (0x40030060, [], 4)
  , (0x40030110, [], 4)
  , (0x40030200, [(32, 0x8)], 2)
  , (0x40031040, [], 2)
  , (0x40031050, [], 4)
  , (0x40031060, [], 2)
  , (0x40040050, [], 4)
  , (0x40040060, [], 4)
  , (0x40040070, [], 2)
  , (0x40040078, [], 2)
  , (0x40040100, [(32, 0x8)], 2)
  , (0x40041050, [], 2)
  , (0x40041200, [(32, 0x10)], 4)
  , (0x40043050, [], 4)
  , (0x40050048, [], 2)
  , (0x40050090, [(3, 0x8)], 2)
  , (0x40050200, [(8, 0x10)], 4)
  , (0x40061008, [(256, 0x40)], 2)
  , (0x40061030, [(256, 0x40)], 2)
  , (0x40076044, [], 2)
  , (0x40076050, [], 2)
  , (0x40076060, [(16, 0x8)], 2)
  , (0x40080048, [], 2)
  , (0x40080060, [], 2)
  , (0x40080200, [(64, 0x8)], 2) ]

/-- The wide register that holds the word at `a`: its lowest word's address and its number of words. -/
def wideOf (a : Nat) : Option (Nat × Nat) :=
  wideRegs.findSome? fun (b, reps, n) =>
    (List.range n).findSome? fun k => if 4 * k ≤ a ∧ hitsReps b reps (a - 4 * k) then some (a - 4 * k, n) else none

/-- The words whose reset value is not zero (the reset columns of the register tables; the factory values of R818, of
chapter 7 section 8 and of Table 8-13 for fields whose reset is "Ledger"). -/
def resetWords : List (Nat × List (Nat × Nat) × Nat) :=
  [ (0x40000060, [], 0x6)
  , (0x4000400C, [], 0x10)
  , (0x40018080, [(24, 0x4)], 0x80000000)
  , (0x40020080, [], 0xEA60)
  , (0x40021180, [(8, 0x4)], 0x1)
  , (0x40021200, [(8, 0x80)], 0x1)
  , (0x40022044, [], 0x2710)
  , (0x40022044, [(4, 0x40)], 0x3E8)
  , (0x40022048, [], 0x14)
  , (0x40022048, [(4, 0x40)], 0x12C)
  , (0x40024040, [], 0x3E8)
  , (0x40030008, [], 0x5)
  , (0x40030040, [], 0x1)
  , (0x4003004C, [], 0xC80003)
  , (0x40030050, [], 0x1)
  , (0x40030058, [], 0x3200)
  , (0x40031048, [], 0x2832)
  , (0x40031068, [], 0x2120)
  , (0x40033068, [], 0xFFFFFF)
  , (0x4003306C, [], 0xFFFFFF)
  , (0x40033070, [], 0xFFFFFF)
  , (0x400340C0, [(2, 0x1000), (8, 0x4)], 0xFFFF)
  , (0x40034100, [(2, 0x1000), (12, 0x20)], 0x700)
  , (0x40040040, [], 0x41)
  , (0x40040084, [], 0x2322)
  , (0x40041044, [], 0xC)
  , (0x4004108C, [], 0x140A0C)
  , (0x40043040, [], 0x4B0A050E)
  , (0x40043090, [], 0x50814)
  , (0x40043094, [], 0x1F4)
  , (0x40050054, [], 0x3E8000A)
  , (0x40051040, [], 0x241818)
  , (0x40060040, [], 0x400142)
  , (0x40061000, [(256, 0x40)], 0x200)
  , (0x40070040, [(4, 0x1000)], 0x1)
  , (0x40070044, [(4, 0x1000)], 0x6AAB)
  , (0x40070048, [(2, 0x1000)], 0x40C00)
  , (0x4007004C, [(4, 0x1000)], 0x40001)
  , (0x40070050, [(4, 0x1000)], 0x8000)
  , (0x40072070, [(2, 0x1000)], 0x11)
  , (0x40074040, [(2, 0x1000)], 0x1939)
  , (0x40074050, [(2, 0x1000)], 0x8000)
  , (0x4007405C, [(2, 0x1000)], 0x1)
  , (0x40076040, [], 0xF9)
  , (0x4008000C, [], 0x100) ]

/-! ### The pages (Table 3-1) -/

namespace Page
def SYS : Nat := 0x40000000
def ANG : Nat := 0x40001000
def TMR : Nat := 0x40002000
def RTC : Nat := 0x40003000
def SEAL : Nat := 0x40004000
def BOOT : Nat := 0x40005000
def HEAD (n : Nat) : Nat := 0x40010000 + 0x1000 * n
def FIL : Nat := 0x40018000
def MET : Nat := 0x40020000
def CAL : Nat := 0x40021000
def PLS : Nat := 0x40022000
def LDG : Nat := 0x40024000
def SIG : Nat := 0x40025000
def VEH : Nat := 0x40030000
def GPM : Nat := 0x40031000
def SAF : Nat := 0x40032000
def EFM : Nat := 0x40033000
def SW (x : Nat) : Nat := 0x40034000 + 0x1000 * x
def CLU : Nat := 0x40040000
def PWA : Nat := 0x40041000
def TEN : Nat := 0x40042000
def RDR : Nat := 0x40043000
def EPD : Nat := 0x40050000
def AUD : Nat := 0x40051000
def DMA : Nat := 0x40060000
def RINGS (k : Nat) : Nat := 0x40061000 + 0x1000 * k
def U (n : Nat) : Nat := 0x40070000 + 0x1000 * n
def TW (n : Nat) : Nat := 0x40074000 + 0x1000 * n
def ETH : Nat := 0x40076000
def UPD : Nat := 0x40080000
end Page

/-- The domains (R27), encoded as OWNER.DOMAIN: 0 legal, 1 safety island, 2 application. -/
inductive Domain where
  | legal | island | app
deriving DecidableEq, Repr

def Domain.code : Domain → Nat
  | .legal => 0
  | .island => 1
  | .app => 2

/-- One row of Table 3-1 (ring pages apart): index, base, block type, instance, owner at reset, transferable, link
block, and the number of interrupt bits that the page's chapter names. -/
structure PageRow where
  index : Nat
  base : Nat
  type : Nat
  inst : Nat
  owner : Domain
  xfer : Bool
  link : Bool
  irqs : Nat
deriving DecidableEq, Repr

/-- Table 3-1 without the ring pages, which have no common layout (R84). -/
def pageRows : List PageRow :=
  [ ⟨0, Page.SYS, 0x0001, 0, .app, false, false, 0⟩
  , ⟨1, Page.ANG, 0x0002, 0, .legal, false, false, 6⟩
  , ⟨2, Page.TMR, 0x0003, 0, .app, false, false, 11⟩
  , ⟨3, Page.RTC, 0x0004, 0, .legal, false, false, 0⟩
  , ⟨4, Page.SEAL, 0x0005, 0, .legal, false, false, 5⟩
  , ⟨5, Page.BOOT, 0x0006, 0, .legal, false, false, 5⟩
  , ⟨6, Page.HEAD 0, 0x0010, 0, .legal, false, true, 5⟩
  , ⟨7, Page.HEAD 1, 0x0010, 1, .legal, false, true, 5⟩
  , ⟨8, Page.HEAD 2, 0x0010, 2, .legal, false, true, 5⟩
  , ⟨9, Page.HEAD 3, 0x0010, 3, .legal, false, true, 5⟩
  , ⟨10, Page.HEAD 4, 0x0010, 4, .legal, false, true, 5⟩
  , ⟨11, Page.HEAD 5, 0x0010, 5, .legal, false, true, 5⟩
  , ⟨12, Page.HEAD 6, 0x0010, 6, .legal, false, true, 5⟩
  , ⟨13, Page.HEAD 7, 0x0010, 7, .legal, false, true, 5⟩
  , ⟨14, Page.FIL, 0x0011, 0, .legal, false, false, 4⟩
  , ⟨15, Page.MET, 0x0012, 0, .legal, false, false, 6⟩
  , ⟨16, Page.CAL, 0x0013, 0, .legal, false, false, 2⟩
  , ⟨17, Page.PLS, 0x0014, 0, .legal, false, false, 8⟩
  , ⟨18, Page.LDG, 0x0015, 0, .legal, false, false, 7⟩
  , ⟨19, Page.SIG, 0x0016, 0, .legal, false, false, 4⟩
  , ⟨20, Page.VEH, 0x0020, 0, .app, false, false, 8⟩
  , ⟨21, Page.GPM, 0x0021, 0, .app, false, true, 5⟩
  , ⟨22, Page.SAF, 0x0022, 0, .island, false, false, 7⟩
  , ⟨23, Page.EFM, 0x0023, 0, .island, false, false, 7⟩
  , ⟨24, Page.SW 0, 0x0024, 0, .app, false, false, 7⟩
  , ⟨25, Page.SW 1, 0x0024, 1, .app, false, false, 7⟩
  , ⟨26, Page.CLU, 0x0030, 0, .app, false, true, 7⟩
  , ⟨27, Page.PWA, 0x0031, 0, .app, false, false, 6⟩
  , ⟨28, Page.TEN, 0x0032, 0, .app, false, false, 5⟩
  , ⟨29, Page.RDR, 0x0033, 0, .app, false, false, 7⟩
  , ⟨30, Page.EPD, 0x0040, 0, .app, true, false, 7⟩
  , ⟨31, Page.AUD, 0x0041, 0, .app, false, false, 2⟩
  , ⟨32, Page.DMA, 0x0050, 0, .app, true, false, 3⟩
  , ⟨37, Page.U 0, 0x0060, 0, .app, true, true, 9⟩
  , ⟨38, Page.U 1, 0x0060, 1, .app, false, true, 9⟩
  , ⟨39, Page.U 2, 0x0060, 2, .app, false, true, 9⟩
  , ⟨40, Page.U 3, 0x0060, 3, .app, false, true, 9⟩
  , ⟨41, Page.TW 0, 0x0061, 0, .app, false, true, 9⟩
  , ⟨42, Page.TW 1, 0x0061, 1, .app, false, true, 9⟩
  , ⟨43, Page.ETH, 0x0062, 0, .app, true, true, 3⟩
  , ⟨44, Page.UPD, 0x0070, 0, .app, true, false, 5⟩ ]

/-- The page row of the page that holds address `a`. -/
def pageRow (a : Nat) : Option PageRow := pageRows.find? fun p => p.base == a / 0x1000 * 0x1000

/-- The ring page that holds address `a` (R84). -/
def ringPage (a : Nat) : Option Nat :=
  if 0x40061000 ≤ a ∧ a < 0x40065000 then some ((a - 0x40061000) / 0x1000) else none

/-- The index, in Table 3-1, of the page that holds `a` (0xFF: none). -/
def pageIndex (a : Nat) : Nat :=
  match pageRow a, ringPage a with
  | some p, _ => p.index
  | none, some k => 33 + k
  | none, none => 0xFF

/-- Is `a` in the register space, in a page of Table 3-1 (R82)? -/
def mappedReg (a : Nat) : Bool := (pageRow a).isSome || (ringPage a).isSome

/-- Word `k` of a number. -/
def wordAt (n k : Nat) : Word := BitVec.ofNat 32 (n / 2 ^ (32 * k))

/-- The words of the registers whose content belongs to the unit or to the die: SYS.UID, FIL.HBk_COEF (0 where a stage has
no such tap), SIG.PUBKEY and SIG.KEYCERT, GPM.MAC, CLU.EKEY (R498), ETH.MAC and, at reset, ETH.ADDR. -/
def unitWord (a : Nat) : Option Word :=
  let piece (base words v : Nat) : Option Word := if base ≤ a ∧ a < base + 4 * words then some (wordAt v ((a - base) / 4)) else none
  if a < 0x40010000 then piece 0x40000040 4 Config.uid.toNat
  else if a < 0x40020000 then
    if 0x40018400 ≤ a ∧ a < 0x40018500 then
      let k := (a - 0x40018400) / 0x40
      let j := (a - 0x40018400) % 0x40 / 4
      some (BitVec.ofInt 32 ((Config.halfBand.coef.getD k []).getD j 0))
    else none
  else if a < 0x40030000 then
    if a < 0x40025140 then piece 0x40025100 16 (ofBytes signingPublic) else piece 0x40025140 40 (ofBytes keyCert)
  else if a < 0x40040000 then piece 0x40031040 2 Config.gpmMac.toNat
  else if a < 0x40050000 then piece 0x40040044 1 (Config.uid.toNat % 2 ^ 32)
  else if a < 0x40076050 then piece 0x40076044 2 Config.ethMac.toNat
  else piece 0x40076050 2 Config.ethMac.toNat

/-- The value at reset of the word at `a`: PAGE.ID and REV (R83, R86), OWNER per Table 3-1, the words of the unit,
otherwise the tables'. -/
def resetWord (a : Nat) : Word :=
  let table : Word := match unitWord a with
    | some w => w
    | none => match resetWords.find? fun (b, reps, _) => hitsReps b reps a with
      | some (_, _, v) => BitVec.ofNat 32 v
      | none => 0
  match pageRow a with
  | some p =>
    if a = p.base then BitVec.ofNat 32 (0x01 + 0x100 * p.inst + 0x10000 * p.type)
    else if a = p.base + 4 then 0x00004301
    else if a = p.base + 0x20 then BitVec.ofNat 32 (p.owner.code + if p.xfer then 4 else 0)
    else table
  | none => table

/-- The access rows of the page that holds `a`. -/
def rowsOfPage (a : Nat) : List FieldRow :=
  match ringPage a with
  | some _ => fieldRowsRING
  | none => match pageRow a with
    | none => []
    | some p => match p.type with
      | 0x0001 => fieldRowsSYS
      | 0x0002 => fieldRowsANG
      | 0x0003 => fieldRowsTMR
      | 0x0005 => fieldRowsSEAL
      | 0x0010 => fieldRowsHEAD
      | 0x0011 => fieldRowsFIL
      | 0x0012 => fieldRowsMET
      | 0x0013 => fieldRowsCAL
      | 0x0014 => fieldRowsPLS
      | 0x0015 => fieldRowsLDG
      | 0x0016 => fieldRowsSIG
      | 0x0020 => fieldRowsVEH
      | 0x0021 => fieldRowsGPM
      | 0x0022 => fieldRowsSAF
      | 0x0023 => fieldRowsEFM
      | 0x0024 => fieldRowsSW
      | 0x0030 => fieldRowsCLU
      | 0x0031 => fieldRowsPWA
      | 0x0032 => fieldRowsTEN
      | 0x0033 => fieldRowsRDR
      | 0x0040 => fieldRowsEPD
      | 0x0041 => fieldRowsAUD
      | 0x0050 => fieldRowsDMA
      | 0x0060 => fieldRowsU
      | 0x0061 => fieldRowsTW
      | 0x0062 => fieldRowsETH
      | 0x0070 => fieldRowsUPD
      | _ => []

/-- The access rows of the word at `a` (the pattern block of a link page included, R85). -/
def rowsAt (a : Nat) : List FieldRow :=
  let own := (rowsOfPage a).filter fun r => hitsReps r.addr r.reps a
  match pageRow a with
  | some p => if p.link then own ++ ((fieldRowsPAT (if p.type = 0x0061 then 11 else 32)).filter fun r => hitsReps r.addr r.reps (a - p.base)) else own
  | none => own

end Sys2Proof.Machine
end

