-- ==== Sys2Proof/Machine/Store.lean ====
section
/-!
DEFINITION. Machine/Store.lean: sparse data by key in ONE canonical form, used for the register words, the byte
memories, the ledger lines and the tags. A store is a list of (key, value) pairs with strictly rising keys and no entry
equal to what its key reads as when it is not listed (`d`). Equal contents are equal lists.
-/

namespace Sys2Proof.Machine

/-- What key `a` reads as: its listed value, else the default. -/
def storeRead {α : Type} (d : Nat → α) : List (Nat × α) → Nat → α
  | [], a => d a
  | (k, v) :: m, a => if k = a then v else storeRead d m a

/-- Put an entry before the first one with a larger key. -/
def storeInsert {α : Type} (a : Nat) (v : α) : List (Nat × α) → List (Nat × α)
  | [] => [(a, v)]
  | (k, w) :: m => if a < k then (a, v) :: (k, w) :: m else (k, w) :: storeInsert a v m

/-- Write `v` at key `a`, keeping the canonical form: what was listed at the key goes, and `v` is listed unless the key reads as it anyway. -/
def storeWrite {α : Type} [DecidableEq α] (d : Nat → α) (m : List (Nat × α)) (a : Nat) (v : α) : List (Nat × α) :=
  let rest := m.filter fun e => decide (e.1 ≠ a)
  if v = d a then rest else storeInsert a v rest

/-- Drop every entry whose key satisfies `p`: those keys read as their default again. -/
def storeErase {α : Type} (p : Nat → Bool) (m : List (Nat × α)) : List (Nat × α) :=
  m.filter fun e => !p e.1

/-- The canonical form: strictly rising keys, each entry different from the default of its key. -/
def storeWf {α : Type} [DecidableEq α] (d : Nat → α) : List (Nat × α) → Bool
  | [] => true
  | (k, v) :: m => decide (v ≠ d k) && m.all (fun e => decide (k < e.1)) && storeWf d m

end Sys2Proof.Machine
end

