-- ==== Sys2Proof/Machine/State.lean ====
section
/-!
DEFINITION. Machine/State.lean: the state of the module as plain data. The registers of chapters 2 to 21 stand in
`regs`, keyed by address; what the rules of the spec name and no register shows stands in one structure per block.
INVENTORY.md, heading State, lists every register and every field with the rule that names it and its reset value.
-/

namespace Sys2Proof.Machine

/-! ### Lines and events -/

/-- A 128-bit line with its tag (R281): the data as written, the stored owner code, the bits of data and tag that a
disturbance has flipped since (data bits 0 to 127, tag bits 128 to 159), and the poison tag (R286). -/
structure TagLine where
  data : Line
  owner : BitVec 7
  flips : BitVec 160
  poison : Bool
deriving DecidableEq, Repr

/-- The tag of an SRAM line whose data stand in `mem`: the bits flipped since it was written, and the poison tag. -/
structure SramTag where
  flips : BitVec 160
  poison : Bool
deriving DecidableEq, Repr

/-- An event on its way to a log (R302, R303): order of occurrence, code, page index, counted, flags, cycle, UTC, and
the 32 argument bytes as one little-endian number. -/
structure EventRec where
  order : Nat
  code : Nat
  page : Nat
  counted : Bool
  flags : Nat
  cycle : Nat
  utc : Nat
  arg : Nat
deriving DecidableEq, Repr

/-- The event collector of LDG (R303, R304, R308). -/
structure EventLog where
  order : Nat := 0                    -- events so far, for the order of occurrence
  bootBuf : List EventRec := []       -- boot event buffer, at most 32 (R308)
  counted : List EventRec := []       -- counted queue, at most 64
  waiting : List EventRec := []       -- counted events waiting in their source (R304)
  ring : List EventRec := []          -- ring queue, at most 64
  dropped : Nat := 0                  -- dropped since the last event 0x0409
  ringSeq : Nat := 0                  -- records written to the event ring since manufacture
  satLogged : Bool := false           -- event 0x020C logged (R110)
  lowLogged : Bool := false           -- event 0x0407 logged (R305)
  refusedRuns : List (Nat × Bool) := [] -- initiators whose last access was refused under R82 (event 0x0212)
deriving DecidableEq, Repr

/-- A register write held back under R304. -/
structure StalledWrite where
  who : Initiator
  addr : Nat
  value : Word
deriving DecidableEq, Repr

/-- What the last access returned to its initiator: a bus error, or data; or the answer of the service link or of the recovery
service, CMD + 0x80 and PAYLOAD, first byte lowest. -/
structure BusResult where
  err : Bool := false
  data : Nat := 0
deriving DecidableEq, Repr

/-! ### Angle clock, timers, real-time clock (chapter 2) -/

/-- The angle clock beside its registers: bits [47:0] of the phase accumulator (bits [63:48] are ANG.CYCLES modulo
65 536), reference ticks since power-on, the counts of Table 2-2, the increments of the last cycles, the counts of R51,
and the wait of R76. `loopInc` is exact, so that only the increment in use is rounded. -/
structure AngleClock where
  phase : Nat := 0
  now : Nat := 0
  inLock : Nat := 0        -- consecutive comparisons within 64 steps
  offLock : Nat := 0       -- consecutive comparisons beyond 512 steps
  offRange : Nat := 0      -- consecutive cycles out of range
  lastIncs : List Nat := []  -- increments of the last 10 cycles, newest first
  loopInc : Rat := 0       -- the increment in LOCKED without its phase term (R816)
  refBad : Bool := false   -- channels invalid until REFOK has been 1 for 1 s (R76)
  refSince : Nat := 0      -- tick at which REFOK last rose (R76, R78)
  usOrigin : Nat := 0      -- tick at which TMR.US was 0 (R69)
  utcFrac : Nat := 0       -- part of the current millisecond of RTC.UTC, in 1/100 tick
  slewFrac : Nat := 0      -- part of the current millisecond of slew, in 1/100 tick
  carry : Option Nat := none     -- tick of the last carry out of bit 47 (R47, R258)
  cycleLen : Option Nat := none  -- ticks between the last two carries
deriving DecidableEq, Repr

/-- A general timer beside its registers: the tick in force (R68), and whether its LOAD at the start was 0. -/
structure Timer where
  tick : Nat := 0
  frac : Nat := 0
deriving DecidableEq, Repr

/-- A committed UTC request that the legal image has not handled yet (R72, R81). -/
structure UtcRequest where
  src : Nat
  seq : Nat
  utc : Nat
  at_ : Nat      -- RTC.UTC at the commit
deriving DecidableEq, Repr

/-! ### Seal (chapter 3) -/

/-- The ferroelectric seal cell (R102, R817) and what the sealing sequence remembers. -/
structure Seal where
  cell : Nat := 0              -- 0 FACTORY, 1 SEALED, 2 UNSEALED
  cellCover : Bool := false    -- cover contact as written in the cell: open
  trans : Nat := 0             -- SEAL.TRANS
  freshPress : Bool := false   -- the press now held began after ARM (R103)
  stalePress : Bool := false   -- the press now held counts for no hold: it began before the supply was valid, or has set PUSHED (R114)
  recorded : Bool := false     -- a sealing record was committed since PUSHED
deriving DecidableEq, Repr

/-! ### Start and modes (chapter 4) -/

/-- Start control beside BOOT and SYS: power, which domains run, the mode conditions of R152, and the memories of R77,
R133, R136, R137, R313, R314. -/
structure Boot where
  powered : Bool := false       -- the 24 V supply is valid
  legalRuns : Bool := false     -- the legal domain is out of reset
  appRuns : Bool := false       -- the application domain is out of reset
  reachedS3 : Bool := false     -- S3 entered since the cold start (R77)
  failCounted : Bool := false   -- this start has been counted as failed (R137)
  wrongConf : Bool := false     -- event 0x0115 logged in this start (R133)
  productionTest : Bool := false -- Production test is in force (chapter 20)
  standby : Bool := false       -- Standby has been entered and not left
  resetCause : Nat := 0         -- cause of the last legal reset: 0 supply, 1 watchdog, 2 lockstep, 3 recovery or activation
  legalReset : Bool := false    -- a legal-reset commit awaits event 0x040F (R314)
  pfailReturn : Bool := false   -- the supply returned in the power-fail sequence (R313)
  pfail : Bool := false         -- the power-fail sequence runs or has ended without a new start
  mismatch : Bool := false      -- a tag mismatch awaits its reset (R131)
  rtcRan : Bool := false        -- the real-time clock ran through the absence of the supply (R75)
  ready : Bool := false         -- S3 has passed and S4 is awaited
  fellBack : Bool := false      -- this cold start has made the other bank active (R126)
  bselDue : Bool := false       -- a change of the bank-select record waits for S4 (R159)
  romOnly : Bool := false       -- no legal image runs though the kept Winter reason has the legal level: the boot ROM serves (R144)
  tagKey : List Byte := []      -- the tag key in the fetch verifier (R130)
  imageSize : Nat := 0          -- bytes of the application image that it covers
  tmaxValid : Bool := false     -- SYS.ENVEXT.TMAX holds a reading since the reset or the last read
deriving DecidableEq, Repr

/-! ### Ledger and sessions (chapter 8) -/

/-- One queued ledger line write. -/
structure LineWrite where
  line : Nat
  mask : BitVec 16
  data : Line
deriving DecidableEq, Repr

/-- The commit engine beside LDG (R292 to R301, R310). -/
structure Commit where
  legalQ : List LineWrite := []
  appQ : List LineWrite := []       -- at most 16 (R292)
  mirrorReq : Bool := false         -- LDG.CMD.MIRROR awaits its commit
  lastMirror : Nat := 0             -- tick of the last mirror commit
  configDirty : Bool := false       -- an RWS field changed since the last configuration copy (R300)
  configAt : Nat := 0               -- tick of the last such change
  configNewB : Bool := false        -- the newer configuration copy is B
  configGen : Nat := 0
  discarded : Nat := 0              -- application lines discarded at the freeze (R311)
  frozenCycle : Nat := 0
  frozenUtc : Nat := 0
deriving DecidableEq, Repr

/-- The open or closing session and the signing engine (R315 to R323). -/
structure Session where
  legalCond : Bool := false       -- the legal domain gives its condition under R28
  tenant : Nat := 0
  slot : Nat := 0
  counter : Nat := 0              -- tenant's session counter for this session
  auth : Nat := 0                 -- SYS.SESS_AUTH at opening
  startRseq : Nat := 0
  startCycle : Nat := 0
  startTaken : Bool := false      -- the start reading is taken and not yet committed
  closeHeld : Option Nat := none  -- the first close held while opening (R317): REASON + 256 × APPREASON
  reason : Nat := 0               -- pending REASON while closing
  appReason : Nat := 0
  withdrawnAt : Nat := 0          -- tick of the withdrawal (R316)
  deferred : Bool := false        -- the close is deferred to the next start (R318)
  readReq : Bool := false         -- an OP = 3 reading awaits the next close (R319)
  heldUwh : Nat := 0              -- held active energy of the session
  heldMs : Nat := 0               -- held time of the session
  heldFine : Int := 0             -- held active energy since the session opened, in engine units
  heldSamples : Nat := 0          -- samples since the session opened at which a billed element was invalid
  holdExp : Bool := false
  verifSeen : Bool := false       -- VERIF was 1 in the session
  utcStepped : Bool := false
  torn : Bool := false            -- TORN of this start (R299)
  record : Nat := 0               -- the signed start record that awaits its commit, 320 bytes
  signing : Bool := false         -- the signature in progress is that of the start record
deriving DecidableEq, Repr

/-! ### Head links and the sample chain (chapter 5) -/

/-- A head port beside its HEADn registers: the word alignment and identity reading of R175 and R176, the HELLO
handshake of R177, and the link errors of the second (R180). -/
structure HeadPort where
  plugged : Bool := false            -- a head cable is connected
  goodRun : Nat := 0                 -- consecutive good words in SYNC
  badRun : Nat := 0                  -- consecutive words that are not good
  lastSlot : Option Nat := none      -- slot of the last good word
  cur : List (Nat × Nat) := []       -- slots of the current cycle, newest first
  prev : List (Nat × Nat) := []      -- slots of the cycle before
  checked : Bool := false            -- the identity check has passed
  nonce : Option Nat := none         -- nonce in HELLO, none while waiting to retry
  runSent : Bool := false            -- the echo was seen and RUN is sent
  unbound : Bool := false            -- in HOLD as unbound (R37)
  errSecond : Nat := 0               -- the second in which errors are counted
  errCount : Nat := 0
  errLogged : Bool := false
  rf1 : Bool := false                -- an RF-1 head is in service on the port (R39)
  patternSent : Nat := 0             -- argument of the last PATTERN command sent (R766)
  due : List (Nat × Nat) := []       -- command words to send before IDLE or HELLO, first first: CMD and ARG (R169, R174)
  slot12 : Bool := false             -- slot 12 has been read since the entry into RUN (R203)
  phase : Nat := 0                   -- modulator clocks from a decimation period's start to the next word's, 0 to 31 (a free value)
deriving DecidableEq, Repr

/-- A head as far as the spec describes what it does (R170 to R181, R429, R766). -/
structure HeadDevice where
  run : Bool := false       -- RUN flag, modulators running
  slot15 : Nat := 0         -- echo of the last HELLO nonce
  slot10 : Nat := 0         -- echo of the last AUXCTL argument
  aux : Nat := 0            -- auxiliary circuit as set
  pattern : Nat := 0        -- test pattern in progress, 0 for none
deriving DecidableEq, Repr

/-- One channel of the sample chain (R188 to R197). -/
structure Channel where
  ints : List Nat := [0, 0, 0, 0, 0]   -- CIC integrators, 36 bits
  combs : List Nat := [0, 0, 0, 0, 0]  -- CIC comb delays, 36 bits
  hb1 : List Int := []                 -- inputs of the half-band stages, newest first, in 1/16
  hb2 : List Int := []
  hb3 : List Int := []
  hb4 : List Int := []
  lastBit : Bool := false
  run : Nat := 0                       -- length of the present run of identical bits (R189)
  since : Nat := 0                     -- samples since the end of the latest cause
  linkAge : Nat := 37                  -- samples since the last link error, at most 37
  satNow : Bool := false               -- in saturation: the last sample was SAT (R194)
  ovl : Bool := false                  -- an overload flag covers the present decimation period (R172)
  ovlLast : Bool := false              -- the latest status word flagged an overload (R172)
  count : Nat := 0                     -- samples since the chain epoch (R186)
  hist : List (Int × Bool × Bool) := []  -- last 800 samples, newest first: value, VALID, SAT (for the island: R394, R423, R430)
deriving DecidableEq, Repr

/-! ### Energy engine (chapter 6) -/

/-- The sums of one closed engine cycle with N > 0 that the 10-cycle values take (Table 6-3, R220). -/
structure CycleSums where
  n : Nat
  ep : Int
  eq : Int
  es : Nat
  v2 : Nat
  i2 : Nat
  ib2 : Nat
  v : Int
  i : Int
  ib : Int
deriving DecidableEq, Repr

/-- One metering element (R211 to R241). Energies are in engine units: 1 / (2⁶⁰ × 2.56 × 10²⁰) W × 125 µs. -/
structure Elem where
  vbs : List (Option Int) := []   -- vb, newest first, none where the sample was invalid
  ibs : List (Option Int) := []   -- ib, newest first
  vds : List (Option Int) := []   -- vd, newest first, 255 at most
  ics : List Int := []            -- ic, newest first
  ps : List Int := []             -- p, newest first
  n : Nat := 0                    -- N of the open cycle
  nr : Nat := 0                   -- reactive samples of the open cycle
  ep : Int := 0
  epr : Int := 0                  -- EP′
  eq : Int := 0
  v2 : Nat := 0                   -- Σ vd²
  i2 : Nat := 0                   -- Σ ic²
  ib2 : Nat := 0                  -- Σ ib²
  sv : Int := 0
  si : Int := 0
  sib : Int := 0
  ovr : Bool := false             -- the open cycle holds an OVR sample
  lastOvr : Bool := false         -- the last closed cycle held one
  allValid : Bool := true         -- every sample that the open cycle completed was valid
  hep : Int := 0                  -- held sums of the open cycle
  hepr : Int := 0
  heq : Int := 0
  hes : Nat := 0
  hist : List CycleSums := []     -- last 10 cycles with N > 0, newest first
  hpP : Int := 0                  -- held powers, in engine units a sample
  hpPr : Int := 0
  hpQ : Int := 0
  hpS : Nat := 0
  hadCycle : Bool := false        -- a valid cycle has closed since the element was enabled
  run : Int := 0                  -- held active energy of the run in progress
  g : Int := 0                    -- segment gain, 1/256 ppm
  adv : Int := 0                  -- advance, 1/65 536 sample
  fresh : Nat := 0                -- cycles with N > 0 closed since the element became valid, at most 10 (R223)
deriving DecidableEq, Repr

/-- The working copy of CAL (R224). -/
structure Cal where
  gain : List Int := []
  ofs : List Int := []
  iref : List Nat := []
  istart : List Nat := []
  bps : List (List (Nat × Int × Int)) := []   -- per element: BP, GAIN, PHASE of the breakpoints in use
deriving DecidableEq, Repr

/-- The energy engine beside MET and CAL. The lists hold the configuration words in force (R230, R245, R247). -/
structure Energy where
  elems : List Elem := List.replicate 8 {}
  meCfg : List Nat := List.replicate 8 0
  accCfg : List Nat := List.replicate 64 0
  br : List Nat := List.replicate 8 0
  types : List Nat := List.replicate 8 0   -- HEADn.CFG.TYPE in force
  cal : Cal := {}
  calNext : Option Cal := none    -- copy that waits for an engine cycle end
  clear : Bool := false           -- ACCCLR written (R227)
  satLogged : List Nat := []      -- accumulators whose event 0x030E is logged (R248)
deriving DecidableEq, Repr

/-! ### Pulse outputs (chapter 7) -/

/-- A pulse output beside its registers: the setting in force (R269), the window (R260) and the spacing (R265). -/
structure PulseOut where
  en : Bool := false
  acc : Nat := 0
  const : Nat := 0
  r0 : Nat := 0                  -- R₀, Q64.64 pulse units
  d : Nat := 0                   -- D, Q64.64 pulse units
  emitted : Nat := 0             -- pulses emitted in the window
  owed : Nat := 0                -- pulses owed after a start and not yet emitted (R273)
  lastEdge : Option Nat := none  -- tick of the last active edge
  width : Nat := 0               -- width of the last pulse, in ticks
  delayed : Nat := 0             -- pulses delayed since OVRATE rose
  test : Nat × Nat := (0, 0)     -- TCONST and TEN as last in effect (R268)
deriving DecidableEq, Repr

/-- The pulse engine. -/
structure Pulses where
  outs : Vector PulseOut 4 := Vector.replicate 4 {}
  start : Nat := 0               -- tick of the window start
  len : Nat := 0                 -- T_c
  windowOn : Bool := false       -- a window has begun since EN was set (R270)
  next : Option (Nat × Option Nat) := none  -- window of the last closed cycle that has not begun: its start, and T_c where known (R258)
  snap : Bool := false           -- a snapshot is requested (R274)
  seen : List Nat := List.replicate 64 0   -- accumulators at the last window start
deriving DecidableEq, Repr

/-! ### Switch channels and safety island (chapters 10 to 12) -/

/-- A switch channel beside its registers (R449 to R477). -/
structure SwChan where
  hs : Bool := false          -- the high-side leg conducts
  ls : Bool := false          -- the low-side leg conducts (SW00 to SW07)
  vswWait : Bool := false     -- waits for its restart after the return of VSW (R477)
  pausing : Bool := false     -- in the pause of R456
  waitCool : Bool := false    -- the retry instant has passed and the retry waits for the junction to cool (R455)
  hot : Bool := false         -- the junction has not cooled since a thermal trip (R455)
  cell : Nat := 0             -- switching cycles as kept in the ferroelectric cell (R447)
  blankEnd : Nat := 0         -- tick at which the blanking window of the last start ends (R453)
  retryAt : Nat := 0          -- tick of the retry instant of the running pause (R456)
  clampH : List (Nat × Nat) := []  -- end tick and energy in 0.1 mJ of the clamp events of the last 10 s, high-side leg (R467)
  clampL : List (Nat × Nat) := []  -- the same of the low-side leg
deriving DecidableEq, Repr

/-- What the island keeps of a safety channel (R392 to R399, R465). -/
structure SafeChan where
  causes : List Nat := []     -- fault cell: the latched causes of SAF.CHFLT, first latched first
  fb : Bool := false          -- filtered FBn
  opening : Bool := false     -- the open deadline runs
  opened : Bool := false      -- FBn has been 1 since the opening began
  seen0 : Bool := false       -- both legs conduct and FBn has been 0
  seen1 : Bool := false       -- no leg conducts and FBn has been 1 after the open deadline
  postDue : Bool := false     -- the opening awaits the reference of its post-open check
  post : Option Nat := none   -- post-open check: windows left before the one that decides (R396)
  postHold : Bool := false    -- an indeterminate window withholds permission (R396)
  preLogged : Bool := false   -- event 0x0616 logged for this request (R395)
  quiet : Bool := false       -- both terminals in the levels of R465 for the last 100 ms
  passes : Nat := 0           -- checks of FBn under R382 passed in succession, at most 3
deriving DecidableEq, Repr

/-- What the island keeps of a pair (R384 to R388, R404). -/
structure SafePair where
  causes : List Nat := []     -- the latched causes of SAF.PAIRFLT, first latched first
  assumed : Bool := false     -- treated as demanding since S2 (R404)
  passA : Nat := 0            -- checks passed in succession, at most 3
  passB : Nat := 0
deriving DecidableEq, Repr

/-- The safety island beside SAF. -/
structure Island where
  chans : Vector SafeChan 8 := Vector.replicate 8 {}
  pairs : Vector SafePair 16 := Vector.replicate 16 {}
  srcBad : Vector Nat 2 := Vector.replicate 2 0    -- consecutive periods with a bad test pulse
  srcGood : Vector Nat 2 := Vector.replicate 2 0
  srcFault : Vector Bool 2 := Vector.replicate 2 false
  pulse : Vector Bool 2 := Vector.replicate 2 false -- TPn is at 0 V
  laneBad : Nat := 0                               -- disagreeing comparisons in succession
  restored : Bool := false                         -- S2 has restored the fault cell since the supply returned (R399)
  crcBad : Bool := false                           -- the last check of R378 found a mismatch
  oscBad : Bool := false                           -- the oscillator deviates by more than 3 % (R374)
  weld : List (Option Nat) := List.replicate 8 none -- last weld window of each port in mV, none when indeterminate
deriving DecidableEq, Repr

/-- A count of qualifying evaluations and of the evaluations since that did not qualify (R424). -/
structure TierCount where
  n : Nat := 0
  miss : Nat := 0
deriving DecidableEq, Repr

/-- The earth-fault functions beside EFM (chapter 11). -/
structure Earth where
  tiers : List TierCount := List.replicate 4 {}    -- tiers 1 to 3, then the AC trip
  acBelow : Nat := 0          -- consecutive evaluations with IAC below ACWARN
  excBad : Nat := 0           -- consecutive evaluations with EXC outside 0.40 to 0.60
  lastQual : Bool := false    -- the last evaluation qualified for a tier or the AC trip
  lossNoted : Bool := false   -- event 0x0705 logged for the present loss
  insFault : Bool := false    -- insulation fault latched (R432)
  above : Nat := 0            -- consecutive evaluations with U at or above 50 V
  below : Nat := 0            -- consecutive evaluations with U below 50 V
  samples : Nat := 0          -- output samples of the running step
  sumI : Int := 0             -- sums over its last quarter
  sumU : Int := 0
  bad : Bool := false         -- a sample of that quarter was not valid, or the head left RUN in the step
  i1 : Int := 0               -- sums and number of samples of step 1
  u1 : Int := 0
  n1 : Nat := 0
  rpTest : Option Rat := none -- Rp of the test cycle that awaits its normal cycle, in kΩ; none for 0xFF_FFFF
  testDone : Bool := false    -- a test cycle awaits its normal cycle
  testDue : Bool := false     -- TESTINT has passed
deriving DecidableEq, Repr

/-- The switch channels and the island together. -/
structure Safety where
  sw : Vector SwChan 24 := Vector.replicate 24 {}
  vswOk : Bool := false
  shedNone : Bool := false    -- event 0x0808 with channel 0xFF logged (R483)
  vswLeft : Bool := false     -- VSW has left its range since power-on, so that coming in range is a return (R476)
  vswBackAt : Nat := 0        -- tick of the last return of VSW (R477)
  island : Island := {}
  earth : Earth := {}
deriving DecidableEq, Repr

/-! ### Vehicle interface (chapter 9) -/

/-- The pilot, the proximity measurement and the emulation beside VEH. -/
structure Vehicle where
  gen : Nat := 1                     -- generator mode in force (Table 9-2)
  high : Nat := 0                    -- high phase of the running period in reference ticks (R333)
  want : Nat × Bool := (0, false)    -- VALUE and CURSEL of the duty requested
  staged : Option (Nat × Bool) := none  -- duty that awaits an alarm with ACT = 7 (R341)
  skip : Bool := false               -- the running period is skipped (R336)
  cand : Nat := 0                    -- window of the last samples, and how many in succession
  candN : Nat := 0
  afresh : Nat := 0                  -- samples in the qualified state since the off cause ended (R344)
  diodeBad : Nat := 0                -- low samples above -10.5 V in succession
  diodeGood : Nat := 0
  invalFor : Nat := 0                -- periods in succession, up to 2 000, that met the conditions of R338
  stuckFor : Nat := 0
  invalGone : Nat := 0               -- periods in succession that did not
  stuckGone : Nat := 0
  ppCand : Nat := 0                  -- code of the last measurements, and how many in succession
  ppN : Nat := 0
  obsDuty : Nat := 0                 -- duty of the last observed event
  stepFrom : Option Nat := none      -- tick from which the duration of the profile step counts; none while it waits for PWM (R361)
  restarts : List Nat := []          -- ticks of the modem restarts of the last 60 s (R350)
deriving DecidableEq, Repr

/-- The pilot-line modem beside GPM. -/
structure Modem where
  since : Nat := 0                           -- tick at which the run started
  parm : Bool := false                       -- the run has begun with CM_SLAC_PARM.REQ
  matched : Bool := false                    -- the match has been answered or confirmed
  peer : Nat := 0                            -- MAC address and run identifier of the run
  run : Nat := 0
  nid : Nat := 0                             -- identifier and key of the logical network
  key : Nat := 0
  profiles : List (Nat × Nat) := []          -- vehicle role: MAC address and average attenuation of the EVSEs that answered
deriving DecidableEq, Repr

/-! ### DMA rings (chapter 17) -/

/-- A receive element that waits in a ring: its bytes, and word 2 and AUX of its write-back where the port gives them. -/
structure RingElem where
  data : List Byte
  w2 : Option Nat := none
  aux : Option Nat := none
deriving DecidableEq, Repr

/-- A ring beside its registers. -/
structure Ring where
  desc : Option (Nat × Nat) := none  -- the taken descriptor: index and its 256 bits
  moved : Nat := 0                   -- bytes of LEN moved
  fin : Option (Nat × Option Nat × Option Nat) := none  -- write-back due: RESULT, word 2, AUX
  inbox : List RingElem := []        -- receive elements not yet moved
  out : List Byte := []              -- bytes read for a transmit port and not yet consumed by its device
  elemOvw : Bool := false            -- OVW in a character of the element in progress (R693)
  kick : Bool := false               -- a kick is remembered (R659)
  portChanged : Bool := false        -- its device ceased to name it, or another named it (R660)
  dropRun : Bool := false            -- the last element was discarded (R650)
  foreign : Bool := false            -- event 0x0D09 logged since the reset
  lastDone : Nat := 0                -- index of the last descriptor written back
  posted : Bool := false             -- its data writes may still be in flight: BAR = 0 (R651, R652)
  deferred : Bool := false           -- the wait in progress has exceeded DEFLIM (R663)
deriving DecidableEq, Repr

/-- The arbitration of R661: the classes of the last 8 grants, newest first, the ring granted last in each class, and the
position in the round of C2 and C3. -/
structure DmaArb where
  grants : List Nat := []
  last : List (Option Nat) := List.replicate 4 none
  turn3 : Bool := false
  turnN : Nat := 0
deriving DecidableEq, Repr

/-! ### Link patterns (chapter 20) -/

/-- The checker of one lane (R764). -/
structure PatLane where
  load : Nat := 0             -- bits loaded, up to the degree
  reg : Nat := 0              -- shift register, newest bit in bit 0
  good : Nat := 0             -- correct predictions in succession
  wrong : List Bool := []     -- the last 64 compared bits in synchronisation, newest first
  sync : Bool := false
deriving DecidableEq, Repr

/-- The generator and checker of one link page (R763, R764, R767). -/
structure PatBlock where
  gen : List Nat := []                          -- shift registers of the generator, by lane
  inj : Bool := false                           -- the next generated bit is inverted
  lanes : List PatLane := List.replicate 3 {}
  frame : Nat := 0                              -- number of the next generated frame
  expect : Option Nat := none                   -- number of the next received frame
  lossAt : Option Nat := none                   -- instant of the last event 0x1012 of a loss
deriving DecidableEq, Repr

/-! ### Serial ports (chapter 18) -/

/-- A UART beside its registers. A receive entry holds the data in bits 0 to 7, FE 8, PE 9, BRK 10, OVW 11, and in bit
12 an idle gap that followed it. -/
structure Uart where
  rxq : List Nat := []          -- receive queue, oldest first
  txq : List Nat := []          -- transmit queue, oldest first
  cur : Option Nat := none      -- the character being sent
  brkDue : Bool := false        -- a break is to be sent (CMD.BRK)
  brkNow : Bool := false        -- a break is being sent
  held : Bool := false          -- a character waits for CTS
  ovwRun : Bool := false        -- the last character overwrote (R685)
  collRun : Bool := false       -- event 0x0E03 logged in this period of driver enable (R691)
  lineEnd : Nat := 0              -- end of the character or break on the line, in 1/192 of a reference tick
  rxAt : Option Nat := none     -- end of the last character stored, in the same unit; none once its idle gap has come (R683)
deriving DecidableEq, Repr

/-- A two-wire block beside its registers. A receive entry holds the data in bits 0 to 7, START 8, the END of its element
in bits 12 to 14 (0: it goes on), and word 2 of its element from bit 16. -/
structure TwoWire where
  rxq : List Nat := []
  txq : List Nat := []
  phase : Nat := 0              -- controller: 0 none, 1 waits for the bus, 2 address, 3 data, 4 holds the bus after a transfer without STOP
  addrLeft : List Nat := []     -- address bytes still to send (9 bits: a repeated START before it in bit 8)
  cur : Nat := 0                -- the byte on the bus as the controller sends it
  count : Nat := 0              -- data bytes transferred
  retries : Nat := 0
  again : Bool := false         -- the transfer waits to be repeated
  lostRun : Bool := false       -- event 0x0E10 logged for this transfer
  free : Bool := false          -- the bus is free (R696)
  target : Nat := 0             -- target: 0 none, 1 receives the address, 2 its second byte, 3 is written, 4 is read
  first : Nat := 0              -- first address byte received as target
  match10 : Bool := false       -- the preceding 10-bit address matched
  fresh : Bool := false         -- the next byte stored is the first after the address
  subRun : Bool := false        -- event 0x0E15 logged in this target transfer
  sent : List Nat := []         -- bytes that the transfer has taken from the queue, for its repetition (R699)
  switching : Bool := false     -- receives the address after a loss (R700)
deriving DecidableEq, Repr

/-- The Ethernet port beside ETH. -/
structure Ether where
  dropRun : Bool := false       -- the last frame received was dropped
  discRun : Bool := false       -- the last frame taken for transmission was discarded
  pausedTo : Nat := 0           -- reference tick at which the pause time of the last PAUSE frame ends
deriving DecidableEq, Repr

/-! ### Update engine (chapter 19) -/

/-- The update engine beside UPD: the running command with its arguments, the manifest buffer of the recovery service, the
bank-select record beside its registers (Table 19-7), and the cluster activation for which ALM15 is armed. -/
structure Update where
  op : Nat := 0                  -- command that runs, 0 for none
  part : Nat := 0
  ofs : Nat := 0
  len : Nat := 0
  manbuf : List Byte := []       -- manifest bytes of MANBUF (Table 19-10)
  asked : Nat := 0               -- recovery command whose answer awaits its completion (R752), 0 for none
  active : Nat := 0              -- BSEL: ACTIVE, 0 Spring, 1 Autumn
  logged : Bool := true          -- BSEL: LOGGED
  source : Nat := 0              -- BSEL: SOURCE
  actCycle : Nat := 0            -- cycle and UTC of the last activation
  actUtc : Nat := 0
  digestSpr : Nat := 0           -- recorded manifest digests
  digestAut : Nat := 0
  begun : Nat := 0               -- SOURCE of the activation under way
  cluster : Bool := false        -- ALM15 is armed for a cluster activation
  armId : Nat := 0               -- its ACTID and target
  armTarget : Nat := 0
  windowAt : Nat := 0            -- reference tick at which the running 60 s of SLEFT began (R748)
  aborts : List (Nat × Nat) := []  -- ACTID and target of the aborts received or sent since PREPARED (R744)
deriving DecidableEq, Repr

/-! ### Llyn link and allocation (chapters 13 and 14) -/

/-- A bulk grant (R513): sender, receiver, granted cycles, transfer, and the CCN of its BULKGRANT. -/
structure BulkGrant where
  sender : Nat
  receiver : Nat
  ncyc : Nat
  tid : Nat
  ccn : Nat
  len : Nat := 0     -- data frames, on the master and the sender
deriving DecidableEq, Repr

/-- A bulk transfer that this module sends, or a request that the master holds: other end, frames, transfer; `from_` is the
address that asks. -/
structure BulkReq where
  from_ : Nat
  receiver : Nat
  len : Nat
  tid : Nat
  at_ : Nat      -- ANG.CYCLES at the request (R514)
deriving DecidableEq, Repr

/-- The Llyn link beside CLU. -/
structure Cluster where
  lost : Bool := false               -- the master is lost (R508)
  lastCcn : Nat := 0                 -- CCN of the last good master frame
  masterAt : Nat := 0                -- ANG.CYCLES at the last good master frame, at EN or when the master role ended (R508)
  sentAt : Nat := 0                  -- ANG.CYCLES at the last transmission, or at the start of the master role (R511)
  waitFrom : Nat := 0                -- ANG.CYCLES at which the wait of a candidate began, and its claim round (R509)
  claimFrom : Nat := 0
  slotAt : Option Nat := none        -- tick at which the last slot began (R487)
  inB : Bool := false                -- slot B is open
  held : Option (Nat × Nat) := none  -- GRANT not yet applied: payload, ANG.CYCLES from which it applies (R515)
  granted : Option Nat := none       -- payload of the last GRANT applied since admission
  slotCcn : Nat := 0                 -- CCN of the cycle whose slots run
  awaits : Option (Nat × Nat) := none  -- address and SEQ of the frame that slot B answers (R503)
  answered : Bool := false
  answer : Option (Nat × Nat) := none  -- answer due in slot B: TYPE and SEQ (Table 13-6)
  tx : Option Nat := none            -- frame or pattern bits transmitted in the last slot, first bit highest
  lastTx : List (Nat × Nat × Nat) := []  -- destination, TYPE and PAYLOAD of the last frame sent there (R494)
  bcSeq : Nat := 0                   -- SEQ of broadcasts
  heard : Bool := false              -- a master frame or CLAIM was heard while waiting or claiming (R509)
  bulkAsked : Bool := false          -- a BULKREQ was sent at the previous poll
  mine : Option BulkReq := none      -- own transfer, requested
  won : Bool := false                -- own transfer is granted
  acked : Bool := false              -- its BULKACK came
  grant : Option BulkGrant := none   -- the transfer that covers the present cycles
  requests : List BulkReq := []      -- on a master, requests not yet granted
  rx : List Byte := []               -- the block in reception, 116 bytes, and its MAP
  rxMap : Nat := 0
  skipPrev : List Nat := []          -- addresses not addressed in the last round and in this one (R501)
  skipNow : List Nat := []
  timeDue : Bool := false            -- TIME is to be sent (R516)
  actRxAt : Nat := 0                 -- CCN at which the stored ACTIVATE was first received
  actTxAt : Option Nat := none       -- CCN at which the ACTIVATE of ACTTX was first sent
  decided : Bool := false            -- ARMMAP and REQMAP were compared for it (R746)
  crcRound : Nat := 0                -- frames that failed their CRC in this poll round
deriving DecidableEq, Repr

/-- What the master keeps of an address for the allocation (R541 to R548). -/
structure AllocMember where
  k : Nat := 0                        -- commitment
  mask : Nat := 0                     -- phases on which it lies
  lastMask : Nat := 0                 -- PHMASK of the last STATUS
  maskUntil : Option Nat := none      -- round from which a changed PHMASK counts alone
  grants : List (Nat × Nat × Bool) := []  -- grants of the last allocations, newest first: G, round e, answered
  a : Nat := 0                        -- last grant sent and answered
  g : Nat := 0                        -- grant of the last allocation
  running : Bool := false
  since : Nat := 0                    -- round in which it last became running
  deferSince : Option Nat := none     -- round in which it first entered deferral
  refused : Option Nat := none        -- REASON of a refusal in force
  overs : Nat := 0                    -- STATUS frames in succession with DRAW above K by more than 4
  hold : Option Nat := none           -- round until which K is kept after a removal
deriving DecidableEq, Repr

/-- The allocation beside PWA: one entry for each address 1 to 32, and the phases whose event 0x0A15 is logged. -/
structure Alloc where
  mem : List AllocMember := List.replicate 32 {}
  rosterLogged : Nat := 0
deriving DecidableEq, Repr

/-! ### Tenants and the reader (chapter 15) -/

/-- An authorisation request with the ID or token copied at its start (R566). -/
structure AuthReq where
  method : Nat
  auto_ : Bool
  tenant : Nat
  len : Nat
  seq : Nat
  data : List Byte
deriving DecidableEq, Repr

/-- The tenant slots beside TEN: the words of the 16 slot blocks (key 64 × slot + word; not listed: 0) and ALOK of each
slot; what runs and what waits. -/
structure Tenants where
  words : List (Nat × Word) := []
  alok : Nat := 0
  req : Option AuthReq := none
  auto_ : Option AuthReq := none          -- an automatic request that waits (R568)
  check : Option Nat := none              -- slot whose allow list is being checked
  checkHit : Bool := false                -- an application write has met that list (R590)
  checkHeld : Option Nat := none          -- a check that waits for the authorisation (R590)
  wipe : Option (Nat × Nat) := none       -- slot of a wipe and its next line (R594)
  period : Option (Nat × Nat) := none     -- session slot, and the period from which the next tariff boundary is seen (R574)
  boundary : Option (Nat × Nat) := none   -- slot and period of a boundary that waits for SESS_REQ.OP (R574)
deriving DecidableEq, Repr

/-- The reader beside RDR: silent probes in HALTWATCH (R582), and the EPCs of the last 32 tags reported, newest first, with
the tick of their last read (R586). -/
structure Reader where
  silent : Nat := 0
  tags : List (List Byte × Nat) := []
  tunedAt : Nat := 0             -- tick of the last tuning (R576)
  reqaAt : Option Nat := none    -- tick of the last REQA in WAIT (R577)
  cmdAt : Nat := 0               -- tick of the activation or of the last write of HFCMD since (R583)
  probeAt : Nat := 0             -- tick of the release or of the last WUPA since (R582)
  roundAt : Option Nat := none   -- tick of the last inventory round since UHFEN (R585)
  turn : Nat := 0                -- channel of the next round in REGION 0 (Table 15-6)
  hopped : List Nat := []        -- channels of REGION 1 used among its 50 rounds
deriving DecidableEq, Repr

/-! ### Panel and prompt audio (chapter 16) -/

/-- A rectangle of pixels. -/
structure Rect where
  x : Nat
  y : Nat
  w : Nat
  h : Nat
deriving DecidableEq, Repr

/-- A request that waits (R608): layer, rectangle, mode. -/
structure PanelReq where
  layer : Nat
  rect : Rect
  mode : Nat
deriving DecidableEq, Repr

/-- An update in flight (R611): layer (3: the stale pattern), mode run, band, the frame in progress, the frames of its
descriptor, the old greys and the targets of its pixels, row by row. -/
structure PanelUpd where
  layer : Nat
  rect : Rect
  mode : Nat
  band : Nat
  frame : Nat
  nframes : Nat
  olds : List Nat
  targets : List Nat
deriving DecidableEq, Repr

/-- A piece of the current image (R604): the greys of a rectangle, row by row; none where its pixels are unknown. -/
structure PanelPatch where
  rect : Rect
  greys : Option (List Nat)
deriving DecidableEq, Repr

/-- The panel engine beside EPD. -/
structure Panel where
  wave : List Byte := []                                     -- waveform memory (R616)
  queue : List PanelReq := []                                -- waiting requests of the three layers in the order of their commits
  stale : Bool := false                                      -- the stale pattern waits (R619)
  slots : List (Option PanelUpd) := List.replicate 8 none
  image : List PanelPatch := []                              -- current image, newest first; a pixel in no patch is unknown
  cell : Option Nat := none                                  -- panel cell: frame index of a cut L0 update (R625)
  tBad : Nat := 0                                            -- sensor reading faults in succession (R599)
  tGood : Nat := 0                                           -- good readings in succession while TFAULT is 1
  tAge : Nat := 0                                            -- readings since TFAULT rose
  tempAt : Option Nat := none                                -- tick of the last measurement of the temperature since the cold start
  banded : Bool := false                                     -- a good measurement has set the band in force
  begun : Nat := 0                                           -- tick at which the frame period in progress began (R605, R607, R610)
  railsAt : Nat := 0                                         -- tick at which the power-up or power-down of the rails began (R596)
  vcom : Int := 0                                            -- VCOM setting of the last power-up, in mV
  idleAt : Nat := 0                                          -- tick from which RAILHOLD runs (R597)
  railFaults : List Nat := []                                -- ticks of the rail faults, newest first (R598)
  redraw : Bool := false                                     -- the legal image owes a presentation (R634)
  failAt : Nat := 0                                          -- tick of the last t₀ (R624)
deriving DecidableEq, Repr

/-- The audio output beside AUD (R628 to R630). -/
structure Audio where
  started : Bool := false    -- a frame has been output since it was enabled or restarted
  underRun : Bool := false   -- the underrun in progress has been logged
  out : Int := 0             -- the sample in output, before the ramps of R629, whose shape is not given
  last : Nat := 0            -- tick of the last sample instant
  faults : List Nat := []    -- ticks of the output faults, newest first
deriving DecidableEq, Repr

/-! ### The module -/

/-- The state of the module. -/
structure State where
  regs : List (Nat × Word)            -- register words by address (reads as `resetWord` where not listed)
  mem : List Host.Cell                -- SRAM and panel memory by address
  sramTags : List (Nat × SramTag)     -- damaged or poisoned SRAM lines by line address
  flash : List Host.Cell              -- the flash die by die offset
  ledger : List (Nat × TagLine)       -- the ledger by line index
  snaps : List (Nat × Word)           -- snapshot buffers of wide registers (R98), key 2 × address / 4 + domain
  stages : List (Nat × Option Word)   -- staging buffers of wide registers (R99), same key
  bus : BusResult
  stalled : List StalledWrite
  fresh : Nat                         -- free values used so far (the model's own field)
  log : EventLog
  angle : AngleClock
  timers : Vector Timer 8
  utcReq : Option UtcRequest
  sealSt : Seal
  boot : Boot
  commit : Commit
  session : Session
  heads : Vector HeadPort 8
  headDevs : Vector HeadDevice 8
  chans : Vector Channel 24
  energy : Energy
  pulses : Pulses
  safety : Safety
  vehicle : Vehicle
  modem : Modem
  rings : List (Nat × Ring)           -- rings by number; not listed: as after a reset
  dma : DmaArb
  pats : List (Nat × PatBlock)        -- pattern blocks by page base; not listed: at rest
  uarts : Vector Uart 4
  tws : Vector TwoWire 2
  ether : Ether
  update : Update
  cluster : Cluster
  alloc : Alloc
  tenants : Tenants
  reader : Reader
  panel : Panel
  audio : Audio
  pending : List Instr                -- the commands that wait, first in, first out
deriving DecidableEq, Repr

/-- The names of the machine stops with a fault. None of the meanings raises one at present: every command of the table
ends in a next state (NOTES.md, Stops). -/
inductive Fault where
  /-- Raised by nobody; the constructor keeps the type inhabited. Safe. -/
  | none
deriving DecidableEq, Repr

/-- The refusals. -/
inductive Refusal where
  /-- Raised by an arm of `exec` that has no meaning yet, with the row's mnemonic. Safe. -/
  | notModelled (mnemonic : String)
deriving DecidableEq, Repr

/-- The module as it leaves the factory, before its supply is valid: every register at its reset value (nothing is
listed), the ledger, memories and flash die empty, no command waiting. -/
def State.reset : State :=
  { regs := [], mem := [], sramTags := [], flash := [], ledger := [], snaps := [], stages := [], bus := {},
    stalled := [], fresh := 0, log := {}, angle := {}, timers := Vector.replicate 8 {}, utcReq := none, sealSt := {},
    boot := {}, commit := {}, session := {},
    heads := Vector.replicate 8 {}, headDevs := Vector.replicate 8 {}, chans := Vector.replicate 24 {}, energy := {}, pulses := {}, safety := {}, vehicle := {}, modem := {}, rings := [], dma := {}, pats := [], uarts := Vector.replicate 4 {}, tws := Vector.replicate 2 {}, ether := {}, update := {}, cluster := {}, alloc := {}, tenants := {}, reader := {}, panel := {}, audio := {},
    pending := [] }

end Sys2Proof.Machine
end

