-- ==== Sys2Proof/Machine/Operands.lean ====
section
/-!
DEFINITION. Machine/Operands.lean: the operand forms of the commands: who accesses and for which domain, signed fields,
byte strings as little-endian numbers, and the check codes of the links.
-/

namespace Sys2Proof.Machine

/-- The domain of an initiator: rings 0 to 31 are legal, 32 to 255 application (R84, R93). -/
def domainOf : Initiator → Domain
  | .legal => .legal
  | .hart _ => .app
  | .ring r => if r.val < 32 then .legal else .app

/-- A key for an initiator, for the run of R111. -/
def initiatorKey : Initiator → Nat
  | .legal => 0
  | .hart h => 1 + h.val
  | .ring r => 3 + r.val

/-- A `w`-bit field read as a two's-complement number. -/
def toSigned (w n : Nat) : Int :=
  let m := n % 2 ^ w
  if 2 * m < 2 ^ w then (m : Int) else (m : Int) - (2 ^ w : Nat)

/-- A number as a `w`-bit two's-complement field. -/
def ofSigned (w : Nat) (i : Int) : Nat := (i % ((2 ^ w : Nat) : Int)).toNat

/-- Limit a number to a signed field of `w` bits, keeping the field symmetric (±(2^(w-1) - 1)). -/
def limitSym (w : Nat) (i : Int) : Int :=
  let m : Int := ((2 ^ (w - 1) : Nat) : Int) - 1
  if i > m then m else if i < -m then -m else i

/-- `w` bits of `n` from bit `lo`. -/
def bits (n lo w : Nat) : Nat := n / 2 ^ lo % 2 ^ w

/-- Bit `i` of `n`. -/
def bit (n i : Nat) : Bool := n / 2 ^ i % 2 == 1

/-- `n` with `w` bits from bit `lo` replaced by `v`. -/
def setBits (n lo w v : Nat) : Nat :=
  n % 2 ^ lo + 2 ^ lo * (v % 2 ^ w) + 2 ^ (lo + w) * (n / 2 ^ (lo + w))

/-- A Bool as a bit. -/
def b2n (b : Bool) : Nat := if b then 1 else 0

/-- The number of 1 bits among the `w` low bits of `n`. -/
def popcount : Nat → Nat → Nat
  | 0, _ => 0
  | w + 1, n => n % 2 + popcount w (n / 2)

/-- One step of a CRC register of `w` bits with generator `poly` (top bit left out), most significant bit first. -/
def crcStep (w poly : Nat) (r : Nat) (b : Bool) : Nat :=
  let t := bit r (w - 1) != b
  let r' := 2 * r % 2 ^ w
  if t then r' ^^^ poly else r'

/-- A CRC over a bit string, from `init`. -/
def crcBits (w poly init : Nat) (l : List Bool) : Nat := l.foldl (crcStep w poly) init

/-- The `w` bits of `n`, most significant first. -/
def msbBits : Nat → Nat → List Bool
  | 0, _ => []
  | w + 1, n => bit n w :: msbBits w n

/-- The `w` bits of `n`, least significant first. -/
def lsbBits : Nat → Nat → List Bool
  | 0, _ => []
  | w + 1, n => bit n 0 :: lsbBits w (n / 2)

/-- The CRC of the head link: x⁴ + x + 1, initial value 0, no final inversion (R171). -/
def crc4 (l : List Bool) : Nat := crcBits 4 3 0 l

/-- One bit of the reflected CRC-32 of IEEE 802.3. -/
def crc32Step (r : Nat) : Nat := if r % 2 = 1 then (r / 2) ^^^ 0xEDB88320 else r / 2

/-- Eight bits of the CRC-32. -/
def crc32Byte (r : Nat) (b : Byte) : Nat :=
  let t := r ^^^ b.toNat
  crc32Step (crc32Step (crc32Step (crc32Step (crc32Step (crc32Step (crc32Step (crc32Step t)))))))

/-- The CRC-32 of IEEE 802.3 over a byte string. -/
def crc32 (l : List Byte) : Nat := l.foldl crc32Byte 0xFFFFFFFF ^^^ 0xFFFFFFFF

/-- The largest root below `2 ^ k`: one binary digit at a time. -/
def sqrtFrom (n : Nat) : Nat → Nat → Nat
  | 0, r => r
  | k + 1, r => sqrtFrom n k (if (r + 2 ^ k) * (r + 2 ^ k) ≤ n then r + 2 ^ k else r)

/-- Integer square root of a number below 2^320. -/
def isqrt (n : Nat) : Nat := sqrtFrom n 160 0

/-- `n / d` rounded to nearest, ties away from zero. -/
def roundDiv (n : Int) (d : Nat) : Int :=
  let q := (2 * n.natAbs + d) / (2 * d)
  if n < 0 then -(q : Int) else (q : Int)

/-- Several event arguments, 8 bytes each, the first lowest (DESIGN CHOICE, assumption log). -/
def args (l : List Nat) : Nat := l.foldr (fun a acc => a % 2 ^ 64 + 2 ^ 64 * acc) 0

/-- The smaller of `n` and the largest `w`-bit value. -/
def sat (w n : Nat) : Nat := min n (2 ^ w - 1)

end Sys2Proof.Machine
end

