-- ==== Sys2Proof/Machine/Ops.lean ====
section
/-!
DEFINITION. Machine/Ops.lean: the named operations over registers, memories and ledger lines. Every read and write of a
register by a meaning goes through `State.get`, `State.put` and their wide forms, so that the store of register words
keeps its canonical form.
-/

namespace Sys2Proof.Machine

/-! ### Registers -/

/-- The stored word at `a`; its reset value where nothing is stored. -/
def State.word (s : State) (a : Nat) : Word := storeRead resetWord s.regs a

/-- Store a register word. -/
def State.setWord (s : State) (a : Nat) (w : Word) : State := { s with regs := storeWrite resetWord s.regs a w }

/-- Read a field that lies in one word. -/
def State.get (s : State) (f : Field) : Nat := bits (s.word f.addr).toNat f.lo f.width

/-- Write a field that lies in one word: its `width` bits take `v` modulo 2^width, the word's other bits stay. -/
def State.put (s : State) (f : Field) (v : Nat) : State :=
  s.setWord f.addr (BitVec.ofNat 32 (setBits (s.word f.addr).toNat f.lo f.width v))

/-- Read a field of `w` bits over consecutive words from `a`, lowest word first. -/
def State.getWords (s : State) (a : Nat) : Nat → Nat
  | 0 => 0
  | n + 1 => (s.word a).toNat + 2 ^ 32 * s.getWords (a + 4) n

/-- Write `n` consecutive words from `a`, lowest word first. -/
def State.putWords (s : State) (a : Nat) : Nat → Nat → State
  | 0, _ => s
  | n + 1, v => (s.setWord a (BitVec.ofNat 32 v)).putWords (a + 4) n (v / 2 ^ 32)

/-- Read a word-aligned field wider than 32 bits. -/
def State.getW (s : State) (f : Field) : Nat := s.getWords f.addr ((f.width + 31) / 32) % 2 ^ f.width

/-- Write a word-aligned field wider than 32 bits; the rest of its last word stays. -/
def State.putW (s : State) (f : Field) (v : Nat) : State :=
  let full := f.width / 32
  let s1 := s.putWords f.addr full (v % 2 ^ f.width)
  if f.width % 32 = 0 then s1
  else s1.put { f with addr := f.addr + 4 * full, lo := 0, width := f.width % 32 } (v / 2 ^ (32 * full))

/-- Is a one-bit field set? -/
def State.on (s : State) (f : Field) : Bool := s.get f == 1

/-- Add `n` to a field that saturates at its largest value. -/
def State.addSat (s : State) (f : Field) (n : Nat) : State := s.put f (sat f.width (s.get f + n))

/-- Add one to a saturating field. -/
def State.incSat (s : State) (f : Field) : State := s.addSat f 1

/-- Set or clear bit `i` of a mask field. -/
def State.putBit (s : State) (f : Field) (i : Nat) (b : Bool) : State := s.put f (setBits (s.get f) i 1 (b2n b))

/-- Bit `i` of a mask field. -/
def State.getBit (s : State) (f : Field) (i : Nat) : Bool := bit (s.get f) i

/-- Put every register word of `[a, b)` back to its reset value. -/
def State.resetRange (s : State) (a b : Nat) : State :=
  { s with regs := storeErase (fun k => decide (a ≤ k ∧ k < b)) s.regs }

/-- Apply `f` when `c` holds. -/
def State.when (s : State) (c : Bool) (f : State → State) : State := if c then f s else s

/-! ### Clocks -/

/-- Ticks of the 16.384 MHz clock in a millisecond. -/
def tickMs : Nat := 16384

/-- ANG.CYCLES. -/
def State.cycles (s : State) : Nat := s.getW F.ANG_CYCLES

/-- RTC.UTC. -/
def State.utc (s : State) : Nat := s.getW F.RTC_UTC

/-- ANG.ANGLE: cycle count modulo 65 536 and angle (Table 2-5). -/
def State.angleWord (s : State) : Nat := s.cycles % 65536 * 65536 + s.angle.phase / 2 ^ 32 % 65536

/-- The lock state (Table 2-1). -/
def State.locked (s : State) : Bool := s.get F.ANG_STAT_STATE == 2

/-- The seal state (R102): 0 FACTORY, 1 SEALED, 2 UNSEALED. -/
def State.sealed (s : State) : Bool := s.get F.SEAL_STAT_STATE == 1

def State.unsealed (s : State) : Bool := s.get F.SEAL_STAT_STATE == 2

/-! ### A free value -/

/-- Take the next free value and go on with it. -/
def State.free (s : State) (k : Nat → State → State) : State :=
  k (Config.freeValue s.fresh) { s with fresh := s.fresh + 1 }

/-! ### Staging buffers (R99) -/

/-- The key of the buffers of one domain for the wide-register word at `a`. -/
def bufKey (d : Domain) (a : Nat) : Nat := 2 * (a / 4) + (if d = .legal then 0 else 1)

/-- The staged word of a domain at `a`, if it is marked as written. -/
def State.staged (s : State) (d : Domain) (a : Nat) : Option Word := storeRead (fun _ => none) s.stages (bufKey d a)

def State.setStaged (s : State) (d : Domain) (a : Nat) (w : Option Word) : State :=
  { s with stages := storeWrite (fun _ => none) s.stages (bufKey d a) w }

/-- The value of the `n`-word register at `a` that a commit by domain `d` gives: marked words from the staging buffer,
other words as they stand, the highest word `v`. -/
def State.commitValue (s : State) (d : Domain) (a : Nat) : Nat → Nat → Nat
  | 0, _ => 0
  | 1, v => v % 2 ^ 32
  | n + 1, v => ((s.staged d a).getD (s.word a)).toNat + 2 ^ 32 * s.commitValue d (a + 4) n v

/-- Clear the marks of a domain for the `n` words from `a`. -/
def State.unstage (s : State) (d : Domain) (a : Nat) : Nat → State
  | 0 => s
  | n + 1 => (s.setStaged d a none).unstage d (a + 4) n

/-! ### Memories -/

/-- What a byte of SRAM or panel memory that nothing has written reads as. -/
def memDefault (_ : Nat) : Byte := 0

/-- What a byte of the flash die that nothing has programmed reads as: erased. -/
def flashDefault (_ : Nat) : Byte := 0xFF

/-- The canonical form of a byte memory. -/
def Memory.wf (m : List Host.Cell) : Bool := storeWf memDefault m

def State.byte (s : State) (a : Nat) : Byte := storeRead memDefault s.mem a

def State.setByte (s : State) (a : Nat) (b : Byte) : State := { s with mem := storeWrite memDefault s.mem a b }

/-- Store consecutive bytes. -/
def State.setBytes (s : State) (a : Nat) : List Byte → State
  | [] => s
  | b :: bs => (s.setByte a b).setBytes (a + 1) bs

/-- Read `n` bytes from `a`. -/
def State.bytes (s : State) (a n : Nat) : List Byte := (List.range n).map fun i => s.byte (a + i)

/-- Read `n` bytes from `a` as a little-endian number. -/
def State.memNat (s : State) (a n : Nat) : Nat := ofBytes (s.bytes a n)

def State.flashByte (s : State) (a : Nat) : Byte := storeRead flashDefault s.flash a

def State.setFlash (s : State) (a : Nat) (b : Byte) : State := { s with flash := storeWrite flashDefault s.flash a b }

def State.setFlashBytes (s : State) (a : Nat) : List Byte → State
  | [] => s
  | b :: bs => (s.setFlash a b).setFlashBytes (a + 1) bs

def State.flashBytes (s : State) (a n : Nat) : List Byte := (List.range n).map fun i => s.flashByte (a + i)

/-- Erase `[a, b)` of the flash die. -/
def State.eraseFlash (s : State) (a b : Nat) : State :=
  { s with flash := storeErase (fun k => decide (a ≤ k ∧ k < b)) s.flash }

/-! ### Ledger lines (R281 to R288) -/

/-- The fixed owner code of a ledger line (Tables 8-2 and 8-3). -/
def ledgerOwner (i : Nat) : BitVec 7 :=
  if i < 0x2F400 then 0x00
  else if i < 0x37400 then BitVec.ofNat 7 (0x10 + (i - 0x2F400) / 0x800)
  else 0x02

/-- Does the line lie in a legal region (Table 8-3)? -/
def ledgerLegal (i : Nat) : Bool := decide (i < 0x2F400)

/-- The tenant partition of a line, 16 for the application region. -/
def ledgerPart (i : Nat) : Nat := if i < 0x37400 then (i - 0x2F400) / 0x800 else 16

/-- A ledger line that nothing has written; lines 0 to 9 hold the key certificate (Table 8-4). -/
def ledgerDefault (i : Nat) : TagLine :=
  ⟨if i < 10 then BitVec.ofNat 128 (ofBytes ((keyCert.drop (16 * i)).take 16)) else 0, ledgerOwner i, 0, false⟩

def State.line (s : State) (i : Nat) : TagLine := storeRead ledgerDefault s.ledger i

def State.setLineRaw (s : State) (i : Nat) (l : TagLine) : State :=
  { s with ledger := storeWrite ledgerDefault s.ledger i l }

/-- Write a line with a fresh tag. -/
def State.setLine (s : State) (i : Nat) (d : Nat) : State := s.setLineRaw i ⟨BitVec.ofNat 128 d, ledgerOwner i, 0, false⟩

/-- Write consecutive lines with fresh tags from a little-endian number, 16 bytes a line. -/
def State.setLines (s : State) (i : Nat) : Nat → Nat → State
  | 0, _ => s
  | n + 1, v => (s.setLine i (v % 2 ^ 128)).setLines (i + 1) n (v / 2 ^ 128)

/-- The check of a line under R284. -/
inductive LineCheck where
  | good
  | corrected
  | bad
deriving DecidableEq, Repr

/-- The column of bit `j` of a line under CHECK (Table 8-1): the data bits 0 to 127, CHECK at 128 to 136, OWNER at 137 to 143. -/
def lineCol (j : Nat) : BitVec 9 :=
  if j < 128 then Config.lineCode.cols.getD j 0
  else if j < 137 then BitVec.twoPow 9 (j - 128)
  else Config.lineCode.cols.getD (j - 9) 0

/-- The syndrome of wrong bits `e`. -/
def syndrome (e : BitVec 144) : BitVec 9 :=
  (List.range 144).foldl (fun a j => if e.getLsbD j then a ^^^ lineCol j else a) 0

/-- CHECK meets the wrong bits `e` of data, CHECK and OWNER (R283): none when it fails the line, else the bits that are still wrong after it
and whether it corrected one. One wrong bit is corrected and two fail; three or more give whatever the code makes of their syndrome. -/
def applyCheck (e : BitVec 144) : Option (BitVec 144 × Bool) :=
  if e = 0 then some (0, false)
  else if popcount 144 e.toNat = 1 then some (0, true)
  else if popcount 144 e.toNat = 2 then none
  else if syndrome e = 0 then some (e, false)
  else ((List.range 144).find? fun j => lineCol j == syndrome e).map fun j => (e ^^^ BitVec.twoPow 144 j, true)

/-- What CHECK makes of a stored line: the MAC of a tag does not lie under it. -/
def TagLine.checked (l : TagLine) : Option (BitVec 144 × Bool) := applyCheck (l.flips.truncate 144)

/-- Does the stored MAC agree with a line of index `i` whose bits `e` are wrong (R283)? -/
def macAgrees (i : Nat) (l : TagLine) (e : BitVec 144) : Bool :=
  let wrong := l.flips.toNat / 2 ^ 144
  if e = 0 then wrong == 0
  else lineMac (l.data ^^^ e.truncate 128) i (l.owner ^^^ (e >>> 137).truncate 7) == lineMac l.data i l.owner ^^^ wrong

/-- CHECK, then OWNER, then MAC for the ledger line of index `place` (R283, R284); `owner` is the fixed code of the place. -/
def checkLine (owner : BitVec 7) (place : Option Nat) (l : TagLine) : LineCheck :=
  if l.poison then .bad
  else match l.checked with
    | none => .bad
    | some (e, fixed) =>
      if l.owner ^^^ (e >>> 137).truncate 7 ≠ owner then .bad
      else if (place.all fun i => macAgrees i l e) then (if fixed then .corrected else .good)
      else .bad

/-- The data that a line delivers once it has passed its check: as written, or with the bits that deceived CHECK. -/
def lineData (l : TagLine) : Line :=
  match l.checked with
  | some (e, _) => l.data ^^^ e.truncate 128
  | none => l.data

/-- CHECK of a line with a fresh tag. -/
def freshCheck (data : Line) (owner : BitVec 7) : BitVec 9 :=
  (List.range 135).foldl (fun a j =>
    if (if j < 128 then data.getLsbD j else owner.getLsbD (j - 128)) then a ^^^ Config.lineCode.cols.getD j 0 else a) 0

/-- The tag of a stored line as its 32 bits stand (Table 8-1, R286): CHECK, OWNER and MAC, in the ledger at index `place`. -/
def TagLine.tag (place : Option Nat) (l : TagLine) : BitVec 32 :=
  if l.poison then BitVec.ofNat 32 (0x1FF + 2 ^ 9 * 0x7F + 2 ^ 16 * (if place.isSome then 0xFFFF else 0))
  else
    let mac := match place with
      | some i => lineMac l.data i l.owner
      | none => 0
    BitVec.ofNat 32 ((freshCheck l.data l.owner).toNat + 2 ^ 9 * l.owner.toNat + 2 ^ 16 * mac) ^^^ (l.flips >>> 128).truncate 32

/-- The fixed owner code of an SRAM line (Table 8-2). -/
def sramOwner (d : Domain) : BitVec 7 :=
  match d with
  | .legal => 0x00
  | .island => 0x01
  | .app => 0x02

/-- The data that ledger line `i` delivers, as a number. -/
def State.lineNat (s : State) (i : Nat) : Nat := (lineData (s.line i)).toNat

/-- Do the `n` lines from `i` verify? -/
def State.linesVerify (s : State) (i n : Nat) : Bool :=
  (List.range n).all fun k => checkLine (ledgerOwner (i + k)) (some (i + k)) (s.line (i + k)) != .bad

/-- The data of `n` lines from `i` as one little-endian number. -/
def State.linesNat (s : State) (i : Nat) : Nat → Nat
  | 0 => 0
  | n + 1 => s.lineNat i + 2 ^ 128 * s.linesNat (i + 1) n

end Sys2Proof.Machine
end

