-- ==== Sys2Proof/Machine/Flags.lean ====
section
/-!
DEFINITION. Machine/Flags.lean: the flags that commands raise: interrupt bits (R87), the FAULT register of a page (R88),
and the events that the collector takes (R302 to R308).
-/

namespace Sys2Proof.Machine

/-- Set bit `i` of IRQ_RAW of the page at `page` (R87). -/
def State.irq (s : State) (page i : Nat) : State := s.putBit (F.IRQ_RAW.on page) i true

/-- The high byte of the events of chapter 2 and of the application watchdog (R77). -/
def State.angCode (s : State) (low : Nat) : Nat := (if s.boot.reachedS3 then 0x0300 else 0x0100) + low

/-- Does this event increment the legal event counter (the event tables of every chapter)? -/
def countedCode (c : Nat) : Bool :=
  [0x0201, 0x0202, 0x0203, 0x0204, 0x0208, 0x020B, 0x0102, 0x0103, 0x010C, 0x010D, 0x0116, 0x0343, 0x0305, 0x030E,
   0x0353, 0x0402, 0x0403, 0x0408, 0x040C, 0x040D, 0x0415, 0x0C06, 0x0C0C, 0x0F10, 0x0F11, 0x0F12, 0x0F13, 0x1001,
   0x0188, 0x0388, 0x018A, 0x038A].contains c

/-- Is this event a fault of the page at `page` (each chapter's sentence on its FAULT register)? -/
def faultCode (page c : Nat) : Bool :=
  if page = Page.ANG then [0x0183, 0x0383, 0x0184, 0x0384, 0x0185, 0x0385].contains c
  else if page = Page.TMR then [0x018B, 0x038B].contains c
  else if page = Page.RTC then [0x018A, 0x038A].contains c
  else if page = Page.SYS then [0x0114, 0x0212].contains c
  else if page = Page.SEAL then [0x0206, 0x0207, 0x020B, 0x020C].contains c
  else if page = Page.BOOT then
    [0x0102, 0x0103, 0x0104, 0x0105, 0x0107, 0x0109, 0x010B, 0x0110, 0x0111, 0x0115, 0x018D, 0x038D].contains c
  else if Page.HEAD 0 ≤ page ∧ page ≤ Page.HEAD 7 then
    [0x0341, 0x0342, 0x0343, 0x0344, 0x0345, 0x0346, 0x0347, 0x034A, 0x034B].contains c
  else if page = Page.FIL then [0x0348, 0x0349].contains c
  else if page = Page.MET then [0x0302, 0x0305, 0x0306, 0x0307].contains c
  else if page = Page.CAL then c == 0x0309
  else if page = Page.PLS then [0x0351, 0x0354, 0x0355].contains c
  else if page = Page.LDG then [0x0402, 0x0403, 0x0408, 0x040D].contains c
  else if page = Page.SIG then c == 0x0415
  else if page = Page.VEH then [0x0502, 0x0503, 0x0504, 0x050A].contains c
  else if page = Page.GPM then [0x0521, 0x0522].contains c
  else if page = Page.SAF then
    [0x0603, 0x0604, 0x0605, 0x0606, 0x0607, 0x0610, 0x0611, 0x0612, 0x0613, 0x0614, 0x0617, 0x0618, 0x0632, 0x0633,
     0x0634, 0x0635].contains c
  else if page = Page.EFM then [0x0701, 0x0702, 0x0705, 0x0712, 0x0713, 0x0714].contains c
  else if page = Page.SW 0 ∨ page = Page.SW 1 then [0x0802, 0x0803, 0x0804, 0x0808, 0x0809].contains c
  else if page = Page.CLU then [0x0903, 0x0905, 0x0907, 0x090E].contains c
  else if page = Page.PWA then [0x0A11, 0x0A12, 0x0A14, 0x0A15].contains c
  else if page = Page.TEN then [0x0B25, 0x0B26].contains c
  else if page = Page.RDR then [0x0B04, 0x0B06, 0x0B10].contains c
  else if page = Page.EPD then [0x0C03, 0x0C06, 0x0C07, 0x0C0A, 0x0C0B].contains c
  else if page = Page.AUD then c == 0x0C41
  else if page = Page.DMA then [0x0D01, 0x0D02, 0x0D06, 0x0D07].contains c
  else if Page.U 0 ≤ page ∧ page ≤ Page.U 3 then [0x0E01, 0x0E03, 0x0E04].contains c
  else if page = Page.TW 0 ∨ page = Page.TW 1 then [0x0E11, 0x0E14].contains c
  else if page = Page.ETH then [0x0E21, 0x0E22].contains c
  else if page = Page.UPD then [0x0F04, 0x0F17].contains c
  else false

/-- Record a fault of a page: CODE keeps the first code, COUNT counts and saturates (R88). -/
def State.fault (s : State) (page c : Nat) : State :=
  let s1 := if s.get (F.FAULT_CODE.on page) = 0 then (s.put (F.FAULT_CODE.on page) c).put (F.FAULT_COUNT.on page) 0 else s
  s1.incSat (F.FAULT_COUNT.on page)

/-- The FLAGS byte of an event record: COUNTED, UTCVALID, VERIF (Table 8-7). -/
def State.eventFlags (s : State) (counted : Bool) : Nat :=
  b2n counted + 2 * b2n (s.on F.RTC_STAT_VALID) + 4 * b2n (s.on F.SYS_MODE_VERIF)

/-- An event dropped from the ring queue or the boot buffer: EVLOST counts it (R304, R308). -/
def State.dropEvent (s : State) : State :=
  let s1 := (s.incSat F.LDG_EVRING_EVLOST).irq Page.LDG 5
  { s1 with log := { s1.log with dropped := s1.log.dropped + 1 } }

/-- The boot event buffer takes an event: a counted one displaces the newest uncounted one when 32 are held (R308). -/
def bootPush (l : List EventRec) (e : EventRec) : List EventRec × Bool :=
  if l.length < 32 then (l ++ [e], false)
  else if e.counted then
    match l.reverse.findIdx? (fun x => !x.counted) with
    | some i => (l.eraseIdx (l.length - 1 - i) ++ [e], true)
    | none => (l ++ [e], false)
  else (l, true)

/-- Put an event record where the collector holds it: the boot buffer while the commit engine is not enabled (R308), the
counted queue of 64 or, when it is full, its source (R304), or the ring queue of 64, which drops when it is full. -/
def State.collect (s : State) (e : EventRec) : State :=
  if s.get F.LDG_CTL_EN = 0 then
    let r := bootPush s.log.bootBuf e
    let s1 := { s with log := { s.log with bootBuf := r.1 } }
    if r.2 then s1.incSat F.LDG_EVRING_EVLOST else s1
  else if e.counted then
    if s.log.counted.length < 64 ∧ s.log.waiting = [] then
      { s with log := { s.log with counted := s.log.counted ++ [e] } }
    else { s with log := { s.log with waiting := s.log.waiting ++ [e] } }
  else if s.log.ring.length < 64 then { s with log := { s.log with ring := s.log.ring ++ [e] } }
  else s.dropEvent

/-- Log an event of the page with index `idx` and argument `arg` (as one little-endian number). -/
def State.logIdx (s : State) (idx code arg : Nat) : State :=
  let s1 := { s with log := { s.log with order := s.log.order + 1 } }
  s1.collect ⟨s.log.order, code, idx, countedCode code, s.eventFlags (countedCode code), s.cycles, s.utc, arg⟩

/-- Log an event of the page at `page`, and record it in the page's FAULT register when it is a fault of the page. -/
def State.logE (s : State) (page code arg : Nat) : State :=
  (if faultCode page code then s.fault page code else s).logIdx (pageIndex page) code arg

/-! ### Events of one clock cycle (R88, R303) -/

/-- The group of an event in the order of R303: those of SAF and EFM first, by the classes of R410 and R439; then every other. -/
def eventGroup (e : EventRec) : Nat :=
  if e.page = pageIndex Page.SAF ∨ e.page = pageIndex Page.EFM then
    if [0x0632, 0x0633, 0x0634, 0x0635].contains e.code then 0
    else if (0x0610 ≤ e.code ∧ e.code ≤ 0x0618 ∧ e.code ≠ 0x0615 ∧ e.code ≠ 0x0616) ∨ e.code = 0x0701 ∨ e.code = 0x0702 ∨ e.code = 0x0712 then 1
    else if (0x0603 ≤ e.code ∧ e.code ≤ 0x0607) ∨ e.code = 0x0705 then 2
    else if e.code = 0x0601 then 3
    else 4
  else 5

/-- The channel number of an event of SWA or SWB, which comes before its code in the order of one clock cycle (section 10.1 of
chapter 12); 0 for the events of every other page. -/
def eventChannel (e : EventRec) : Nat :=
  if e.page = pageIndex (Page.SW 0) ∨ e.page = pageIndex (Page.SW 1) then e.arg % 2 ^ 64 else 0

/-- Does one event of a clock cycle come before another (R303, R410)? -/
def eventBefore (a b : EventRec) : Bool :=
  let key (e : EventRec) : List Nat := [eventGroup e, if eventGroup e = 5 then e.page else 0, eventChannel e, e.code, e.arg, e.order]
  decide (key a < key b)

/-- The records with a number of order from `k` on, in the order of R303, numbered anew; and the renumbering. -/
def orderCycle (k : Nat) (l : List EventRec) : List EventRec :=
  ((l.filter fun e => decide (k ≤ e.order)).mergeSort fun a b => eventBefore a b || a.order == b.order)

/-- What an event logged since order `k` is numbered among `sorted`. -/
def renumber (k : Nat) (sorted : List EventRec) (e : EventRec) : EventRec :=
  if k ≤ e.order then { e with order := k + sorted.findIdx fun x => x.order == e.order } else e

/-- The events that a command has logged since `s0` are those of one clock cycle: they take the order of R303 in the
collector, and the first of a page's faults is the new CODE of its FAULT register (R88). -/
def State.sameCycle (s0 s : State) : State :=
  let k := s0.log.order
  if s.log.order ≤ k + 1 then s
  else
    let sorted := orderCycle k (s.log.bootBuf ++ s.log.counted ++ s.log.waiting ++ s.log.ring)
    let fix (l : List EventRec) : List EventRec := (l.map (renumber k sorted)).mergeSort fun a b => decide (a.order ≤ b.order)
    let s1 : State := { s with log := { s.log with
      bootBuf := fix s.log.bootBuf, counted := fix s.log.counted, waiting := fix s.log.waiting, ring := fix s.log.ring } }
    sorted.reverse.foldl (fun (t : State) e =>
      match pageRows.find? fun p => p.index == e.page with
      | some p =>
        if faultCode p.base e.code && s0.get (F.FAULT_CODE.on p.base) == 0 && s.get (F.FAULT_CODE.on p.base) != 0 then
          t.put (F.FAULT_CODE.on p.base) e.code else t
      | none => t) s1

end Sys2Proof.Machine
end

