-- ==== Sys2Proof/Machine/Channels.lean ====
section
/-!
DEFINITION. Machine/Channels.lean: when a switch channel conducts (chapter 12, section 2) and the permission of the safety
island (R390 to R396, R434). Every change of a condition ends in `State.settle`, which starts and stops the channels.
-/

namespace Sys2Proof.Machine

/-! ### Parameters of the loaded block (Tables 10-1 and 11-1) -/

def State.par (s : State) (w : Nat) : Nat := s.get (F.SAF_PAR.i w)
def State.efPar (s : State) (w : Nat) : Nat := s.get (F.EFM_PAR.i w)

def State.pairType (s : State) (p : Nat) : Nat := bits (s.par (4 + p)) 0 2
def State.pairManual (s : State) (p : Nat) : Bool := bit (s.par (4 + p)) 2
def State.pairSrcA (s : State) (p : Nat) : Nat := bits (s.par (4 + p)) 4 2
def State.pairSrcB (s : State) (p : Nat) : Nat := bits (s.par (4 + p)) 6 2
def State.pairMask (s : State) (p : Nat) : Nat := bits (s.par (4 + p)) 8 8

def State.chUsed (s : State) (n : Nat) : Bool := bit (s.par (20 + 2 * n)) 0
def State.chCont (s : State) (n : Nat) : Bool := bit (s.par (20 + 2 * n)) 1
def State.chFben (s : State) (n : Nat) : Bool := bit (s.par (20 + 2 * n)) 2
def State.chFbSrc (s : State) (n : Nat) : Nat := bits (s.par (20 + 2 * n)) 3 2
def State.chGroup (s : State) (n : Nat) : Nat := bits (s.par (20 + 2 * n)) 23 8
def State.chPorts (s : State) (n : Nat) : Nat := bits (s.par (21 + 2 * n)) 0 8
def State.chDcWeld (s : State) (n : Nat) : Bool := bit (s.par (21 + 2 * n)) 8
def State.chWeldV (s : State) (n : Nat) : Nat := bits (s.par (21 + 2 * n)) 16 8
def State.chWeldT (s : State) (n : Nat) : Nat := bits (s.par (21 + 2 * n)) 24 7

def State.rcOn (s : State) : Bool := bit (s.efPar 2) 3
def State.rcMask (s : State) : Nat := bits (s.efPar 3) 16 8
def State.insOn (s : State) : Bool := bit (s.efPar 4) 0
def State.insMask (s : State) : Nat := bits (s.efPar 4) 16 8

/-! ### Bits of PAIRST, CHST and the fault registers (Table 10-6) -/

def pairField (p k : Nat) : Field := { F.SAF_PAIRST.i (p / 4) with lo := 8 * (p % 4) + k, width := 1 }
def chField (n k : Nat) : Field := { F.SAF_CHST.i (n / 4) with lo := 8 * (n % 4) + k, width := 1 }
def pairFltField (p : Nat) : Field := { F.SAF_PAIRFLT.i (p / 8) with lo := 4 * (p % 8), width := 4 }
def chFltField (n : Nat) : Field := { F.SAF_CHFLT with lo := 4 * n, width := 4 }

def State.sc (s : State) (n : Fin 8) : SafeChan := s.safety.island.chans.get n

def State.setSc (s : State) (n : Fin 8) (c : SafeChan) : State :=
  { s with safety := { s.safety with island := { s.safety.island with chans := s.safety.island.chans.set n c } } }

def State.sp (s : State) (p : Fin 16) : SafePair := s.safety.island.pairs.get p

def State.setSp (s : State) (p : Fin 16) (c : SafePair) : State :=
  { s with safety := { s.safety with island := { s.safety.island with pairs := s.safety.island.pairs.set p c } } }

def State.sw (s : State) (n : Fin 24) : SwChan := s.safety.sw.get n

def State.setSw (s : State) (n : Fin 24) (c : SwChan) : State := { s with safety := { s.safety with sw := s.safety.sw.set n c } }

/-- The index among all channels of safety channel `n`. -/
def swOf (n : Fin 8) : Fin 24 := ⟨n.val, by have := n.isLt; omega⟩

/-- The safety channel that a channel is, if any. -/
def safeOf (n : Fin 24) : Option (Fin 8) := if h : n.val < 8 then some ⟨n.val, h⟩ else none

/-- The page and local index of a channel. -/
def swX (n : Fin 24) : Nat := n.val / 12
def swI (n : Fin 24) : Nat := n.val % 12

def State.chState (s : State) (n : Fin 24) : Nat := s.get (F.SW_CH_ST_STATE.ij (swX n) (swI n))
def State.reqOn (s : State) (n : Fin 24) : Bool := s.getBit (F.SW_REQ_MASK.i (swX n)) (swI n)
def State.shed (s : State) (n : Fin 24) : Bool := s.getBit (F.SW_SHED_MASK.i (swX n)) (swI n)
def State.latched (s : State) (n : Fin 24) : Bool := s.getBit (F.SW_LATCH_MASK.i (swX n)) (swI n)

/-- Any leg conducts. -/
def SwChan.legs (c : SwChan) : Bool := c.hs || c.ls

/-- Both legs of a safety channel, or the switch of another channel, conduct. -/
def State.conducts (s : State) (n : Fin 24) : Bool := (s.sw n).hs

/-- The channel holds a leg fault or a two-leg short (R463, R464). -/
def State.legFault (s : State) (n : Fin 24) : Bool :=
  match safeOf n with
  | none => false
  | some k => (s.sc k).causes.contains 7 || (s.sc k).causes.contains 8

/-! ### Permission (R390, R392, R396, R434) -/

/-- An earth-fault latch or the loss of residual monitoring withholds the channel (R434). -/
def State.earthHolds (s : State) (n : Nat) : Bool :=
  (s.rcOn && bit s.rcMask n && (s.on F.EFM_RCLATCH_LATCHED || !s.on F.EFM_STAT_RCOK))
    || (s.insOn && bit s.insMask n && (s.safety.earth.insFault || s.on F.EFM_STAT_INSMF))

/-- The island's permission for safety channel `n`, the pre-close check apart. -/
def State.permits (s : State) (n : Fin 8) : Bool :=
  s.get F.SAF_STAT_STATE == 1 &&
    (!s.chUsed n ||
      ((List.range 16).all (fun p => !(s.pairType p == 1 && bit (s.pairMask p) n) || (!s.on (pairField p 2) && !s.on (pairField p 5)))
        && (s.sc n).causes.isEmpty && (List.finRange 8).all (fun m => !(bit (s.chGroup m) n && !(s.sc m).causes.isEmpty))
        && !s.on (chField n 5) && !(s.sc n).postHold && !s.earthHolds n))

/-- The legal condition of a channel: given, or CONT is 0 (R391). -/
def State.legalOk (s : State) (n : Fin 8) : Bool := !s.chCont n || s.session.legalCond

/-- Is the last weld window of every port in WPORTS valid and below WELDV (R395)? -/
def State.weldClear (s : State) (n : Nat) : Bool :=
  (List.range 8).all fun q => !bit (s.chPorts n) q ||
    (match s.safety.island.weld.getD q none with
     | none => false
     | some mv => decide (mv < 1000 * s.chWeldV n))

/-- The pre-close check of R395, and the bits of CHST for safety channel `n`; the permission of R391 is in bit 1. -/
def State.notePermit (s : State) (n : Fin 8) : State :=
  let base := s.permits n
  let req := s.reqOn (swOf n)
  let legs := (s.sw (swOf n)).legs
  let asked := base && req && s.legalOk n && s.chUsed n && s.chPorts n != 0
  let pre := asked && !legs && !s.weldClear n
  let c := s.sc n
  let s1 := s.setSc n { c with preLogged := req && (c.preLogged || pre) }
  let permit := base && !pre
  let was := s.on (chField n 1)
  let s2 := ((((s1.put (chField n 0) (b2n req)).put (chField n 1) (b2n permit)).put (chField n 2) (b2n (s.legalOk n))).put
    (chField n 4) (b2n (s.chFben n && c.fb))).put (chField n 6) (b2n pre)
  let s3 := ((s2.put (chField n 7) (b2n (!c.causes.isEmpty))).when (permit != was) (·.irq Page.SAF 4)).when
    (pre && !s.on (chField n 6)) (·.irq Page.SAF 5)
  if pre && !c.preLogged then (s3.incSat F.SAF_CNT_PRECLOSE).logE Page.SAF 0x0616 n else s3

/-! ### Conduction (R449, R450) -/

/-- The first reason, in the order of R449, why a channel must not conduct: 0 none, 1 EN or VSW, 2 shed, 3 the island; 4 for
a request, pause, latch or leg fault, which have states of their own. -/
def State.holdReason (s : State) (n : Fin 24) : Nat :=
  if !s.reqOn n then 4
  else if !s.on (F.SW_CTL_EN.i (swX n)) ∨ !s.safety.vswOk ∨ (s.sw n).vswWait then 1
  else if (s.sw n).pausing ∨ s.latched n ∨ s.legFault n then 4
  else if s.shed n then 2
  else match safeOf n with
    | none => 0
    | some k => if s.on (chField k 1) && s.legalOk k then 0 else 3

/-- Is a STATE one in which CHn_SENSE reads 0x3FFF (R451)? -/
def faultedState (st : Nat) : Bool := [3, 4, 6].contains st

/-- CHn_SENSE at a change of STATE: 0x3FFF in PAUSE, LATCHED and LEGFLT; on leaving them the measured leg current, which is
not known before the next sample: a free value in the range of R451. -/
def State.noteSense (s : State) (n : Fin 24) (old st : Nat) : State :=
  let f := F.SW_CH_SENSE_SENSE.ij (swX n) (swI n)
  let g := F.SW_CH_SENSE_LSENSE.ij (swX n) (swI n)
  if faultedState st then (s.put f 0x3FFF).when (n < 8) (·.put g 0x3FFF)
  else if faultedState old then s.free fun v t => (t.put f (v % 4096)).when (n < 8) (·.put g (v / 4096 % 4096))
  else s

/-- Put STATE and HOLD of a channel; entering or leaving LEGFLT raises LEGF. -/
def State.putChState (s : State) (n : Fin 24) (st hold : Nat) : State :=
  let s1 := (s.put (F.SW_CH_ST_STATE.ij (swX n) (swI n)) st).put (F.SW_CH_ST_HOLD.ij (swX n) (swI n)) hold
  let s2 := s1.when ((s.chState n == 6) != (st == 6)) (·.irq (Page.SW (swX n)) 5)
  s2.noteSense n (s.chState n) st

/-- The state that a channel which does not conduct is in. -/
def State.restState (s : State) (n : Fin 24) : State :=
  if s.legFault n then s.putChState n 6 0
  else if s.latched n then s.putChState n 4 0
  else if (s.sw n).pausing then s.putChState n 3 0
  else
    let h := s.holdReason n
    if h = 4 ∨ h = 0 then s.putChState n 0 0 else s.putChState n 5 h

/-- A leg of a safety channel stops: the island's watch on the opening (R393, R396). `both`: both legs conducted. -/
def State.watchOpening (s : State) (n : Fin 8) (both : Bool) : State :=
  if s.chUsed n then
    let c := s.sc n
    let done := s.chFben n && c.fb
    let due := both && s.chPorts n != 0
    s.setSc n { c with opening := true, opened := done, seen0 := false, seen1 := false, postDue := due && !done,
                       post := if due && done then some (s.chWeldT n) else if both then none else c.post, quiet := false }
  else s

/-- Every leg of a channel stops conducting. -/
def State.legsOff (s : State) (n : Fin 24) : State :=
  let c := s.sw n
  if c.legs then
    let s1 := (s.setSw n { c with hs := false, ls := false }).putBit (F.SW_ON_MASK.i (swX n)) (swI n) false
    let s2 := s1.put (F.SW_CH_ST_REG.ij (swX n) (swI n)) 0
    match safeOf n with
    | none => s2
    | some k => (s2.put (chField k 3) 0).watchOpening k c.hs
  else s

/-- Conduction starts: the blanking window begins, the switching cycle is counted (R447, R453), and the island watches the
closing of a safety channel (R393). -/
def State.startConduction (s : State) (n : Fin 24) : State :=
  let x := swX n
  let i := swI n
  let cycles := sat 32 (s.get (F.SW_CH_CYCLES.ij x i) + 1)
  let c := s.sw n
  let s1 := s.setSw n { c with hs := true, ls := decide (n.val < 8), cell := if cycles % 1024 = 0 then cycles else c.cell,
                               blankEnd := s.angle.now + s.get (F.SW_CH_CFG_BLANK.ij x i) * tickMs }
  let s2 := ((s1.putBit (F.SW_ON_MASK.i x) i true).put (F.SW_CH_CYCLES.ij x i) cycles).putChState n
    (if s.get (F.SW_CH_CFG_BLANK.ij x i) = 0 then 2 else 1) 0
  let s3 := if cycles = 10 ^ 8 then s2.logE (Page.SW x) 0x080B n else s2
  match safeOf n with
  | none => s3
  | some k => (s3.put (chField k 3) 1).setSc k { s.sc k with opening := false, opened := false, seen0 := s.chFben k && !(s.sc k).fb, seen1 := false, postDue := false, post := none, quiet := false }

/-- Start or stop one channel as R449 gives. A safety channel turns on its low-side leg and then awaits the turn-on check. -/
def State.settleChan (s0 : State) (n : Fin 24) : State :=
  let s := match safeOf n with
    | none => s0
    | some k => s0.notePermit k
  if s.holdReason n = 0 then
    if (s.sw n).legs then s
    else match safeOf n with
      | none => s.startConduction n
      | some _ => s.setSw n { s.sw n with ls := true }
  else (s.legsOff n).restState n

/-- Settle every channel, and note the permissions once more, since a stop of one channel may change the bits of another. -/
def State.settle (s : State) : State :=
  (List.finRange 8).foldl (fun (t : State) k => t.notePermit k) ((List.finRange 24).foldl State.settleChan s)

/-! ### The pilot interlock (R343) -/

/-- The qualified state admits conduction: C, or D with VENT (R343). -/
def State.pilotAdmits (s : State) : Bool :=
  s.get F.VEH_STAT_STATE == 3 || (s.get F.VEH_STAT_STATE == 4 && s.on F.VEH_CTL_VENT)

/-- The proximity code is none, invalid, or released in mode 2, while a mode is set. -/
def State.ppBars (s : State) : Bool :=
  let m := s.get F.VEH_PPCFG_MODE
  let c := s.get F.VEH_PPSTAT_CODE
  m != 0 && (c == 0 || c == 8 || (m == 2 && c == 6))

/-- Does the interlock admit an on request for a channel in CPMASK? -/
def State.interlockAdmits (s : State) : Bool :=
  s.pilotAdmits && s.on F.VEH_STAT_PWMON && !s.on F.VEH_STAT_DIODE && !s.on F.VEH_STAT_STUCK && !s.on F.VEH_STAT_INVAL
    && !s.ppBars && !s.on F.VEH_STAT_BLOCK

/-- One on request: REQ is set, or the interlock leaves it without effect (R343, R448). With REQ at 1 it changes nothing. -/
def State.onRequest (s : State) (n : Fin 24) : State :=
  if s.reqOn n then s
  else if s.on F.VEH_CTL_AUTOOFF && decide (n.val < 8) && s.getBit F.VEH_CPMASK_MASK n && !s.interlockAdmits then
    (s.irq Page.VEH 5).logE Page.VEH 0x0506 n
  else s.putBit (F.SW_REQ_MASK.i (swX n)) (swI n) true

/-- One off request: REQ and SHED clear (R448, R471). -/
def State.offRequest (s : State) (n : Fin 24) : State :=
  (s.putBit (F.SW_REQ_MASK.i (swX n)) (swI n) false).putBit (F.SW_SHED_MASK.i (swX n)) (swI n) false

/-- On and off requests by mask over all 24 channels; a clear prevails over a set of the same channel (R448). -/
def State.request (s : State) (setM clr : Nat) : State :=
  let s1 := (List.finRange 24).foldl (fun (t : State) (n : Fin 24) => if bit setM n && !bit clr n then t.onRequest n else t) s
  s.sameCycle ((List.finRange 24).foldl (fun (t : State) (n : Fin 24) => if bit clr n then t.offRequest n else t) s1).settle

end Sys2Proof.Machine
end

