-- ==== Sys2Proof/Machine/Ledger.lean ====
section
/-!
DEFINITION. Machine/Ledger.lean: lines and their tags, the commit engine, the energy mirror, the configuration copies
and the logbook (chapter 8, sections 1 to 7).
-/

namespace Sys2Proof.Machine

/-! ### Reading and writing lines -/

/-- The ALOK bit of the slot whose partition holds line `i` clears, with event 0x0B26 and its cause, when the line is one of
the first 1 024 of the partition (R563); a check of that list fails (R590). Causes: 1 an application write, 2 a write to
ALDIGEST, 3 a tag failure, 4 a reset of the application domain, 5 a wipe. -/
def State.spoilList (s : State) (i cause : Nat) : State :=
  let t := (i - 0x2F400) / 0x800
  if 0x2F400 ≤ i ∧ i < 0x37400 ∧ (i - 0x2F400) % 0x800 < 0x400 then
    let s1 := if s.tenants.check = some t then { s with tenants := { s.tenants with checkHit := true } } else s
    if bit s1.tenants.alok t then
      (({ s1 with tenants := { s1.tenants with alok := setBits s1.tenants.alok t 1 0 } } : State).irq Page.TEN 2).logE Page.TEN 0x0B26
        (args [t, cause])
    else s1
  else s

/-- COUNT in the header of the allow list of slot `t` (R562). -/
def State.listCount (s : State) (t : Nat) : Nat := bits (s.lineNat (0x2F400 + 0x800 * t)) 64 32

/-- A tag failure of line `i` spoils the list that it belongs to (R563). -/
def State.spoilByTag (s : State) (i : Nat) : State :=
  if (i - 0x2F400) % 0x800 ≤ s.listCount ((i - 0x2F400) / 0x800) then s.spoilList i 3 else s

/-- Apply a disturbance to a stored ledger line: the bits of `upset` flip. -/
def State.upsetLine (s : State) (i : Nat) (upset : BitVec 160) : State :=
  if upset = 0 then s else
    let l := s.line i
    s.setLineRaw i { l with flips := l.flips ^^^ upset }

/-- A ledger line is corrected: written back with a fresh tag, event 0x0405 with its place (R284). -/
def State.correctLine (s : State) (i : Nat) : State :=
  (((s.setLine i (s.lineNat i)).incSat F.LDG_TAGERR_CORRS).irq Page.LDG 2).logE Page.LDG 0x0405 i

/-- A ledger line has failed its tag: the counts and the interrupt, without the event. -/
def State.noteBadLine (s : State) (i : Nat) : State :=
  (((s.incSat F.LDG_TAGERR_FAILS).put F.LDG_LASTBAD_LINE i).put F.LDG_LASTBAD_LEGAL (b2n (ledgerLegal i))).irq Page.LDG 1

/-- Read a ledger line under R284: the outcome, and the state after correction or the report of a failure (events 0x0403
and 0x0404, R327). -/
def State.readLine (s : State) (i : Nat) : LineCheck × State :=
  match checkLine (ledgerOwner i) (some i) (s.line i) with
  | .good => (.good, s)
  | .corrected => (.corrected, s.correctLine i)
  | .bad => (.bad, ((s.noteBadLine i).logE Page.LDG (if ledgerLegal i then 0x0403 else 0x0404) i).spoilByTag i)

/-- The module reads the `n` lines from `i`: a corrected line is written back with its event, a failing one reported (R284, R327). What the
lines deliver stays the same, so that a decision on them may be taken before or after. -/
def State.touch (s : State) (i n : Nat) : State := (List.range n).foldl (fun t k => (t.readLine (i + k)).2) s

/-- Merge the bytes that `mask` selects from `new` into `old`. -/
def mergeBytes (mask : BitVec 16) (old new : Line) : Line :=
  BitVec.ofNat 128 (ofBytes ((List.range 16).map fun i =>
    byteOf (if bit mask.toNat i then new.toNat else old.toNat) i))

/-- Write a ledger line: a full line with a fresh tag, a partial write after the check of R285; a line that fails it is
poisoned and keeps its bytes (R286). Answers the RESULT code of Table 8-15: 1 written, 3 poisoned. -/
def State.writeLine (s : State) (w : LineWrite) : Nat × State :=
  if w.mask = 0xFFFF then (1, s.setLine w.line w.data.toNat)
  else
    let l := s.line w.line
    match checkLine (ledgerOwner w.line) (some w.line) l with
    | .good => (1, s.setLine w.line (mergeBytes w.mask (lineData l) w.data).toNat)
    | .corrected =>
      let s1 := s.correctLine w.line
      (1, s1.setLine w.line (mergeBytes w.mask (lineData l) w.data).toNat)
    | .bad => (3, (((s.noteBadLine w.line).setLineRaw w.line { l with poison := true }).irq Page.LDG 3).logE Page.LDG 0x0406 w.line)

/-- May the commit engine write (LDG.CTL.EN set, not locked after a power-fail commit)? -/
def State.commitOpen (s : State) : Bool := s.on F.LDG_CTL_EN && !s.on F.LDG_STAT_LOCKED

/-- May it write what is not part of the power-fail commit: that commit writes the items of R310 and nothing else. -/
def State.commitRuns (s : State) : Bool := s.commitOpen && !s.boot.pfail

/-- The words QUEUED and FULL of SYS.LQ_ST and LDG.LW_ST follow the queues (Table 8-15). -/
def State.noteQueues (s : State) : State :=
  (((s.put F.SYS_LQ_ST_QUEUED s.commit.appQ.length).put F.SYS_LQ_ST_FULL (b2n (s.commit.appQ.length ≥ 16))).put
    F.LDG_LW_ST_QUEUED (sat 5 s.commit.legalQ.length)).put F.LDG_LW_ST_FULL 0

/-- A wipe queues zeros to the next lines of its partition while the application queue has room, and ends when its last line
has been written (R594). -/
def State.feedWipe (s : State) : Nat → State
  | 0 => s
  | n + 1 => match s.tenants.wipe with
    | none => s
    | some (t, k) =>
      if k < 0x800 ∧ s.commit.appQ.length < 16 then
        ({ s with commit := { s.commit with appQ := s.commit.appQ ++ [⟨0x2F400 + 0x800 * t + k, 0xFFFF, 0⟩] },
                  tenants := { s.tenants with wipe := some (t, k + 1) } } : State).feedWipe n
      else if k = 0x800 ∧ !(s.commit.appQ.any fun w => decide (ledgerPart w.line = t)) then
        (({ s with tenants := { s.tenants with wipe := none } } : State).put F.TEN_STAT_WIPING 0).logE Page.TEN 0x0B29 t
      else s

/-- One line of the commit engine: the legal queue first (R292). -/
def State.commitLine (s : State) (upset : BitVec 160) : State :=
  match s.commit.legalQ with
  | w :: rest =>
    let r := (({ s with commit := { s.commit with legalQ := rest } } : State).upsetLine w.line upset).writeLine w
    ((r.2.put F.LDG_LW_ST_RESULT r.1).put F.LDG_LW_ST_DONE (r.2.get F.LDG_LW_ST_DONE + 1)).noteQueues
  | [] => match s.commit.appQ with
    | [] => s
    | w :: rest =>
      let r := ((({ s with commit := { s.commit with appQ := rest } } : State).spoilList w.line 1).upsetLine w.line upset).writeLine w
      let s1 := (r.2.put F.SYS_LQ_ST_RESULT r.1).put F.SYS_LQ_ST_DONE (r.2.get F.SYS_LQ_ST_DONE + 1)
      ((if r.1 = 1 then s1.incSat (F.LDG_PARTWR.i (ledgerPart w.line)) else s1).feedWipe 17).noteQueues

/-- Write every line that the queues hold, as at Standby entry (R325) and in the power-fail commit. -/
def State.commitAll (s : State) : Nat → State
  | 0 => s
  | n + 1 => (s.commitLine 0).commitAll n

/-! ### The logbook -/

/-- The 64 bytes of an event record (Table 8-7). -/
def recordNat (e : EventRec) (seq lec : Nat) : Nat :=
  seq % 2 ^ 32 + 2 ^ 32 * (e.code % 2 ^ 16) + 2 ^ 48 * (e.page % 2 ^ 8) + 2 ^ 56 * (e.flags % 2 ^ 8)
    + 2 ^ 64 * (e.cycle % 2 ^ 64) + 2 ^ 128 * (e.utc % 2 ^ 64) + 2 ^ 192 * (lec % 2 ^ 32) + 2 ^ 256 * (e.arg % 2 ^ 256)

/-- Records of the counted log (Table 8-3). -/
def clogSize : Nat := 16384

/-- SEAL.LEC takes its increment (R109, R110): it stays at 0xFFFF_FFFF, and event 0x020C is logged once. A counted event after that is
still SEAL.LASTEV, and raises no LEC interrupt, as nothing increments. -/
def State.incLec (s : State) (code : Nat) : State :=
  let n := s.get F.SEAL_LEC
  if n = 0xFFFFFFFF then s.put F.SEAL_LASTEV_CODE code
  else
    let s1 := ((s.put F.SEAL_LEC (n + 1)).put F.SEAL_LASTEV_CODE code).irq Page.SEAL 3
    if n + 1 = 0xFFFFFFFF ∧ !s1.log.satLogged then
      ((({ s1 with log := { s1.log with satLogged := true } } : State).put F.SEAL_STAT_LECSAT 1)).logE Page.SEAL 0x020C 0
    else s1

/-- The close of a session as R316 and R317 give it, without the effect on the channels. A session closes for the first of its causes: the
first close is the one that is held while it opens, and after a power failure there is none. -/
def State.beginClose (s : State) (reason appReason : Nat) : State :=
  match (if s.boot.pfail then 0 else s.get F.SIG_STAT_SESS) with
  | 2 =>
    (({ s with session := { s.session with legalCond := false, reason := reason, appReason := appReason, withdrawnAt := s.angle.now } } : State).put
      F.SIG_STAT_SESS 3).irq Page.SIG 1
  | 1 => { s with session := { s.session with closeHeld := s.session.closeHeld <|> some (reason + 256 * appReason), legalCond := false } }
  | 3 => if reason = 5 ∨ reason = 6 then { s with session := { s.session with deferred := true, legalCond := false } } else s
  | _ => { s with session := { s.session with legalCond := false } }

/-- Withdraw the legal condition of R28, which opens the contactor (R391), and begin the close of an open session with
`reason` (R316). While a session is opening, the close is held until its start record is committed (R317). While one is
closing, only a power failure or a legal restart changes anything: the close is deferred (R317). -/
def State.closeSession (s : State) (reason appReason : Nat) : State := (s.beginClose reason appReason).settle

/-- Write one counted record with its increment of SEAL.LEC (R109, R305): the last free record becomes event 0x0408; with
no record free, LDG.CLOG.MISS counts the event instead. -/
def State.writeCounted (s : State) (e : EventRec) : State :=
  let used := s.get F.LDG_CLOG_USED
  if used ≥ clogSize then s.incSat F.LDG_CLOG_MISS
  else
    let last := used + 1 = clogSize
    let e' := if last then { e with code := 0x0408, page := 18 } else e
    let s1 := s.incLec e'.code
    let s2 := s1.setLines (0x3400 + 4 * used) 4 (recordNat e' (used + 1) (s1.get F.SEAL_LEC))
    let s3 := s2.put F.LDG_CLOG_USED (used + 1)
    let s4 := if last then ((s3.put F.LDG_STAT_CLOGFULL 1).fault Page.LDG 0x0408).closeSession 0x08 0 else s3
    if clogSize - (used + 1) ≤ 256 ∧ !s4.log.lowLogged then
      ((({ s4 with log := { s4.log with lowLogged := true } } : State).put F.LDG_STAT_CLOGLOW 1).irq Page.LDG 4).logE Page.LDG 0x0407 0
    else s4

/-- Write one record of the event ring (R302). -/
def State.writeRing (s : State) (e : EventRec) : State :=
  let pos := s.log.ringSeq % 8192
  let s1 := s.setLines (0x13400 + 4 * pos) 4 (recordNat e (s.log.ringSeq + 1) (s.get F.SEAL_LEC))
  ({ s1 with log := { s1.log with ringSeq := s1.log.ringSeq + 1 } }).put F.LDG_EVRING_NEXT ((pos + 1) % 8192)

/-- A counted event that waited in its source enters the queue (R304). -/
def State.admitWaiting (s : State) : State :=
  match s.log.waiting with
  | [] => s
  | e :: rest => if s.log.counted.length < 64 then
      { s with log := { s.log with counted := s.log.counted ++ [e], waiting := rest } } else s

/-- Once the ring queue has room, event 0x0409 reports the events dropped since the last one (R304). -/
def State.reportDrops (s : State) : State :=
  if s.log.dropped > 0 ∧ s.log.ring.length < 64 then
    ({ s with log := { s.log with dropped := 0 } } : State).logE Page.LDG 0x0409 s.log.dropped
  else s

/-- The collector commits the next record in order of occurrence (R303). -/
def State.commitEvent (s : State) : State :=
  let takeC (e : EventRec) (rest : List EventRec) : State :=
    (({ s with log := { s.log with counted := rest } } : State).writeCounted e).admitWaiting
  let takeR (e : EventRec) (rest : List EventRec) : State :=
    (({ s with log := { s.log with ring := rest } } : State).writeRing e).reportDrops
  match s.log.counted, s.log.ring with
  | [], [] => s
  | c :: cs, [] => takeC c cs
  | [], r :: rs => takeR r rs
  | c :: cs, r :: rs => if c.order ≤ r.order then takeC c cs else takeR r rs

/-- Commit up to `n` records. -/
def State.commitEvents (s : State) : Nat → State
  | 0 => s
  | n + 1 => s.commitEvent.commitEvents n

/-- Commit the pending counted records only, up to `n`. -/
def State.commitCounted (s : State) : Nat → State
  | 0 => s
  | n + 1 => match s.log.counted with
    | [] => s
    | c :: cs => (({ s with log := { s.log with counted := cs } } : State).writeCounted c).admitWaiting.commitCounted n

/-- The pending records of either queue. -/
def State.pendingRecords (s : State) : Nat := s.log.counted.length + s.log.waiting.length + s.log.ring.length

/-- Move the boot event buffer to the queues, with the cycle number that the legal image writes at S1 (R308). -/
def State.flushBootBuffer (s : State) (cycle : Nat) : State :=
  let l := s.log.bootBuf.map fun e => { e with cycle := cycle }
  l.foldl State.collect { s with log := { s.log with bootBuf := [] } }

/-! ### The energy mirror (R295 to R299) -/

/-- First line of mirror slot `k`. -/
def mirrorLine (k : Nat) : Nat := 0x400 + 128 * k

/-- The session line of a mirror slot (line 74 of Table 8-5). -/
def State.sessionLine (s : State) : Nat :=
  let sess := s.get F.SIG_STAT_SESS
  b2n (sess ≥ 2) + 2 * b2n (sess == 3) + 2 ^ 8 * (s.session.reason % 256) + 2 ^ 16 * (s.session.appReason % 256)
    + 2 ^ 24 * (s.session.tenant % 16) + 2 ^ 32 * (s.session.slot % 2 ^ 32) + 2 ^ 64 * (s.session.heldUwh % 2 ^ 64)

/-- Write lines `l`, `l + 1`, … from a list of 128-bit numbers. -/
def State.setLineList (s : State) (l : Nat) : List Nat → State
  | [] => s
  | d :: ds => (s.setLine l d).setLineList (l + 1) ds

/-- The lines 0 to 75 of a mirror slot (Table 8-5). -/
def State.mirrorBody (s : State) (mseq cycle utc : Nat) (pfail lrst : Bool) : List Nat :=
  [mseq % 2 ^ 64 + 2 ^ 64 * (cycle % 2 ^ 64),
   utc % 2 ^ 64 + 2 ^ 64 * s.get F.SEAL_LEC + 2 ^ 96 * s.get F.SIG_SEQ]
  ++ (List.range 64).map (fun n => s.getW (F.MET_ACC.i n))
  ++ (List.range 4).flatMap (fun n => [s.getW (F.PLS_PO_COUNT.i n), s.getW (F.PLS_PO_RES.i n)])
  ++ [s.sessionLine, s.session.heldMs % 2 ^ 32 + 2 ^ 32 * (b2n pfail + 2 * b2n lrst)]

/-- Commit a mirror slot, its line 76 last (R296, R297). -/
def State.commitMirror (s : State) (cycle utc : Nat) (pfail lrst : Bool) : State :=
  let m := s.getW F.LDG_MSEQ + 1
  let b := mirrorLine (m % 64)
  let s1 := (s.setLineList b (s.mirrorBody m cycle utc pfail lrst)).setLine (b + 76) (m % 2 ^ 64)
  let s2 := ((s1.putW F.LDG_MSEQ m).put F.LDG_MSLOT_N (m % 64)).irq Page.LDG 0
  { s2 with commit := { s2.commit with mirrorReq := false, lastMirror := s2.angle.now } }

/-- MSEQ of slot `k` in its first line, or, where that line fails, in its line 76. -/
def State.slotSeq (s : State) (k : Nat) : Nat :=
  if s.linesVerify (mirrorLine k) 1 then s.lineNat (mirrorLine k) % 2 ^ 64
  else if s.linesVerify (mirrorLine k + 76) 1 then s.lineNat (mirrorLine k + 76) % 2 ^ 64 else 0

/-- Is slot `k` complete (R296)? A slot that was never written has MSEQ 0 and is not. -/
def State.slotComplete (s : State) (k : Nat) : Bool :=
  s.slotSeq k != 0 && s.linesVerify (mirrorLine k) 77 && s.lineNat (mirrorLine k + 76) % 2 ^ 64 == s.slotSeq k

/-- The slot with the highest MSEQ among those that satisfy `p`, if one has a non-zero MSEQ. -/
def State.newestSlot (s : State) (p : Nat → Bool) : Option Nat :=
  (List.range 64).foldl (fun best k =>
    if p k && s.slotSeq k != 0 then
      match best with
      | none => some k
      | some b => if s.slotSeq b < s.slotSeq k then some k else some b
    else best) none

/-- What S1 restores from a mirror slot: the accumulators, the pulse counts and residues, the session state and RSEQ
(R298). -/
def State.restoreSlot (s : State) (k : Nat) : State :=
  let b := mirrorLine k
  let s1 := (List.range 64).foldl (fun t n => t.putW (F.MET_ACC.i n) (s.lineNat (b + 2 + n))) s
  let s2 := (List.range 4).foldl (fun t n =>
    (t.putW (F.PLS_PO_COUNT.i n) (s.lineNat (b + 66 + 2 * n))).putW (F.PLS_PO_RES.i n) (s.lineNat (b + 67 + 2 * n))) s1
  let ss := s.lineNat (b + 74)
  let held := s.lineNat (b + 75)
  let sess := if bit ss 1 then 3 else if bit ss 0 then 2 else 0
  let s3 := ((s2.put F.SIG_STAT_SESS sess).put F.SIG_SEQ (bits (s.lineNat (b + 1)) 96 32)).putW F.LDG_MSEQ (s.slotSeq k)
  let s4 := s3.put F.LDG_MSLOT_N k
  { s4 with session := { s4.session with
      reason := bits ss 8 8, appReason := bits ss 16 8, tenant := bits ss 24 4, slot := bits ss 32 32,
      heldUwh := bits ss 64 64, heldMs := bits held 0 32, legalCond := false } }

/-- MSEQ of the newest complete slot, 0 where there is none. -/
def State.completeSeq (s : State) : Nat := ((s.newestSlot fun k => s.slotComplete k).map s.slotSeq).getD 0

/-- The reads of S1 (R284, R327): the first and the last line of every slot, then every line of the slots from the one with the highest MSEQ
down to the complete one. -/
def State.touchMirror (s : State) : State :=
  let c := s.completeSeq
  let s1 := (List.range 64).foldl (fun t k => (t.touch (mirrorLine k) 1).touch (mirrorLine k + 76) 1) s
  ((List.range 64).filter fun k => s.slotSeq k != 0 && decide (c ≤ s.slotSeq k)).foldl (fun t k => t.touch (mirrorLine k + 1) 75) s1

/-- With no complete slot every field that the mirror holds takes its factory value, 0 (R818). -/
def State.factoryMirror (s : State) : State :=
  let s1 := (List.range 64).foldl (fun t n => t.putW (F.MET_ACC.i n) 0) s
  let s2 := (List.range 4).foldl (fun t n => (t.putW (F.PLS_PO_COUNT.i n) 0).putW (F.PLS_PO_RES.i n) 0) s1
  (((s2.put F.SIG_STAT_SESS 0).put F.SIG_SEQ 0).putW F.LDG_MSEQ 0).put F.LDG_MSLOT_N 0

/-- MIRROR_RESTORE (R298, R299, R818): from the newest complete slot, or the factory values; when a newer slot is torn, event 0x0402 with both
MSEQ values, RSEQ advances by 4 096 and TORN is set. -/
def State.restoreMirror (s : State) : State :=
  let s0 := s.touchMirror
  let s1 := match s.newestSlot fun k => s.slotComplete k with
    | none => s0.factoryMirror
    | some k => s0.restoreSlot k
  match s.newestSlot fun _ => true with
  | none => s1
  | some h =>
    if s.slotSeq h ≤ s.completeSeq then s1
    else
      let s2 := s1.put F.SIG_SEQ (s1.get F.SIG_SEQ + 4096)
      let s3 := { s2 with session := { s2.session with torn := true } }
      -- MSEQ goes on past the torn slot
      (s3.putW F.LDG_MSEQ (s.slotSeq h)).logE Page.LDG 0x0402 (s.slotSeq h + 2 ^ 64 * s.completeSeq)

/-! ### Configuration copies (R300, R301) -/

/-- Insert into a rising list without repeats. -/
def insertRising (a : Nat) : List Nat → List Nat
  | [] => [a]
  | b :: l => if a < b then a :: b :: l else if a = b then b :: l else b :: insertRising a l

/-- The addresses of one access row. -/
def rowAddrs (base : Nat) : List (Nat × Nat) → List Nat
  | [] => [base]
  | (n, st) :: rest => (List.range n).flatMap fun i => rowAddrs (base + i * st) rest

/-- Every word of every register that holds an RWS field, in ascending address order (R106, R300): the words that carry
RWS fields, the fourth words of the breakpoint registers, and PAT.CTL of the head pages. -/
def rwsWords : List Nat :=
  let rows := (fieldRowsHEAD ++ fieldRowsFIL ++ fieldRowsMET ++ fieldRowsCAL ++ fieldRowsPLS ++ fieldRowsLDG ++ fieldRowsUPD).filter
    fun r => r.acc == .rws
  let as := rows.flatMap fun r => rowAddrs r.addr r.reps
  let bp := rowAddrs (F.CAL_ME_BP_BP.addr + 12) [(8, 0x80), (8, 0x10)]
  let pat := (List.range 8).map fun n => Page.HEAD n + F.PAT_CTL_GEN.addr
  (as ++ bp ++ pat).foldl (fun l a => insertRising a l) []

/-- The bits of the word at `a` that belong to RWS fields; every field of PAT.CTL on a head page is RWS. -/
def rwsMask (a : Nat) : Nat :=
  (rowsAt a).foldl (fun m r =>
    if r.acc == .rws || (r.acc == .pat && Page.HEAD 0 ≤ a && a < Page.HEAD 8) then
      m + (2 ^ r.width - 1) * 2 ^ r.lo else m) 0

/-- The configuration words as a copy or the digest takes them (R106). -/
def State.rwsValues (s : State) : List Nat := rwsWords.map fun a => (s.word a).toNat &&& rwsMask a

/-- Group words four to a line. -/
def wordsToLines : Nat → List Nat → List Nat
  | 0, _ => []
  | n + 1, l => (l.take 4).foldr (fun w acc => w + 2 ^ 32 * acc) 0 :: wordsToLines n (l.drop 4)

/-- First line of configuration copy A or B. -/
def configLine (b : Bool) : Nat := if b then 0x2C00 else 0x2400

/-- Write a configuration copy into the older copy, its first line last (R300). -/
def State.commitConfig (s : State) : State :=
  let b := !s.commit.configNewB
  let ws := s.rwsValues
  let gen := s.commit.configGen + 1
  let s1 := s.setLineList (configLine b + 1) (wordsToLines ((ws.length + 3) / 4) ws)
  let s2 := s1.setLine (configLine b) (gen % 2 ^ 64 + 2 ^ 64 * ws.length)
  { s2 with commit := { s2.commit with configDirty := false, configNewB := b, configGen := gen } }

/-- GEN of a copy whose lines all verify; 0 when it does not verify or was never written. -/
def State.configGenOf (s : State) (b : Bool) : Nat :=
  let l := configLine b
  if s.linesVerify l 1 then
    let n := bits (s.lineNat l) 64 32
    if n = rwsWords.length ∧ s.linesVerify (l + 1) ((n + 3) / 4) then s.lineNat l % 2 ^ 64 else 0
  else 0

/-- Does the first line of the copy show a GEN, whether or not the copy verifies? -/
def State.configShownGen (s : State) (b : Bool) : Nat := s.lineNat (configLine b) % 2 ^ 64

/-- Load the RWS fields from a copy. -/
def State.loadConfig (s : State) (b : Bool) : State :=
  (rwsWords.zipIdx).foldl (fun t (a, i) =>
    let w := bits (s.lineNat (configLine b + 1 + i / 4)) (32 * (i % 4)) 32
    t.setWord a (BitVec.ofNat 32 (((t.word a).toNat &&& (2 ^ 32 - 1 - rwsMask a)) ||| (w &&& rwsMask a)))) s

/-- The reads of S1 (R284, R327): the first line of each copy, every line of the one with the higher GEN, and, when that one does not verify, of
the other. -/
def State.touchConfig (s : State) : State :=
  let b := decide (s.configShownGen false < s.configShownGen true)
  let n := (rwsWords.length + 3) / 4
  let s1 := ((s.touch (configLine false) 1).touch (configLine true) 1).touch (configLine b + 1) n
  if s.configGenOf b = 0 then s1.touch (configLine (!b) + 1) n else s1

/-- CONFIG_RESTORE (R301): from the copy with the higher GEN that verifies; from the older one with event 0x040C; with
neither, the factory values, CFGLOST and event 0x040D. -/
def State.restoreConfig (s : State) : State :=
  let ga := s.configGenOf false
  let gb := s.configGenOf true
  let s0 := s.touchConfig
  if ga = 0 ∧ gb = 0 then
    let s1 := rwsWords.foldl (fun t a => t.setWord a (resetWord a)) s0
    (s1.put F.LDG_STAT_CFGLOST 1).logE Page.LDG 0x040D 0
  else
    let b := decide (ga < gb)
    let s1 := s0.loadConfig b
    let s2 := { s1 with commit := { s1.commit with configNewB := b, configGen := max ga gb, configDirty := false } }
    if s.configShownGen (!b) > s.configShownGen b then s2.logE Page.LDG 0x040C 0 else s2

/-- An RWS field has changed: a configuration copy becomes due 1 s later (R300). -/
def State.markConfig (s : State) : State := { s with commit := { s.commit with configDirty := true, configAt := s.angle.now } }

/-! ### The boot record (Table 8-4) -/

/-- The fields of the boot record as one line, with its 32-bit GEN. -/
def State.bootRecord (s : State) (gen : Nat) : Nat :=
  (s.word F.BOOT_STARTS_CONSEC.addr).toNat + 2 ^ 32 * (s.word F.BOOT_WINTER_REASON.addr).toNat
    + 2 ^ 64 * (s.get F.BOOT_STAT_SUSP_SPR + 2 * s.get F.BOOT_STAT_SUSP_AUT + 4 * s.get F.BOOT_STAT_ROMW)
    + 2 ^ 96 * (gen % 2 ^ 32)

/-- GEN of boot record copy at line `l`, 0 when it does not verify. -/
def State.bootGen (s : State) (l : Nat) : Nat := if s.linesVerify l 1 then bits (s.lineNat l) 96 32 else 0

/-- Commit the boot record into the copy not holding the newer GEN (R289). -/
def State.commitBoot (s : State) : State :=
  let ga := s.bootGen 0x20
  let gb := s.bootGen 0x21
  if ga ≤ gb then s.setLine 0x20 (s.bootRecord (gb + 1)) else s.setLine 0x21 (s.bootRecord (ga + 1))

/-- Read the boot record back into BOOT at a cold start. -/
def State.loadBoot (s : State) : State :=
  let ga := s.bootGen 0x20
  let gb := s.bootGen 0x21
  let s0 := s.touch 0x20 2
  if ga = 0 ∧ gb = 0 then s0
  else
    let d := if gb < ga then s.lineNat 0x20 else s.lineNat 0x21
    let s1 := s0.setWord F.BOOT_STARTS_CONSEC.addr (BitVec.ofNat 32 (bits d 0 32))
    let s2 := s1.setWord F.BOOT_WINTER_REASON.addr (BitVec.ofNat 32 (bits d 32 32))
    ((s2.put F.BOOT_STAT_SUSP_SPR (bits d 64 1)).put F.BOOT_STAT_SUSP_AUT (bits d 65 1)).put F.BOOT_STAT_ROMW (bits d 66 1)

/-! ### The seal block and the session counters (Table 8-4) -/

/-- A head-binding entry (R290): type, port and serial number. -/
def State.bindEntry (s : State) (p : Nat) : Nat :=
  s.get (F.HEAD_BIND_TYPE.i p) + 2 ^ 8 * p + 2 ^ 16 * s.getW (F.HEAD_BINDSER_NUM.i p)

/-- The seal block as 12 lines. -/
def State.sealBlock (s : State) (gen : Nat) : List Nat :=
  [gen % 2 ^ 64 + 2 ^ 64 * s.get F.SEAL_STAT_STATE + 2 ^ 96 * s.sealSt.trans,
   s.getW F.SEAL_LASTSEAL_UTC + 2 ^ 64 * s.getW F.SEAL_LASTSEAL_CYCLES,
   s.getW F.SEAL_DIGEST % 2 ^ 128, s.getW F.SEAL_DIGEST / 2 ^ 128]
  ++ (List.range 8).map s.bindEntry

/-- GEN of a copy of 64-bit GEN at line `l` with `n` lines, 0 when a line does not verify. -/
def State.copyGen (s : State) (l n : Nat) : Nat := if s.linesVerify l n then s.lineNat l % 2 ^ 64 else 0

/-- Commit an item of copies A and B: into the copy not holding the newer GEN, its first line last (R289). -/
def State.commitCopy (s : State) (la lb n : Nat) (body : Nat → List Nat) : State :=
  let ga := s.copyGen la n
  let gb := s.copyGen lb n
  let l := if ga ≤ gb then la else lb
  let d := body (max ga gb + 1)
  (s.setLineList (l + 1) d.tail).setLine l (d.headD 0)

/-- Commit the seal block. -/
def State.commitSealBlock (s : State) : State := s.commitCopy 0x30 0x40 12 s.sealBlock

/-- The line of the newer verifying copy, if any. -/
def State.newerCopy (s : State) (la lb n : Nat) : Option Nat :=
  let ga := s.copyGen la n
  let gb := s.copyGen lb n
  if ga = 0 ∧ gb = 0 then none else if gb < ga then some la else some lb

/-- The reads of both copies (R289, R327). -/
def State.touchCopies (s : State) (la lb n : Nat) : State := (s.touch la n).touch lb n

/-- Read the seal block back: LASTSEAL, DIGEST and the head bindings (the state itself stays with the seal cell, R105).
Answers the STATE and the TRANS count that the record holds. -/
def State.loadSealBlock (s : State) : Option (Nat × Nat) × State :=
  let s0 := s.touchCopies 0x30 0x40 12
  match s.newerCopy 0x30 0x40 12 with
  | none => (none, s0)
  | some l =>
    let s1 := (s0.putW F.SEAL_LASTSEAL_UTC (bits (s.lineNat (l + 1)) 0 64)).putW F.SEAL_LASTSEAL_CYCLES (bits (s.lineNat (l + 1)) 64 64)
    let s2 := s1.putW F.SEAL_DIGEST (s.lineNat (l + 2) + 2 ^ 128 * s.lineNat (l + 3))
    let s3 := (List.range 8).foldl (fun t p =>
      (t.put (F.HEAD_BIND_TYPE.i p) (bits (s.lineNat (l + 4 + p)) 0 8)).putW (F.HEAD_BINDSER_NUM.i p) (bits (s.lineNat (l + 4 + p)) 16 48)) s2
    (some (bits (s.lineNat l) 64 8, bits (s.lineNat l) 96 32), s3)

/-- The tenant session counters as five lines. -/
def State.counterBlock (s : State) (gen : Nat) : List Nat :=
  (gen % 2 ^ 64) :: (List.range 4).map fun k =>
    (List.range 4).foldr (fun j acc => s.get (F.SIG_TCNT.i (4 * k + j)) + 2 ^ 32 * acc) 0

/-- Commit the session counters. -/
def State.commitCounters (s : State) : State := s.commitCopy 0x50 0x58 5 s.counterBlock

/-- Read the session counters back. -/
def State.loadCounters (s : State) : State :=
  let s0 := s.touchCopies 0x50 0x58 5
  match s.newerCopy 0x50 0x58 5 with
  | none => s0
  | some l => (List.range 16).foldl (fun t k => t.put (F.SIG_TCNT.i k) (bits (s.lineNat (l + 1 + k / 4)) (32 * (k % 4)) 32)) s0

/-! ### SRAM lines -/

/-- Which SRAM a memory address lies in (Table 17-1): legal, application, or none. -/
def sramOf (a : Nat) : Option Domain :=
  if 0x10000000 ≤ a ∧ a < 0x10080000 then some .legal
  else if 0x20000000 ≤ a ∧ a < 0x20400000 then some .app
  else none

/-- May the initiator read, or write, that SRAM (Table 17-1)? -/
def sramAllowed (who : Initiator) (d : Domain) (write : Bool) : Bool :=
  match domainOf who, d with
  | .legal, .legal => true
  | .legal, .app => !write
  | .app, .app => true
  | _, _ => false

def sramDefault (_ : Nat) : SramTag := ⟨0, false⟩

def State.sramTag (s : State) (l : Nat) : SramTag := storeRead sramDefault s.sramTags l

def State.setSramTag (s : State) (l : Nat) (t : SramTag) : State := { s with sramTags := storeWrite sramDefault s.sramTags l t }

/-- The page and fields that count SRAM corrections and poisonings of a domain (Tables 8-13 and 8-15). -/
def sramPage (d : Domain) : Nat × Field × Field × Field :=
  match d with
  | .legal => (Page.LDG, F.LDG_SRAMERR_CORRS, F.LDG_SRAMERR_POISONS, F.LDG_SRAMBAD)
  | _ => (Page.SYS, F.SYS_SRAMERR_CORRS, F.SYS_SRAMERR_POISONS, F.SYS_SRAMBAD)

/-- An access to one SRAM line at address `l` (a multiple of 16) under R284 to R287: answers the line read, or none for a
bus error. -/
def State.sramLine (s : State) (d : Domain) (l : Nat) (op : MemOp) : Option Line × State :=
  let t := s.sramTag l
  let stored : TagLine := ⟨BitVec.ofNat 128 (s.memNat l 16), sramOwner d, t.flips, t.poison⟩
  let data := lineData stored
  let (page, corrs, poisons, badAt) := sramPage d
  let check := checkLine (sramOwner d) none stored
  let fixed (u : State) : State :=
    (((u.setBytes l (toBytes 16 data.toNat)).setSramTag l ⟨0, false⟩).incSat corrs).logE page 0x0405 l
  match op with
  | .read =>
    match check with
    | .good => (some data, s)
    | .corrected => (some data, fixed s)
    | .bad => (none, s)
  | .write mask new =>
    if mask = 0xFFFF then (some new, (s.setBytes l (toBytes 16 new.toNat)).setSramTag l ⟨0, false⟩)
    else match check with
      | .good => (some new, (s.setBytes l (toBytes 16 (mergeBytes mask data new).toNat)).setSramTag l ⟨0, false⟩)
      | .corrected => (some new, (fixed s).setBytes l (toBytes 16 (mergeBytes mask data new).toNat))
      | .bad => (none, (((s.setSramTag l { t with poison := true }).incSat poisons).put badAt l).logE page 0x0406 l)

/-- The last access answered data. -/
def State.busOk (s : State) (v : Nat) : State := { s with bus := ⟨false, v⟩ }

/-- The last access ended in a bus error. -/
def State.busErr (s : State) : State := { s with bus := ⟨true, 0⟩ }

/-! ### The commands -/

/-- SRAM_LINE_CLEAR (R287): the owning domain clears a line of its SRAM through SYS.SRAMCLR or LDG.SRAMCLR. -/
def State.sramClear (s : State) (d : Domain) (a : Nat) : State :=
  let l := a / 16 * 16
  if sramOf l = some d then (s.setBytes l (List.replicate 16 0)).setSramTag l ⟨0, false⟩ else s

def execSramLineClear (who : Initiator) (a : Word) (s : State) : Host.Outcome State Fault Refusal :=
  .next (s.sramClear (domainOf who) a.toNat)

/-- LEDGER_READ_REQUEST (R284): a write of LDG.LRD_IDX reads the line into LRD_DATA; 0 on TAGFAIL. -/
def execLedgerReadRequest (line : BitVec 18) (upset : BitVec 160) (s : State) : Host.Outcome State Fault Refusal :=
  let i := line.toNat
  let s0 := (s.put F.LDG_LRD_IDX_LINE i).upsetLine i upset
  let r := s0.readLine i
  let s1 := (((r.2.put F.LDG_LRD_ST_DONE 1).put F.LDG_LRD_ST_TAGFAIL (b2n (r.1 == .bad))).put F.LDG_LRD_ST_CORR (b2n (r.1 == .corrected))).put
    F.LDG_LRD_ST_POISON (b2n (s0.line i).poison)
  .next (s1.putW F.LDG_LRD_DATA (if r.1 = .bad then 0 else s0.lineNat i))

/-- APP_LEDGER_READ (R325): a write of SYS.LQ_RIDX reads the line into LQ_RDATA. -/
def execAppLedgerRead (line : BitVec 18) (upset : BitVec 160) (s : State) : Host.Outcome State Fault Refusal :=
  let i := line.toNat
  let s0 := (s.put F.SYS_LQ_RIDX_LINE i).upsetLine i upset
  let r := s0.readLine i
  let s1 := (((r.2.put F.SYS_LQ_RST_DONE 1).put F.SYS_LQ_RST_TAGFAIL (b2n (r.1 == .bad))).put F.SYS_LQ_RST_CORR (b2n (r.1 == .corrected))).put
    F.SYS_LQ_RST_POISON (b2n (s0.line i).poison)
  .next (s1.putW F.SYS_LQ_RDATA (if r.1 = .bad then 0 else s0.lineNat i))

/-- Queue a legal line write with the index and mask as they stand (R285, Table 8-13). -/
def State.queueLegal (s : State) (data : Nat) : State :=
  (({ s with commit := { s.commit with legalQ := s.commit.legalQ ++
      [⟨s.get F.LDG_LW_IDX_LINE, BitVec.ofNat 16 (s.get F.LDG_LW_MASK_MASK), BitVec.ofNat 128 data⟩] } } : State).noteQueues)

/-- Queue an application line write, or refuse it with RESULT 2 and event 0x040A (R325). -/
def State.queueApp (s : State) (data : Nat) : State :=
  let i := s.get F.SYS_LQ_IDX_LINE
  if ledgerLegal i ∨ s.commit.appQ.length ≥ 16 ∨ s.boot.pfail then
    ((s.put F.SYS_LQ_ST_RESULT 2).irq Page.LDG 6).logE Page.LDG 0x040A i
  else
    (({ s with commit := { s.commit with appQ := s.commit.appQ ++
      [⟨i, BitVec.ofNat 16 (s.get F.SYS_LQ_MASK_MASK), BitVec.ofNat 128 data⟩] } } : State).noteQueues)

/-- COMMIT_ENGINE_LINE_WRITE (R292). -/
def execCommitEngineLineWrite (upset : BitVec 160) (s : State) : Host.Outcome State Fault Refusal :=
  .next (if s.commitRuns then s.commitLine upset else s)

/-- Does a write wait that the commit engine may take now? -/
def State.writesWait (s : State) : Bool :=
  s.commitRuns && !(s.commit.legalQ.isEmpty && s.commit.appQ.isEmpty && s.log.counted.isEmpty && s.log.ring.isEmpty)

/-- SCRUB_READ (R294): while SCRUB is set and no write waits, the next line is read in index order and handled under R284. -/
def execScrubRead (upset : BitVec 160) (s : State) : Host.Outcome State Fault Refusal :=
  if s.on F.LDG_CTL_SCRUB && !s.writesWait && !s.boot.pfail then
    let i := s.get F.LDG_SCRUBPOS_LINE
    let r := (s.upsetLine i upset).readLine i
    .next (r.2.put F.LDG_SCRUBPOS_LINE (i + 1))
  else .next s

/-- MIRROR_REQUEST (R297): LDG.CMD.MIRROR requests a mirror commit. -/
def execMirrorRequest (s : State) : Host.Outcome State Fault Refusal :=
  .next { s with commit := { s.commit with mirrorReq := true } }

/-- Is a mirror commit due (R297): MIRPER after the last one, or requested; and never within 250 ms of it? -/
def State.mirrorDue (s : State) : Bool :=
  let since := s.angle.now - s.commit.lastMirror
  decide (250 * tickMs ≤ since) && (s.commit.mirrorReq || decide (s.get F.LDG_MIRPER_MS * tickMs ≤ since))

/-- MIRROR_COMMIT (R297): at the close at which it is due, a mirror slot is committed. -/
def execMirrorCommit (s : State) : Host.Outcome State Fault Refusal :=
  .next (if s.commitRuns && s.mirrorDue then s.commitMirror (s.getW F.MET_LASTCYC) s.utc false false else s)

/-- CONFIG_COPY (R300): at the first close at least 1 s after the last change, a configuration copy is written into the older copy. -/
def execConfigCopy (s : State) : Host.Outcome State Fault Refusal :=
  .next (if s.commitRuns && s.commit.configDirty && decide (s.commit.configAt + 1000 * tickMs ≤ s.angle.now) then s.commitConfig else s)

/-- EVENT_RECORD_COMMIT (R303). -/
def execEventRecordCommit (s : State) : Host.Outcome State Fault Refusal :=
  .next (if s.commitRuns then s.commitEvent else s)

end Sys2Proof.Machine
end

