-- ==== Sys2Proof/Machine/Dma.lean ====
section
/-!
DEFINITION. Machine/Dma.lean: the rings, their states and descriptors, device ports, receive elements, halt and abort
(chapter 17). Machine/Burst.lean moves the data.
-/

namespace Sys2Proof.Machine

def State.ring (s : State) (r : Nat) : Ring := storeRead (fun _ => {}) s.rings r

def State.setRing (s : State) (r : Nat) (g : Ring) : State := { s with rings := storeWrite (fun _ => {}) s.rings r g }

/-- The domain of a ring (R638). -/
def ringDom (r : Nat) : Domain := if r < 32 then .legal else .app

/-- The class of a ring (R638): 0 to 3. -/
def State.ringClass (s : State) (r : Nat) : Nat :=
  if r < 32 then 0 else if r < 64 then 1 else if s.on (F.RING_CTL_C3.i r) then 3 else 2

def State.ringState (s : State) (r : Nat) : Nat := s.get (F.RING_STAT_STATE.i r)

/-- The port in force. -/
def State.ringPort (s : State) (r : Nat) : Nat := s.get (F.RING_STAT_PORT.i r)

/-- Does the ring belong to the owner of the DMA common page? -/
def State.dmaOwns (s : State) (r : Nat) : Bool := s.get (F.OWNER_DOMAIN.on Page.DMA) == (ringDom r).code

/-- Log an event of a ring; a fault of the DMA page only for rings of its owning domain. -/
def State.logRing (s : State) (r code arg : Nat) : State :=
  if s.dmaOwns r then s.logE Page.DMA code arg else s.logIdx (pageIndex Page.DMA) code arg

/-- An interrupt of the DMA common page, which concerns the rings of its owning domain. -/
def State.dmaIrq (s : State) (r i : Nat) : State := if s.dmaOwns r then s.irq Page.DMA i else s

/-- The status bits of the DMA common page follow the ring states and IRQ.DEFER (Table 17-8). -/
def State.noteRings (s : State) (r : Nat) : State :=
  let st := s.ringState r
  let d := s.on (F.RING_IRQ_DEFER.i r)
  let s1 := (s.putBit (F.DMA_HALTED.i (r / 32)) (r % 32) (st == 4)).putBit (F.DMA_ACTIVE.i (r / 32)) (r % 32) ([2, 3, 5].contains st)
  let s2 := (s1.putBit (F.DMA_DEFERRED.i (r / 32)) (r % 32) d).put (F.RING_STAT_DEFERRED.i r) (b2n d)
  let own := if s2.get (F.OWNER_DOMAIN.on Page.DMA) = 0 then [0] else [1, 2, 3, 4, 5, 6, 7]
  (s2.put F.DMA_STAT_ACTIVE (b2n ((List.range 8).any fun w => s2.get (F.DMA_ACTIVE.i w) != 0))).put F.DMA_STAT_ANYHALT
    (b2n (own.any fun w => s2.get (F.DMA_HALTED.i w) != 0))

/-- Enter a ring state of Table 17-5. OFF has EN 0 and no port in force; HALTC is 0 when not halted. -/
def State.toRing (s : State) (r st : Nat) : State :=
  let s1 := s.put (F.RING_STAT_STATE.i r) st
  let s2 := if st = 0 then (s1.put (F.RING_CTL_EN.i r) 0).put (F.RING_STAT_PORT.i r) 0 else s1
  (if st = 4 then s2 else s2.put (F.RING_STAT_HALTC.i r) 0).noteRings r

/-! ### Descriptors (Table 17-2) -/

/-- Address of descriptor `k` (R643). -/
def State.descAddr (s : State) (r k : Nat) : Nat := s.getWords (F.RING_BASE_A.i r).addr 2 % 2 ^ 40 + 32 * k

def descOwn (d : Nat) : Bool := bit d 0
def descBar (d : Nat) : Bool := bit d 1
def descIrq (d : Nat) : Bool := bit d 2
def descEor (d : Nat) : Bool := bit d 3
def descXform (d : Nat) : Nat := bits d 8 4
def descXn (d : Nat) : Nat := bits d 12 3
def descXe (d : Nat) : Nat := bits d 16 2
def descLen (d : Nat) : Nat := bits d 32 24
def descSrc (d : Nat) : Nat := bits d 64 40
def descDst (d : Nat) : Nat := bits d 128 40
def descAux (d : Nat) : Nat := bits d 224 32

/-- The index after `k` (R646). -/
def State.nextDesc (s : State) (r k d : Nat) : Nat :=
  if descEor d ∨ k + 1 ≥ 2 ^ s.get (F.RING_CTL_SIZE.i r) then 0 else k + 1

/-- The 256 bits of descriptor `k` as memory holds them. -/
def State.peekDesc (s : State) (r k : Nat) : Nat := s.memNat (s.descAddr r k) 32

/-! ### Device ports (Table 17-3, Table 18-1) -/

/-- The ports whose device names ring `r`. -/
def State.namedBy (s : State) (r : Nat) : List Nat :=
  let fixed := [(2, F.GPM_RINGS_RXRING), (3, F.GPM_RINGS_TXRING), (4, F.CLU_RINGS_RXRING), (5, F.CLU_RINGS_TXRING), (6, F.AUD_CFG_RING)]
  let gated := [(7, F.ETH_RINGS_RXRING, F.ETH_RINGS_RXR), (8, F.ETH_RINGS_TXRING, F.ETH_RINGS_TXR)]
    ++ (List.range 4).flatMap (fun n => [(9 + 2 * n, F.U_RINGS_RXRING.i n, F.U_RINGS_RXR.i n), (10 + 2 * n, F.U_RINGS_TXRING.i n, F.U_RINGS_TXR.i n)])
    ++ (List.range 2).flatMap (fun n => [(17 + 2 * n, F.TW_RINGS_RXRING.i n, F.TW_RINGS_RXR.i n), (18 + 2 * n, F.TW_RINGS_TXRING.i n, F.TW_RINGS_TXR.i n)])
  (fixed.filter fun e => s.get e.2 == r).map (·.1) ++ (gated.filter fun e => s.on e.2.2 && s.get e.2.1 == r).map (·.1)

/-- May ring `r` serve port `p` (R647)? -/
def State.portAllows (s : State) (r p : Nat) : Bool :=
  let owner (page : Nat) : Bool := s.get (F.OWNER_DOMAIN.on page) == (ringDom r).code
  if p = 0 then true
  else if p ≤ 6 then decide (32 ≤ r ∧ r < 64)
  else if p ≤ 8 then owner Page.ETH
  else if p ≤ 10 then owner (Page.U 0)
  else decide (32 ≤ r)

def rxPort (p : Nat) : Bool := [1, 2, 4, 7, 9, 11, 13, 15, 17, 19].contains p
def txPort (p : Nat) : Bool := p != 0 && !rxPort p

/-- Ports of a device that takes or gives whole frames or blocks. -/
def framePort (p : Nat) : Bool := [3, 5, 8].contains p

/-- Entries of a UART queue: QSIZE (R683). -/
def State.uartSize (s : State) (n : Nat) : Nat := 16 * 2 ^ s.get (F.U_FMT_QSIZE.i n)

def State.uart (s : State) (n : Fin 4) : Uart := s.uarts.get n
def State.setUart (s : State) (n : Fin 4) (u : Uart) : State := { s with uarts := s.uarts.set n u }
def State.tw (s : State) (n : Fin 2) : TwoWire := s.tws.get n
def State.setTw (s : State) (n : Fin 2) (u : TwoWire) : State := { s with tws := s.tws.set n u }

/-- The UART, or the two-wire block, of a port. -/
def uartOf (p : Nat) : Option (Fin 4) := if 9 ≤ p ∧ p ≤ 16 then some ⟨(p - 9) / 2 % 4, by omega⟩ else none
def twOf (p : Nat) : Option (Fin 2) := if 17 ≤ p ∧ p ≤ 20 then some ⟨(p - 17) / 2 % 2, by omega⟩ else none

/-- Does a page generate a pattern, so that it takes nothing from its transmit ring (R765)? -/
def State.patternRuns (s : State) (page : Nat) : Bool := s.on (F.PAT_STAT_GENON.on page)

/-- Bytes that the audio output holds before it takes another burst (DESIGN CHOICE). -/
def audioRoom : Nat := 256

/-- Is the device ready for the ring: data on a receive port, room on a transmit port (R658)? -/
def State.portReady (s : State) (r : Nat) : Bool :=
  let p := s.ringPort r
  let g := s.ring r
  match uartOf p, twOf p with
  | some n, _ =>
    let u := s.uart n
    if rxPort p then u.rxq != []
    else s.on (F.U_CTL_EN.i n) && decide (u.txq.length < s.uartSize n) && !s.on (F.U_STAT_TXHOLD.i n) && !s.patternRuns (Page.U n)
  | _, some n =>
    let u := s.tw n
    if rxPort p then u.rxq != []
    else s.on (F.TW_CTL_EN.i n) && decide (u.txq.length < 32) && !s.patternRuns (Page.TW n)
  | none, none =>
    if p = 0 then true
    else if rxPort p then g.inbox != []
    else if p = 6 then decide (g.out.length < audioRoom)
    else !(s.patternRuns (if p = 3 then Page.GPM else if p = 5 then Page.CLU else Page.ETH))

/-- The next burst of a ring that runs (R657). -/
inductive RingBurst where
  | take
  | data
  | back
deriving DecidableEq, Repr

def State.nextBurst (s : State) (r : Nat) : Option RingBurst :=
  let g := s.ring r
  match g.desc with
  | none => some .take
  | some (_, d) =>
    if g.fin.isSome ∨ descLen d = 0 then some .back
    else if g.moved < descLen d then (if s.portReady r then some .data else none)
    else if framePort (s.ringPort r) then none
    else some .back

/-- RUN or WAIT, as the device is ready or not (Table 17-5). -/
def State.refreshRing (s : State) (r : Nat) : State :=
  if s.ringState r = 2 ∨ s.ringState r = 3 then
    let st := if (s.nextBurst r).isSome then 2 else 3
    if s.ringState r = st then s else s.toRing r st
  else s

/-- Refresh the rings of a device after it has taken or given data. -/
def State.refreshPort (s : State) (p : Nat) : State :=
  (List.range 256).foldl (fun (t : State) r => if t.ringState r ≠ 0 ∧ t.ringPort r = p then t.refreshRing r else t) s

/-- The running ring of a port, if there is one. -/
def State.ringFor (s : State) (p : Nat) : Option Nat := (List.range 256).find? fun r => s.on (F.RING_CTL_EN.i r) && s.ringPort r == p

/-! ### Write-back, halt, abort -/

/-- Write one line of a descriptor of ring `r` whole: 0, or the cause of Table 17-6. -/
def State.backLine (s : State) (r l v : Nat) : Nat × State :=
  match sramOf l with
  | none => (1, s)
  | some d =>
    if d ≠ ringDom r then (2, s)
    else if d = .app ∧ s.boot.standby then (1, s)
    else (0, (s.sramLine d l (.write 0xFFFF (BitVec.ofNat 128 v))).2)

/-- Write a descriptor back (R645): line 1 whole, then line 0 with OWN cleared; then DONE when IRQ is 1. Where a write fails, its cause and address
(R674). -/
def State.writeBack (s : State) (r k d result residue : Nat) (w2 aux : Option Nat) : Option (Nat × Nat) × State :=
  let a := s.descAddr r k
  let w6 := result % 16 + 16 * bits d 196 4 + 256 * (residue % 2 ^ 24)
  let line1 := bits d 128 64 + 2 ^ 64 * w6 + 2 ^ 96 * (aux.getD s.angleWord % 2 ^ 32)
  let line0 := setBits (setBits (bits d 0 128) 0 1 0) 64 32 (w2.getD (bits d 64 32))
  match s.backLine r (a + 16) line1 with
  | (0, s1) => match s1.backLine r a line0 with
    | (0, s2) =>
      let s3 := s2.put (F.RING_HEAD_WBS.i r) (s2.get (F.RING_HEAD_WBS.i r) + 1)
      let s4 := if descIrq d then s3.put (F.RING_IRQ_DONE.i r) 1 else s3
      let posted := result == 1 && !descBar d && !txPort (s.ringPort r) && !decide (0x40000000 ≤ descDst d ∧ descDst d < 0x40100000)
      (none, s4.setRing r { s4.ring r with lastDone := k, posted := posted })
    | (c, s2) => (some (c, a), s2)
  | (c, s1) => (some (c, a + 16), s1)

/-- The ring no longer holds its descriptor; what a frame device had taken of it is lost. -/
def Ring.drop (g : Ring) : Ring := { g with desc := none, moved := 0, fin := none, out := [], elemOvw := false }

/-- An element is discarded for want of a descriptor (R650). -/
def State.discardElem (s : State) (r : Nat) : State :=
  let s1 := (((s.incSat (F.RING_DROP_N.i r)).put (F.RING_IRQ_OVFL.i r) 1).dmaIrq r 2)
  let g := s1.ring r
  if g.dropRun then s1 else (s1.setRing r { g with dropRun := true }).logRing r 0x0D05 (args [r, s.ringPort r])

/-- The elements that wait in a ring find no descriptor any more. -/
def State.discardInbox (s : State) (r : Nat) : State :=
  let n := (s.ring r).inbox.length
  (List.range n).foldl (fun (t : State) _ => t.discardElem r) (s.setRing r { s.ring r with inbox := [] })

/-- Stop a ring in HALTED on the descriptor of index `idx` (R664, R652): the error registers, HEAD at that descriptor, the interrupts and the event.
`d` is the descriptor. -/
def State.stopRing (s : State) (r idx d cause : Nat) (write : Bool) (addr : Nat) (late : Bool) : State :=
  let s1 := if cause = 7 then s else s.putW (F.RING_ERRADDR_A.i r) addr
  let s2 := (((s1.put (F.RING_ERRST_DIR.i r) (b2n write)).put (F.RING_ERRST_CAUSE.i r) cause).put (F.RING_ERRST_LATE.i r) (b2n late)).put
    (F.RING_ERRST_IDX.i r) idx
  let s3 := s2.put (F.RING_HEAD_IDX.i r) idx
  let s4 := (s3.setRing r { (s3.ring r).drop with portChanged := false, kick := false, posted := false }).discardInbox r
  let s5 := ((s4.put (F.RING_STAT_HALTC.i r) cause).toRing r 4).put (F.RING_IRQ_HALT.i r) 1
  let s6 := ((s5.put F.DMA_LASTHALT_RING r).put F.DMA_LASTHALT_CAUSE cause).dmaIrq r 0
  let w0 := bits d 0 32
  let len := descLen d
  if late then s6.logRing r 0x0D06 (args [r, idx, addr])
  else if cause = 5 then s6.logRing r 0x0D02 (args [r, idx, w0, len])
  else if cause = 7 then s6.logRing r 0x0D07 (args [r, cause])
  else s6.logRing r 0x0D01 (args [r, cause + 256 * b2n write, addr, idx])

/-- Halt a ring (R664): the write-back with RESULT 3 where a descriptor is taken, then HALTED. Where the write-back itself fails, the halt is that of the
failed write (R674). -/
def State.haltRing (s : State) (r cause : Nat) (write : Bool) (addr : Nat) : State :=
  let g := s.ring r
  match g.desc with
  | some (k, d) => match s.writeBack r k d 3 (descLen d - (if cause = 5 then 0 else g.moved)) none none with
    | (none, t) => t.stopRing r k d cause write addr false
    | (some (c, a), t) => t.stopRing r k d c true a false
  | none => s.stopRing r (s.get (F.RING_HEAD_IDX.i r)) 0 cause write addr false

/-- Abort a ring (R666, R665): between bursts the write-back with RESULT 2 follows at once; where it fails, the error prevails and the ring halts
(R667, R674). -/
def State.abortRing (s : State) (r : Nat) : State :=
  match s.ringState r with
  | 4 => s.toRing r 0
  | 0 => s
  | _ =>
    let g := s.ring r
    let idx := s.get (F.RING_HEAD_IDX.i r)
    let finish (t : State) (residue : Nat) : State :=
      let s2 := (t.setRing r { (t.ring r).drop with kick := false, portChanged := false }).discardInbox r
      ((s2.toRing r 0).put (F.RING_IRQ_ABORT.i r) 1).logRing r 0x0D03 (args [r, idx, residue])
    match g.desc with
    | some (k, d) => match s.writeBack r k d 2 (descLen d - g.moved) none none with
      | (none, t) => finish (t.put (F.RING_HEAD_IDX.i r) (s.nextDesc r k d)) (descLen d - g.moved)
      | (some (c, a), t) => t.stopRing r k d c true a false
    | none => finish s 0

/-! ### Enable, kick, resume, reset -/

/-- Why an enable is refused (R660): 1 SIZE or BASE, 2 named by more than one device, 3 a port outside its range; none when
it is accepted, with the port. -/
def State.enableCheck (s : State) (r : Nat) : Nat × Nat :=
  let size := s.get (F.RING_CTL_SIZE.i r)
  let base := s.descAddr r 0
  let stop := base + 32 * 2 ^ size
  let inSram := if r < 32 then decide (0x10000000 ≤ base ∧ stop ≤ 0x10080000) else decide (0x20000000 ≤ base ∧ stop ≤ 0x20400000)
  let ports := s.namedBy r ++ (if s.on (F.RING_CTL_STREAM.i r) then [1] else [])
  let p := ports.headD 0
  if size < 2 ∨ size > 12 ∨ base % 32 ≠ 0 ∨ !inSram then (1, 0)
  else if ports.length > 1 then (2, 0)
  else if !s.portAllows r p then (3, 0)
  else (0, p)

/-- EN written 1 in OFF (R660). -/
def State.enableRing (s : State) (r : Nat) : State :=
  match s.enableCheck r with
  | (0, p) => (((s.put (F.RING_CTL_EN.i r) 1).put (F.RING_STAT_PORT.i r) p).setRing r { s.ring r with dropRun := false, portChanged := false, posted := false }).toRing r 2
  | (c, _) => s.logRing r 0x0D07 (args [r, c])

/-- A write of RINGr.CTL: the settings while EN is 0, then EN. -/
def State.writeRingCtl (s : State) (r v : Nat) : State :=
  if s.on (F.RING_CTL_EN.i r) then (if bit v 0 then s else s.abortRing r)
  else
    let s1 := s.put (F.RING_CTL_STREAM.i r) (bits v 1 1)
    let s2 := s1.when (decide (64 ≤ r)) fun t => t.put (F.RING_CTL_C3.i r) (bits v 2 1)
    let s3 := s2.when (decide (2 ≤ bits v 8 4 ∧ bits v 8 4 ≤ 12)) fun t => t.put (F.RING_CTL_SIZE.i r) (bits v 8 4)
    if bit v 0 then s3.enableRing r else s3

/-- A kick (R659). -/
def State.kickRing (s : State) (r : Nat) : State :=
  match s.ringState r with
  | 1 => s.toRing r 2
  | 2 => s.setRing r { s.ring r with kick := true }
  | 3 => s.setRing r { s.ring r with kick := true }
  | _ => s

/-- RESUME in HALTED (R665): HEAD moves on and the ring runs. -/
def State.resumeRing (s : State) (r : Nat) : State :=
  if s.ringState r = 4 then
    let k := s.get (F.RING_HEAD_IDX.i r)
    (s.put (F.RING_HEAD_IDX.i r) (s.nextDesc r k (s.peekDesc r k))).toRing r 2
  else s

/-- RESET in OFF and HALTED (R665). -/
def State.resetRing (s : State) (r : Nat) : State :=
  if s.ringState r = 0 ∨ s.ringState r = 4 then
    let s1 := ((s.put (F.RING_HEAD_IDX.i r) 0).putW (F.RING_ERRADDR_A.i r) 0).setWord (F.RING_ERRST_DIR.i r).addr 0
    s1.toRing r 0
  else s

/-- A write of RINGr.CMD: ABORT, RESET, RESUME, KICK in this order (Table 17-7); an abort prevails over a kick (R667). -/
def State.writeRingCmd (s : State) (r v : Nat) : State :=
  let s1 := s.when (bit v 1) (·.abortRing r)
  let s2 := s1.when (bit v 3) (·.resetRing r)
  let s3 := s2.when (bit v 2) (·.resumeRing r)
  s3.when (bit v 0 && !bit v 1) (·.kickRing r)

/-- A device ring field has changed: a ring that is not OFF and that the field names or ceases to name halts with CAUSE 7
at the next burst boundary (R660). -/
def State.portRenamed (s : State) (old new : Nat) : State :=
  if old = new then s
  else [old, new].foldl (fun (t : State) r => if t.ringState r = 0 then t else t.setRing r { t.ring r with portChanged := true }) s

/-- RING_ENABLE (R660): a write of RINGr.CTL with EN = 1. -/
def execRingEnable (r : Fin 256) (v : Word) (s : State) : Host.Outcome State Fault Refusal :=
  .next (s.writeRingCtl r (setBits v.toNat 0 1 1))

/-- RING_KICK (R659). -/
def execRingKick (r : Fin 256) (s : State) : Host.Outcome State Fault Refusal := .next (s.kickRing r)

/-- RING_ABORT (R666). -/
def execRingAbort (r : Fin 256) (s : State) : Host.Outcome State Fault Refusal := .next (s.abortRing r)

/-- RING_RESUME (R665). -/
def execRingResume (r : Fin 256) (s : State) : Host.Outcome State Fault Refusal := .next (s.resumeRing r)

/-- RING_RESET (R665). -/
def execRingReset (r : Fin 256) (s : State) : Host.Outcome State Fault Refusal := .next (s.resetRing r)

/-! ### Receive elements and stream records -/

/-- How many elements (on the sample-stream port: records) the descriptors with OWN = 1 from index `k` take, at most `n`
descriptors. -/
def State.ownRoom (s : State) (r k : Nat) (stream : Bool) : Nat → Nat
  | 0 => 0
  | n + 1 =>
    let d := s.peekDesc r k
    if descOwn d then (if stream then descLen d / 8 else 1) + s.ownRoom r (s.nextDesc r k d) stream n else 0

/-- Has the ring room for one more element (R650)? -/
def State.elemRoom (s : State) (r : Nat) : Bool :=
  let g := s.ring r
  let stream := s.ringPort r == 1
  let st := s.ringState r
  let waiting := g.inbox.length
  let room := match g.desc with
    | some (k, d) =>
      (if stream then (descLen d - g.moved + 7) / 8 else if g.fin.isSome then 0 else 1) + s.ownRoom r (s.nextDesc r k d) stream waiting
    | none => s.ownRoom r (s.get (F.RING_HEAD_IDX.i r)) stream (waiting + 1)
  [1, 2, 3].contains st && decide (waiting < room)

/-- A receive element arrives at a ring (R648, R650): it waits for its bursts, or is discarded. Answers whether the ring
took it. -/
def State.giveElem (s : State) (r : Nat) (e : RingElem) : Bool × State :=
  if s.elemRoom r then
    let g := s.ring r
    (true, (s.setRing r { g with inbox := g.inbox ++ [e], dropRun := false }).refreshRing r)
  else (false, s.discardElem r)

/-- RECEIVE_ELEMENT (R650): an element of the device that ring `r` serves. Ports 9 and above keep their characters and
bytes in their queues (R694, R706). -/
def execReceiveElement (r : Fin 256) (data : List Byte) (w2 aux : Option Word) (s : State) : Host.Outcome State Fault Refusal :=
  .next (if s.on (F.RING_CTL_EN.i r) ∧ rxPort (s.ringPort r) ∧ s.ringPort r < 9 then
    (s.giveElem r ⟨data, w2.map (·.toNat), aux.map (·.toNat)⟩).2 else s)

/-- The record of a channel (R198). -/
def State.streamRecord (s : State) (c : Nat) : List Byte :=
  toBytes 8 (s.get (F.FIL_CH_OUT.i c) + 2 ^ 32 * (s.get (F.FIL_CH_ST_FLAGS.i c) + 2 ^ 8 * c + 2 ^ 16 * s.get (F.FIL_CH_ST_SIDX.i c)))

/-- Append the records of a sample to every sample-stream ring, in ascending channel order (R649). -/
def State.streamSample (s : State) : State :=
  (List.range 32).foldl (fun (t : State) i =>
    let r := 32 + i
    if t.on (F.RING_CTL_EN.i r) && t.ringPort r == 1 then
      (List.range 24).foldl (fun (u : State) c =>
        if u.getBit (F.RING_SEL_MASK.i r) c then (u.giveElem r ⟨u.streamRecord c, none, none⟩).2 else u) t
    else t) s

/-- LATE_WRITE_FAILURE (R652): a data write of a descriptor with BAR = 0 fails, with the cause of a bus error of a write, after its write-back; the
ring halts on that descriptor and takes no further one. -/
def execLateWriteFailure (r : Fin 256) (a : BitVec 40) (cause : BitVec 3) (s : State) : Host.Outcome State Fault Refusal :=
  .next (if [1, 2, 3].contains (s.ringState r) && (s.ring r).posted && [1, 2, 3].contains cause.toNat then
    s.stopRing r (s.ring r).lastDone 0 cause.toNat true a.toNat true else s)

/-- The common registers show rings 0 to 31 again after a reset of the page. -/
def State.noteLegalRings (s : State) : State := (List.range 32).foldl State.noteRings s

/-- Rings 32 to 255 take their reset values and make no write-back (R668). -/
def State.resetAppRings (s : State) : State :=
  let s1 := s.resetRange (0x40061000 + 0x40 * 32) (0x40061000 + 0x40 * 256)
  let s2 : State := { s1 with rings := storeErase (fun r => decide (32 ≤ r)) s1.rings }
  let s3 := (List.range 7).foldl (fun (t : State) w => ((t.put (F.DMA_HALTED.i (w + 1)) 0).put (F.DMA_ACTIVE.i (w + 1)) 0).put (F.DMA_DEFERRED.i (w + 1)) 0) s2
  s3.noteLegalRings

/-! ### Frames of the devices -/

/-- The complete frame or block that the ring of a transmit port has given its device, with the ring and the AUX of its
hand-over. -/
def State.txFrame (s : State) (p : Nat) : Option (Nat × List Byte × Nat) :=
  match s.ringFor p with
  | none => none
  | some r =>
    let g := s.ring r
    match g.desc with
    | none => none
    | some (_, d) => if descLen d ≠ 0 ∧ g.moved = descLen d ∧ g.fin = none then some (r, g.out, descAux d) else none

/-- The device has done with the frame of ring `r`: its descriptor completes with word 2 and AUX as the port gives them. -/
def State.frameDone (s : State) (r : Nat) (w2 aux : Option Nat) : State :=
  (s.setRing r { s.ring r with fin := some (1, w2, aux), out := [] }).refreshRing r

/-- EtherType of a frame: bytes 12 and 13, first byte highest. -/
def etherType (f : List Byte) : Nat := (f.getD 12 0).toNat * 256 + (f.getD 13 0).toNat

end Sys2Proof.Machine
end

