-- ==== Sys2Proof/Machine/Audio.lean ====
section
/-!
DEFINITION. Machine/Audio.lean: prompt audio (chapter 16, section 9).
-/

namespace Sys2Proof.Machine

/-- The largest r below 2 ^ `k` above `r` with r^40 × 10^c ≤ 2^2560: one binary digit at a time. -/
def gainRoot (c : Nat) : Nat → Nat → Nat
  | 0, r => r
  | k + 1, r => gainRoot c k (if (r + 2 ^ k) ^ 40 * 10 ^ c ≤ 2 ^ 2560 then r + 2 ^ k else r)

/-- gk = 10^(-VOLk / 20) with VOLk in steps of 0.5 dB; 127 mutes (R628). A gain that is not a power of ten is taken to 64
binary places. -/
def audioGain (c : Nat) : Rat :=
  if c = 127 then 0 else if c % 40 = 0 then 1 / (10 ^ (c / 40) : Nat) else (gainRoot c 64 0 : Nat) / (2 ^ 64 : Nat)

/-- The whole number that the sum of a frame gives: the sum itself, or one of the two numbers around it (`up`). -/
def audioSum (ch0 ch1 : Int) (c0 c1 : Nat) (up : Bool) : Int :=
  let r := ch0 * audioGain c0 + ch1 * audioGain c1
  if r.den = 1 then r.num else r.floor + (if up then 1 else 0)

/-- The limit of sat16. -/
def sat16 (i : Int) : Int := if i > 32767 then 32767 else if i < -32768 then -32768 else i

/-- Output one frame (R628). -/
def State.audioFrame (s : State) (frame : Nat) : State :=
  s.free fun v t =>
    let r := audioSum (toSigned 16 frame) (toSigned 16 (bits frame 16 16)) (t.get F.AUD_CFG_VOL0) (t.get F.AUD_CFG_VOL1) (bit v 0)
    let out := sat16 r
    let t1 := t.put F.AUD_LEVEL_PEAK (max (t.get F.AUD_LEVEL_PEAK) out.natAbs)
    let t2 := if out ≠ r then t1.incSat F.AUD_CNT_LIMITED else t1
    { ((t2.put F.AUD_STAT_PLAYING 1).put F.AUD_STAT_UNDERRUN 0) with audio := { t2.audio with started := true, underRun := false, out := out } }

/-- No frame at a sample instant (R629). Before the first frame the output waits. -/
def State.audioUnderrun (s : State) : State :=
  if s.audio.started then
    let s0 := s.put F.AUD_STAT_PLAYING 0
    let s1 := ({ s0 with audio := { s0.audio with out := 0 } } : State).incSat F.AUD_CNT_UNDER
    let s2 := if s1.on F.AUD_STAT_UNDERRUN then s1 else (s1.put F.AUD_STAT_UNDERRUN 1).irq Page.AUD 0
    if s2.audio.underRun then s2 else { (s2.logE Page.AUD 0x0C40 0) with audio := { s2.audio with underRun := true } }
  else s

/-- May the output run (R630, R631)? -/
def State.audioRuns (s : State) : Bool :=
  s.on F.AUD_CTL_EN && !s.on F.AUD_STAT_FAULT && !s.on F.AUD_STAT_HELD && s.boot.appRuns && !s.boot.pfail

/-- The sample instant at tick `at_` (R628, R629). -/
def State.audioSample (s : State) (at_ : Nat) : State :=
  let s1 : State := { s with audio := { s.audio with last := at_ } }
  match s1.ringFor 6 with
  | some r =>
    let g := s1.ring r
    if g.out.length < 4 then s1.audioUnderrun
    else ((s1.setRing r { g with out := g.out.drop 4 }).refreshRing r).audioFrame (ofBytes (g.out.take 4))
  | none => s1.audioUnderrun

/-- The output is silent and waits for its first frame; its sample instants count from now. The faults of the last 60 s stay. -/
def State.audioSilent (s : State) : State :=
  { s.put F.AUD_STAT_PLAYING 0 with audio := { last := s.angle.now, faults := s.audio.faults } }

/-- A write of CTL.EN (R629, R630): a fault that is held ends as EN rises; one that is not ends 1 s after it began. -/
def State.enableAudio (s : State) (en : Bool) : State :=
  if en then
    if s.on F.AUD_CTL_EN then s
    else
      let s1 := s.put F.AUD_CTL_EN 1
      (if s1.on F.AUD_STAT_HELD then (s1.put F.AUD_STAT_HELD 0).put F.AUD_STAT_FAULT 0 else s1).audioSilent
  else (s.put F.AUD_CTL_EN 0).audioSilent

/-- AUDIO_ENABLE (R629). -/
def execAudioEnable (en : Bool) (s : State) : Host.Outcome State Fault Refusal := .next (s.enableAudio en)

/-- An output fault (R630), of cause 1 current or 2 temperature; the third within 60 s is held. -/
def State.audioFault (s : State) (cause : Nat) : State :=
  let faults := s.angle.now :: s.audio.faults.filter fun t => decide (s.angle.now ≤ t + 60000 * tickMs)
  let s0 := s.put F.AUD_STAT_FAULT 1
  let s1 := (({ s0 with audio := { s0.audio with faults := faults } } : State).audioSilent.incSat F.AUD_CNT_FAULTS).when (decide (3 ≤ faults.length))
    (·.put F.AUD_STAT_HELD 1)
  (s1.irq Page.AUD 1).logE Page.AUD 0x0C41 cause

/-- AUDIO_FAULT (R630): the output current is over its limit, or the output stage is. -/
def execAudioFault (current heat : Bool) (s : State) : Host.Outcome State Fault Refusal :=
  .next (if s.audioRuns && (current || heat) then s.audioFault (if current then 1 else 2) else s)

/-- The output turns off without a ramp (R631). -/
def State.audioOff (s : State) : State := { s.put F.AUD_STAT_PLAYING 0 with audio := {} }

end Sys2Proof.Machine
end

