-- ==== Sys2Proof/Machine/Manifest.lean ====
section
/-!
DEFINITION. Machine/Manifest.lean: parts, manifests and the banks of the flash die (chapter 19, sections 1 and 2, and
chapter 4, section 1).
-/

namespace Sys2Proof.Machine

/-- Bytes `i` to `i + n - 1` of a byte string as a little-endian number. -/
def leAt (m : List Byte) (i n : Nat) : Nat := ofBytes ((m.drop i).take n)

/-- A part entry (Table 19-5). -/
structure PartEntry where
  type : Nat
  index : Nat
  flags : Nat
  version : Nat
  size : Nat
  target : Nat
  gen : Nat
  digest : Nat
  steps : List (Nat × Nat)
  reserved : Nat
deriving DecidableEq, Repr

/-- The entry at byte `i` of a manifest. -/
def partAt (m : List Byte) (i : Nat) : PartEntry :=
  { type := leAt m i 1, index := leAt m (i + 1) 1, flags := leAt m (i + 2) 1, version := leAt m (i + 4) 4,
    size := leAt m (i + 8) 4, target := leAt m (i + 12) 4, gen := leAt m (i + 16) 4, digest := leAt m (i + 24) 32,
    steps := (List.range 4).map (fun k => (leAt m (i + 56 + 2 * k) 1, leAt m (i + 57 + 2 * k) 1)),
    reserved := leAt m (i + 3) 1 + leAt m (i + 20) 4 }

def PartEntry.keep (p : PartEntry) : Bool := bit p.flags 0

/-- Number of application entries and of tested-with entries (Table 19-4). -/
def manNapp (m : List Byte) : Nat := leAt m 213 1
def manNtw (m : List Byte) : Nat := leAt m 214 2

/-- TOTAL and SEQ of the application block, LVER of the legal block. -/
def manTotal (m : List Byte) : Nat := leAt m 216 4
def manSeq (m : List Byte) : Nat := leAt m 220 4
def manLver (m : List Byte) : Nat := leAt m 12 4

/-- The parts of a manifest in the order of the manifest index. -/
def manParts (m : List Byte) : List PartEntry :=
  [partAt m 16, partAt m 80] ++ (List.range (manNapp m)).map fun k => partAt m (224 + 64 * k)

/-- First byte of the tested-with set. -/
def manTwAt (m : List Byte) : Nat := 224 + 64 * manNapp m

/-- Largest SIZE of a part type (Table 19-2). -/
def partLimit (t : Nat) : Nat :=
  match t with
  | 1 => 393216
  | 2 => 262144
  | 3 => 157286400
  | 4 => 512
  | 5 => 1048576
  | 6 => 262144
  | 7 => 65536
  | _ => 0

/-- One entry in order (Tables 19-2 and 19-5, R723). -/
def partOk (p : PartEntry) : Bool :=
  decide (1 ≤ p.type ∧ p.type ≤ 7) && decide (1 ≤ p.size ∧ p.size ≤ partLimit p.type) && (p.type != 4 || p.size == 512)
    && (if p.type = 7 then decide (p.index ≤ 57) else p.index == 0) && decide (p.flags < 2) && p.reserved == 0
    && (p.type == 1 || p.steps.all fun e => e == (0, 0))
    && (match p.type with
      | 1 => p.target == 0x10000
      | 3 => p.target == 0x100000
      | _ => p.target % 4096 == 0 && decide (0xBC80000 ≤ p.target ∧ p.target + p.size ≤ 0xC000000))

/-- Do no two of the parts overlap? -/
def partsApart : List PartEntry → Bool
  | [] => true
  | p :: ps => (ps.all fun q => decide (p.target + p.size ≤ q.target ∨ q.target + q.size ≤ p.target)) && partsApart ps

/-- Are the types and indexes of the parts all different? -/
def partsDistinct : List PartEntry → Bool
  | [] => true
  | p :: ps => (ps.all fun q => p.type != q.type || p.index != q.index) && partsDistinct ps

/-- One tested-with entry in order (Table 19-6). -/
def twOk (m : List Byte) (i : Nat) : Bool :=
  leAt m (i + 3) 1 == 0 && (leAt m i 1 == 1 || (leAt m i 1 == 0 && leAt m (i + 4) 4 == 0))

/-- The structure of a manifest (R724, Tables 19-3 to 19-6): RESULT 6 where it fails. -/
def manifestOk (m : List Byte) : Bool :=
  let ps := manParts m
  let count (t : Nat) : Nat := (ps.filter fun p => p.type == t).length
  decide (m.length ≤ 65536) && leAt m 0 4 == 0x4D585653 && leAt m 4 1 == 1 && leAt m 5 1 == 2 && leAt m 6 2 == 0 && leAt m 8 4 == 208
    && leAt m 208 4 == 0x50585653 && leAt m 212 1 == 1 && decide (4 ≤ manNapp m ∧ manNapp m ≤ 62)
    && decide (1 ≤ manNtw m ∧ manNtw m ≤ 512) && manTotal m == m.length && m.length == manTwAt m + 8 * manNtw m + 64
    && (partAt m 16).type == 1 && (partAt m 80).type == 2 && ps.all partOk
    && [1, 2, 3, 4, 5, 6].all (fun t => count t == 1) && partsDistinct ps && partsApart ps
    && (List.range (manNtw m)).all fun k => twOk m (manTwAt m + 8 * k)

/-- The manifest digest (R726). -/
def manDigest (m : List Byte) : Nat := sha256 m

/-- The customer key, 0 when UPD.CUSTKEY is all zero (R730). -/
def State.custKey (s : State) : Nat := s.getWords F.UPD_CUSTKEY.addr 16

/-- The key of the customer's signatures, X then Y (R725, R753). -/
def State.custSigner (s : State) : List Byte := toBytes 64 (if s.custKey = 0 then Config.vendorKey.toNat else s.custKey)

/-- The legal signature over bytes 0 to 143, the customer's over bytes 0 to TOTAL - 65 (R725). -/
def legalSigOk (m : List Byte) : Bool := ecdsaVerify (toBytes 64 Config.vendorKey.toNat) (m.take 144) ((m.drop 144).take 64)

def State.custSigOk (s : State) (m : List Byte) : Bool :=
  ecdsaVerify s.custSigner (m.take (m.length - 64)) (m.drop (m.length - 64))

/-- Stepping of the controller die: letter and digit of SYS.REV (R86). -/
def State.stepping (s : State) : Nat × Nat := (bits (s.word 0x40000004).toNat 8 8, bits (s.word 0x40000004).toNat 0 8)

/-- Does the entry of the legal image list the stepping of SYS.REV (R122)? -/
def State.steppingListed (s : State) (m : List Byte) : Bool := (partAt m 16).steps.contains s.stepping && s.stepping != (0, 0)

/-- Is the stepping, or a part, in the tested-with set (R141)? -/
def State.twStepping (s : State) (m : List Byte) : Bool :=
  (List.range (manNtw m)).any fun k =>
    let i := manTwAt m + 8 * k
    leAt m i 1 == 0 && leAt m (i + 1) 1 == s.stepping.1 && leAt m (i + 2) 1 == s.stepping.2

def twPart (m : List Byte) (p : PartEntry) : Bool :=
  (List.range (manNtw m)).any fun k =>
    let i := manTwAt m + 8 * k
    leAt m i 1 == 1 && leAt m (i + 1) 1 == p.type && leAt m (i + 2) 1 == p.index && leAt m (i + 4) 4 == p.version

/-- Are the stepping and every part in the tested-with set (R732)? -/
def State.testedWith (s : State) (m : List Byte) : Bool := s.twStepping m && (manParts m).all (twPart m)

/-- Is a GEN below the FLOOR of its TYPE (R728)? -/
def State.belowFloor (s : State) (m : List Byte) : Bool :=
  (manParts m).any fun p => decide (p.gen < s.get (F.UPD_FLOOR.i (p.type - 1)))

/-! ### Banks -/

/-- Die offset of a bank (section 1). -/
def bankBase (b : Nat) : Nat := if b = 0 then 0 else 0xC000000

/-- Die offset of the settings of a bank, and of the package store (Table 19-1). -/
def settingsBase (b : Nat) : Nat := if b = 0 then 0x18000000 else 0x19000000
def storeBase : Nat := 0x1A000000

/-- The manifest that a bank holds: TOTAL bytes of its manifest region. -/
def State.bankManifest (s : State) (b : Nat) : List Byte :=
  s.flashBytes (bankBase b) (min 65536 (ofBytes (s.flashBytes (bankBase b + 216) 4)))

/-- The legal block of the manifest in a bank, and the entry of its legal image (Table 19-3). -/
def State.legalBlock (s : State) (b : Nat) : List Byte := s.flashBytes (bankBase b) 208
def State.legalEntry (s : State) (b : Nat) : PartEntry := partAt (s.legalBlock b) 16

/-- The first part of a type in the manifest that a bank holds. -/
def State.bankPart (s : State) (b type : Nat) : Option PartEntry := (manParts (s.bankManifest b)).find? fun p => p.type == type

/-- The bytes of a part in a bank. -/
def State.partBytes (s : State) (b : Nat) (p : PartEntry) : List Byte := s.flashBytes (bankBase b + p.target) p.size

/-- Does a part agree with its digest? -/
def State.partDigestOk (s : State) (b : Nat) (p : PartEntry) : Bool := sha256 (s.partBytes b p) == p.digest

/-- Die offset of the tag of the line at application-area offset `a` (R129). -/
def tagAt (b a : Nat) : Nat := bankBase b + 0x9700000 + a / 4

/-- The tag key of an application image in bank `b` (R128). -/
def PartEntry.key (p : PartEntry) (b : Nat) : List Byte := tagKey b p.digest p.gen

/-- Sixteen bytes of a line, the last line of an image padded with zero bytes (R735). -/
def padLine (l : List Byte) : List Byte := (l ++ List.replicate 16 0).take 16

/-- Does the line at offset `a` of an image of `size` bytes in bank `b` agree with its tag under `k` (R129)? -/
def State.lineTagOk (s : State) (b : Nat) (k : List Byte) (size a : Nat) : Bool :=
  let n := min 16 (size - a)
  ofBytes (s.flashBytes (tagAt b a) 4) == lineTag k a (padLine (s.flashBytes (bankBase b + 0x100000 + a) n))

/-- Does every tag of the application image agree? -/
def State.partTagsOk (s : State) (b : Nat) (p : PartEntry) : Bool :=
  (List.range ((p.size + 15) / 16)).all fun i => s.lineTagOk b (p.key b) p.size (16 * i)

/-- Program the tags of the lines that `l` fills from offset `ofs`. -/
def State.writeTags (s : State) (b : Nat) (p : PartEntry) (ofs : Nat) (l : List Byte) : State :=
  (List.range ((l.length + 15) / 16)).foldl (fun (t : State) k =>
    t.setFlashBytes (tagAt b (ofs + 16 * k)) (toBytes 4 (lineTag (p.key b) (ofs + 16 * k) (padLine (l.drop (16 * k)))))) s

/-- Store bytes of a part, with the tags of an application image (R735). -/
def State.writePart (s : State) (b : Nat) (p : PartEntry) (ofs : Nat) (l : List Byte) : State :=
  let s1 := s.setFlashBytes (bankBase b + p.target + ofs) l
  if p.type = 3 then s1.writeTags b p ofs l else s1

/-- The `n` bytes from `a` whose programming or erasure failed hold free values: the spec gives no content for them. -/
def State.spoilFlash (s : State) (a n : Nat) : State := s.free fun q t => t.setFlashBytes a (toBytes n q)

/-- The 4 KiB sector of the flash error at `o`, where it lies in the `n` bytes from `lo` that the failed operation changes. -/
def State.spoilSector (s : State) (o lo n : Nat) : State :=
  s.when (decide (lo ≤ o ∧ o < lo + n)) (·.spoilFlash (o / 4096 * 4096) 4096)

/-- Copy `n` bytes of the flash die over an erased region. -/
def State.copyFlash (s : State) (src dst n : Nat) : State :=
  let from_ := s.flash.filter fun e => decide (src ≤ e.1 ∧ e.1 < src + n)
  from_.foldl (fun (t : State) e => t.setFlash (e.1 - src + dst) e.2) (s.eraseFlash dst (dst + n))

end Sys2Proof.Machine
end

