-- ==== Sys2Proof/Machine/Timers.lean ====
section
/-!
DEFINITION. Machine/Timers.lean: the passing of time and the general timers (chapter 2, sections 1 and 5).
-/

namespace Sys2Proof.Machine

/-! ### General timers (R68) -/

/-- The tick in force: how many ticks of it lie in `n` reference ticks, and the part left over (in parts of the tick:
2048 for 1 µs at 125 a reference tick, 16 384 for 1 ms). -/
def timerTicks (tick frac n : Nat) : Nat × Nat :=
  match tick with
  | 1 => ((frac + 125 * n) / 2048, (frac + 125 * n) % 2048)
  | 2 => ((frac + n) / 16384, (frac + n) % 16384)
  | _ => (n, 0)

/-- How many reference ticks pass until the tick in force has ticked `m` times more. -/
def ticksFor (tick frac m : Nat) : Nat :=
  match tick with
  | 1 => (2048 * m - frac + 124) / 125
  | 2 => 16384 * m - frac
  | _ => m

/-- Start timer `n`: the count takes LOAD, the tick in force is TICK (R68). The fractional divider of the tick starts with the
timer, so that the first tick comes a whole tick after the start: the spec leaves its phase open (DESIGN CHOICE, log entry 23). -/
def State.startTimer (s : State) (n : Fin 8) : State :=
  let s1 := (s.put (F.TMR_T_CTL_EN.i n) 1).put (F.TMR_T_COUNT.i n) (s.get (F.TMR_T_LOAD.i n))
  { s1 with timers := s1.timers.set n ⟨s.get (F.TMR_T_CTL_TICK.i n), 0⟩ }

/-- Timer `n` stops with its count at 0. -/
def State.stopTimer (s : State) (n : Fin 8) : State := (s.put (F.TMR_T_COUNT.i n) 0).put (F.TMR_T_CTL_EN.i n) 0

/-- The tick at which timer `n` reaches zero: the interrupt bit, and a reload, with TICK as it now stands, or the stop. A count of 0
before the tick is that of a start or reload from a LOAD of 0, which stops whatever PER holds. A reload in another unit starts its
divider anew. -/
def State.timerAtZero (s : State) (n : Fin 8) : State :=
  let s1 := s.irq Page.TMR n
  if s.get (F.TMR_T_COUNT.i n) = 0 ∨ !s.on (F.TMR_T_CTL_PER.i n) then s1.stopTimer n
  else
    let tick := s.get (F.TMR_T_CTL_TICK.i n)
    let tm := s.timers.get n
    let s2 := s1.put (F.TMR_T_COUNT.i n) (s.get (F.TMR_T_LOAD.i n))
    { s2 with timers := s2.timers.set n ⟨tick, if tick = tm.tick then tm.frac else 0⟩ }

/-- The divider of timer `n` stands at `frac`. -/
def State.setFrac (s : State) (n : Fin 8) (frac : Nat) : State :=
  { s with timers := s.timers.set n { s.timers.get n with frac := frac } }

/-- Timer `n`, just reloaded, over `t` more reference ticks: TICK, LOAD and PER stand, so that further reloads are alike. -/
def State.recountTimer (s : State) (n : Fin 8) (t : Nat) : State :=
  let load := s.get (F.TMR_T_COUNT.i n)
  let r := timerTicks (s.timers.get n).tick (s.timers.get n).frac t
  let s1 := s.setFrac n r.2
  if r.1 = 0 then s1
  else if load = 0 then (s1.irq Page.TMR n).stopTimer n
  else if r.1 < load then s1.put (F.TMR_T_COUNT.i n) (load - r.1)
  else (s1.irq Page.TMR n).put (F.TMR_T_COUNT.i n) (load - r.1 % load)

/-- Timer `n` over `t` reference ticks: it counts in the tick in force until its count reaches zero (R68). -/
def State.advanceTimer (s : State) (n : Fin 8) (t : Nat) : State :=
  if s.on (F.TMR_T_CTL_EN.i n) then
    let c := s.get (F.TMR_T_COUNT.i n)
    let tm := s.timers.get n
    let need := ticksFor tm.tick tm.frac (max c 1)
    if t < need then
      let r := timerTicks tm.tick tm.frac t
      (s.put (F.TMR_T_COUNT.i n) (c - r.1)).setFrac n r.2
    else
      let s1 := (s.setFrac n (timerTicks tm.tick tm.frac need).2).timerAtZero n
      if s1.on (F.TMR_T_CTL_EN.i n) then s1.recountTimer n (t - need) else s1
  else s

/-- TIMER_START (R68). -/
def execTimerStart (n : Fin 8) (s : State) : Host.Outcome State Fault Refusal := .next (s.startTimer n)

/-- TIMER_ZERO (R68): the running timer's count reaches zero. -/
def execTimerZero (n : Fin 8) (s : State) : Host.Outcome State Fault Refusal :=
  .next (if s.on (F.TMR_T_CTL_EN.i n) then s.timerAtZero n else s)

/-! ### Application watchdog (R70) -/

/-- Write TMR.WDG_CTL. While EN is 0, WIN and TIMEOUT take their new values (a TIMEOUT of 0 is reserved), and a write that
sets EN takes them as they then stand, or leaves the register unchanged when TIMEOUT is then 0. While EN is 1 nothing
changes. -/
def State.writeWdgCtl (s : State) (v : Nat) : State :=
  if s.on F.TMR_WDG_CTL_EN then s
  else
    let t := if bits v 16 16 = 0 then s.get F.TMR_WDG_CTL_TIMEOUT else bits v 16 16
    if bit v 0 then
      if t = 0 then s
      else (((s.put F.TMR_WDG_CTL_WIN (bits v 1 1)).put F.TMR_WDG_CTL_TIMEOUT t).put F.TMR_WDG_CTL_EN 1).put F.TMR_WDG_LEFT_MS t
    else (s.put F.TMR_WDG_CTL_WIN (bits v 1 1)).put F.TMR_WDG_CTL_TIMEOUT t

/-- WATCHDOG_ENABLE (R70). -/
def execWatchdogEnable (v : Word) (s : State) : Host.Outcome State Fault Refusal := .next (s.writeWdgCtl v.toNat)

/-- WATCHDOG_WARNING (R70). -/
def execWatchdogWarning (s : State) : Host.Outcome State Fault Refusal :=
  .next (if s.on F.TMR_WDG_CTL_EN then s.irq Page.TMR 9 else s)

/-! ### The passing of time -/

/-- Subtract from a count, down to 0. -/
def State.subTo0 (s : State) (f : Field) (k : Nat) : State := s.put f (s.get f - k)

/-- The reference ticks until the slew in progress has used up its Δ: 100 ms of time for each millisecond (R73). -/
def State.slewTicks (s : State) : Nat := (toSigned 32 (s.get F.RTC_SLEWLEFT)).natAbs * 1638400 - s.angle.slewFrac

/-- The real-time clock over `t` reference ticks: it counts milliseconds, 1 % fast or slow until a slew has used up its Δ, at which
SLEWING and SLEWLEFT return to 0 (R73). -/
def State.advanceUtc (s : State) (t : Nat) : State :=
  let left := toSigned 32 (s.get F.RTC_SLEWLEFT)
  let slewing := s.on F.RTC_STAT_SLEWING
  let k := if slewing then min t s.slewTicks else 0
  let f := s.angle.utcFrac + 100 * t + (if left < 0 then 0 else k) - (if left < 0 then k else 0)
  let g := s.angle.slewFrac + k
  let left' : Int := if left < 0 then min 0 (left + (g / 1638400 : Nat)) else max 0 (left - (g / 1638400 : Nat))
  let s1 := s.putW F.RTC_UTC (s.utc + f / 1638400)
  let s2 := s1.when slewing fun u => (u.put F.RTC_SLEWLEFT (ofSigned 32 left')).put F.RTC_STAT_SLEWING (b2n (left' != 0))
  { s2 with angle := { s2.angle with utcFrac := f % 1638400, slewFrac := if slewing ∧ left' ≠ 0 then g % 1638400 else 0 } }

/-- `ms` milliseconds of switch channel `n`: PAUSELEFT of a pause, and CLEAN while it conducts (R456, R459). -/
def State.advanceSwitch (s : State) (ms : Nat) (n : Fin 24) : State :=
  let s1 := s.when (s.sw n).pausing (·.subTo0 (F.SW_CH_ST_PAUSELEFT.ij (swX n) (swI n)) ms)
  s1.when (s.conducts n) (fun t => t.put (F.SW_CH_CLEAN_MS.ij (swX n) (swI n)) (min 10000 (t.get (F.SW_CH_CLEAN_MS.ij (swX n) (swI n)) + ms)))

/-- `t` reference ticks pass: every counter of time moves on, and channels that a reference deviation made invalid may settle once
REFOK has been 1 for 1 s (R76); what else falls due is left to the command of its own row. -/
def State.advanceTime (s : State) (t : Nat) : State :=
  let now := s.angle.now + t
  let ms := now / 16384 - s.angle.now / 16384
  let sec := now / 16384000 - s.angle.now / 16384000
  let sound := s.on F.ANG_STAT_REFOK && decide (s.angle.refSince + 16384000 ≤ now)
  let s1 := ({ s with angle := { s.angle with now := now, refBad := s.angle.refBad && !sound } } : State).advanceUtc t
  let s2 := s1.when s.boot.legalRuns (·.putW F.TMR_US ((now - s.angle.usOrigin) * 125 / 2048))
  let s3 := (List.finRange 8).foldl (fun u n => u.advanceTimer n t) s2
  let s4 := s3.when (s.on F.TMR_WDG_CTL_EN && decide (ms > 0)) (·.subTo0 F.TMR_WDG_LEFT_MS ms)
  let s5 := (s4.when (decide (ms > 0)) (·.subTo0 F.BOOT_DEADLINE_MS ms)).when (decide (ms > 0))
    fun u => (List.finRange 24).foldl (fun (w : State) (n : Fin 24) => w.advanceSwitch ms n) u
  s5.when (decide (sec > 0)) (·.subTo0 F.BOOT_GOODLEFT_S sec)

/-- The phase accumulator moves on by the increments of the last `t` ticks (R47): each carry out of bit 47 is the end of a cycle and increments
ANG.CYCLES (R48). While ANG.CTL.EN is 0 it is held. -/
def State.advancePhase (s : State) (t : Nat) : State :=
  if s.on F.ANG_CTL_EN then
    let inc := s.get F.ANG_INC
    let p := s.angle.phase + inc * t
    let carries := p / 2 ^ 48
    let s1 : State := { s with angle := { s.angle with phase := p % 2 ^ 48 } }
    if carries = 0 then s1
    else
      let s2 := s1.putW F.ANG_CYCLES (s.cycles + carries)
      -- the tick of carry k, counted from the tick before the `t` that pass
      let tickOf (k : Nat) : Nat := s.angle.now - t + (k * 2 ^ 48 - s.angle.phase + inc - 1) / inc
      let before := if carries = 1 then s.angle.carry else some (tickOf (carries - 1))
      { s2 with angle := { s2.angle with
        lastIncs := (List.replicate (min carries 10) inc ++ s2.angle.lastIncs).take 10
        carry := some (tickOf carries), cycleLen := before.map fun b => tickOf carries - b } }
  else s

/-- `t` reference ticks pass. -/
def State.advance (s : State) (t : Nat) : State := (s.advanceTime t).advancePhase t

/-- The reference ticks until the phase accumulator has moved on by `d`. -/
def State.ticksTo (s : State) (d : Nat) : Nat := (d + s.get F.ANG_INC - 1) / max (s.get F.ANG_INC) 1

/-- Does the angle clock run? -/
def State.angleRuns (s : State) : Bool := s.on F.ANG_CTL_EN && s.get F.ANG_INC != 0

end Sys2Proof.Machine
end

