-- ==== Sys2Proof/Machine/Angle.lean ====
section
/-!
DEFINITION. Machine/Angle.lean: source, lock and holdover of the angle clock (chapter 2, sections 1 to 3).
-/

namespace Sys2Proof.Machine

/-- The increment in use that ANG.CTL.NOM selects (R47). -/
def State.nominalInc (s : State) : Nat := if s.on F.ANG_CTL_NOM then 0x3D70A3D7 else 0x33333333

/-- The increment of a source frequency in µHz (R47). -/
def sourceInc (freq : Nat) : Rat := mkRat (freq * 2 ^ 32 : Nat) 250000000

/-- Put the increment in use. An increment that is no whole number of units of 2⁻⁴⁸ cycle is the next lower or the next higher
one: its rounding is open (a free value decides). -/
def State.putInc (s : State) (inc : Rat) : State :=
  if inc.den = 1 then s.put F.ANG_INC inc.num.toNat
  else s.free fun v t => t.put F.ANG_INC (inc.floor.toNat + v % 2)

/-- CLU.STAT.TXOK (R488): EN is 1, the clock is LOCKED and the mode is Run, custodial or vehicle role (Table 4-4); a fall
while EN is 1 logs event 0x090D. -/
def State.noteTxok (s : State) : State :=
  let ok := s.on F.CLU_CTL_EN && s.locked && [0, 3, 4].contains (s.get F.SYS_MODE_MODE)
  let s1 := s.put F.CLU_STAT_TXOK (b2n ok)
  if s.on F.CLU_STAT_TXOK && !ok && s.on F.CLU_CTL_EN then
    s1.logE Page.CLU 0x090D (args [s.get F.ANG_STAT_STATE, s.get F.SYS_MODE_MODE])
  else s1

/-- Enter a lock state (R53, Table 2-2): interrupts, events, ANG.LOSS, and the increment of Table 2-1 for FREERUN and
HOLDOVER. The accumulator goes on. -/
def State.enterLock (s : State) (st : Nat) : State :=
  let old := s.get F.ANG_STAT_STATE
  if old = st then s
  else
    let s1 := s.put F.ANG_STAT_STATE st
    let s2 : State := ({ s1 with angle := { s1.angle with inLock := 0, offLock := 0 } } : State).noteTxok
    match st with
    | 0 =>
      let s3 := (s2.put F.ANG_INC s.nominalInc).irq Page.ANG 2
      if old = 3 then s3.logE Page.ANG (s.angCode 0x82) 0 else s3
    | 2 => (s2.irq Page.ANG 0).logE Page.ANG (s.angCode 0x80) 0
    | 3 =>
      let l := s.angle.lastIncs
      let s3 := if l = [] then s2 else s2.putInc (mkRat (l.foldl (· + ·) 0 : Nat) l.length)
      ((s3.incSat F.ANG_LOSS_N).irq Page.ANG 1).logE Page.ANG (s.angCode 0x81) 0
    | _ => s2

/-- Clamp a signed number to ±m. -/
def clampTo (m : Nat) (i : Int) : Int := max (-(m : Int)) (min (m : Int) i)

/-- The increment that removes `c` eighths of an angle step over one cycle at increment `base`. -/
def phaseTerm (base : Rat) (c : Int) : Rat := max 0 (base * mkRat (524288 - c) 524288)

/-- The change of the increment that 1 Hz/s allows over one cycle of a source of `freq` µHz (R816). -/
def freqStep (freq : Nat) : Rat := mkRat (2 ^ 32 * 1000000) (250 * freq)

/-- The loop increment moves towards the source increment, by at most `d` (R816). -/
def trackInc (loop src d : Rat) : Rat := loop + max (-d) (min d (src - loop))

/-- The phase error now (R54): the angle as a signed 16-bit value. -/
def State.phaseError (s : State) : Int := toSigned 16 (s.angle.phase / 2 ^ 32)

/-- In range (R51): 45 to 65 Hz, in µHz. -/
def inRange (freq : Nat) : Bool := decide (45000000 ≤ freq ∧ freq ≤ 65000000)

/-- The source is out of range: INRANGE is 0, and event 0x83 and RANGE arise once (R51). -/
def State.rangeEvent (s : State) : State := ((s.put F.ANG_STAT_INRANGE 0).irq Page.ANG 3).logE Page.ANG (s.angCode 0x83) (s.get F.ANG_FREQ)

/-- From ACQUIRE or LOCKED to HOLDOVER (R53). -/
def State.toHoldover (s : State) : State :=
  if s.get F.ANG_STAT_STATE = 1 ∨ s.get F.ANG_STAT_STATE = 2 then s.enterLock 3 else s

/-- One cycle of a present source in which `freq` is measured (R51): INRANGE follows it; a cycle out of range makes INRANGE fall
once, and the second in succession leads to HOLDOVER (Table 2-2). -/
def State.noteRange (s : State) (freq : Nat) : State :=
  let s1 := s.put F.ANG_FREQ freq
  if inRange freq then
    let s2 := s1.put F.ANG_STAT_INRANGE 1
    { s2 with angle := { s2.angle with offRange := 0 } }
  else
    let s2 := if s.on F.ANG_STAT_INRANGE then s1.rangeEvent else s1
    let n := s.angle.offRange + 1
    let s3 : State := { s2 with angle := { s2.angle with offRange := n } }
    if n ≥ 2 then s3.toHoldover else s3

/-- The comparison corrects the increment and moves the counts of Table 2-2 (R54, R816). The 8 comparisons of ACQUIRE end 8
consecutive cycles. From LOCKED the clock goes to ACQUIRE when the error lies beyond 512 steps at both ends of 3 consecutive
cycles, that is at 4 comparisons in succession: a jump of 704 steps is then removed in LOCKED, as R816 says (log entry 20). -/
def State.correctInc (s : State) (freq : Nat) : State :=
  let e := s.phaseError
  let src := sourceInc freq
  match s.get F.ANG_STAT_STATE with
  | 1 =>
    let n := if e.natAbs ≤ 64 then s.angle.inLock + 1 else 0
    let s2 : State := { s with angle := { s.angle with inLock := n, loopInc := src } }
    let s3 := s2.putInc (phaseTerm src (8 * clampTo 1024 e))
    if n ≥ 8 then s3.enterLock 2 else s3
  | 2 =>
    let base := trackInc s.angle.loopInc src (freqStep freq)
    let n := if e.natAbs > 512 ∧ inRange freq then s.angle.offLock + 1 else 0
    let s2 : State := { s with angle := { s.angle with offLock := n, loopInc := base } }
    let s3 := s2.putInc (phaseTerm base (clampTo 512 e))
    if n ≥ 4 then s3.enterLock 1 else s3
  | _ => s

/-- ZERO_CROSSING_COMPARISON (R54, R816) with the measured source frequency in µHz: the phase error is taken, in ACQUIRE and LOCKED
the increment is corrected, and the cycle counts for R51. -/
def State.compareZero (s : State) (freq : Nat) : State :=
  if s.on F.ANG_CTL_SRC ∨ !s.on F.ANG_STAT_PRESENT ∨ freq = 0 then s
  else ((s.put F.ANG_PHERR_ERR (ofSigned 16 s.phaseError)).correctInc freq).noteRange freq

def execZeroCrossingComparison (freq : Word) (s : State) : Host.Outcome State Fault Refusal := .next (s.compareZero freq.toNat)

/-- SOURCE_PRESENT (R51, R53): present; in range, FREERUN and HOLDOVER lead to ACQUIRE when the source is X2; out of range,
the event of R51 arises when the source becomes present. -/
def State.sourcePresent (s : State) (freq : Nat) : State :=
  let was := s.on F.ANG_STAT_PRESENT
  let s1 := (s.put F.ANG_STAT_PRESENT 1).put F.ANG_FREQ freq
  if inRange freq then
    let s2 := s1.put F.ANG_STAT_INRANGE 1
    let s3 : State := { s2 with angle := { s2.angle with offRange := 0 } }
    if !s.on F.ANG_CTL_SRC ∧ s.on F.ANG_CTL_EN ∧ (s.get F.ANG_STAT_STATE = 0 ∨ s.get F.ANG_STAT_STATE = 3) then
      (s3.putInc (sourceInc freq)).enterLock 1
    else s3
  else if !was ∨ s.on F.ANG_STAT_INRANGE then s1.rangeEvent else s1

def execSourcePresent (freq : Word) (s : State) : Host.Outcome State Fault Refusal := .next (s.sourcePresent freq.toNat)

/-- SOURCE_ABSENT (R51, R53): INRANGE and FREQ read 0; no range event. -/
def execSourceAbsent (s : State) : Host.Outcome State Fault Refusal :=
  let s1 := ((s.put F.ANG_STAT_PRESENT 0).put F.ANG_STAT_INRANGE 0).put F.ANG_FREQ 0
  .next ({ s1 with angle := { s1.angle with offRange := 0 } } : State).toHoldover

/-- SOURCE_OUT_OF_RANGE (R51, R53): one cycle of a present source with a frequency outside the range. -/
def State.sourceOutOfRange (s : State) (freq : Nat) : State :=
  if s.on F.ANG_STAT_PRESENT ∧ !inRange freq then s.noteRange freq else s

def execSourceOutOfRange (freq : Word) (s : State) : Host.Outcome State Fault Refusal := .next (s.sourceOutOfRange freq.toNat)

/-- HOLDOVER_TIMEOUT (R53): 10 s in HOLDOVER. -/
def execHoldoverTimeout (s : State) : Host.Outcome State Fault Refusal :=
  .next (if s.get F.ANG_STAT_STATE = 3 then s.enterLock 0 else s)

/-- ANG_ENABLE (R53, R78): EN from 0 to 1 enters FREERUN and raises REFOK. -/
def State.enableAngle (s : State) : State :=
  if s.on F.ANG_CTL_EN then s
  else
    let s1 := (((s.put F.ANG_CTL_EN 1).enterLock 0).put F.ANG_INC s.nominalInc).put F.ANG_STAT_REFOK 1
    { s1 with angle := { s1.angle with refSince := s1.angle.now } }

def execAngEnable (s : State) : Host.Outcome State Fault Refusal := .next s.enableAngle

/-- A reference deviation (R76): REFOK falls, event 0x85, every channel is invalid until REFOK has been 1 for 1 s. -/
def State.refFall (s : State) : State :=
  let s1 := if s.on F.ANG_STAT_REFOK then (s.put F.ANG_STAT_REFOK 0).irq Page.ANG 4 else s
  ({ s1 with angle := { s1.angle with refBad := true } } : State).logE Page.ANG (s.angCode 0x85) 0

/-- ANG_DISABLE (R78): the accumulator is held, and a reference deviation begins at once. -/
def State.disableAngle (s : State) : State :=
  if s.on F.ANG_CTL_EN then (s.put F.ANG_CTL_EN 0).refFall else s

def execAngDisable (s : State) : Host.Outcome State Fault Refusal := .next s.disableAngle

/-- ANG_SOURCE_SELECT (R49, R53): free run enters FREERUN on the nominal increment. -/
def State.selectSource (s : State) (freeRun : Bool) : State :=
  let s1 := s.put F.ANG_CTL_SRC (b2n freeRun)
  if freeRun then (s1.enterLock 0).put F.ANG_INC s.nominalInc else s1

def execAngSourceSelect (freeRun : Bool) (s : State) : Host.Outcome State Fault Refusal := .next (s.selectSource freeRun)

/-- ANG_CYCLES_COMMIT (R56): only while EN is 0, and never downwards. -/
def State.commitCycles (s : State) (v : Nat) : State :=
  let a := F.ANG_CYCLES.addr
  let w := s.commitValue .legal a 2 v
  let s1 := s.unstage .legal a 1
  if s.on F.ANG_CTL_EN ∨ w < s.cycles then s1 else s1.putW F.ANG_CYCLES w

def execAngCyclesCommit (v : Word) (s : State) : Host.Outcome State Fault Refusal := .next (s.commitCycles v.toNat)

/-- REFERENCE_DEVIATION (R76). -/
def execReferenceDeviation (s : State) : Host.Outcome State Fault Refusal := .next s.refFall

end Sys2Proof.Machine
end

