-- ==== Sys2Proof/Machine/Mode.lean ====
section
/-!
DEFINITION. Machine/Mode.lean: the mode register and the conditions of the modes (chapter 4, section 9).
-/

namespace Sys2Proof.Machine

/-- Winter mode holds while BOOT.WINTER holds a reason (Table 4-5). -/
def State.inWinter (s : State) : Bool := s.get F.BOOT_WINTER_REASON != 0

/-- The mode of SYS.MODE.MODE: the first of R152's order whose condition holds. -/
def State.modeNow (s : State) : Nat :=
  if s.boot.productionTest then 5
  else if s.inWinter then 2
  else if s.get F.BOOT_STAT_STAGE < 4 ∧ !s.boot.standby then 6
  else if s.on F.BOOT_CUST_ACTIVE then 3
  else if s.boot.standby then 1
  else if s.on F.VEH_STAT_VROLE then 4
  else 0

/-- SYS.MODE follows the conditions of R152; VERIF is 1 while the seal state is UNSEALED. CLU.STAT.TXOK follows the mode
(R488), and a session during VERIF carries it (R316). -/
def State.noteMode (s : State) : State :=
  let s1 := ((s.put F.SYS_MODE_MODE s.modeNow).put F.SYS_MODE_VERIF (b2n s.unsealed)).noteTxok
  if s1.unsealed ∧ s1.get F.SIG_STAT_SESS ≠ 0 then { s1 with session := { s1.session with verifSeen := true } } else s1

/-- BOOT.STAT.STAGE takes a value (Table 4-2). -/
def State.toStage (s : State) (st : Nat) : State :=
  if s.get F.BOOT_STAT_STAGE = st then s.noteMode else ((s.put F.BOOT_STAT_STAGE st).irq Page.BOOT 0).noteMode

/-- Standby is left for a wake source of kind `kind`, number `num` (R151): event 0x010F, and an application start is to follow. -/
def State.leaveStandby (s : State) (kind num : Nat) : State :=
  let s1 : State := { s with boot := { s.boot with standby := false, ready := false } }
  (s1.logE Page.BOOT 0x010F (args [kind, num])).toStage 3

end Sys2Proof.Machine
end

