-- ==== Sys2Proof/Machine/Session.lean ====
section
/-!
DEFINITION. Machine/Session.lean: sessions, signed readings and the signing engine (chapter 8, section 8).
-/

namespace Sys2Proof.Machine

/-- Fields at byte offsets as one little-endian number: (offset, bytes, value). -/
def packFields (l : List (Nat × Nat × Nat)) : Nat :=
  l.foldl (fun acc f => acc + f.2.2 % 2 ^ (8 * f.2.1) * 2 ^ (8 * f.1)) 0

/-! ### The tariff period in force (R571, R572) -/

/-- Word `w` of the block of slot `t`. -/
def State.slotWord (s : State) (t w : Nat) : Nat := (storeRead (fun _ => (0 : Word)) s.tenants.words (64 * t + w)).toNat

/-- Local minute of the day (R572). -/
def State.localMinute (s : State) : Nat := (((s.utc : Int) / 60000 + toSigned 12 (s.get F.TEN_LOCALOFS_MIN)) % 1440).toNat

/-- The period of slot `t` in force at local minute `m` (R571). -/
def State.periodAt (s : State) (t m : Nat) : Nat :=
  (List.range (s.slotWord t 3)).foldl (fun j k => if s.slotWord t (0x28 + 2 * k) ≤ m then k else j) 0

def State.periodNow (s : State) (t : Nat) : Nat := s.periodAt t s.localMinute

/-- The period in force of the open session's slot is that from which the next tariff boundary is seen (R574). -/
def State.notePeriod (s : State) : State :=
  { s with tenants := { s.tenants with period := some (s.get F.SIG_SESSST_SLOT, s.periodNow (s.get F.SIG_SESSST_TENANT)) } }

/-! ### Slots of the session ring -/

/-- Session ring: first line of slot `k` (R320). -/
def sessionLineOf (k : Nat) : Nat := 0x1B400 + 40 * k

/-- Does a signed record exist at line `l`: its 20 lines verify and it begins with the magic (R320)? -/
def State.recordExists (s : State) (l : Nat) : Bool :=
  s.linesVerify l 20 && s.lineNat l % 2 ^ 32 == 0x52585653

/-- The UTC of the record at line `l` (bytes 32 to 39). -/
def State.recordUtc (s : State) (l : Nat) : Nat := s.lineNat (l + 2) % 2 ^ 64

/-- The reads of a session slot at an open request (R284, R327). -/
def State.touchSlot (s : State) (k : Nat) : State := s.touch (sessionLineOf k) 40

/-- Has the slot at line `l` been made ready for a new session, or never been used (R320, R330): line 20 reads zero? -/
def State.slotBlank (s : State) (l : Nat) : Bool := s.linesVerify (l + 20) 1 && s.lineNat (l + 20) == 0

/-- May slot `k` be taken (R321, R330)? -/
def State.slotFree (s : State) (k : Nat) : Bool :=
  let l := sessionLineOf k
  if s.recordExists (l + 20) then decide (s.utc > s.recordUtc (l + 20) + s.get F.LDG_SESSKEEP_DAYS * 86400000)
  else s.slotBlank l || !s.recordExists l

/-- BRDESC and BRVAL of a record (Table 8-11), of the billing registers in force (R245). -/
def State.brFields (s : State) : List (Nat × Nat × Nat) :=
  (List.range 8).flatMap fun n =>
    let b := s.energy.br.getD n 0
    if bit b 6 then
      let a := b % 64
      [(96 + n, 1, bits (s.energy.accCfg.getD a 0) 8 4 + 16 * bits b 8 3 + 128), (104 + 16 * n, 16, s.getW (F.MET_ACC.i a))]
    else []

/-- The kinds of signed reading (R322). -/
inductive ReadingKind where
  | start | finish | interim | onDemand
deriving DecidableEq, Repr

/-- The record body, bytes 0 to 255, as the spec's Table 8-11 lays it out, for a reading at cycle `cycle` and UTC `utc`. -/
def State.recordBody (s : State) (kind : ReadingKind) (cycle utc : Nat) (pfail deferred : Bool) : Nat :=
  let od := kind == .onDemand
  let ses := s.session
  let k := match kind with
    | .start => 1
    | .finish => 2
    | .interim => 3
    | .onDemand => 4
  let noStart := kind == .start || od
  let flags := b2n (ses.heldUwh != 0 || ses.heldMs != 0) + 2 * b2n ses.holdExp + 4 * b2n pfail + 8 * b2n deferred
    + 16 * b2n ses.torn + 32 * b2n (ses.verifSeen || s.on F.SYS_MODE_VERIF) + 64 * b2n ses.utcStepped
  packFields ([(0, 4, 0x52585653), (4, 1, 1), (5, 1, k), (6, 1, if kind = .finish then ses.reason else 0),
    (7, 1, if od then 0xFF else ses.tenant), (8, 16, Config.uid.toNat), (24, 8, cycle), (32, 8, utc),
    (40, 1, s.get F.RTC_STAT_VALID + 2 * s.get F.RTC_STAT_SLEWING + 4 * s.get F.ANG_STAT_STATE),
    (41, 1, s.get F.SEAL_STAT_STATE), (42, 1, s.get F.SYS_MODE_MODE + 8 * s.get F.SYS_MODE_VERIF),
    (43, 1, if kind = .finish then ses.appReason else 0), (44, 4, s.get F.SEAL_LEC), (48, 4, s.get F.SIG_SEQ + 1),
    (52, 4, if od then 0 else ses.counter), (56, 4, if od then 0xFFFF else ses.slot),
    (60, 4, if od then 16 * b2n ses.torn else flags), (64, 32, if od then 0 else ses.auth),
    (232, 8, if od then 0 else ses.heldUwh), (240, 4, if od then 0 else ses.heldMs),
    (244, 4, if noStart then 0 else ses.startRseq), (248, 8, if noStart then 0 else ses.startCycle)] ++ s.brFields)

/-- SIG.IN as one number. -/
def State.sigIn (s : State) : Nat := s.getWords F.SIG_IN.addr 64

/-- The signed record of a body: the body and its signature (R323), or zeros when the self-test has failed (R328). -/
def State.signBody (s : State) (body : Nat) : Nat :=
  body + 2 ^ 2048 * (if s.on F.SIG_STAT_KEYOK then ofBytes (ecdsaSign signingKey (toBytes 256 body)) else 0)

/-- Put a signed record into SIG.OUT; it takes its record sequence (R322). -/
def State.emitRecord (s : State) (rec : Nat) : State :=
  ((s.putWords F.SIG_OUT.addr 80 rec).put F.SIG_SEQ (rec / 2 ^ 384 % 2 ^ 32)).irq Page.SIG 0

/-- Write a record of 20 lines at line `l`, its first line last (R320). -/
def State.storeRecord (s : State) (l rec : Nat) : State :=
  (s.setLines (l + 1) 19 (rec / 2 ^ 128)).setLine l (rec % 2 ^ 128)

/-- A request is taken: OP reads 0, the other fields stand as written; SIG.SESSST reports the outcome (R315). -/
def State.answerRequest (s : State) (result seq : Nat) : State :=
  let s1 := (((s.put F.SYS_SESS_REQ_OP 0).put F.SYS_SESS_REQ_SEQ seq).put F.SIG_SESSST_RESULT result).put F.SIG_SESSST_SEQ seq
  if result = 1 then s1 else (s1.irq Page.SIG 2).logE Page.SIG 0x0411 result

/-- Is a billing register in force (R245)? -/
def State.billing (s : State) : Bool := s.energy.br.any fun b => bit b 6

/-- The legal value of billing register `n` as the legal layer shows it (R244): DEC decimals, truncated, in 10^-DEC kWh, kvarh or
kVAh. -/
def State.legalValue (s : State) (n : Nat) : Nat :=
  let b := s.energy.br.getD n 0
  s.getW (F.MET_ACC.i (b % 64)) * 10 ^ bits b 8 3 / (2 ^ 64 * 10 ^ 9)

/-- The outcome of an open request: the first row of Table 8-9 that applies. -/
def State.openResult (s : State) : Nat :=
  if s.get F.SYS_MODE_MODE ≠ 0 then 2
  else if s.get F.SIG_STAT_SESS ≠ 0 then 3
  else if !s.slotFree (s.get F.LDG_SESSRING_NEXT) then 4
  else if s.on F.LDG_STAT_CLOGFULL || s.on F.LDG_STAT_CFGLOST then 5
  else if !s.on F.SIG_STAT_KEYOK then 6
  else if !s.billing then 7
  else if !s.on F.MET_STAT_RUN || s.on F.MET_STAT_FROZEN then 8
  else 1

/-- SESSION_OPEN_REQUEST (R315): steps 1 and 2. -/
def State.openSession (s : State) (tenant seq : Nat) : State :=
  let r := s.openResult
  let s0 := s.touchSlot (s.get F.LDG_SESSRING_NEXT)
  let s1 := (s0.put F.SYS_SESS_REQ_TENANT tenant).answerRequest r seq
  if r = 1 then
    let n := (s1.get (F.SIG_TCNT.i tenant) + 1) % 2 ^ 32
    let slot := s1.get F.LDG_SESSRING_NEXT
    let s2 := (s1.put (F.SIG_TCNT.i tenant) n).commitCounters
    let s3 := (((s2.put F.SIG_STAT_SESS 1).irq Page.SIG 1).put F.SIG_SESSST_TENANT tenant).put F.SIG_SESSST_SLOT slot
    { s3 with session := { s3.session with
        legalCond := false, tenant := tenant, slot := slot, counter := n, auth := s.getW F.SYS_SESS_AUTH, startRseq := 0, startCycle := 0,
        startTaken := false, closeHeld := none, reason := 0, appReason := 0, deferred := false, heldUwh := 0, heldMs := 0, heldFine := 0, heldSamples := 0,
        holdExp := false, verifSeen := s.on F.SYS_MODE_VERIF, utcStepped := false } }
  else s1

/-- While the update engine is ACTIVATING the legal domain does not handle the request: SESS_REQ keeps it (R757). So it is with every request after
the supply has failed, as the power-fail sequence takes nothing more (R310). -/
def execSessionOpenRequest (tenant : BitVec 4) (seq : BitVec 8) (s : State) : Host.Outcome State Fault Refusal :=
  if s.get F.UPD_STAT_STATE = 6 ∨ s.boot.pfail then
    .next (((s.put F.SYS_SESS_REQ_OP 1).put F.SYS_SESS_REQ_TENANT tenant.toNat).put F.SYS_SESS_REQ_SEQ seq.toNat)
  else .next (s.openSession tenant.toNat seq.toNat)

/-- SESSION_CLOSE_REQUEST (R316, R317): the application closes the session; with none open the request is refused. -/
def State.closeRequest (s : State) (appReason seq : Nat) : State :=
  let s1 := s.put F.SYS_SESS_REQ_APPREASON appReason
  match s.get F.SIG_STAT_SESS with
  | 2 => (s1.answerRequest 1 seq).closeSession 0x01 appReason
  | 1 => (s1.answerRequest 1 seq).closeSession 0x01 appReason
  | _ => s1.answerRequest 3 seq

def execSessionCloseRequest (appReason seq : BitVec 8) (s : State) : Host.Outcome State Fault Refusal :=
  if s.boot.pfail then .next (((s.put F.SYS_SESS_REQ_OP 2).put F.SYS_SESS_REQ_APPREASON appReason.toNat).put F.SYS_SESS_REQ_SEQ seq.toNat)
  else .next (s.closeRequest appReason.toNat seq.toNat)

/-- READING_REQUEST (R319): refused while a session is closing, and while the signing engine has failed its self-test. -/
def State.readingRequest (s : State) (seq : Nat) : State :=
  if s.get F.SIG_STAT_SESS = 3 then s.answerRequest 3 seq
  else if !s.on F.SIG_STAT_KEYOK then s.answerRequest 6 seq
  else
    let s1 := s.answerRequest 1 seq
    { s1 with session := { s1.session with readReq := true } }

def execReadingRequest (seq : BitVec 8) (s : State) : Host.Outcome State Fault Refusal :=
  if s.boot.pfail then .next ((s.put F.SYS_SESS_REQ_OP 3).put F.SYS_SESS_REQ_SEQ seq.toNat) else .next (s.readingRequest seq.toNat)

/-- Start the signing engine on SIG.IN (R323). -/
def State.startSign (s : State) : State := (s.put F.SIG_CMD_SIGN 1).put F.SIG_STAT_BUSY 1

/-- START_READING (R315): the start reading is taken at an engine close and given to the signing engine. -/
def execStartReading (s : State) : Host.Outcome State Fault Refusal :=
  if s.get F.SIG_STAT_SESS = 1 ∧ !s.session.startTaken ∧ s.get F.SIG_STAT_BUSY = 0 ∧ !s.boot.pfail then
    let body := s.recordBody .start (s.getW F.MET_LASTCYC) s.utc false false
    let s1 := (s.putWords F.SIG_IN.addr 64 body).startSign
    .next { s1 with session := { s1.session with startTaken := true, signing := true, startRseq := s.get F.SIG_SEQ + 1, startCycle := s.getW F.MET_LASTCYC } }
  else .next s

/-- The start record is signed: it is kept for its commit, and the commit engine writes line 20 of the slot with zeros (R320, R330); an overwritten slot
is logged (R321). -/
def State.keepStart (s : State) (r : Nat) : State :=
  let l := sessionLineOf s.session.slot
  let s0 := if s.recordExists l || s.recordExists (l + 20) then (s.incSat F.LDG_SESSRING_OVER).logE Page.LDG 0x0414 s.session.slot else s
  let s1 := s0.setLine (l + 20) 0
  { s1 with session := { s1.session with signing := false, record := r } }

/-- Does the legal domain give its condition (R28, R142, R301, R305, R328)? -/
def State.mayBill (s : State) : Bool :=
  s.get F.SYS_MODE_MODE == 0 && !s.on F.LDG_STAT_CLOGFULL && !s.on F.LDG_STAT_CFGLOST && s.on F.SIG_STAT_KEYOK && !s.boot.pfail

/-- START_RECORD_COMMIT (R315, R320): the signed start record is committed to the slot whose line 20 is zeroed, and the legal condition
is given; a close held under R317 then takes place. -/
def execStartRecordCommit (s : State) : Host.Outcome State Fault Refusal :=
  if s.get F.SIG_STAT_SESS = 1 ∧ s.session.startTaken ∧ !s.session.signing ∧ !s.boot.pfail then
    let s1 := s.storeRecord (sessionLineOf s.session.slot) s.session.record
    let s2 := ((s1.put F.LDG_SESSRING_NEXT ((s.session.slot + 1) % 2048)).put F.SIG_STAT_SESS 2).irq Page.SIG 1 |>.notePeriod
    let s3 := (({ s2 with session := { s2.session with legalCond := s.mayBill, startTaken := false, record := 0, closeHeld := none } } : State).logE Page.SIG 0x0410
      s.session.startRseq).settle
    match s.session.closeHeld with
    | none => .next s3
    | some r => .next (s3.closeSession (r % 256) (r / 256))
  else .next s

/-- Take, sign and store the end record of the closing session (R316, R318). -/
def State.endSession (s : State) (cycle utc : Nat) (pfail deferred : Bool) : State :=
  let sr := s.signBody (s.recordBody .finish cycle utc pfail deferred)
  let s1 := (s.emitRecord sr).storeRecord (sessionLineOf s.session.slot + 20) sr
  let s2 := (((s1.put F.SIG_STAT_SESS 0).irq Page.SIG 1).put F.SIG_ENDRSN_REASON s.session.reason).put F.SIG_ENDRSN_APPREASON s.session.appReason
  { s2 with session := { s2.session with legalCond := false, deferred := false, heldUwh := 0, heldMs := 0 } }

/-- END_READING (R316): at the first close at least 200 ms after the withdrawal, once the signing engine is free. -/
def execEndReading (s : State) : Host.Outcome State Fault Refusal :=
  if s.get F.SIG_STAT_SESS = 3 ∧ !s.session.deferred ∧ !s.boot.pfail ∧ s.session.withdrawnAt + 200 * tickMs ≤ s.angle.now
      ∧ s.get F.SIG_STAT_BUSY = 0 then
    .next ((s.endSession (s.getW F.MET_LASTCYC) s.utc false false).logE Page.SIG 0x0412 s.session.reason)
  else .next s

/-- INTERIM_READING (R319): the requested reading is taken and signed into SIG.OUT once the signing engine is free. While a session is only opening
none is open, and the reading is one on demand. -/
def execInterimReading (s : State) : Host.Outcome State Fault Refusal :=
  if s.session.readReq ∧ s.get F.SIG_STAT_BUSY = 0 ∧ !s.boot.pfail then
    let kind := if s.get F.SIG_STAT_SESS ≤ 1 then ReadingKind.onDemand else ReadingKind.interim
    let sr := s.signBody (s.recordBody kind (s.getW F.MET_LASTCYC) s.utc false false)
    let s1 := s.emitRecord sr
    .next { s1 with session := { s1.session with readReq := false } }
  else .next s

/-- SIGN_COMMAND (R323): SIG.CMD.SIGN starts the signing engine on SIG.IN. After t₀ none starts (R312). -/
def execSignCommand (s : State) : Host.Outcome State Fault Refusal :=
  .next (if s.on F.SIG_STAT_BUSY ∨ s.boot.pfail then s else s.startSign)

/-- SIGNATURE_COMPLETE (R323): the signed record goes to SIG.OUT; that of a start reading is kept for its commit. -/
def execSignatureComplete (s : State) : Host.Outcome State Fault Refusal :=
  if s.on F.SIG_STAT_BUSY ∧ !s.boot.pfail then
    let r := s.signBody s.sigIn
    let s1 := ((s.emitRecord r).put F.SIG_CMD_SIGN 0).put F.SIG_STAT_BUSY 0
    .next (if s.session.signing then s1.keepStart (r % 2 ^ 2560) else s1)
  else .next s

end Sys2Proof.Machine
end

