-- ==== Sys2Proof/Machine/Update.lean ====
section
/-!
DEFINITION. Machine/Update.lean: the bank-select record, the update engine and cluster arming (chapter 19). The commands
that end in a cold start stand in Machine/Activation.lean.
-/

namespace Sys2Proof.Machine

/-! ### The bank-select record (R727) -/

/-- CONF and COMPL of a bank. -/
def confField (b : Nat) : Field := if b = 0 then F.UPD_BANKS_CONF_SPR else F.UPD_BANKS_CONF_AUT
def complField (b : Nat) : Field := if b = 0 then F.UPD_BANKS_COMPL_SPR else F.UPD_BANKS_COMPL_AUT

/-- The recorded manifest digest of a bank. -/
def State.bankDigest (s : State) (b : Nat) : Nat := if b = 0 then s.update.digestSpr else s.update.digestAut

/-- The eight lines of the record (Table 19-7). -/
def State.bselBlock (s : State) (gen : Nat) : List Nat :=
  let u := s.update
  let bsel := u.active + 2 * s.get F.UPD_STAT_PENDING + 4 * s.get F.UPD_BANKS_CONF_SPR + 8 * s.get F.UPD_BANKS_CONF_AUT
    + 16 * s.get F.UPD_BANKS_COMPL_SPR + 32 * s.get F.UPD_BANKS_COMPL_AUT + 64 * b2n u.logged + 256 * u.source
    + 2 ^ 16 * s.get F.UPD_PEND_STARTS
  let floors := (List.range 7).foldr (fun t acc => s.get (F.UPD_FLOOR.i t) + 2 ^ 32 * acc) (s.get F.UPD_RQSEQ)
  [gen % 2 ^ 64 + 2 ^ 64 * bsel + 2 ^ 96 * s.get F.UPD_PEND_SLEFT, u.actCycle % 2 ^ 64 + 2 ^ 64 * (u.actUtc % 2 ^ 64),
   u.digestSpr % 2 ^ 128, u.digestSpr / 2 ^ 128, u.digestAut % 2 ^ 128, u.digestAut / 2 ^ 128,
   floors % 2 ^ 128, floors / 2 ^ 128]

/-- Commit the bank-select record. -/
def State.commitBsel (s : State) : State := s.commitCopy 0x10 0x18 8 s.bselBlock

/-- Read the bank-select record back. -/
def State.loadBsel (s : State) : State :=
  let s0 := s.touchCopies 0x10 0x18 8
  match s.newerCopy 0x10 0x18 8 with
  | none => s0
  | some l =>
    let b := bits (s.lineNat l) 64 32
    let fl := s.linesNat (l + 6) 2
    let s1 := ((((s0.put F.UPD_STAT_PENDING (bits b 1 1)).put F.UPD_BANKS_CONF_SPR (bits b 2 1)).put F.UPD_BANKS_CONF_AUT (bits b 3 1)).put
      F.UPD_BANKS_COMPL_SPR (bits b 4 1)).put F.UPD_BANKS_COMPL_AUT (bits b 5 1)
    let s2 := (s1.put F.UPD_PEND_STARTS (bits b 16 3)).put F.UPD_PEND_SLEFT (bits (s.lineNat l) 96 32)
    let s3 := (List.range 7).foldl (fun (t : State) i => t.put (F.UPD_FLOOR.i i) (bits fl (32 * i) 32)) s2
    let s4 := s3.put F.UPD_RQSEQ (bits fl 224 32)
    { s4 with update := { s4.update with
        active := bits b 0 1, logged := bit b 6, source := bits b 8 2, actCycle := bits (s.lineNat (l + 1)) 0 64,
        windowAt := s.angle.now, actUtc := bits (s.lineNat (l + 1)) 64 64, digestSpr := s.linesNat (l + 2) 2, digestAut := s.linesNat (l + 4) 2 } }

/-! ### State of the engine -/

def State.updState (s : State) : Nat := s.get F.UPD_STAT_STATE

/-- Die bank that the engine writes. -/
def State.targetBank (s : State) : Nat := s.get F.UPD_STAT_TGTBANK

/-- ENGIDLE: STATE IDLE and BUSY 0 (R729). -/
def State.noteEngine (s : State) : State :=
  s.put F.UPD_STAT_ENGIDLE (b2n (s.updState == 0 && !s.on F.UPD_STAT_BUSY))

/-- Enter a state of Table 19-8; in IDLE nothing is staged and settings are not blocked. -/
def State.toEngine (s : State) (st : Nat) : State :=
  let s1 := if s.updState = st then s else (s.put F.UPD_STAT_STATE st).irq Page.UPD 1
  let s2 := if st = 0 then
      (List.range 64).foldl (fun (t : State) k => (t.put (F.UPD_PART_BYTES.i k) 0).setWord (F.UPD_PART_ST.i k).addr 0)
        ((s1.put F.UPD_STAT_SETBLK 0).put F.UPD_STAT_TWOK 0)
    else s1
  s2.noteEngine

/-- The word 0 and target of ALM15; `none` disarms it. -/
def State.setAlm15 (s : State) (w : Nat) (target : Nat) : State :=
  (((s.setWord (F.ANG_ALM_ARM.i 15).addr (BitVec.ofNat 32 w)).put (F.ANG_ALM_ANGLE.i 15) 0).put (F.ANG_ALM_PERIOD.i 15) 0).putW
    (F.ANG_ALM_TARGET.i 15) target

def State.disarmAlm15 (s : State) : State := s.put (F.ANG_ALM_ARM.i 15) 0

/-- A command completes (R731). -/
def State.updDone (s : State) (op part result : Nat) : State :=
  let s1 := (((s.put F.UPD_RES_RESULT result).put F.UPD_RES_PART part).put F.UPD_RES_OP op).put F.UPD_STAT_BUSY 0
  let s2 : State := { s1 with update := { s1.update with op := 0 } }
  s2.noteEngine.irq Page.UPD 0

/-- The engine returns to IDLE and the staging is discarded (R729, R736): cause 1 abort, 2 reset of the application domain,
3 change of owner, 4 cold start. -/
def State.discardUpdate (s : State) (cause : Nat) : State :=
  if s.updState = 0 then s
  else
    let s1 := s.when (s.updState == 5) (fun t => t.disarmAlm15.irq Page.UPD 2)
    let s2 := s1.put F.UPD_STAT_BUSY 0
    (({ s2 with update := { s2.update with op := 0, cluster := false } } : State).toEngine 0).logE Page.UPD 0x0F06 cause

/-- A write of CMD while a command runs is refused with RESULT 2 (R731). `k` is the command itself. -/
def State.updCommand (s : State) (op : Nat) (k : State → State) : State :=
  if s.on F.UPD_STAT_BUSY then (s.put F.UPD_RES_RESULT 2).put F.UPD_RES_OP op else k s

/-- A command begins to run. -/
def State.updBegin (s : State) (op part ofs len : Nat) : State :=
  let s1 := s.put F.UPD_STAT_BUSY 1
  ({ s1 with update := { s1.update with op := op, part := part, ofs := ofs, len := len } } : State).noteEngine

/-! ### Sources (R731) -/

/-- The bytes of a source in the SRAM of the domain that owns UPD, or, for WRITE, in the package store; none elsewhere. -/
def State.updSource (s : State) (src len : Nat) (store : Bool) : Option (List Byte) :=
  let dom : Domain := if s.get (F.OWNER_DOMAIN.on Page.UPD) = 0 then .legal else .app
  if sramOf src = some dom ∧ sramOf (src + len - 1) = some dom then some (s.bytes src len)
  else if store ∧ 0x010B000000 ≤ src ∧ src + len ≤ 0x0111000000 then some (s.flashBytes (src - 0x010B000000 + storeBase) len)
  else none

/-- UPD.SRC as it stands. -/
def State.updSrc (s : State) : Nat := s.getWords F.UPD_SRC_A.addr 2 % 2 ^ 40

/-! ### OPEN (R732 to R734) -/

/-- The entry of the active bank's manifest that a KEEP entry names: it agrees in TYPE, INDEX, VERSION, SIZE, TARGET, GEN and
DIGEST (R734). -/
def State.keptPart (s : State) (p : PartEntry) : Bool :=
  let m := s.bankManifest s.update.active
  manifestOk m && (manParts m).any fun q =>
    q.type == p.type && q.index == p.index && q.version == p.version && q.size == p.size && q.target == p.target && q.gen == p.gen
      && q.digest == p.digest

/-- The RESULT of the checks of OPEN on a manifest, 1 when all pass (R732). `rom`: served by the boot ROM, which refuses KEEP
entries (R751). -/
def State.openCheck (s : State) (m : List Byte) (rom : Bool) : Nat :=
  if !manifestOk m then 6
  else if !legalSigOk m then 4
  else if !s.custSigOk m then 5
  else if !s.steppingListed m then 8
  else if s.belowFloor m then 7
  else if (manParts m).any (fun p => p.keep && (rom || !s.keptPart p)) then 9
  else 1

/-- Note the parts of a manifest as absent, with their KEEP flags, or as all received. -/
def State.noteParts (s : State) (m : List Byte) (all : Bool) : State :=
  ((manParts m).zipIdx).foldl (fun (t : State) (e : PartEntry × Nat) =>
    ((t.put (F.UPD_PART_BYTES.i e.2) (if all then e.1.size else 0)).put (F.UPD_PART_ST.i e.2) (if all then 2 else 0)).put
      (F.UPD_PART_KEEP.i e.2) (b2n e.1.keep)) s

/-- OPEN on a manifest (R732, R733): refused, or the engine is OPENING while the target bank is erased and takes the manifest, or preparation
begins at once on a complete bank with the same manifest. -/
def State.openManifest (s : State) (m : List Byte) (rom : Bool) : State :=
  if s.updState ≠ 0 then s.updDone 1 0 3
  else if s.on F.UPD_STAT_PENDING then s.updDone 1 0 14
  else
    let r := s.openCheck m rom
    if r ≠ 1 then (s.updDone 1 0 r).logE Page.UPD 0x0F02 r
    else
      let b := 1 - s.update.active
      let same := s.bankDigest b == manDigest m && s.on (complField b)
      let s1 := (((s.updBegin 1 0 0 0).put F.UPD_STAT_TGTBANK b).toEngine 1).put F.UPD_STAT_TWOK (b2n (s.testedWith m))
      let s2 := ((s1.put (confField b) 0).put (complField b) 0).commitBsel
      if same then ((s2.noteParts m true).put F.UPD_STAT_SETBLK 1).toEngine 3
      else
        ((s2.eraseFlash (bankBase b) (bankBase b + 0xC000000)).setFlashBytes (bankBase b) m).noteParts m false

/-- UPD_OPEN (R731, R732): LEN bytes from SRC. -/
def State.updOpen (s : State) : State :=
  s.updCommand 1 fun t =>
    match t.updSource t.updSrc (t.get F.UPD_LEN_N) false with
    | none => if t.updState ≠ 0 then t.updDone 1 0 3 else t.updDone 1 0 15
    | some m => t.openManifest m false

def execUpdOpen (s : State) : Host.Outcome State Fault Refusal := .next s.updOpen

/-- A part is complete: verified or failed by its digest (R735). Answers the RESULT. -/
def State.checkPart (s : State) (i : Nat) (p : PartEntry) : Nat × State :=
  if s.partDigestOk s.targetBank p then (1, (s.put (F.UPD_PART_ST.i i) 2).logE Page.UPD 0x0F03 i)
  else (11, ((s.put (F.UPD_PART_BYTES.i i) 0).put (F.UPD_PART_ST.i i) 3).logE Page.UPD 0x0F04 i)

/-- Copy a KEEP part from the active bank (R734). -/
def State.copyKept (s : State) (i : Nat) (p : PartEntry) : Nat × State :=
  let l := s.partBytes s.update.active p
  ((s.writePart s.targetBank p 0 l).put (F.UPD_PART_BYTES.i i) p.size).checkPart i p

/-- A flash error: event 0x0F17 with the die offset. -/
def State.flashError (s : State) (err : Option Word) : State :=
  match err with
  | none => s
  | some o => s.logE Page.UPD 0x0F17 o.toNat

/-- An answer of the service or recovery link: its bytes in BusResult, first byte lowest. -/
def State.answer (s : State) (l : List Byte) : State := s.busOk (ofBytes l)

/-- The answer to a recovery message (R752): CMD + 0x80, RESULT, STATE, two zero bytes, and what the command adds. -/
def State.answerRecovery (s : State) (cmd result : Nat) (more : List Byte) : State :=
  s.answer ([byteOf (cmd + 0x80) 0, byteOf result 0, byteOf s.updState 0, 0, 0] ++ more)

/-- A recovery command that has completed is answered with the RESULT of UPD.RES (R752). -/
def State.answerDone (s : State) : State :=
  if s.update.asked ≠ 0 ∧ !s.on F.UPD_STAT_BUSY then
    ({ s with update := { s.update with asked := 0 } } : State).answerRecovery s.update.asked (s.get F.UPD_RES_RESULT) []
  else s

/-- OPEN_DONE (R732, R734): the target bank is erased and holds the manifest: the engine enters STAGING, with event 0x0F01, and copies the KEEP
parts in manifest order before it takes another command; `err` is the die offset of a flash error, whose sector of the target bank holds no
known content. -/
def State.openDone (s : State) (err : Option Word) : State :=
  if s.update.op = 1 ∧ s.updState = 1 then
    match err with
    | some o => (((s.spoilSector o.toNat (bankBase s.targetBank) 0xC000000).flashError err).updDone 1 0 12).toEngine 0
    | none =>
      let m := s.bankManifest s.targetBank
      let s1 := (s.toEngine 2).logE Page.UPD 0x0F01 (args [s.targetBank, manSeq m])
      let r := ((manParts m).zipIdx).foldl (fun (a : Nat × State) (e : PartEntry × Nat) =>
        if e.1.keep then (let c := a.2.copyKept e.2 e.1; (if c.1 = 1 then a.1 else c.1, c.2)) else a) (1, s1)
      r.2.updDone 1 0 r.1
  else s

def execOpenDone (err : Option Word) (s : State) : Host.Outcome State Fault Refusal := .next (s.openDone err).answerDone

/-! ### WRITE (R735) -/

/-- WRITE of bytes into part `i` at `ofs`. -/
def State.writeBytes (s : State) (i ofs : Nat) (l : List Byte) : State :=
  if s.updState ≠ 2 then s.updDone 2 i 3
  else
    let ps := manParts (s.bankManifest s.targetBank)
    match ps[i]? with
    | none => s.updDone 2 i 10
    | some p =>
      let n := l.length
      let aligned := p.type ≠ 3 ∨ n % 16 = 0 ∨ ofs + n = p.size
      if n = 0 ∨ n > 65536 ∨ ofs ≠ s.get (F.UPD_PART_BYTES.i i) ∨ ofs + n > p.size ∨ ¬ aligned then s.updDone 2 i 10
      else ((s.updBegin 2 i ofs n).writePart s.targetBank p ofs l).put (F.UPD_PART_ST.i i) 1

/-- UPD_WRITE (R731, R735). -/
def State.updWrite (s : State) : State :=
  s.updCommand 2 fun t =>
    let i := t.get F.UPD_ARG_PART
    if t.updState ≠ 2 then t.updDone 2 i 3
    else match t.updSource t.updSrc (t.get F.UPD_LEN_N) true with
      | none => t.updDone 2 i 15
      | some l => t.writeBytes i (t.get F.UPD_OFS) l

def execUpdWrite (s : State) : Host.Outcome State Fault Refusal := .next s.updWrite

/-- A WRITE that ends with a flash error leaves its bytes without a known content. -/
def State.spoilWrite (s : State) : State :=
  match (manParts (s.bankManifest s.targetBank))[s.update.part]? with
  | none => s
  | some p => s.spoilFlash (bankBase s.targetBank + p.target + s.update.ofs) s.update.len

/-- WRITE_DONE (R735): the bytes count as received; a complete part is compared with its digest. -/
def State.writeDone (s : State) (err : Option Word) : State :=
  if s.update.op = 2 ∧ s.updState = 2 then
    let i := s.update.part
    match err with
    | some _ => (s.spoilWrite.flashError err).updDone 2 i 12
    | none =>
      let got := s.update.ofs + s.update.len
      let s1 := s.put (F.UPD_PART_BYTES.i i) got
      match (manParts (s.bankManifest s.targetBank))[i]? with
      | none => s1.updDone 2 i 1
      | some p => if got = p.size then (let r := s1.checkPart i p; r.2.updDone 2 i r.1) else s1.updDone 2 i 1
  else s

def execWriteDone (err : Option Word) (s : State) : Host.Outcome State Fault Refusal := .next (s.writeDone err).answerDone

/-! ### PREPARE (R737) -/

/-- PREPARE in STAGING with every part verified. -/
def State.beginPrepare (s : State) : State :=
  let ps := manParts (s.bankManifest s.targetBank)
  if s.updState = 2 ∧ (List.range ps.length).all (fun i => s.get (F.UPD_PART_ST.i i) == 2) then
    ((s.updBegin 3 0 0 0).put F.UPD_STAT_SETBLK 1).toEngine 3
  else s.updDone 3 0 3

def State.updPrepare (s : State) : State := s.updCommand 3 (·.beginPrepare)

/-- UPD_PREPARE (R737). -/
def execUpdPrepare (s : State) : Host.Outcome State Fault Refusal := .next s.updPrepare

/-- The first part of the target bank that fails its digest, or whose tags fail: its die offset. -/
def State.badPart (s : State) : Option Word :=
  let b := s.targetBank
  ((manParts (s.bankManifest b)).find? fun p => !s.partDigestOk b p || (p.type == 3 && !s.partTagsOk b p)).map
    fun p => BitVec.ofNat 32 (bankBase b + p.target)

/-- Conditions of R744 that the engine, the switch FOLLOW and the cluster give: `id`, `target` of an ACTIVATE without ABORT
received or first sent in cycle `at_`, seen from the cluster cycle number. -/
def State.armAllowed (s : State) (id target at_ : Nat) : Bool :=
  s.on F.UPD_CTL_FOLLOW && s.updState == 4 && s.on F.CLU_STAT_CCNOK && id == s.get F.UPD_CTL_EXPID
    && decide (320 ≤ (target + 2 ^ 32 - at_) % 2 ^ 32) && decide ((target + 2 ^ 32 - at_) % 2 ^ 32 < 2 ^ 31) && !s.update.aborts.contains (id, target)

/-- Master, or admitted, without a duplicate address. -/
def State.isMaster (s : State) : Bool := s.get F.CLU_STAT_LSTATE == 6
def State.isAdmitted (s : State) : Bool := s.get F.CLU_STAT_LSTATE == 3

/-- The CCN of the current cycle (R489). -/
def State.ccn (s : State) : Nat := (s.get F.CLU_CCNOFS + s.cycles) % 2 ^ 32

/-- The first cycle after the current one whose low 32 bits with the CCN offset give `target` (R744). -/
def State.cycleOfCcn (s : State) (target : Nat) : Nat :=
  let low := (target + 2 ^ 32 - s.get F.CLU_CCNOFS) % 2 ^ 32
  s.cycles + ((low + 2 ^ 32 - s.cycles % 2 ^ 32 - 1) % 2 ^ 32 + 1)

/-- The ARMED bit of the master's own address follows its own STATE (R745). -/
def State.noteOwnArmed (s : State) : State :=
  let a := s.get F.CLU_CFG_ADDR
  if s.isMaster ∧ 1 ≤ a ∧ a ≤ 32 then s.putBit F.UPD_ARMMAP (a - 1) (s.updState == 5 && s.update.cluster) else s

/-- Arm for a cluster activation (R744). -/
def State.armCluster (s : State) (id target : Nat) : State :=
  let s1 := s.setAlm15 0x00000415 (s.cycleOfCcn target)
  let s2 : State := { s1 with update := { s1.update with cluster := true, armId := id, armTarget := target } }
  (((s2.put F.UPD_ACTST_COMMITSEEN 0).toEngine 5).irq Page.UPD 2).noteOwnArmed.logE Page.UPD 0x0F07 (args [id, target])

/-- Arm when the conditions of R744 hold on the ACTIVATE that is held in ACTRX or, on the master, sent from ACTTX. -/
def State.tryArm (s : State) : State :=
  if s.isMaster then
    match s.cluster.actTxAt with
    | none => s
    | some at_ =>
      let id := s.get F.CLU_ACTTX_ACTID
      let target := s.get F.CLU_ACTTX_TARGET
      if s.on F.CLU_ACTTX_SEND && !s.on F.CLU_ACTTX_ABORT && s.armAllowed id target at_ then s.armCluster id target else s
  else if s.isAdmitted && s.on F.CLU_ACTRX_VALID && !s.on F.CLU_ACTRX_ABORT
      && s.armAllowed (s.get F.CLU_ACTRX_ACTID) (s.get F.CLU_ACTRX_TARGET) s.cluster.actRxAt then
    s.armCluster (s.get F.CLU_ACTRX_ACTID) (s.get F.CLU_ACTRX_TARGET)
  else s

/-- Disarm a cluster activation and return to PREPARED (R747): cause 1 abort, 2 CCN change, 3 skip, 4 silent window. -/
def State.disarmCluster (s : State) (cause : Nat) : State :=
  if s.updState = 5 ∧ s.update.cluster then
    let s1 : State := { s with update := { s.update with cluster := false } }
    ((s1.disarmAlm15.toEngine 4).irq Page.UPD 2).noteOwnArmed.logE Page.UPD 0x0F08 cause
  else s

/-- An abort of an activation is received or sent (R744, R747). -/
def State.noteAbort (s : State) (id target : Nat) : State :=
  let s1 : State := { s with update := { s.update with aborts := if s.update.aborts.contains (id, target) then s.update.aborts else (id, target) :: s.update.aborts } }
  if s.update.armId = id ∧ s.update.armTarget = target then s1.disarmCluster 1 else s1

/-- A verified preparation: the settings are copied, COMPL is committed (R737). -/
def State.prepared (s : State) (op : Nat) : State :=
  let b := s.targetBank
  let m := s.bankManifest b
  let d := manDigest m
  let s1 := s.copyFlash (settingsBase s.update.active) (settingsBase b) 0x1000000
  let s2 : State := { s1 with update := { s1.update with
    digestSpr := if b = 0 then d else s1.update.digestSpr, digestAut := if b = 0 then s1.update.digestAut else d, aborts := [] } }
  let s3 := ((s2.put (complField b) 1).commitBsel).updDone op 0 1
  ((s3.toEngine 4).logE Page.UPD 0x0F05 (d % 2 ^ 64)).tryArm

/-- PREPARE_DONE (R737): the read-back of every part and tag, the copy of the settings and the commit of COMPL. It also ends
the preparation that OPEN has begun under R733. -/
def State.prepareDone (s : State) (err : Option Word) : State :=
  if s.updState = 3 then
    let op := s.update.op
    match err, s.badPart with
    | some o, _ => (((s.spoilSector o.toNat (settingsBase s.targetBank) 0x1000000).flashError err).updDone op 0 12).toEngine 0
    | none, some o => ((s.flashError (some o)).updDone op 0 12).toEngine 0
    | none, none => s.prepared op
  else s

def execPrepareDone (err : Option Word) (s : State) : Host.Outcome State Fault Refusal := .next (s.prepareDone err).answerDone

/-! ### ACTIVATE, ABORT, FWRITE -/

/-- An activation begins (R741, step 1): the legal condition is withdrawn and an open session is closed with REASON 0x09. -/
def State.beginActivation (s : State) (source : Nat) : State :=
  let s1 : State := { s with update := { s.update with begun := source, cluster := false } }
  (s1.toEngine 6).closeSession 0x09 0

/-- ACTIVATE in PREPARED (R740), at once or at the cycle of ACTCYC. -/
def State.activate (s : State) (atCycle : Bool) (source : Nat) : State :=
  if s.updState ≠ 4 then s.updDone 4 0 3
  else if atCycle then
    let c := s.getW F.UPD_ACTCYC
    if c ≤ s.cycles + 1 then s.updDone 4 0 16
    else (((s.setAlm15 0x00000405 c).toEngine 5).irq Page.UPD 2).updDone 4 0 1
  else (s.updDone 4 0 1).beginActivation source

def State.updActivate (s : State) : State :=
  s.updCommand 4 fun t => t.activate (t.on F.UPD_ARG_AMODE) (if t.inWinter then 1 else 0)

/-- UPD_ACTIVATE (R740). -/
def execUpdActivate (s : State) : Host.Outcome State Fault Refusal := .next s.updActivate

/-- ABORT, in any state from OPENING to ARMED, also while a command runs (R736). -/
def State.abortUpdate (s : State) : State :=
  if 1 ≤ s.updState ∧ s.updState ≤ 5 then (s.discardUpdate 1).noteOwnArmed.updDone 5 0 1 else s.updDone 5 0 3

/-- UPD_ABORT (R736). -/
def execUpdAbort (s : State) : Host.Outcome State Fault Refusal := .next s.abortUpdate

/-- Die offset of sector `k` of the flash data window, which shows the active bank's settings (R722). -/
def State.sectorAt (s : State) (k : Nat) : Nat :=
  if k < 4096 then settingsBase s.update.active + 4096 * k else storeBase + 4096 * (k - 4096)

/-- FWRITE (R738, R754): 4 KiB from SRC into the sector OFS. -/
def State.updFwrite (s : State) : State :=
  s.updCommand 6 fun t =>
    let k := t.get F.UPD_OFS % 32768
    if k ≥ 28672 then t.updDone 6 0 15
    else if k < 4096 ∧ t.on F.UPD_STAT_SETBLK then (t.updDone 6 0 13).logE Page.UPD 0x0F16 k
    else match t.updSource t.updSrc 4096 false with
      | none => t.updDone 6 0 15
      | some l => (t.updBegin 6 0 k 4096).setFlashBytes (t.sectorAt k) l

/-- UPD_FWRITE (R754). -/
def execUpdFwrite (s : State) : Host.Outcome State Fault Refusal := .next s.updFwrite

/-- FWRITE_DONE (R754): after a flash error the sector holds no known content. -/
def State.fwriteDone (s : State) (err : Option Word) : State :=
  if s.update.op = 6 then
    ((s.when err.isSome (·.spoilFlash (s.sectorAt s.update.ofs) 4096)).flashError err).updDone 6 0 (if err.isSome then 12 else 1)
  else s

def execFwriteDone (err : Option Word) (s : State) : Host.Outcome State Fault Refusal := .next (s.fwriteDone err)

/-! ### Decision of a cluster activation (R746) -/

/-- At TARGET - 256 the master compares ARMMAP with REQMAP (R746), once for an activation. -/
def State.decideActivation (s : State) : State :=
  if s.isMaster && s.on F.CLU_ACTTX_SEND && !s.cluster.decided then
    let s1 := ({ s with cluster := { s.cluster with decided := true } } : State).irq Page.UPD 4
    let req := s.get F.UPD_REQMAP
    let arm := s.get F.UPD_ARMMAP
    if req &&& arm = req then s1
    else ((s1.put F.CLU_ACTTX_ABORT 1).logE Page.UPD 0x0F09 (args [req, arm])).noteAbort (s.get F.CLU_ACTTX_ACTID) (s.get F.CLU_ACTTX_TARGET)
  else s

/-- The firing of ALM15 for a cluster activation (R747): the master activates when it has not aborted, a member when it has
heard the commit in the decision window and no abort afterwards. -/
def State.fireCluster (s : State) : State :=
  let ok := if s.isMaster then !s.on F.CLU_ACTTX_ABORT else s.on F.UPD_ACTST_COMMITSEEN
  if ok then s.beginActivation 0 else s.disarmCluster 4

/-- ALM15 fires (R741, R747). -/
def State.fireAlm15 (s : State) : State :=
  if s.updState = 5 then (if s.update.cluster then s.fireCluster else s.beginActivation (if s.inWinter then 1 else 0)) else s

end Sys2Proof.Machine
end

