-- ==== Sys2Proof/Machine/Allocation.lean ====
section
/-!
DEFINITION. Machine/Allocation.lean: power allocation across the cluster: what a member reports and may draw, and how the
master divides the site limit (chapter 14).
-/

namespace Sys2Proof.Machine

/-! ### The member -/

/-- DRAW (R531): the largest magnitude of the 10-cycle current among the elements of DRAWELEM, in units of 0.5 A rounded
up. -/
def State.drawNow (s : State) : Nat :=
  let m := s.get F.PWA_MCFG_DRAWELEM
  let mags := (List.range 8).map fun e =>
    if bit m e then
      let v := s.get (F.MET_RES_I.i e)
      if s.on (F.MET_ME_CFG_KIND.i e) then (toSigned 32 v).natAbs else v
    else 0
  min 0x3FFF ((mags.foldl max 0 + 499) / 500)

/-- DEMAND and CLASS as reported: 0 while PWA.CTL.EN is 0 (R531). -/
def State.ownDemand (s : State) : Nat := if s.on F.PWA_CTL_EN then s.get F.PWA_MDEMAND_DEMAND else 0
def State.ownClass (s : State) : Nat := if s.on F.PWA_CTL_EN then s.get F.PWA_MDEMAND_CLASS else 0

/-- The STATUS payload (R531, Table 13-5). -/
def State.statusPayload (s : State) : Nat :=
  2 * b2n (s.updState == 5 && s.update.cluster) + 4 * s.drawNow + 2 ^ 16 * s.ownClass + 2 ^ 19 * s.ownDemand + 2 ^ 33 * s.get F.PWA_MDEMAND_PHMASK

/-- Fields of a GRANT payload (Table 13-5). -/
def grantOutcome (p : Nat) : Nat := bits p 34 2
def grantReason (p : Nat) : Nat := bits p 30 4
def grantMask (p : Nat) : Nat := bits p 27 3
def grantCurrent (p : Nat) : Nat := bits p 13 14
def grantEff (p : Nat) : Nat := bits p 0 13

/-- OUTCOME where Table 14-1 takes it from R534. -/
def State.memberOutcome (s : State) (allow : Nat) : Nat :=
  let d := s.ownDemand
  if d = 0 ∨ allow ≥ d then 0 else if allow > 0 then 1 else 2

/-- The allowance of Table 14-1: ALLOW, OUTCOME, REASON and PHMASK. -/
def State.allowance (s : State) : Nat × Nat × Nat × Nat :=
  let fb := s.get F.PWA_MCFG_FALLBACK
  let ph := s.get F.PWA_MDEMAND_PHMASK
  let st := s.get F.CLU_STAT_LSTATE
  if !s.on F.CLU_CTL_EN ∨ st = 1 ∨ st = 4 ∨ st = 5 then (fb, s.memberOutcome fb, 9, ph)
  else
    let low := min (s.get F.PWA_ALLOW_ALLOW) fb
    let wait := (low, s.memberOutcome low, 10, ph)
    if (st ≠ 3 ∧ st ≠ 6) ∨ s.on F.CLU_STAT_DUP then wait
    else match s.cluster.granted with
      | none => wait
      | some p => (grantCurrent p, grantOutcome p, grantReason p, grantMask p)

/-- ALLOW, OUTCOME and REASON take their values of Table 14-1 (R535). -/
def State.updateAllowance (s : State) : State :=
  let (al, oc, re, ph) := s.allowance
  let same := al == s.get F.PWA_ALLOW_ALLOW && oc == s.get F.PWA_ALLOW_OUTCOME && re == s.get F.PWA_ALLOW_REASON
  let s1 := (((s.put F.PWA_ALLOW_ALLOW al).put F.PWA_ALLOW_OUTCOME oc).put F.PWA_ALLOW_REASON re).put F.PWA_ALLOW_PHMASK ph
  let s2 := (s1.put F.PWA_STAT_OUTCOME oc).put F.PWA_STAT_REASON re
  let s3 := s2.when (al != s.get F.PWA_ALLOW_ALLOW) (·.putW F.PWA_ALLOWCYC s.cycles)
  let s4 := s3.when (!same) fun t => (t.irq Page.PWA 0).logE Page.PWA 0x0A01 (args [al, oc, re])
  let fb := re == 9
  let was := s.on F.PWA_STAT_FALLBACK
  if fb = was then s4
  else
    let s5 := (s4.put F.PWA_STAT_FALLBACK (b2n fb)).irq Page.PWA 1
    if fb then s5.logE Page.PWA 0x0A02 (s.get F.PWA_MCFG_FALLBACK) else s5.logE Page.PWA 0x0A03 al

/-- Hold a received GRANT until its EFF cycle, the first cycle after this one with that CCN modulo 8 192 (R515). -/
def State.holdGrant (s : State) (pay seq : Nat) : State :=
  let c := s.ccn % 8192
  let at_ := s.cycles + ((grantEff pay + 8192 - c - 1) % 8192 + 1)
  let s1 := ((s.putW F.CLU_GRANTRX_PAY pay).put F.CLU_GRANTRX_SEQ seq).putW F.CLU_GRANTRX_CYC at_
  ({ s1 with cluster := { s1.cluster with held := some (pay, at_) } } : State).irq Page.CLU 1

/-- The held GRANT takes effect (R515, R535). -/
def State.applyGrant (s : State) : State :=
  match s.cluster.held with
  | none => s
  | some (pay, _) =>
    let s1 : State := { s with cluster := { s.cluster with held := none } }
    if s.isAdmitted ∨ s.isMaster then
      (({ s1 with cluster := { s1.cluster with granted := some pay } } : State).irq Page.CLU 1).updateAllowance
    else s1

/-! ### What the master keeps of an address -/

/-- Address `k` is 1 to 32; the lists hold it at `k - 1`. -/
def State.amem (s : State) (k : Nat) : AllocMember := s.alloc.mem.getD (k - 1) {}

def State.setAmem (s : State) (k : Nat) (m : AllocMember) : State :=
  { s with alloc := { s.alloc with mem := s.alloc.mem.set (k - 1) m } }

/-- Is the address admitted, the master's own included (R529)? -/
def State.memAdmitted (s : State) (k : Nat) : Bool := s.on (F.CLU_MEM_ADMITTED.i (k - 1)) || (s.isMaster && k == s.get F.CLU_CFG_ADDR)

def State.rosterFb (s : State) (k : Nat) : Nat := s.get (F.PWA_ROSTER_FALLBACK.i (k - 1))
def State.rosterMask (s : State) (k : Nat) : Nat := s.get (F.PWA_ROSTER_PHMASK.i (k - 1))

/-- PWA.MEMk follows what the master holds. -/
def State.noteAmem (s : State) (k : Nat) : State :=
  (s.put (F.PWA_MEM_ADMITTED.i (k - 1)) (b2n (s.memAdmitted k))).put (F.PWA_MEM_K.i (k - 1)) (s.amem k).k

/-- At admission K is the larger of the roster fallback and DRAW (R541). -/
def State.admitMem (s : State) (k : Nat) : State :=
  let draw := s.get (F.PWA_MEM_DRAW.i (k - 1))
  let ph := s.get (F.PWA_MEM_PHMASK.i (k - 1))
  (s.setAmem k { k := max (s.rosterFb k) draw, mask := ph, lastMask := ph }).noteAmem k

/-- A STATUS of address `k` is recorded (R540, R554). -/
def State.recordStatus (s : State) (k pay : Nat) : State :=
  let draw := bits pay 2 14
  let s1 := (((s.put (F.PWA_MEM_DEMAND.i (k - 1)) (bits pay 19 14)).put (F.PWA_MEM_CLASS.i (k - 1)) (bits pay 16 3)).put
    (F.PWA_MEM_PHMASK.i (k - 1)) (bits pay 33 3)).put (F.PWA_MEM_DRAW.i (k - 1)) draw
  let m := s1.amem k
  let n := if draw > m.k + 4 then m.overs + 1 else 0
  let s2 := s1.setAmem k { m with overs := min n 3, refused := if bits pay 19 14 = 0 then none else m.refused,
                                  deferSince := if bits pay 19 14 = 0 then none else m.deferSince }
  if n = 2 then (s2.irq Page.PWA 4).logE Page.PWA 0x0A12 (args [k, draw, m.k]) else s2

/-- The own STATUS payload in PWA.MEMk of the own address `k`: what an allocation takes of the own PWA page as it stands (R540). -/
def State.ownValues (s : State) (k : Nat) : State :=
  let pay := s.statusPayload
  (((s.put (F.PWA_MEM_DEMAND.i (k - 1)) (bits pay 19 14)).put (F.PWA_MEM_CLASS.i (k - 1)) (bits pay 16 3)).put
    (F.PWA_MEM_PHMASK.i (k - 1)) (bits pay 33 3)).put (F.PWA_MEM_DRAW.i (k - 1)) (bits pay 2 14)

/-- A frame of address `k` has answered its GRANT (R503, R541, R545). -/
def State.grantAnswered (s : State) (k : Nat) : State :=
  let m := s.amem k
  let gs := match m.grants with
    | (g, e, _) :: rest => (g, e, true) :: rest
    | [] => []
  (s.setAmem k { m with grants := gs, a := m.g }).put (F.PWA_MEM_ANSWERED.i (k - 1)) 1

/-- The GRANT payload for address `k` in round `r`: EFF is the first cycle of round r + 1 (R540). -/
def State.grantPayload (s : State) (k r : Nat) : Nat :=
  (r + 1) * 32 % 8192 + 2 ^ 13 * (s.amem k).g + 2 ^ 27 * s.get (F.PWA_MEM_PHMASK.i (k - 1))
    + 2 ^ 30 * s.get (F.PWA_MEM_REASON.i (k - 1)) + 2 ^ 34 * s.get (F.PWA_MEM_OUTCOME.i (k - 1))

/-- A GRANT is sent to address `k`: PWA.MEMk.G is the grant last sent. -/
def State.grantSent (s : State) (k : Nat) : State :=
  (s.put (F.PWA_MEM_G.i (k - 1)) (s.amem k).g).put (F.PWA_MEM_ANSWERED.i (k - 1)) 0

/-- The removal of an address under R503: K is kept for 4 + SETTLE rounds (R541). -/
def State.removeMem (s : State) (k : Nat) (kept : Bool) : State :=
  let m := s.amem k
  let r := s.cluster.slotCcn / 32
  (s.setAmem k { k := m.k, mask := m.mask, hold := if kept then some (r + 4 + s.get F.PWA_ALLOCCFG_SETTLE) else none }).noteAmem k

/-! ### Commitments and headroom (R541, R542) -/

/-- The phases of a mask. -/
def phases (mask : Nat) : List Nat := (List.range 3).filter fun p => bit mask p

/-- K and its phases at an allocation of round `r`, for an admitted address. -/
def AllocMember.settleK (m : AllocMember) (r settle ph draw : Nat) : AllocMember :=
  let (mask1, until1) := match m.maskUntil with
    | some u => if u ≤ r then (m.lastMask, none) else (m.mask, some u)
    | none => (m.mask, none)
  let (mask2, until2) := if ph = m.lastMask then (mask1, until1) else (mask1 ||| ph, some (r + settle))
  let settled := m.grants.findIdx? fun e => e.2.2 && decide (e.2.1 + settle ≤ r)
  let (k, gs) := match settled with
    | some i => (((m.grants.take (i + 1)).map (·.1)).foldl max 0, m.grants.take (i + 1))
    | none => (m.k, m.grants)
  { m with k := max k draw, grants := gs, mask := mask2, maskUntil := until2, lastMask := ph }

/-- K of every address at an allocation: admitted addresses settle, a removal hold that has ended gives way to the roster
reserve. -/
def State.settleAll (s : State) (r : Nat) : State :=
  (List.range 32).foldl (fun (t : State) i =>
    let k := i + 1
    let m := t.amem k
    if t.memAdmitted k then
      t.setAmem k (m.settleK r (t.get F.PWA_ALLOCCFG_SETTLE) (t.get (F.PWA_MEM_PHMASK.i i)) (t.get (F.PWA_MEM_DRAW.i i)))
    else
      let held := match m.hold with
        | some u => decide (r < u)
        | none => false
      if held then t else t.setAmem k { k := t.rosterFb k, mask := t.rosterMask k }) s

/-- Σ K on phase `p`, roster reserves included. -/
def State.sumK (s : State) (p : Nat) : Nat :=
  ((List.range 32).map fun i => if bit (s.amem (i + 1)).mask p then (s.amem (i + 1)).k else 0).sum

/-- LIM - RESV of phase `p`. -/
def State.siteRoom (s : State) (p : Nat) : Int := (s.get (F.PWA_LIM_LIM.i p) : Int) - s.get (F.PWA_LIM_RESV.i p)

/-- The headroom H of phase `p` (R542). -/
def State.headroom (s : State) (p : Nat) : Int := s.siteRoom p - s.sumK p

/-! ### Targets (R543, R544) -/

/-- A member in the computation of targets. -/
structure Cand where
  addr : Nat
  cls : Nat
  mask : Nat
  d : Nat
  running : Bool
  since : Nat
  defer : Nat
  t : Nat := 0
  reason : Nat := 0
deriving DecidableEq, Repr

/-- Does amount `n` fit on every phase of a mask? -/
def fits (avail : List Int) (mask n : Nat) : Bool := (phases mask).all fun p => decide ((n : Int) ≤ avail.getD p 0)

/-- Take amount `n` on every phase of a mask. -/
def takeOn (avail : List Int) (mask n : Nat) : List Int :=
  (phases mask).foldl (fun (a : List Int) p => a.set p (a.getD p 0 - (n : Int))) avail

/-- Raise the target of one address by `n`. -/
def raise (l : List Cand) (addr n : Nat) : List Cand := l.map fun c => if c.addr = addr then { c with t := c.t + n } else c

/-- Insert in the order of `lt`. -/
def insertBy (lt : Cand → Cand → Bool) (c : Cand) : List Cand → List Cand
  | [] => [c]
  | b :: l => if lt c b then c :: b :: l else b :: insertBy lt c l

/-- Sort in the order of `lt`, stable. -/
def sortBy (lt : Cand → Cand → Bool) (l : List Cand) : List Cand := l.foldr (insertBy lt) []

/-- Class, then seniority, then address. -/
def byRank (a b : Cand) : Bool :=
  decide (a.cls < b.cls ∨ (a.cls = b.cls ∧ (a.since < b.since ∨ (a.since = b.since ∧ a.addr ≤ b.addr))))

/-- Deferral order, then address. -/
def byDeferral (a b : Cand) : Bool := decide (a.defer < b.defer ∨ (a.defer = b.defer ∧ a.addr ≤ b.addr))

/-- State of a fill: the members, the capacity left, the addresses still in the fill, and for each address that left it
short the exhausted phase. -/
structure Fill where
  l : List Cand
  avail : List Int
  u : List Nat
  left_ : List (Nat × Nat) := []
deriving DecidableEq, Repr

def maskOf (l : List Cand) (addr : Nat) : Nat := ((l.find? fun c => c.addr == addr).map (·.mask)).getD 0

/-- Remove from the fill every member that has reached its demand. -/
def Fill.trim (f : Fill) : Fill :=
  { f with u := f.u.filter fun a => f.l.any fun c => c.addr == a && decide (c.t < c.d) }

/-- One turn of the loop of R544. -/
def Fill.turn (f : Fill) : Fill :=
  let need := (List.range 3).map fun p => (f.u.filter fun a => bit (maskOf f.l a) p).length
  let short := (List.range 3).filter fun p => decide (f.avail.getD p 0 < (need.getD p 0 : Int))
  if short = [] then
    (f.u.foldl (fun (g : Fill) a => { g with l := raise g.l a 1, avail := takeOn g.avail (maskOf g.l a) 1 }) f).trim
  else
    (short.foldl (fun (g : Fill) p =>
      let on := g.u.filter fun a => bit (maskOf g.l a) p
      let h := on.foldl (fun (h : Fill) a =>
        if fits h.avail (maskOf h.l a) 1 then { h with l := raise h.l a 1, avail := takeOn h.avail (maskOf h.l a) 1 } else h) g
      { h with u := h.u.filter (fun a => !on.contains a), left_ := h.left_ ++ on.map fun a => (a, p) }) f).trim

/-- The loop until the fill is empty; every turn shrinks it or raises each of its members. -/
def Fill.run (f : Fill) : Nat → Fill
  | 0 => f
  | n + 1 => if f.u = [] then f else f.turn.run n

/-- fill(c) of R544, with the reasons of the members that leave it short of their demand. -/
def fillClass (l : List Cand) (avail : List Int) (c mn : Nat) : List Cand × List Int :=
  let u := (l.filter fun m => m.cls == c && decide (mn ≤ m.t ∧ m.t < m.d)).map (·.addr)
  let f := (Fill.run { l := l, avail := avail, u := u } 16500)
  let raised (a : Nat) : Bool := l.any fun m => m.addr == a && f.l.any fun n => n.addr == a && decide (m.t < n.t)
  let l2 := f.l.map fun m =>
    match f.left_.find? fun e => e.1 == m.addr with
    | some (_, p) => if m.t < m.d then
        { m with reason := if f.l.any (fun o => o.addr != m.addr && o.cls == c && bit o.mask p && raised o.addr) then 2 else 1 } else m
    | none => m
  (l2, f.avail)

/-- Step 1 of R543 for one running member. -/
def reserveStep (mn : Nat) (a : List Cand × List Int) (m : Cand) : List Cand × List Int :=
  if fits a.2 m.mask mn then (raise a.1 m.addr mn, takeOn a.2 m.mask mn)
  else (a.1.map (fun c => if c.addr = m.addr then { c with reason := 5 } else c), a.2)

/-- Admission of a member that is not running (step 2). -/
def enterStep (mn : Nat) (a : List Cand × List Int) (m : Cand) : List Cand × List Int :=
  if fits a.2 m.mask mn then (raise a.1 m.addr mn, takeOn a.2 m.mask mn)
  else (a.1.map (fun c => if c.addr = m.addr then { c with reason := 1 } else c), a.2)

/-- The targets of R543. -/
def targets (l : List Cand) (avail : List Int) (mn : Nat) : List Cand :=
  let s1 := (sortBy byRank (l.filter (·.running))).foldl (reserveStep mn) (l, avail)
  ((List.range 7).foldl (fun (a : List Cand × List Int) i =>
    let c := i + 1
    let b := (sortBy byDeferral (l.filter fun m => m.cls == c && !m.running)).foldl (enterStep mn) a
    fillClass b.1 b.2 c mn) s1).1

/-! ### Grants (R545 to R548) -/

/-- G and its REASON from the target `t`, its reason, the last answered grant `a` and the smallest headroom `h`. -/
def grantOf (t reason a mn ramp : Nat) (h : Int) : Nat × Nat :=
  if t ≤ a then (t, reason)
  else
    let r := if a = 0 then max mn ramp else a + ramp
    let hd := a + h.toNat
    let g0 := min t (min r hd)
    let g := if a = 0 ∧ g0 < mn then 0 else g0
    (g, if g < t then (if hd ≤ r then 4 else 3) else reason)

/-- Refusal (R547) of an admitted address: its reason. -/
def State.refusal (s : State) (k : Nat) : Option Nat :=
  let i := k - 1
  let m := s.amem k
  let d := s.get (F.PWA_MEM_DEMAND.i i)
  let ph := s.get (F.PWA_MEM_PHMASK.i i)
  let dm := s.get F.PWA_ALLOCCFG_DEFERMAX
  if d = 0 then none
  else if m.refused.isSome then m.refused
  else if s.get (F.PWA_MEM_CLASS.i i) = 0 then some 8
  else if ph = 0 ∨ (phases ph).any (fun p => s.get (F.PWA_LIM_LIM.i p) == 0) then some 7
  else if dm ≠ 0 ∧ s.get (F.PWA_MEM_DEFERS.i i) > dm * 32 then some 6
  else none

/-- Take the refusals of an allocation, with event 0x0A13 at each new one. -/
def State.refuseAll (s : State) : State :=
  (List.range 32).foldl (fun (t : State) i =>
    let k := i + 1
    if t.memAdmitted k then
      let r := t.refusal k
      let m := t.amem k
      let u := t.setAmem k { m with refused := r }
      if r.isSome ∧ m.refused = none then u.logE Page.PWA 0x0A13 (args [k, r.getD 0]) else u
    else t) s

/-- The members that demand and are not refused. -/
def State.candidates (s : State) (r : Nat) : List Cand :=
  (List.range 32).filterMap fun i =>
    let k := i + 1
    let m := s.amem k
    let d := s.get (F.PWA_MEM_DEMAND.i i)
    if s.memAdmitted k ∧ d ≠ 0 ∧ m.refused = none then
      some { addr := k, cls := s.get (F.PWA_MEM_CLASS.i i), mask := s.get (F.PWA_MEM_PHMASK.i i), d := max d (s.get F.PWA_ALLOCCFG_MIN),
             running := m.running, since := if m.running then m.since else r, defer := m.deferSince.getD r }
    else none

/-- Record G, OUTCOME and REASON of address `k` (R546, R548). -/
def State.recordGrant (s : State) (r k g oc re t : Nat) : State :=
  let i := k - 1
  let m := s.amem k
  let run := decide (t ≥ s.get F.PWA_ALLOCCFG_MIN) && decide (t > 0)
  let m' := { m with g := g, k := max m.k g, grants := (g, r + 2, false) :: m.grants, running := run,
                     since := if run then (if m.running then m.since else r) else m.since,
                     deferSince := if oc = 2 then some (m.deferSince.getD r) else m.deferSince }
  let changed := oc != s.get (F.PWA_MEM_OUTCOME.i i) || re != s.get (F.PWA_MEM_REASON.i i)
  let s1 := ((s.setAmem k m').put (F.PWA_MEM_OUTCOME.i i) oc).put (F.PWA_MEM_REASON.i i) re
  let s2 := s1.put (F.PWA_MEM_DEFERS.i i) (if oc = 2 then sat 16 (s.get (F.PWA_MEM_DEFERS.i i) + 1) else 0)
  s2.when changed fun t => (t.irq Page.PWA 3).logE Page.PWA 0x0A10 (args [k, oc, re, g])

/-- The grant of one member (R545). -/
def State.grantMember (s : State) (r : Nat) (c : Cand) : State :=
  let h := ((phases c.mask).map s.headroom).foldl min (2 ^ 20 : Int)
  let (g, re) := grantOf c.t c.reason (s.amem c.addr).a (s.get F.PWA_ALLOCCFG_MIN) (s.get F.PWA_ALLOCCFG_RAMP) h
  if g = c.d then s.recordGrant r c.addr g 0 0 c.t
  else if g > 0 then s.recordGrant r c.addr g 1 re c.t
  else s.recordGrant r c.addr 0 2 re c.t

/-- Event 0x0A15 for a phase whose roster fallbacks exceed LIM - RESV (R549). -/
def State.checkRoster (s : State) (p : Nat) : State :=
  let sum := ((List.range 32).map fun i => if bit (s.rosterMask (i + 1)) p then s.rosterFb (i + 1) else 0).sum
  let room := s.siteRoom p
  if (sum : Int) > room ∧ !bit s.alloc.rosterLogged p then
    ({ s with alloc := { s.alloc with rosterLogged := s.alloc.rosterLogged + 2 ^ p } } : State).logE Page.PWA 0x0A15
      (args [p, ((sum : Int) - room).toNat])
  else s

/-- A change of the master configuration lets event 0x0A15 arise again (R549). -/
def State.rosterChanged (s : State) : State := { s with alloc := { s.alloc with rosterLogged := 0 } }

/-- ALLOCATION (R540 to R549, R553): the allocation at the end of round `r`. -/
def State.allocate (s : State) (r : Nat) : State :=
  let s1 := ((s.ownValues (s.get F.CLU_CFG_ADDR)).settleAll r).refuseAll
  let mn := s.get F.PWA_ALLOCCFG_MIN
  let avail := (List.range 3).map fun p =>
    s1.siteRoom p - (((List.range 32).map fun i =>
      if !s1.memAdmitted (i + 1) && bit (s1.amem (i + 1)).mask p then (s1.amem (i + 1)).k else 0).sum : Nat)
  let cs := targets (s1.candidates r) avail mn
  let s2 := (sortBy byRank cs).foldl (fun (t : State) c => t.grantMember r c) s1
  let s3 := (List.range 32).foldl (fun (t : State) i =>
    let k := i + 1
    if t.memAdmitted k && !(cs.any fun c => c.addr == k) then
      match (t.amem k).refused with
      | some re => t.recordGrant r k 0 3 re 0
      | none => t.recordGrant r k 0 0 0 0
    else t) s2
  let s4 := (List.range 32).foldl (fun (t : State) i => t.noteAmem (i + 1)) s3
  let s5 := (List.range 3).foldl (fun (t : State) p =>
    ((t.put (F.PWA_PHSUM_SUMK.i p) (min 65535 (t.sumK p))).put (F.PWA_PHSUM_H.i p) (ofSigned 16 (t.headroom p))).checkRoster p) s4
  let s6 := match (List.range 3).find? fun p => decide (s1.headroom p < 0) with
    | some p => (s5.irq Page.PWA 5).logE Page.PWA 0x0A11 (args [p, ofSigned 64 (s1.headroom p)])
    | none => s5
  (s6.put F.PWA_ROUND_N r).irq Page.PWA 2

/-- This module begins or ends computing allocations (R529, R551). -/
def State.noteAllocMaster (s : State) (on : Bool) : State :=
  let s1 := (s.put F.PWA_STAT_MASTER (b2n on)).resetRange 0x40041200 0x40041400
  { s1 with alloc := { s1.alloc with mem := List.replicate 32 {} } }

end Sys2Proof.Machine
end

