-- ==== Sys2Proof/Machine/Pattern.lean ====
section
/-!
DEFINITION. Machine/Pattern.lean: the pattern generator and checker of every link block (chapter 20, sections 1 and 2).
-/

namespace Sys2Proof.Machine

def State.pat (s : State) (page : Nat) : PatBlock := storeRead (fun _ => {}) s.pats page

def State.setPat (s : State) (page : Nat) (b : PatBlock) : State := { s with pats := storeWrite (fun _ => {}) s.pats page b }

/-- Degree, second tap and inversion of a sequence (Table 20-2). The fixed word and the alternation repeat after 32 and 2
bits: their next bit is the oldest one of the register. -/
def patInfo (pattern : Nat) : Option (Nat × Nat × Bool) :=
  match pattern with
  | 1 => some (9, 5, false)
  | 2 => some (11, 9, false)
  | 3 => some (15, 14, true)
  | 4 => some (20, 3, false)
  | 5 => some (23, 18, true)
  | 6 => some (31, 28, true)
  | 7 => some (32, 0, false)
  | 8 => some (2, 0, false)
  | _ => none

/-- The next bit of a shift register whose newest bit is bit 0. -/
def patNext (n k reg : Nat) : Bool := if k = 0 then bit reg (n - 1) else bit reg (n - 1) != bit reg (k - 1)

/-- Shift a bit into an `n`-bit register. -/
def patShift (n reg : Nat) (b : Bool) : Nat := (2 * reg + b2n b) % 2 ^ n

/-- The register with which a generator starts: all ones (R763); for the fixed word and the alternation, so that their
first bits come first. -/
def State.patStart (s : State) (page pattern : Nat) : Nat :=
  match pattern with
  | 7 => s.get (F.PAT_WORD.on page)
  | 8 => 2
  | p => match patInfo p with
    | some (n, _, _) => 2 ^ n - 1
    | none => 0

/-- Is the sequence inverted on the line: by O.150, by INV, or by both (not)? -/
def State.patInv (s : State) (page : Nat) : Bool :=
  (match patInfo (s.get (F.PAT_CTL_PATTERN.on page)) with
   | some (_, _, inv) => inv
   | none => false) != s.on (F.PAT_CTL_INV.on page)

/-- Does the page generate, and does it check? -/
def State.genOn (s : State) (page : Nat) : Bool := s.on (F.PAT_STAT_GENON.on page)

def State.chkOn (s : State) (page : Nat) : Bool := s.on (F.PAT_CTL_CHK.on page)

/-- The loop in force: LOOP while a generator runs, else 0. -/
def State.loopOf (s : State) (page : Nat) : Nat := if s.genOn page then s.get (F.PAT_CTL_LOOP.on page) else 0

/-- The next generated bit of a lane: the oldest bit of its register (DEDUCED: the ones of R763 come first). -/
def State.genBit (s : State) (page lane : Nat) : Bool × State :=
  match patInfo (s.get (F.PAT_CTL_PATTERN.on page)) with
  | none => (false, s)
  | some (n, k, _) =>
    let b := s.pat page
    let r := b.gen.getD lane 0
    let out := (bit r (n - 1) != s.patInv page) != b.inj
    (out, s.setPat page { b with gen := b.gen.set lane (patShift n r (patNext n k r)), inj := false })

/-- The next `m` generated bits of a lane, in the order of sending. -/
def State.genBits (s : State) (page lane : Nat) : Nat → List Bool × State
  | 0 => ([], s)
  | m + 1 =>
    let r := s.genBit page lane
    let t := r.2.genBits page lane m
    (r.1 :: t.1, t.2)

/-- Does a full register stand at one of the alignments of the fixed word or of the alternation (R764)? -/
def patAligned (pattern word reg : Nat) : Bool :=
  match pattern with
  | 7 => (List.range 32).any fun a => (word * 2 ^ a) % 2 ^ 32 + word / 2 ^ (32 - a) == reg
  | 8 => reg == 1 || reg == 2
  | _ => true

/-- Has a second passed since the last event 0x1012 of the page (R764)? -/
def State.lossDue (s : State) (page : Nat) : Bool := (s.pat page).lossAt.all fun t => decide (t + 16384000 ≤ s.angle.now)

/-- Lose synchronisation on a lane (R764): SLIP, a new loading, and event 0x1012 at most once a second for the page. -/
def State.loseSync (s : State) (page lane : Nat) : State :=
  let b := s.pat page
  let at_ := if s.lossDue page then some s.angle.now else b.lossAt
  let s1 := ((s.setPat page { b with lanes := b.lanes.set lane {}, lossAt := at_ }).putBit (F.PAT_STAT_SYNC.on page) lane false).incSat
    (F.PAT_SLIP_LOSSES.on page)
  s1.when (s.lossDue page) (·.logE page 0x1012 (args [pageIndex page, lane]))

/-- One received bit of a lane at the checker (R764). A wrong prediction before synchronisation loads again (DEDUCED). -/
def State.checkBit (s : State) (page lane : Nat) (rx : Bool) : State :=
  let pattern := s.get (F.PAT_CTL_PATTERN.on page)
  match patInfo pattern with
  | none => s
  | some (n, k, _) =>
    let b := s.pat page
    let l := b.lanes.getD lane {}
    let x := rx != s.patInv page
    let put (l' : PatLane) : State := s.setPat page { b with lanes := b.lanes.set lane l' }
    if l.load < n then
      let reg := patShift n l.reg x
      if l.load + 1 = n ∧ !patAligned pattern (s.get (F.PAT_WORD.on page)) reg then put { l with reg := reg }
      else put { l with load := l.load + 1, reg := reg, good := 0 }
    else
      let p := patNext n k l.reg
      let reg := patShift n l.reg p
      if l.sync then
        let wrong := ((p != x) :: l.wrong).take 64
        let s1 := put { l with reg := reg, wrong := wrong }
        let s2 := (s1.putW (F.PAT_BITS.on page) (s1.getW (F.PAT_BITS.on page) + 1)).when (p != x) fun t =>
          t.putW ((F.PAT_ERR.on page).i lane) (t.getW ((F.PAT_ERR.on page).i lane) + 1)
        if wrong.count true ≥ 16 then s2.loseSync page lane else s2
      else if p = x then
        let s1 := put { l with reg := reg, good := l.good + 1, sync := decide (64 ≤ l.good + 1), wrong := [] }
        if l.good + 1 ≥ 64 then s1.putBit (F.PAT_STAT_SYNC.on page) lane true else s1
      else put { load := 1, reg := patShift n 0 x }

/-- Received bits of a lane at the checker, in the order of reception. -/
def State.checkBits (s : State) (page lane : Nat) (l : List Bool) : State :=
  l.foldl (fun (t : State) b => t.checkBit page lane b) s

/-- The bits of a byte string in the order in which a link sends them (`msb`: highest first). -/
def byteBits (msb : Bool) (l : List Byte) : List Bool :=
  l.flatMap fun b => if msb then msbBits 8 b.toNat else lsbBits 8 b.toNat

/-- Bits to a number, first bit lowest. -/
def ofLsb : List Bool → Nat
  | [] => 0
  | b :: bs => b2n b + 2 * ofLsb bs

/-- Bits to a number, first bit highest. -/
def ofMsb (l : List Bool) : Nat := l.foldl (fun n b => 2 * n + b2n b) 0

/-- A test frame at the checker of GPM or ETH (R767): EtherType 0x88B6, a frame number, 1 020 bytes of the sequence. A
gap in the numbers counts the missing frames, and the checker loads again. -/
def State.checkFrame (s : State) (page : Nat) (frame : List Byte) : State :=
  let num := ofBytes ((frame.drop 14).take 4)
  let b := s.pat page
  let gap := match b.expect with
    | some e => (num + 2 ^ 32 - e) % 2 ^ 32
    | none => 0
  let s1 := s.setPat page { b with expect := some ((num + 1) % 2 ^ 32) }
  let s2 := if gap = 0 then s1 else
    (s1.setPat page { s1.pat page with lanes := List.replicate 3 {} }).putBit (F.PAT_STAT_SYNC.on page) 0 false |>.addSat
      (F.PAT_SLIP_MISSING.on page) gap
  s2.checkBits page 0 (byteBits false ((frame.drop 18).take 1020))

/-- Is the frame a test frame (R767)? -/
def testFrame (frame : List Byte) : Bool := frame.getD 12 0 == 0x88 && frame.getD 13 0 == 0xB6

/-- The next generated frame, to broadcast from `src` (R767). -/
def State.genFrame (s : State) (page src : Nat) : List Byte × State :=
  let b := s.pat page
  let s1 := s.setPat page { b with frame := (b.frame + 1) % 2 ^ 32 }
  let r := s1.genBits page 0 (8 * 1020)
  let body := toBytes 1020 (ofLsb r.1)
  (List.replicate 6 0xFF ++ toBytes 6 src ++ [0x88, 0xB6] ++ toBytes 4 b.frame ++ body, r.2)

/-- The link type of a page: its block type of Table 3-1, or 0. -/
def blockType (page : Nat) : Nat :=
  match pageRow page with
  | some p => if p.link then p.type else 0
  | none => 0

/-- Is the pattern block present on the page (R761)? -/
def linkPage (page : Nat) : Bool := blockType page != 0

/-- The highest LOOP value that Table 20-3 gives for the page. -/
def loopMax (page : Nat) : Nat :=
  match blockType page with
  | 0x0021 => 2
  | 0x0062 => 2
  | 0x0060 => if page = Page.U 2 ∨ page = Page.U 3 then 2 else 1
  | _ => 1

/-- The first condition of Table 20-3 that a start does not meet, counted from 1. -/
def State.genBlocked (s : State) (page loop : Nat) : Option Nat :=
  let ctlEn := s.getBit ⟨page + 8, 0, 32, 0, 0⟩ 0
  let first (l : List Bool) : Option Nat := (l.findIdx? (fun b => !b)).map (· + 1)
  match blockType page with
  | 0x0010 => if loop = 0 then first [s.get (F.HEAD_STAT_STATE.on (page - Page.HEAD 0)) == 4] else first [!ctlEn]
  | 0x0021 => if loop = 0 then first [s.on F.GPM_STAT_LINK] else none
  | 0x0030 => first [!ctlEn, s.locked]
  | 0x0061 => first [ctlEn, s.getBit ⟨page + 8, 0, 32, 0, 0⟩ 1, s.getBit ⟨page + 8, 0, 32, 0, 0⟩ 2, !s.getBit ⟨page + 0xC, 0, 32, 0, 0⟩ 1]
  | _ => first [ctlEn]

/-- Write the fields of PAT.CTL beside GEN and CHK; a reserved value keeps its field (R17). -/
def State.patFields (s : State) (page v : Nat) : State :=
  let p := bits v 2 4
  let s1 := (s.when (decide (1 ≤ p ∧ p ≤ 8)) fun t => t.put (F.PAT_CTL_PATTERN.on page) p).put (F.PAT_CTL_INV.on page) (bits v 6 1)
  let s2 := s1.when (decide (bits v 7 2 ≤ loopMax page)) fun t => t.put (F.PAT_CTL_LOOP.on page) (bits v 7 2)
  s2.when (blockType page == 0x0030 && decide (bits v 9 2 ≤ 2)) fun t => t.put (F.PAT_CTL_SLOTS.on page) (bits v 9 2)

/-- The port of a HEADn page. -/
def headOf (page : Nat) : Option (Fin 8) := (List.finRange 8).find? fun p => page == Page.HEAD p

/-- Command words that wait to be sent on a port, behind those that wait already (R169). -/
def State.sendCommands (s : State) (p : Fin 8) (l : List (Nat × Nat)) : State :=
  { s with heads := s.heads.set p { s.heads.get p with due := (s.heads.get p).due ++ l } }

/-- The module sends PATTERN with `arg` to a head, in four consecutive command words (R766). -/
def State.sendPattern (s : State) (p : Fin 8) (arg : Nat) : State :=
  ({ s with heads := s.heads.set p { s.heads.get p with patternSent := arg } }).sendCommands p (List.replicate 4 (5, arg))

/-- Start a generator (R763, R765, R766). -/
def State.startGen (s : State) (page v : Nat) : State :=
  if !linkPage page then s else
  let s1 := s.patFields page v
  if s1.on (F.PAT_CTL_GEN.on page) then s1
  else
    let loop := s1.get (F.PAT_CTL_LOOP.on page)
    match s1.genBlocked page loop with
    | some c => s1.logE page 0x1011 (args [pageIndex page, c])
    | none =>
      let pattern := s1.get (F.PAT_CTL_PATTERN.on page)
      let s2 := ((s1.put (F.PAT_CTL_GEN.on page) 1).put (F.PAT_STAT_GENON.on page) 1).put (F.PAT_STAT_LOOPON.on page) (b2n (loop != 0))
      let s3 := s2.setPat page { s2.pat page with gen := List.replicate 3 (s2.patStart page pattern), frame := 0 }
      let s4 := match headOf page with
        | some p => if loop = 0 then s3.sendPattern p (pattern + 16 * s3.get (F.PAT_CTL_INV.on page)) else s3
        | none => s3
      s4.logE page 0x1010 (args [pageIndex page, pattern, loop])

/-- Stop a generator: the head that runs its sequence (LOOP 0) is told to end it (R766). -/
def State.stopGen (s : State) (page : Nat) : State :=
  if !linkPage page then s else
  let s1 := ((s.put (F.PAT_CTL_GEN.on page) 0).put (F.PAT_STAT_GENON.on page) 0).put (F.PAT_STAT_LOOPON.on page) 0
  match headOf page with
  | some p => s1.when (s.genOn page && !s.on (F.PAT_STAT_LOOPON.on page)) (·.sendPattern p 0)
  | none => s1

/-- Start a checker (R761, R764): on CHK from 0 to 1 the counters clear and every lane loads. -/
def State.startChk (s : State) (page v : Nat) : State :=
  if !linkPage page then s else
  let s1 := s.patFields page v
  if s1.chkOn page then s1
  else
    let s2 := ((s1.put (F.PAT_CTL_CHK.on page) 1).putWords (page + 0xF10) 9 0).put (F.PAT_STAT_SYNC.on page) 0
    s2.setPat page { s2.pat page with lanes := List.replicate 3 {}, expect := none }

/-- Stop a checker: it compares nothing, and no lane is in synchronisation. -/
def State.stopChk (s : State) (page : Nat) : State :=
  let s1 := (s.put (F.PAT_CTL_CHK.on page) 0).put (F.PAT_STAT_SYNC.on page) 0
  s1.setPat page { s1.pat page with lanes := List.replicate 3 {}, expect := none }

/-- PAT.CTL takes its reset value, a head pattern is ended (R768). -/
def State.resetPat (s : State) (page : Nat) : State :=
  if !linkPage page then s else
  let s1 := (s.stopGen page).resetRange (page + 0xF00) (page + 0xF40)
  s1.setPat page {}

/-- A head port leaves RUN while a pattern runs with LOOP 0 (R778). -/
def State.patPortLeft (s : State) (p : Fin 8) : State :=
  let page := Page.HEAD p
  if s.genOn page ∧ s.get (F.PAT_CTL_LOOP.on page) = 0 then
    let sync := s.get (F.PAT_STAT_SYNC.on page)
    let s1 := (List.range 3).foldl (fun (t : State) l => if bit sync l then t.logE page 0x1012 (args [pageIndex page, l]) else t) s
    let s2 := (s1.stopGen page).put (F.PAT_STAT_SYNC.on page) 0
    s2.setPat page { s2.pat page with lanes := List.replicate 3 {} }
  else s

/-- At t₀ of the power-fail sequence every generator stops (R768). -/
def State.stopAllGen (s : State) : State :=
  pageRows.foldl (fun (t : State) p => if p.link && t.genOn p.base then t.stopGen p.base else t) s

end Sys2Proof.Machine
end

