-- ==== Sys2Proof/Machine/Cluster.lean ====
section
/-!
DEFINITION. Machine/Cluster.lean: the Llyn link: slots and frames, joining and leaving, election, bulk mode and joint
actions (chapter 13).
-/

namespace Sys2Proof.Machine

/-! ### Frames -/

/-- The 96 bits of a frame, first bit highest (Table 13-3, R492). -/
def llynBits (dst src type seq pay : Nat) : Nat :=
  let body := pay % 2 ^ 36 + 2 ^ 36 * (seq % 16 + 16 * (type % 16) + 2 ^ 8 * (src % 64) + 2 ^ 14 * (dst % 64))
  0xFFD391 * 2 ^ 72 + body * 2 ^ 16 + crcBits 16 0x1021 0xFFFF (msbBits 56 body)


def State.ownAddr (s : State) : Nat := s.get F.CLU_CFG_ADDR
def State.ownKey (s : State) : Nat := s.get F.CLU_EKEY
def State.lstate (s : State) : Nat := s.get F.CLU_STAT_LSTATE

/-- Enter a link state of CLU.STAT.LSTATE. -/
def State.toLink (s : State) (st : Nat) : State := if s.lstate = st then s else (s.put F.CLU_STAT_LSTATE st).irq Page.CLU 0

/-- A frame failed: event 0x090E once for a poll round with more than 16 of them. -/
def State.countCrc (s : State) : State :=
  let n := s.cluster.crcRound + 1
  let s1 := ({ s with cluster := { s.cluster with crcRound := n } } : State).incSat F.CLU_CNT_CRC
  if n = 17 then (s1.irq Page.CLU 6).logE Page.CLU 0x090E n else s1

/-- A frame reaches the receiver: discarded while the link is off; misplaced while the clock is not LOCKED (R490); not good
when DST or SRC is not permitted for its TYPE (R495). -/
def State.goodFrame (s : State) (f : LlynFrame) (permitted : Bool) (k : State → State) : State :=
  if !s.on F.CLU_CTL_EN then s
  else if !s.locked then s.incSat F.CLU_CNT_MISPL
  else if !permitted then s.countCrc
  else k ((s.put F.CLU_LINKQ_LEVEL f.level.toNat).put F.CLU_LINKQ_SNR f.snr.toNat)

/-- A member address (R493). -/
def memberAddr (n : Nat) : Bool := decide (1 ≤ n ∧ n ≤ 32)

/-- The frame is addressed by the master to a member, or to all. -/
def toMember (f : LlynFrame) : Bool := f.src.toNat == 0 && memberAddr f.dst.toNat
def toAll (f : LlynFrame) : Bool := f.src.toNat == 0 && f.dst.toNat == 63
/-- The frame is an answer of a member to the master. -/
def toMaster (f : LlynFrame) : Bool := f.dst.toNat == 0 && memberAddr f.src.toNat

/-! ### Admission and the master role -/

/-- The admission of this module ends (R505): cause 1 POLL, 2 LEAVE, 3 loss of the master, 4 EN written. -/
def State.endAdmission (s : State) (cause : Nat) : State :=
  let s1 : State := { s with cluster := { s.cluster with held := none, granted := none, answer := none } }
  if s.isAdmitted then s1.logE Page.CLU 0x0902 cause else s1

/-- Take the master role (R509, R510): every address vacant, every SEQ 0. -/
def State.becomeMaster (s : State) : State :=
  let s1 := if s.on F.CLU_STAT_CCNOK then s else (s.put F.CLU_CCNOFS 0).put F.CLU_STAT_CCNOK 1
  let s2 := (s1.resetRange 0x40040100 0x40040200).put F.CLU_MEMBERS 0
  let s3 : State := { s2 with cluster := { s2.cluster with
    lost := false, held := none, granted := none, awaits := none, answer := none, lastTx := [], bcSeq := 0, requests := [], sentAt := s.cycles,
    grant := none, skipPrev := [], skipNow := [], timeDue := false, actTxAt := none, decided := false } }
  let s4 := ((s3.put F.UPD_ARMMAP 0).toLink 6).noteAllocMaster true
  let k := s4.ownAddr
  ((s4.recordStatus k s4.statusPayload).admitMem k).logE Page.CLU 0x0906 s4.ccn

/-- Give up the master role (R511): argument of event 0x0907 and the link state that follows. -/
def State.yieldMaster (s : State) (prio st : Nat) : State :=
  let s1 := (s.resetRange 0x40040100 0x40040200).put F.CLU_MEMBERS 0
  let s2 : State := { s1 with cluster := { s1.cluster with
    held := none, granted := none, awaits := none, requests := [], lastTx := [], bcSeq := 0, timeDue := false, masterAt := s.cycles } }
  (((s2.put F.UPD_ARMMAP 0).toLink st).noteAllocMaster false).logE Page.CLU 0x0907 prio

/-- Slot A of the listen cycle of a master (R500, R511). -/
def State.listens (s : State) : Bool := s.cluster.slotCcn % 32 + 1 == s.ownAddr && s.cluster.slotCcn / 32 % 4 == 3 && !s.cluster.inB

/-- A good master frame is heard (R508, R509): a loss ends with event 0x0904 (`prio`: PRIO of a BEACON, else 0xFF), and a
candidate stops. -/
def State.hearMaster (s : State) (prio : Nat) : State :=
  let s1 : State := { s with cluster := { s.cluster with lost := false, heard := true, lastCcn := s.ccn, masterAt := s.cycles } }
  let s2 := if [1, 4, 5].contains s.lstate then s1.toLink 7 else s1
  if s.cluster.lost then s2.logE Page.CLU 0x0904 prio else s2

/-- A good frame of TYPE 0x0 to 0x6 from address 0. A master acts on it only in slot A of its listen cycle (R511): it keeps its role
before a BEACON of worse PRIO; in slot B it is a frame other than the answer that the master awaits (R503). -/
def State.onMasterFrame (s : State) (beacon : Option Nat) (k : State → State) : State :=
  if s.isMaster then
    if s.listens then
      match beacon with
      | some p => if p > s.get F.CLU_CFG_PRIO then s else s.yieldMaster p 7
      | none => s.yieldMaster 0xFF 7
    else if s.cluster.inB then s.incSat F.CLU_CNT_UNANS
    else s
  else k (s.hearMaster (beacon.getD 0xFF))

/-- The CCN of a POLL or BEACON (R489, R512). -/
def State.takeCcn (s : State) (c : Nat) : State :=
  let old := s.ccn
  let near := (c + 2 ^ 32 - old) % 2 ^ 32 ≤ 1 ∨ (old + 2 ^ 32 - c) % 2 ^ 32 ≤ 1
  let s1 := (s.put F.CLU_CCNOFS ((c + 2 ^ 32 - s.cycles % 2 ^ 32) % 2 ^ 32)).put F.CLU_STAT_CCNOK 1
  let s2 : State := { s1 with cluster := { s1.cluster with lastCcn := c } }
  if s.on F.CLU_STAT_CCNOK && !decide near then
    let s3 : State := { s2 with cluster := { s2.cluster with held := none } }
    (((s3.put F.CLU_ACTRX_VALID 0).put F.UPD_ACTST_VALID 0).disarmCluster 2).logE Page.CLU 0x090A (args [old, c])
  else s2

/-- The answer that slot B will carry (Table 13-6). -/
def State.prepareAnswer (s : State) (type seq : Nat) : State := { s with cluster := { s.cluster with answer := some (type, seq) } }

/-- JOIN as the answer of a module that is not admitted. -/
def State.answerJoin (s : State) (seq : Nat) : State := (s.toLink 2).prepareAnswer 0xA seq

/-- POLL_RECEIVED (R502, R504, R505). -/
def State.pollReceived (s : State) (f : LlynFrame) : State :=
  s.goodFrame f (toMember f) fun t => t.onMasterFrame none fun u =>
    let u1 := u.takeCcn (f.pay.toNat % 2 ^ 32)
    if f.dst.toNat = u1.ownAddr then ((u1.endAdmission 1).put F.CLU_STAT_DUP 0).answerJoin f.seq.toNat else u1

def execPollReceived (f : LlynFrame) (s : State) : Host.Outcome State Fault Refusal := .next (s.pollReceived f)

/-- The own block that waits for a transfer: receiver, frames and transfer (Table 17-3). -/
def State.bulkWaiting (s : State) : Option BulkReq :=
  match s.txFrame 5 with
  | some (_, l, aux) => some ⟨s.ownAddr, bits aux 0 6, (l.length + 3) / 4, bits aux 8 4, s.cycles⟩
  | none => none

/-- GRANT_RECEIVED (R502, R506, R514, R515). -/
def State.grantReceived (s : State) (f : LlynFrame) : State :=
  s.goodFrame f (toMember f) fun t => t.onMasterFrame none fun u =>
    if f.dst.toNat ≠ u.ownAddr ∨ u.on F.CLU_STAT_DUP then u
    else if !u.isAdmitted then u.answerJoin f.seq.toNat
    else
      let u1 := if u.on F.CLU_STAT_CCNOK then u.holdGrant f.pay.toNat f.seq.toNat else u
      if u1.on F.CLU_CTL_LEAVE then u1.prepareAnswer 0xB f.seq.toNat
      else match u1.bulkWaiting with
        | some b =>
          if u1.on F.CLU_CTL_BULKEN && !u1.cluster.bulkAsked && !u1.cluster.won then
            ({ u1 with cluster := { u1.cluster with bulkAsked := true, mine := some (u1.cluster.mine.getD b) } } : State).prepareAnswer 0xC f.seq.toNat
          else ({ u1 with cluster := { u1.cluster with bulkAsked := false } } : State).prepareAnswer 0x9 f.seq.toNat
        | none => ({ u1 with cluster := { u1.cluster with bulkAsked := false } } : State).prepareAnswer 0x9 f.seq.toNat

def execGrantReceived (f : LlynFrame) (s : State) : Host.Outcome State Fault Refusal := .next (s.grantReceived f)

/-- ADMIT_RECEIVED (R502, R504). -/
def State.admitReceived (s : State) (f : LlynFrame) : State :=
  s.goodFrame f (toMember f) fun t => t.onMasterFrame none fun u =>
    let key := f.pay.toNat % 2 ^ 32
    if f.dst.toNat ≠ u.ownAddr then u
    else if key ≠ u.ownKey then
      (({ u with cluster := { u.cluster with answer := none } } : State).put F.CLU_STAT_DUP 1).logE Page.CLU 0x0905 key
    else if u.lstate = 2 ∧ !u.on F.CLU_STAT_DUP then
      let u1 : State := { u with cluster := { u.cluster with held := none, granted := none, bulkAsked := false } }
      (((u1.toLink 3).logE Page.CLU 0x0901 u.ownAddr).prepareAnswer 0x9 f.seq.toNat).tryArm
    else u

def execAdmitReceived (f : LlynFrame) (s : State) : Host.Outcome State Fault Refusal := .next (s.admitReceived f)

/-- BEACON_RECEIVED (R489, R511, R512). -/
def execBeaconReceived (f : LlynFrame) (s : State) : Host.Outcome State Fault Refusal :=
  .next (s.goodFrame f (toAll f) fun t => t.onMasterFrame (some (bits f.pay.toNat 32 4)) fun u => u.takeCcn (f.pay.toNat % 2 ^ 32))

/-- The value closest to `now` with the low 32 bits `low` (R516). -/
def extendUtc (low now : Nat) : Nat :=
  let c := now / 2 ^ 32 * 2 ^ 32 + low
  if c > now + 2 ^ 31 then (if c ≥ 2 ^ 32 then c - 2 ^ 32 else c) else if c + 2 ^ 31 < now then c + 2 ^ 32 else c

/-- TIME_RECEIVED (R516). -/
def execTimeReceived (f : LlynFrame) (s : State) : Host.Outcome State Fault Refusal :=
  .next (s.goodFrame f (toAll f) fun t => t.onMasterFrame none fun u =>
    let v := extendUtc (f.pay.toNat % 2 ^ 32) u.utc
    (((u.putW F.CLU_TIMERX_UTC v).putW F.CLU_TIMERX_CYC u.cycles).irq Page.CLU 2).logE Page.CLU 0x090F v)

/-- ACTIVATE_RECEIVED (R517, R744, R747). -/
def State.activateReceived (s : State) (f : LlynFrame) : State :=
  s.goodFrame f (toAll f) fun t => t.onMasterFrame none fun u =>
    let target := f.pay.toNat % 2 ^ 32
    let id := bits f.pay.toNat 32 3
    let ab := bits f.pay.toNat 35 1
    let ahead := (target + 2 ^ 32 - u.ccn) % 2 ^ 32
    let act := u.on F.CLU_ACTRX_VALID && u.get F.CLU_ACTRX_TARGET == target && u.get F.CLU_ACTRX_ACTID == id
    let same := act && u.get F.CLU_ACTRX_ABORT == ab
    let u1 := (((u.put F.CLU_ACTRX_TARGET target).put F.CLU_ACTRX_ACTID id).put F.CLU_ACTRX_ABORT ab).put F.CLU_ACTRX_VALID 1
    let u2 := if same then u1
      else (({ u1 with cluster := { u1.cluster with actRxAt := u.ccn } } : State).irq Page.CLU 3).logE Page.CLU 0x0910 (args [id, ab, target])
    let u3 := (u2.put F.UPD_ACTST_ACTID id).put F.UPD_ACTST_VALID 1
    let u4 := if act then u3 else (u3.put F.UPD_ACTST_ABORTSEEN 0).put F.UPD_ACTST_COMMITSEEN 0
    if ab = 1 then (u4.put F.UPD_ACTST_ABORTSEEN 1).noteAbort id target
    else if 1 ≤ ahead ∧ ahead ≤ 256 then (u4.tryArm).put F.UPD_ACTST_COMMITSEEN 1
    else u4.tryArm

def execActivateReceived (f : LlynFrame) (s : State) : Host.Outcome State Fault Refusal := .next (s.activateReceived f)

/-- Is this module the receiver of a transfer? -/
def State.bulkMine (s : State) (receiver : Nat) : Bool := receiver == s.ownAddr || receiver == 63

/-- The transfer that the next cycles belong to begins at this module (R513). -/
def State.openBulk (s : State) (g : BulkGrant) : State :=
  let own := g.sender = s.ownAddr ∧ (s.cluster.mine.any fun b => b.tid == g.tid && b.receiver == g.receiver)
  let rx := s.bulkMine g.receiver ∧ g.sender ≠ s.ownAddr
  let len := if own then ((s.cluster.mine.map (·.len)).getD 0) else g.len
  let s1 : State := { s with cluster := { s.cluster with
    grant := some { g with len := len }, won := decide own, acked := false, rx := List.replicate 116 0, rxMap := 0 } }
  if own ∨ rx then s1.put F.CLU_STAT_BULK 1 else s1

/-- BULKGRANT_RECEIVED (R513). A grant of 0 cycles, a reserved value, opens no transfer. -/
def execBulkgrantReceived (f : LlynFrame) (s : State) : Host.Outcome State Fault Refusal :=
  .next (s.goodFrame f (toAll f) fun t => t.onMasterFrame none fun u => u.when (bits f.pay.toNat 20 4 != 0) fun w =>
    w.openBulk { sender := bits f.pay.toNat 30 6, receiver := bits f.pay.toNat 24 6, ncyc := bits f.pay.toNat 20 4, tid := bits f.pay.toNat 16 4, ccn := w.ccn })

/-- CLAIM_RECEIVED (R509): a candidate that waits or claims stops. -/
def execClaimReceived (f : LlynFrame) (s : State) : Host.Outcome State Fault Refusal :=
  .next (s.goodFrame f (toAll f) fun t =>
    let t1 : State := { t with cluster := { t.cluster with heard := true } }
    if t.lstate = 5 then t1.toLink 1 else t1)

/-- Granted cycle of the transfer in which the running slots lie (1 to NCYC), if any. -/
def State.bulkCycle (s : State) : Option (BulkGrant × Nat) :=
  match s.cluster.grant with
  | none => none
  | some g =>
    let k := (s.cluster.slotCcn + 2 ^ 32 - g.ccn) % 2 ^ 32
    if 1 ≤ k ∧ k ≤ g.ncyc then some (g, k) else none

/-- A good frame of slot B that is not the answer which the master awaits is counted (R503). -/
def State.unexpected (s : State) : State := s.when (s.isMaster && s.cluster.inB) (·.incSat F.CLU_CNT_UNANS)

/-- BULK_RECEIVED (R513, R514). -/
def State.bulkReceived (s : State) (f : LlynFrame) (slotB : Bool) : State :=
  s.goodFrame f (f.dst.toNat == 63 || memberAddr f.dst.toNat) fun t =>
    match t.bulkCycle with
    | none => t.unexpected
    | some (g, k) =>
      let pos := 2 * (k - 1) + b2n slotB
      if t.bulkMine g.receiver ∧ t.bulkMine f.dst.toNat ∧ g.sender ≠ t.ownAddr ∧ f.src.toNat = g.sender ∧ bits f.pay.toNat 32 4 = g.tid ∧ f.seq.toNat = pos % 16 ∧ pos ≤ 28 then
        let d := toBytes 4 (f.pay.toNat % 2 ^ 32)
        { t with cluster := { t.cluster with
            rx := t.cluster.rx.take (4 * pos) ++ d ++ t.cluster.rx.drop (4 * pos + 4), rxMap := setBits t.cluster.rxMap pos 1 1 } }
      else t

def execBulkReceived (f : LlynFrame) (slotB : Bool) (s : State) : Host.Outcome State Fault Refusal := .next (s.bulkReceived f slotB)

/-! ### The master's side of slot B -/

/-- A frame in slot B is the answer that the master awaits when SRC and SEQ agree (R503); the master counts any other. -/
def State.onAnswer (s : State) (f : LlynFrame) (k : Nat → State → State) : State :=
  s.goodFrame f (toMaster f) fun t =>
    if t.isMaster ∧ t.cluster.inB ∧ t.cluster.awaits = some (f.src.toNat, f.seq.toNat) then k f.src.toNat t
    else t.unexpected

/-- The answer counts. -/
def State.takeAnswer (s : State) (k : Nat) : State :=
  ({ s with cluster := { s.cluster with answered := true } } : State).put (F.CLU_MEM_MISSES.i (k - 1)) 0

/-- The answer of an admitted address to its GRANT. -/
def State.takeGrantAnswer (s : State) (k : Nat) : State := (s.takeAnswer k).grantAnswered k

/-- STATUS_RECEIVED (R503, R504, R541, R745). -/
def State.statusReceived (s : State) (f : LlynFrame) : State :=
  s.onAnswer f fun k t =>
    let i := k - 1
    let armed (u : State) : State := u.putBit F.UPD_ARMMAP i (bit f.pay.toNat 1)
    if t.on (F.CLU_MEM_JOINING.i i) then
      let t1 := ((((t.takeAnswer k).put (F.CLU_MEM_JOINING.i i) 0).put (F.CLU_MEM_ADMITTED.i i) 1).putBit F.CLU_MEMBERS i true).irq Page.CLU 5
      let t2 := (t1.recordStatus k f.pay.toNat).admitMem k
      (armed t2).logE Page.CLU 0x0908 (args [k, t.get (F.CLU_MEM_EKEY.i i)])
    else if t.on (F.CLU_MEM_ADMITTED.i i) then armed ((t.takeGrantAnswer k).recordStatus k f.pay.toNat)
    else t

def execStatusReceived (f : LlynFrame) (s : State) : Host.Outcome State Fault Refusal := .next (s.statusReceived f)

/-- JOIN_RECEIVED (R504, R507): a vacant or joining address is recorded as joining; from an admitted address a JOIN with the
recorded EKEY lets it join again, one with another EKEY leaves the frame unanswered. -/
def State.joinReceived (s : State) (f : LlynFrame) : State :=
  s.onAnswer f fun k t =>
    let i := k - 1
    let key := f.pay.toNat % 2 ^ 32
    let known := t.get (F.CLU_MEM_EKEY.i i)
    if t.on (F.CLU_MEM_ADMITTED.i i) then
      if key = known then (((t.takeAnswer k).put (F.CLU_MEM_ADMITTED.i i) 0).put (F.CLU_MEM_JOINING.i i) 1).putBit F.CLU_MEMBERS i false
      else t
    else if t.on (F.CLU_MEM_JOINING.i i) then (if key = known then t.takeAnswer k else t)
    else ((t.takeAnswer k).put (F.CLU_MEM_EKEY.i i) key).put (F.CLU_MEM_JOINING.i i) 1

def execJoinReceived (f : LlynFrame) (s : State) : Host.Outcome State Fault Refusal := .next (s.joinReceived f)

/-- The master removes an address and makes it vacant, event 0x0909: cause 1 no answer, 2 LEAVE. The SEQ stays (R494). -/
def State.removeAddr (s : State) (k cause : Nat) : State :=
  let i := k - 1
  let s1 := ((((s.put (F.CLU_MEM_EKEY.i i) 0).put (F.CLU_MEM_MISSES.i i) 0).put (F.CLU_MEM_ADMITTED.i i) 0).put (F.CLU_MEM_JOINING.i i) 0).putBit
    F.CLU_MEMBERS i false
  let s2 := ((s1.putBit F.UPD_ARMMAP i false).irq Page.CLU 5).removeMem k (cause == 1)
  s2.logE Page.CLU 0x0909 (args [k, cause])

/-- LEAVE_RECEIVED (R506). -/
def execLeaveReceived (f : LlynFrame) (s : State) : Host.Outcome State Fault Refusal :=
  .next (s.onAnswer f fun k t =>
    if t.on (F.CLU_MEM_ADMITTED.i (k - 1)) ∧ f.pay.toNat % 2 ^ 32 = t.get (F.CLU_MEM_EKEY.i (k - 1)) then (t.takeAnswer k).removeAddr k 2
    else t)

/-- BULKREQ_RECEIVED (R513): the request waits until it can be granted within R501. -/
def execBulkreqReceived (f : LlynFrame) (s : State) : Host.Outcome State Fault Refusal :=
  .next (s.onAnswer f fun k t =>
    let len := bits f.pay.toNat 24 5
    if t.on (F.CLU_MEM_ADMITTED.i (k - 1)) ∧ 1 ≤ len ∧ len ≤ 29 then
      let t1 := t.takeGrantAnswer k
      { t1 with cluster := { t1.cluster with
          requests := t1.cluster.requests.filter (fun r => r.from_ != k) ++ [⟨k, bits f.pay.toNat 30 6, len, bits f.pay.toNat 20 4, t1.cycles⟩] } }
    else t)

/-- The last transfer as CLU.BULKST and BULKMAP report it. -/
def State.noteBulk (s : State) (tid len map : Nat) (done fail : Bool) : State :=
  ((((s.put F.CLU_BULKST_TID tid).put F.CLU_BULKST_DONE (b2n done)).put F.CLU_BULKST_FAIL (b2n fail)).put F.CLU_BULKST_LEN len).put
    F.CLU_BULKMAP_MAP map

/-- The end of a transfer whose MAP is known: complete or failed. -/
def State.bulkResult (s : State) (tid len map : Nat) : State :=
  let done := map % 2 ^ len == 2 ^ len - 1
  (s.noteBulk tid len map done (!done)).logE Page.CLU (if done then 0x090B else 0x090C) (args [tid, map])

/-- The own block has been sent: its descriptor completes with the MAP. -/
def State.finishMine (s : State) (map : Nat) : State :=
  let s1 : State := { s with cluster := { s.cluster with mine := none, won := false } }
  match s.txFrame 5 with
  | some (r, _, _) => (s1.frameDone r none (some map)).irq Page.CLU 4
  | none => s1.irq Page.CLU 4

/-- BULKACK_RECEIVED (R513): at the sender, and at the master. -/
def State.bulkackReceived (s : State) (f : LlynFrame) : State :=
  s.goodFrame f (memberAddr f.dst.toNat && memberAddr f.src.toNat) fun t =>
    match t.bulkCycle with
    | none => t.unexpected
    | some (g, k) =>
      let map := f.pay.toNat % 2 ^ 31
      if k = g.ncyc ∧ f.dst.toNat = g.sender ∧ f.src.toNat = g.receiver ∧ bits f.pay.toNat 32 4 = g.tid ∧ !t.cluster.acked then
        let t1 : State := { t with cluster := { t.cluster with acked := true } }
        if t.cluster.won then (t1.bulkResult g.tid g.len map).finishMine map
        else if t.isMaster then t1.bulkResult g.tid g.len map
        else t1
      else t

def execBulkackReceived (f : LlynFrame) (s : State) : Host.Outcome State Fault Refusal := .next (s.bulkackReceived f)

/-- BAD_FRAME (R490, R495, R522): cause 0 misplaced, 1 CRC, 2 reserved type or address not permitted, 3 SYNC not found. -/
def execBadFrame (cause : BitVec 2) (s : State) : Host.Outcome State Fault Refusal :=
  .next (if s.on F.CLU_CTL_EN then
    (if cause = 3 then s else if cause = 0 ∨ !s.locked then s.incSat F.CLU_CNT_MISPL else s.countCrc) else s)

/-! ### Loss of the master and election -/

/-- LOSS_OF_MASTER (R505, R508, R509): 96 cycles without a good master frame; a candidate begins to wait. -/
def State.loseMaster (s : State) : State :=
  if s.on F.CLU_CTL_EN ∧ [1, 2, 3, 7].contains s.lstate ∧ !s.cluster.lost ∧ s.cluster.masterAt + 96 ≤ s.cycles then
    let s1 := s.endAdmission 3
    let s2 : State := { s1 with cluster := { s1.cluster with lost := true, heard := false, waitFrom := s.cycles } }
    let s3 := (s2.incSat F.CLU_CNT_LOSSES).toLink (if s.get F.CLU_CFG_ROLE = 2 then 4 else 1)
    s3.logE Page.CLU 0x0903 s.cluster.lastCcn
  else s

def execLossOfMaster (s : State) : Host.Outcome State Fault Refusal := .next s.loseMaster

/-- The index of the current cycle as a candidate counts it (R509). -/
def State.electionIndex (s : State) : Nat := (if s.on F.CLU_STAT_CCNOK then s.ccn else s.cycles) % 32

/-- Has a candidate waited its cycles, and has a cycle with index 0 begun (R509)? -/
def State.waitOver (s : State) : Bool :=
  s.lstate == 4 && decide (s.cluster.waitFrom + s.get F.CLU_CFG_PRIO * 32 + s.ownKey % 32 ≤ s.cycles) && s.electionIndex == 0

/-- ELECTION_WAIT_END (R509): the candidate claims, unless it heard a master or a CLAIM while it waited. -/
def State.endWait (s : State) : State :=
  if s.cluster.heard then s.toLink 1 else ({ s with cluster := { s.cluster with claimFrom := s.cycles } } : State).toLink 5

def execElectionWaitEnd (s : State) : Host.Outcome State Fault Refusal := .next (s.when s.waitOver State.endWait)

/-- Has the claim round of a candidate ended, 32 cycles after its start (R509)? -/
def State.claimOver (s : State) : Bool := s.lstate == 5 && decide (s.cluster.claimFrom + 32 ≤ s.cycles)

/-- CLAIM_ROUND_END (R509). -/
def execClaimRoundEnd (s : State) : Host.Outcome State Fault Refusal := .next (s.when s.claimOver State.becomeMaster)

/-- Has this master not transmitted for 96 cycles (R511)? -/
def State.silentMaster (s : State) : Bool := s.isMaster && decide (s.cluster.sentAt + 96 ≤ s.cycles)

/-- MASTER_SILENCE (R511). -/
def execMasterSilence (s : State) : Host.Outcome State Fault Refusal := .next (s.when s.silentMaster (·.yieldMaster 0xFF 1))

/-- A write of CTL.EN (R504, R505): DUP and admission clear; off, the link stops. -/
def State.enableLink (s : State) (en : Bool) : State :=
  let s1 := (s.endAdmission 4).put F.CLU_STAT_DUP 0
  if en then
    let s2 := ({ s1 with cluster := { s1.cluster with masterAt := s.cycles } } : State).put F.CLU_CTL_EN 1
    (if s.lstate = 0 then s2.toLink 1 else if s.isAdmitted ∨ s.lstate = 2 then s2.toLink 7 else s2).noteTxok
  else
    let s2 := ((s1.put F.CLU_CTL_EN 0).put F.CLU_CTL_LEAVE 0).put F.CLU_STAT_BULK 0
    let s3 := if s.isMaster then ((s2.resetRange 0x40040100 0x40040200).put F.CLU_MEMBERS 0).noteAllocMaster false else s2
    ({ s3 with cluster := {} } : State).toLink 0 |>.noteTxok

/-- LINK_ENABLE (R504). -/
def execLinkEnable (en : Bool) (s : State) : Host.Outcome State Fault Refusal := .next (s.enableLink en)

/-- LEAVE_REQUEST (R506). -/
def execLeaveRequest (s : State) : Host.Outcome State Fault Refusal :=
  .next (if s.on F.CLU_CTL_EN then s.put F.CLU_CTL_LEAVE 1 else s)

/-- TIME_COMMAND (R516): no effect unless master. -/
def execTimeCommand (s : State) : Host.Outcome State Fault Refusal :=
  .next (if s.isMaster then { s with cluster := { s.cluster with timeDue := true } } else s)

/-- ACTTX_COMMIT (R517) by the owner of CLU: word 1 commits; no effect unless master. -/
def State.commitActtx (s : State) (v : Nat) : State :=
  let a := F.CLU_ACTTX_TARGET.addr
  let w := s.commitValue .app a 2 v
  let s0 := s.unstage .app a 2
  if s.isMaster then
    let new := w % 2 ^ 32 ≠ s.get F.CLU_ACTTX_TARGET ∨ bits w 32 3 ≠ s.get F.CLU_ACTTX_ACTID ∨ !s.on F.CLU_ACTTX_SEND
    let s1 := (((s0.put F.CLU_ACTTX_TARGET (w % 2 ^ 32)).put F.CLU_ACTTX_ACTID (bits w 32 3)).put F.CLU_ACTTX_ABORT (bits w 35 1)).put
      F.CLU_ACTTX_SEND (bits w 36 1)
    if new then { s1 with cluster := { s1.cluster with actTxAt := none, decided := false } } else s1
  else s0

def execActtxCommit (v : Word) (s : State) : Host.Outcome State Fault Refusal := .next (s.commitActtx v.toNat)

/-- Has a request waited for 4 poll rounds, 128 cycles (R514)? -/
def State.tooLate (s : State) (b : BulkReq) : Bool := decide (b.at_ + 128 ≤ s.cycles)

/-- The own request that was not granted in time is dropped (R514). -/
def State.dropMine (s : State) : State :=
  match s.cluster.mine with
  | some b =>
    if s.cluster.won || !s.tooLate b then s
    else ((s.noteBulk b.tid b.len 0 false true).logE Page.CLU 0x090C (args [b.tid, 0])).finishMine 0
  | none => s

/-- BULKREQ_TIMEOUT (R514): a request not granted within 4 poll rounds is dropped, event 0x090C; on a master also the requests of
members that it holds. -/
def State.dropBulkreq (s : State) : State :=
  let late := s.cluster.requests.filter s.tooLate
  let s1 : State := { s with cluster := { s.cluster with requests := s.cluster.requests.filter fun b => !s.tooLate b } }
  let s2 := (late.filter fun b => b.from_ != s.ownAddr).foldl (fun t b => t.logE Page.CLU 0x090C (args [b.tid, 0])) s1
  s2.dropMine

def execBulkreqTimeout (s : State) : Host.Outcome State Fault Refusal := .next s.dropBulkreq

/-! ### Transmission -/

/-- Transmit a frame in the running slot. -/
def State.transmit (s : State) (dst src type seq pay : Nat) : State :=
  { s with cluster := { s.cluster with tx := some (llynBits dst src type seq pay), sentAt := s.cycles } }

/-- A master frame to `dst` with its SEQ (R494). A frame to a member awaits its answer. -/
def State.masterSend (s : State) (dst type pay : Nat) : State :=
  let last := s.cluster.lastTx.find? fun e => e.1 == dst
  let old := if dst = 63 then s.cluster.bcSeq else s.get (F.CLU_MEM_SEQ.i (dst - 1))
  let seq := if last = some (dst, type, pay) then old else (old + 1) % 16
  let l := (dst, type, pay) :: s.cluster.lastTx.filter fun e => e.1 != dst
  let s1 := if dst = 63 then { s with cluster := { s.cluster with lastTx := l, bcSeq := seq } }
    else ({ s with cluster := { s.cluster with lastTx := l, awaits := some (dst, seq), answered := false } } : State).put (F.CLU_MEM_SEQ.i (dst - 1)) seq
  s1.transmit dst 0 type seq pay

/-- BEACON. -/
def State.sendBeacon (s : State) : State := s.masterSend 63 3 (s.get F.CLU_CFG_PRIO * 2 ^ 32 + s.cluster.slotCcn)

/-- ACTIVATE from ACTTX (R517); the first one lets the master arm, an abort disarms it (R744, R747). -/
def State.sendActivate (s : State) : State :=
  let id := s.get F.CLU_ACTTX_ACTID
  let target := s.get F.CLU_ACTTX_TARGET
  let s1 := s.masterSend 63 5 (target + 2 ^ 32 * id + 2 ^ 35 * s.get F.CLU_ACTTX_ABORT)
  if s.on F.CLU_ACTTX_ABORT then s1.noteAbort id target
  else if s.cluster.actTxAt.isSome then s1
  else ({ s1 with cluster := { s1.cluster with actTxAt := some s.cluster.slotCcn } } : State).tryArm

/-- The UTC at the crossing that began the cycle: the present time less what it has counted since, 1 % more or less while a slew runs
(R73). -/
def State.utcAtCrossing (s : State) : Nat :=
  let gone := s.angle.now - s.angle.carry.getD s.angle.now
  let rate := if !s.on F.RTC_STAT_SLEWING then 100 else if toSigned 32 (s.get F.RTC_SLEWLEFT) < 0 then 99 else 101
  (s.utc * 1638400 + s.angle.utcFrac - rate * gone) / 1638400

/-- The beacon cycle of the master (R500): its own STATUS and GRANT (R529), then its frame. -/
def State.beaconCycle (s : State) : State :=
  let k := s.ownAddr
  let r := s.cluster.slotCcn / 32
  let s0 := (s.put F.PWA_MDRAW_DRAW s.drawNow).recordStatus k s.statusPayload
  let s1 := if (s0.amem k).grants = [] then s0 else ((s0.grantSent k).holdGrant (s0.grantPayload k r) 0).grantAnswered k
  if r % 4 = 3 then s1
  else if !s1.on F.CLU_STAT_TXOK then s1
  else if r % 4 = 0 then s1.sendBeacon
  else if s1.on F.CLU_ACTTX_SEND then s1.sendActivate
  else if s1.cluster.timeDue then
    ({ s1 with cluster := { s1.cluster with timeDue := false } } : State).masterSend 63 4 (s1.utcAtCrossing % 2 ^ 32)
  else s1.sendBeacon

/-- The frame of the scheduled address `k` (R499): POLL to a vacant one, ADMIT to a joining one, GRANT to an admitted one. -/
def State.pollCycle (s : State) (k : Nat) : State :=
  if !s.on F.CLU_STAT_TXOK then s
  else if s.on (F.CLU_MEM_ADMITTED.i (k - 1)) then (s.grantSent k).masterSend k 1 (s.grantPayload k (s.cluster.slotCcn / 32))
  else if s.on (F.CLU_MEM_JOINING.i (k - 1)) then s.masterSend k 2 (2 ^ 32 + s.get (F.CLU_MEM_EKEY.i (k - 1)))
  else s.masterSend k 0 (2 ^ 32 + s.cluster.slotCcn)

/-- Granted cycles of a transfer of `len` frames (R513). -/
def bulkCycles (len : Nat) : Nat := (len + 2) / 2

/-- May a transfer be granted now (R501): none of the cycles is the beacon cycle, and no address loses its poll in two
consecutive rounds? -/
def State.bulkFits (s : State) (len : Nat) : Bool :=
  (List.range (bulkCycles len + 1)).all fun j =>
    let k := (s.cluster.slotCcn + j) % 32 + 1
    k != s.ownAddr && !s.cluster.skipPrev.contains k && !s.cluster.skipNow.contains k

/-- A transfer of the master itself joins the requests. -/
def State.ownRequest (s : State) : State :=
  match s.bulkWaiting with
  | some b =>
    if s.on F.CLU_CTL_BULKEN && s.cluster.mine.isNone then
      { s with cluster := { s.cluster with mine := some b, requests := s.cluster.requests ++ [b] } }
    else s
  | none => s

/-- The master grants the first request that fits. -/
def State.grantBulk (s : State) (b : BulkReq) : State :=
  let n := bulkCycles b.len
  let s1 : State := { s with cluster := { s.cluster with
    requests := s.cluster.requests.filter (fun r => r != b), skipNow := (s.cluster.slotCcn % 32 + 1) :: s.cluster.skipNow } }
  let s2 := s1.masterSend 63 6 (b.from_ * 2 ^ 30 + b.receiver * 2 ^ 24 + n * 2 ^ 20 + b.tid * 2 ^ 16)
  s2.openBulk ⟨b.from_, b.receiver, n, b.tid, s.cluster.slotCcn, b.len⟩

/-- Send the frame of position `f` of the own transfer. -/
def State.sendBulk (s : State) (g : BulkGrant) (f : Nat) : State :=
  match s.txFrame 5 with
  | some (_, l, _) =>
    if s.on F.CLU_STAT_TXOK && s.cluster.won && decide (f < g.len) then
      s.transmit g.receiver s.ownAddr 8 (f % 16) (g.tid * 2 ^ 32 + ofBytes ((l.drop (4 * f)).take 4))
    else s
  | none => s

/-- What the master sends in slot A (R499). -/
def State.masterSlot (s : State) : State :=
  let k := s.cluster.slotCcn % 32 + 1
  let s1 := s.ownRequest
  if k = s.ownAddr then s1.beaconCycle
  else match s1.bulkCycle with
    | some (g, j) => ({ s1 with cluster := { s1.cluster with skipNow := k :: s1.cluster.skipNow } } : State).sendBulk g (2 * (j - 1))
    | none => match s1.cluster.requests.find? fun b => s1.bulkFits b.len with
      | some b => if s1.on F.CLU_STAT_TXOK then s1.grantBulk b else s1
      | none => s1.pollCycle k

/-- Bits of the pattern generator or for the checker in a slot (chapter 20): SLOTS selects slot A, B or both. -/
def State.patternSlot (s : State) (slotB : Bool) (rx : BitVec 96) : State :=
  let sl := s.get (F.PAT_CTL_SLOTS.on Page.CLU)
  if sl = 2 ∨ sl = b2n slotB then
    if s.genOn Page.CLU ∧ s.locked then
      let g := s.genBits Page.CLU 0 96
      let t : State := { g.2 with cluster := { g.2.cluster with tx := some (ofMsb g.1) } }
      if s.loopOf Page.CLU = 0 then t.checkBits Page.CLU 0 (msbBits 96 rx.toNat) else t.checkBits Page.CLU 0 g.1
    else s.checkBits Page.CLU 0 (msbBits 96 rx.toNat)
  else s

/-- Slot A begins (R487, R499, R500, R509, R513). -/
def State.slotA (s : State) (rx : BitVec 96) : State :=
  let c := s.ccn
  let idx := s.electionIndex
  let cl := s.cluster
  let s0 : State := { s with cluster := { cl with
    slotCcn := c, awaits := none, answered := false, answer := none, tx := none, slotAt := some s.angle.now, inB := false,
    skipPrev := if idx = 0 then cl.skipNow else cl.skipPrev, skipNow := if idx = 0 then [] else cl.skipNow,
    crcRound := if idx = 0 then 0 else cl.crcRound } }
  if !s.on F.CLU_CTL_EN then s0.patternSlot false rx
  else if s.isMaster then s0.masterSlot
  else if s.lstate = 5 then
    if s.on F.CLU_STAT_TXOK && bit s.ownKey idx then s0.transmit 63 0 7 0 (s.get F.CLU_CFG_PRIO * 2 ^ 32 + s.ownKey) else s0
  else match s0.bulkCycle with
    | some (g, j) => s0.sendBulk g (2 * (j - 1))
    | none => s0

/-- The payload of an answer (Tables 13-5 and 13-6). -/
def State.answerPayload (s : State) (type : Nat) : Nat :=
  match type with
  | 0x9 => s.statusPayload
  | 0xA => 2 ^ 32 + s.ownKey
  | 0xB => s.ownKey
  | _ => match s.cluster.mine with
    | some b => b.receiver * 2 ^ 30 + b.len * 2 ^ 24 + b.tid * 2 ^ 20
    | none => 0

/-- Send the answer that is due; LEAVE ends the admission and clears EN (R506). -/
def State.sendAnswer (s : State) (type seq : Nat) : State :=
  if !s.on F.CLU_STAT_TXOK then s
  else
    let s1 := s.when (type == 9) (·.put F.PWA_MDRAW_DRAW s.drawNow)
    let s2 := s1.transmit 0 s.ownAddr type seq (s.answerPayload type)
    if type = 0xB then
      let s3 := (s2.endAdmission 2).enableLink false
      { s3 with cluster := { s3.cluster with tx := s2.cluster.tx } }
    else s2

/-- Slot B begins (R487, R502, R513, R531). -/
def State.slotB (s : State) (rx : BitVec 96) : State :=
  let s0 : State := { s with cluster := { s.cluster with tx := none, slotAt := some s.angle.now, inB := true } }
  if !s.on F.CLU_CTL_EN then s0.patternSlot true rx
  else match s0.bulkCycle with
    | some (g, j) =>
      if j = g.ncyc ∧ g.receiver = s.ownAddr ∧ g.sender ≠ s.ownAddr then
        if s.on F.CLU_STAT_TXOK then s0.transmit g.sender s.ownAddr 0xD 0 (g.tid * 2 ^ 32 + s.cluster.rxMap) else s0
      else s0.sendBulk g (2 * (j - 1) + 1)
    | none => match s.cluster.answer with
      | some (t, q) => ({ s0 with cluster := { s0.cluster with answer := none } } : State).sendAnswer t q
      | none => s0

/-- The master counts a missing answer of an admitted or joining address, and removes it after three (R503). -/
def State.missAnswer (s : State) : State :=
  match s.cluster.awaits with
  | none => s
  | some (k, _) =>
    if s.cluster.answered ∨ !(s.on (F.CLU_MEM_ADMITTED.i (k - 1)) || s.on (F.CLU_MEM_JOINING.i (k - 1))) then s
    else
      let n := s.get (F.CLU_MEM_MISSES.i (k - 1)) + 1
      let s1 := (s.put (F.CLU_MEM_MISSES.i (k - 1)) n).incSat F.CLU_CNT_UNANS
      if n ≥ 3 then s1.removeAddr k 1 else s1

/-- Frames of a received block: up to the highest position received. -/
def bulkLen (map : Nat) : Nat := (List.range 29).foldl (fun n f => if bit map f then f + 1 else n) 0

/-- The last granted cycle has ended (R513, R514): the sender's transfer ends where no BULKACK came or none is due, the
receiver's block goes to its ring with its MAP. -/
def State.endBulk (s : State) (g : BulkGrant) : State :=
  let s1 := if s.cluster.won then
      (if g.receiver = 63 then ((s.noteBulk g.tid g.len 0 false false).logE Page.CLU 0x090B (args [g.tid, 0])).finishMine 0
       else if !s.cluster.acked then (s.bulkResult g.tid g.len 0).finishMine 0 else s)
    else if s.isMaster ∧ g.receiver ≠ 63 ∧ !s.cluster.acked then s.bulkResult g.tid g.len 0 else s
  let s2 := if s.bulkMine g.receiver ∧ g.sender ≠ s.ownAddr then
      let map := s.cluster.rxMap
      let len := bulkLen map
      let t := (s1.irq Page.CLU 4)
      if len = 0 then t
      else match t.ringFor 4 with
        | some r => (t.giveElem r ⟨s.cluster.rx.take (4 * len), some (g.sender + 2 ^ 8 * g.tid + 2 ^ 16 * len), some map⟩).2
        | none => t
    else s1
  ({ s2 with cluster := { s2.cluster with grant := none, rxMap := 0 } } : State).put F.CLU_STAT_BULK 0

/-- Slot B has ended (R503, R513, R540). -/
def State.slotBEnd (s : State) : State :=
  if !s.on F.CLU_CTL_EN then { s with cluster := { s.cluster with inB := false } }
  else
    let s1 := if s.isMaster then s.missAnswer else s
    let s2 := match s1.bulkCycle with
      | some (g, j) => if j = g.ncyc then s1.endBulk g else s1
      | none => s1
    let s3 : State := { s2 with cluster := { s2.cluster with awaits := none, answer := none, tx := none, inB := false } }
    if s3.isMaster ∧ s3.cluster.slotCcn % 32 = 31 then s3.allocate (s3.cluster.slotCcn / 32) else s3

end Sys2Proof.Machine
end

