-- ==== Sys2Proof/Machine/Head.lean ====
section
/-!
DEFINITION. Machine/Head.lean: the head ports, the compatible heads and the sample chain (chapter 5).
-/

namespace Sys2Proof.Machine

/-! ### Ports -/

def State.port (s : State) (p : Fin 8) : HeadPort := s.heads.get p

def State.setPort (s : State) (p : Fin 8) (h : HeadPort) : State := { s with heads := s.heads.set p h }

def State.dev (s : State) (p : Fin 8) : HeadDevice := s.headDevs.get p

def State.setDev (s : State) (p : Fin 8) (d : HeadDevice) : State := { s with headDevs := s.headDevs.set p d }

/-- Port state of Table 5-6. -/
def State.portState (s : State) (p : Fin 8) : Nat := s.get (F.HEAD_STAT_STATE.i p)

/-- Enter a port state; a change sets the STATE interrupt, and leaving RUN ends a pattern with LOOP 0 (R778). -/
def State.enterPort (s : State) (p : Fin 8) (st : Nat) : State :=
  if s.portState p = st then s
  else
    let s1 := (s.put (F.HEAD_STAT_STATE.i p) st).irq (Page.HEAD p) 0
    if s.portState p = 4 then s1.patPortLeft p else s1

/-- Forget what SYNC and IDENT have read, and what waited to be sent (SYNC sends IDLE, Table 5-6). -/
def HeadPort.restart (h : HeadPort) : HeadPort :=
  { h with goodRun := 0, badRun := 0, lastSlot := none, cur := [], prev := [], checked := false, nonce := none, runSent := false, due := [] }

/-! ### What the module sends (R169, R174, R177) -/

/-- The command word with CMD and ARG (Table 5-2): SYNC 0x4B, the CRC over bits [31:4]. -/
def commandWord (cmd arg : Nat) : Nat :=
  let w := 0x4B * 2 ^ 20 + cmd % 16 * 2 ^ 16 + arg % 4096
  w * 16 + crc4 (msbBits 28 w)

/-- CMD and ARG of the present command word of a powered port: what waits, HELLO with the nonce in IDENT until its echo,
or IDLE. -/
def HeadPort.sends (h : HeadPort) (state : Nat) : Nat × Nat :=
  match h.due with
  | c :: _ => c
  | [] =>
    match h.nonce with
    | some n => if state = 3 ∧ h.checked ∧ !h.runSent then (1, n) else (0, 0)
    | none => (0, 0)

/-- The command word that the module sends on a port in the present word period: none in OFF and PFAULT (Table 5-6). -/
def State.wordSent (s : State) (p : Fin 8) : Option Nat :=
  if s.portState p = 0 ∨ s.portState p = 5 then none
  else some (commandWord ((s.port p).sends (s.portState p)).1 ((s.port p).sends (s.portState p)).2)

/-- Power a port (POWER of Table 5-6). Where its words lie in the decimation periods is open: a free value below 32. -/
def State.powerPort (s : State) (p : Fin 8) : State :=
  (s.free fun v t => t.setPort p { (t.port p).restart with unbound := false, phase := v % 32 }).enterPort p 1
    |>.put (F.HEAD_STAT_PRESENT.i p) (b2n (s.port p).plugged)

/-- All three channels of a port are invalid from now on: a link error in the input span (R180, R193 row 3). -/
def State.linkError (s : State) (p : Fin 8) : State :=
  { s with chans := Vector.ofFn fun c => if c.val / 3 = p.val then { s.chans.get c with linkAge := 0, since := 0 } else s.chans.get c }

/-- Enter SYNC (R174, R179): the identity is read anew and an RF-1 leaves service (R39). -/
def State.toSync (s : State) (p : Fin 8) : State :=
  let s1 := s.setPort p { (s.port p).restart with unbound := false, rf1 := false }
  ((s1.enterPort p 2).put (F.HEAD_STAT_LOCK.i p) 0).put (F.HEAD_STAT_TYPEOK.i p) 0

/-- Loss of lock (R179): counted; from RUN, event 0x0341 and a link error of the channels. -/
def State.lossOfLock (s : State) (p : Fin 8) : State :=
  let fromRun := s.portState p == 4
  let s1 := (s.incSat (F.HEAD_LERR_LOSSES.i p)).toSync p
  if fromRun then (s1.linkError p).logE (Page.HEAD p) 0x0341 p else s1

/-- HOLD_PORT_RECHECK (R174): at a transition of the seal state every port in HOLD passes to SYNC, uncounted. -/
def State.recheckHold (s : State) : State :=
  (List.finRange 8).foldl (fun t p => if t.portState p = 6 then t.toSync p else t) s

/-- Is a status word good as to SYNC, CRC, slot order and Manchester coding (R175)? -/
def goodWord (w : Nat) (violation : Bool) (last : Option Nat) : Bool :=
  bits w 24 8 == 0xB4 && crc4 (msbBits 28 (w / 16)) == w % 16 && !violation &&
    (match last with
     | none => true
     | some l => bits w 20 4 == (l + 1) % 16)

/-- Payload of a slot among those read. -/
def slotOf (l : List (Nat × Nat)) (k : Nat) : Option Nat := (l.find? fun e => e.1 == k).map (·.2)

/-- Take a slot into the reading of the identity: a slot seen again begins a new cycle (R176). -/
def HeadPort.take (h : HeadPort) (k v : Nat) : HeadPort :=
  match slotOf h.cur k with
  | some _ => { h with prev := h.cur, cur := [(k, v)] }
  | none => { h with cur := (k, v) :: h.cur }

/-- Two consecutive cycles that hold slots 0 to 9 and agree on them (R176). -/
def HeadPort.agreed (h : HeadPort) : Bool :=
  (List.range 10).all fun k => (slotOf h.cur k).isSome && slotOf h.cur k == slotOf h.prev k

/-- The reported serial number: slots 1 to 4, the highest bits in slot 1 (Table 5-5). -/
def HeadPort.serial (h : HeadPort) : Nat :=
  let g (k : Nat) := (slotOf h.cur k).getD 0
  g 1 * 2 ^ 36 + g 2 * 2 ^ 24 + g 3 * 2 ^ 12 + g 4

/-- Write what the head reports into the HEADn registers. -/
def State.reportHead (s : State) (p : Fin 8) : State :=
  let h := s.port p
  let g (k : Nat) := (slotOf h.cur k).getD 0
  ((((((((s.put (F.HEAD_IDENT_TYPE.i p) (g 0)).put (F.HEAD_IDENT_PROTO.i p) (g 0 / 256)).put (F.HEAD_IDENT_STEPLET.i p) (g 9)).put
    (F.HEAD_IDENT_STEPNUM.i p) (g 9 / 256)).putW (F.HEAD_SERIAL_NUM.i p) h.serial).put (F.HEAD_RATING_VFS.i p) (g 6)).put
    (F.HEAD_RATING_IFS.i p) (g 7)).put (F.HEAD_XRATING_XFS.i p) (g 8)).put (F.HEAD_HEALTH_TEMP.i p) (g 5)

/-- A port fails its identity check: HOLD, with the events of what it fails on (R176) and HALT sent (Table 5-6). -/
def State.failIdent (s : State) (p : Fin 8) (codes : List Nat) (unbound : Bool) : State :=
  let s1 := s.setPort p { s.port p with checked := false, nonce := none, unbound := unbound, due := [(3, 0)] }
  codes.foldl (fun (t : State) code => t.logE (Page.HEAD p) code p) ((s1.enterPort p 6).put (F.HEAD_STAT_BOUND.i p) (b2n (!unbound)))

/-- A new 12-bit nonce goes out in HELLO (R177); its value is free. -/
def State.newNonce (s : State) (p : Fin 8) : State :=
  s.free fun v t => t.setPort p { t.port p with checked := true, nonce := some (v % 4096), runSent := false }

/-- IDENT_CHECK (R176, R37 to R39) on the identity read: the binding or the expected type, and a reserved type or protocol;
each failure logs its event (DEDUCED: R176's conditions are separate). -/
def State.identCheck (s0 : State) (p : Fin 8) : State :=
  let s := s0.reportHead p
  let h := s.port p
  let type := s.get (F.HEAD_IDENT_TYPE.i p)
  let unbound := s.sealed && (type != s.get (F.HEAD_BIND_TYPE.i p) || h.serial != s.getW (F.HEAD_BINDSER_NUM.i p))
  let wrong := !s.sealed && type != s.get (F.HEAD_CFG_TYPE.i p)
  let reserved := type == 0 || decide (type > 4) || s.get (F.HEAD_IDENT_PROTO.i p) != 1
  let codes := (if unbound then [0x0343] else []) ++ (if wrong then [0x0342] else []) ++ (if reserved then [0x034A] else [])
  if codes ≠ [] then s.failIdent p codes unbound
  else if type = 4 ∧ (List.finRange 8).any (fun q => q != p && (s.port q).rf1) then s.failIdent p [0x0344] false
  else
    let s1 := s.setPort p { h with rf1 := type == 4 }
    ((s1.put (F.HEAD_STAT_TYPEOK.i p) 1).put (F.HEAD_STAT_BOUND.i p) 1).newNonce p

/-- A word that is not good in RUN: a link error, counted, with event 0x0347 above 16 in one second (R180). DESIGN CHOICE:
the seconds are those of the reference clock since power-on; the spec does not say from where a second runs (log entry 46). -/
def State.countLinkError (s : State) (p : Fin 8) : State :=
  let sec := s.angle.now / 16384000
  let h := s.port p
  let h1 := if h.errSecond = sec then { h with errCount := h.errCount + 1 } else { h with errSecond := sec, errCount := 1, errLogged := false }
  let s1 := (((s.incSat (F.HEAD_LERR_ERRS.i p)).irq (Page.HEAD p) 1).linkError p).setPort p h1
  if h1.errCount > 16 ∧ !h1.errLogged then (s1.setPort p { h1 with errLogged := true }).logE (Page.HEAD p) 0x0347 p else s1

/-- The overload flags of a word received in RUN: counted, and set for the channel's decimation period (R172). They cover
the clocks of the word before, so OUTPUT_SAMPLE comes after the word whose flags cover the period's last clocks. -/
def State.takeOverloads (s : State) (p : Fin 8) (w : Nat) : State :=
  let v := bit w 7
  let i := bit w 6
  let x := bit w 5
  let s1 := s.when v (·.incSat (F.HEAD_OVL_V.i p))
  let s2 := s1.when i (·.incSat (F.HEAD_OVL_I.i p))
  let s3 := s2.when x (·.incSat (F.HEAD_OVL_X.i p))
  let s4 := s3.when (v || i || x) (·.irq (Page.HEAD p) 2)
  { s4 with chans := Vector.ofFn fun c =>
      let flag := if c.val % 3 = 0 then v else if c.val % 3 = 1 then i else x
      if c.val / 3 = p.val then { s4.chans.get c with ovl := (s4.chans.get c).ovl || flag, ovlLast := flag } else s4.chans.get c }

/-- A slot read in RUN (Table 5-5, R203, R204). -/
def State.takeSlot (s : State) (p : Fin 8) (k v : Nat) : State :=
  match k with
  | 0 => if v % 256 ≠ s.get (F.HEAD_IDENT_TYPE.i p) then s.lossOfLock p else s
  | 5 => s.put (F.HEAD_HEALTH_TEMP.i p) v
  | 10 => s.put (F.HEAD_AUXST_ECHO.i p) (b2n (v == s.get (F.HEAD_AUXST_ARG.i p)))
  | 11 => s.put (F.HEAD_HEALTH_SUPPLY.i p) v
  | 12 =>
    let rises := !s.on (F.HEAD_STAT_HEADFLT.i p) && v != 0
    let logs := v != 0 && (s.get (F.HEAD_HFAULT_CODE.i p) == 0 || !(s.port p).slot12)
    let s1 := (s.put (F.HEAD_HFAULT_CODE.i p) v).put (F.HEAD_STAT_HEADFLT.i p) (b2n (v != 0))
    let s2 := s1.setPort p { s1.port p with slot12 := true }
    (s2.when rises (·.irq (Page.HEAD p) 3)).when logs (·.logE (Page.HEAD p) 0x0346 p)
  | _ => s

/-- Enter RUN: event 0x0340. The code of slot 12 stands until the next slot 12 (R240); the first one read in RUN logs a
non-zero code again (R203). DESIGN CHOICE: the word at which the port enters RUN is not one of the first slot cycle read in
RUN (log entry 46). -/
def State.enterRun (s : State) (p : Fin 8) : State :=
  ((s.setPort p { s.port p with slot12 := false }).enterPort p 4).logE (Page.HEAD p) 0x0340 p

/-- The slot of the word before the next one, after a word that is not good (DEDUCED from R173 and R175: the head goes on
counting). -/
def HeadPort.missedSlot (h : HeadPort) : Option Nat := h.lastSlot.map fun k => (k + 1) % 16

/-- STATUS_WORD (R175 to R180, R203, R204). While it arrives the module sends a command word of its own. -/
def State.statusWord (s0 : State) (p : Fin 8) (w : Nat) (violation : Bool) (rtd : Nat) : State :=
  let s := s0.setPort p { s0.port p with due := (s0.port p).due.drop 1 }
  let h := s.port p
  let good := goodWord w violation h.lastSlot
  let k := bits w 20 4
  let v := bits w 8 12
  match s.portState p with
  | 2 =>
    if good then
      let s1 := s.setPort p { h with goodRun := h.goodRun + 1, badRun := 0, lastSlot := some k }
      if h.goodRun + 1 ≥ 4 then
        ((s1.setPort p { (s1.port p) with cur := [], prev := [], checked := false }).enterPort p 3).put (F.HEAD_STAT_LOCK.i p) 1
      else s1
    else
      let s1 := s.setPort p { h with goodRun := 0, badRun := h.badRun + 1, lastSlot := none }
      if h.badRun + 1 ≥ 8 then s1.lossOfLock p else s1
  | 3 =>
    if good then
      if !h.checked then
        let s1 := s.setPort p { (h.take k v) with badRun := 0, lastSlot := some k }
        if (s1.port p).agreed then s1.identCheck p else s1
      else
        let echo := k == 15 && h.nonce == some v
        let due := if echo && !h.runSent then h.due ++ List.replicate 4 (2, 0) else h.due
        let s1 := s.setPort p { h with badRun := 0, lastSlot := some k, runSent := h.runSent || echo, due := due }
        if h.runSent ∧ bit w 4 then s1.enterRun p else s1
    else
      let s1 := s.setPort p (if h.checked then { h with badRun := h.badRun + 1, lastSlot := h.missedSlot }
        else { h with badRun := h.badRun + 1, lastSlot := h.missedSlot, cur := [], prev := [] })
      if h.badRun + 1 ≥ 8 then s1.lossOfLock p else s1
  | 4 =>
    if good then
      let s1 := (s.setPort p { h with badRun := 0, lastSlot := some k }).put (F.HEAD_RTD_DELAY.i p) rtd
      if !bit w 4 then s1.lossOfLock p else (s1.takeOverloads p w).takeSlot p k v
    else
      let s1 := (s.setPort p { h with badRun := h.badRun + 1, lastSlot := h.missedSlot }).countLinkError p
      if h.badRun + 1 ≥ 8 then s1.lossOfLock p else s1
  | 6 =>
    if good then s.setPort p { h with badRun := 0, lastSlot := some k }
    else
      let s1 := s.setPort p { h with badRun := h.badRun + 1, lastSlot := h.missedSlot }
      if h.badRun + 1 ≥ 8 then s1.lossOfLock p else s1
  | _ => s

def execStatusWord (p : Fin 8) (w : Word) (violation : Bool) (rtd : BitVec 16) (s : State) : Host.Outcome State Fault Refusal :=
  .next (s.statusWord p w.toNat violation rtd.toNat)

/-- HEAD_PORT_ENABLE (R174): CTL.EN set powers the port and enters POWER. -/
def State.enablePort (s : State) (p : Fin 8) : State :=
  let s1 := s.put (F.HEAD_CTL_EN.i p) 1
  if s1.portState p = 0 then s1.powerPort p else s1

def execHeadPortEnable (p : Fin 8) (s : State) : Host.Outcome State Fault Refusal := .next (s.enablePort p)

/-- Remove power from a port: nothing is locked or present, its channels are invalid. -/
def State.portOff (s : State) (p : Fin 8) (st : Nat) : State :=
  let s1 := (s.linkError p).setPort p { (s.port p).restart with unbound := false, rf1 := false }
  ((((s1.enterPort p st).put (F.HEAD_STAT_LOCK.i p) 0).put (F.HEAD_STAT_TYPEOK.i p) 0).put (F.HEAD_STAT_PRESENT.i p) 0).setDev p {}

/-- HEAD_PORT_DISABLE (R174, R201): the channels are invalid, the port is OFF. -/
def State.disablePort (s : State) (p : Fin 8) : State := (s.put (F.HEAD_CTL_EN.i p) 0).portOff p 0

def execHeadPortDisable (p : Fin 8) (s : State) : Host.Outcome State Fault Refusal := .next (s.disablePort p)

/-- UPSTREAM_ACTIVITY (R174): transitions for 1 µs in POWER lead to SYNC. -/
def execUpstreamActivity (p : Fin 8) (s : State) : Host.Outcome State Fault Refusal :=
  .next (if s.portState p = 1 then s.toSync p else s)

/-- UPSTREAM_SILENCE (R179): in SYNC, IDENT, RUN and HOLD, loss of lock. -/
def execUpstreamSilence (p : Fin 8) (s : State) : Host.Outcome State Fault Refusal :=
  .next (if s.portState p ∈ [2, 3, 4, 6] then s.lossOfLock p else s)

/-- HELLO_ECHO_TIMEOUT (R177): no echo within 2 ms, event 0x034B. -/
def execHelloEchoTimeout (p : Fin 8) (s : State) : Host.Outcome State Fault Refusal :=
  let h := s.port p
  if s.portState p = 3 ∧ h.checked ∧ h.nonce.isSome ∧ !h.runSent then
    .next ((s.setPort p { h with nonce := none }).logE (Page.HEAD p) 0x034B p)
  else .next s

/-- HELLO_RETRY (R177): HELLO starts again with a new nonce. -/
def execHelloRetry (p : Fin 8) (s : State) : Host.Outcome State Fault Refusal :=
  let h := s.port p
  .next (if s.portState p = 3 ∧ h.checked ∧ h.nonce.isNone then s.newNonce p else s)

/-- PORT_POWER_FAULT (R183): power is removed, PFAULT, event 0x0345. -/
def execPortPowerFault (p : Fin 8) (s : State) : Host.Outcome State Fault Refusal :=
  if s.portState p ∈ [1, 2, 3, 4, 6] then
    .next (((s.portOff p 5).irq (Page.HEAD p) 4).logE (Page.HEAD p) 0x0345 p)
  else .next s

/-- PFAULT_RECOVERY (R174): after 1 s in PFAULT, POWER. -/
def execPfaultRecovery (p : Fin 8) (s : State) : Host.Outcome State Fault Refusal :=
  if s.portState p = 5 then
    .next (s.powerPort p)
  else .next s

/-- Is the port powered (Table 5-6)? -/
def State.portPowered (s : State) (p : Fin 8) : Bool := [1, 2, 3, 4, 6].contains (s.portState p)

/-- HEAD_CONNECT (R26, R184): a head is plugged in. -/
def execHeadConnect (p : Fin 8) (s : State) : Host.Outcome State Fault Refusal :=
  .next (((s.setPort p { s.port p with plugged := true }).setDev p {}).put (F.HEAD_STAT_PRESENT.i p) (b2n (s.portPowered p)))

/-- HEAD_DISCONNECT (R40): the channels of the port become invalid; the loss of lock follows with the silence (R179). -/
def execHeadDisconnect (p : Fin 8) (s : State) : Host.Outcome State Fault Refusal :=
  .next ((((s.setPort p { s.port p with plugged := false }).setDev p {}).put (F.HEAD_STAT_PRESENT.i p) 0).linkError p)

/-! ### What a head does (R170) -/

/-- Is `w` a good command word with command `cmd` (Table 5-2)? -/
def goodCommand (w cmd : Nat) : Bool :=
  bits w 24 8 == 0x4B && crc4 (msbBits 28 (w / 16)) == w % 16 && bits w 20 4 == cmd

/-- A head is connected and acts on a good command. -/
def State.headActs (s : State) (p : Fin 8) (w cmd : Nat) : Bool := (s.port p).plugged && goodCommand w cmd

/-- HEAD_IDLE: nothing. -/
def execHeadIdle (_p : Fin 8) (_w : Word) (s : State) : Host.Outcome State Fault Refusal := .next s

/-- HEAD_HELLO: the nonce goes into slot 15. -/
def execHeadHello (p : Fin 8) (w : Word) (s : State) : Host.Outcome State Fault Refusal :=
  .next (if s.headActs p w.toNat 1 then s.setDev p { s.dev p with slot15 := bits w.toNat 4 12 } else s)

/-- HEAD_RUN: the modulators start and the RUN flag is set. -/
def execHeadRun (p : Fin 8) (w : Word) (s : State) : Host.Outcome State Fault Refusal :=
  .next (if s.headActs p w.toNat 2 then s.setDev p { s.dev p with run := true } else s)

/-- HEAD_HALT: the modulators stop, the RUN flag clears, V, I and X are 0. -/
def execHeadHalt (p : Fin 8) (w : Word) (s : State) : Host.Outcome State Fault Refusal :=
  .next (if s.headActs p w.toNat 3 then s.setDev p { s.dev p with run := false, pattern := 0 } else s)

/-- HEAD_AUXCTL (R170, R429): the head sets its auxiliary circuit and echoes the argument in slot 10. -/
def execHeadAuxctl (p : Fin 8) (w : Word) (s : State) : Host.Outcome State Fault Refusal :=
  let a := bits w.toNat 4 12
  .next (if s.headActs p w.toNat 4 then s.setDev p { s.dev p with slot10 := a, aux := a } else s)

/-- HEAD_PATTERN (R766): the head sends a test sequence, or ends it on ARG [3:0] = 0. -/
def execHeadPattern (p : Fin 8) (w : Word) (s : State) : Host.Outcome State Fault Refusal :=
  let a := bits w.toNat 4 12
  .next (if s.headActs p w.toNat 5 ∧ a % 16 ≤ 6 then s.setDev p { s.dev p with pattern := if a % 16 = 0 then 0 else a % 32 } else s)

/-- HEAD_COMMAND_TIMEOUT (R181): no good command word for 125 µs; the modulators stop and RUN clears. -/
def execHeadCommandTimeout (p : Fin 8) (s : State) : Host.Outcome State Fault Refusal :=
  .next (s.setDev p { s.dev p with run := false, pattern := 0 })

/-! ### The sample chain -/

/-- 36-bit wrap of R188. -/
def wrap36 (n : Nat) : Nat := n % 2 ^ 36

/-- The five integrators on one modulator bit. -/
def integrate : List Nat → Nat → List Nat
  | [], _ => []
  | i :: is, u =>
    let i' := wrap36 (i + u)
    i' :: integrate is i'

/-- The five combs: answers the new delays and the output. -/
def comb : List Nat → Nat → List Nat × Nat
  | [], c => ([], c)
  | d :: ds, c =>
    let r := comb ds (wrap36 (c + 2 ^ 36 - d))
    (c :: r.1, r.2)

/-- Taps of half-band stage k = 1 to 4 (Table 5-8). -/
def hbTaps (k : Nat) : Nat := [7, 11, 19, 59].getD (k - 1) 7

/-- One output of half-band stage `k` from its inputs, newest first, in 1/16: centre tap 0.5, even taps 0, odd taps of
HBk_COEF; rounded to nearest, ties away from zero (R190). -/
def hbOut (k : Nat) (x : List Int) : Int :=
  let n := hbTaps k
  let c := n / 2
  let g (i : Nat) : Int := x.getD i 0
  let sum := (List.range ((c + 1) / 2)).foldl (fun acc j =>
    acc + (Config.halfBand.coef.getD (k - 1) []).getD j 0 * (g (c - (2 * j + 1)) + g (c + (2 * j + 1)))) (2 ^ 30 * g c)
  roundDiv sum (2 ^ 31)

/-- Push inputs into a stage two at a time: the new history and the outputs, oldest first. -/
def hbStage (k : Nat) (hist : List Int) : List Int → List Int × List Int
  | a :: b :: rest =>
    let h := (b :: a :: hist).take (hbTaps k)
    let r := hbStage k h rest
    (r.1, hbOut k h :: r.2)
  | _ => (hist, [])

/-- The CIC stage over a list of modulator bits: new integrators and combs, and one output each 128 bits (R188). -/
def cic (ints combs : List Nat) : List Bool → Nat → List Nat × List Nat × List Nat
  | [], _ => (ints, combs, [])
  | b :: bs, n =>
    let is := integrate ints (if b then 1 else 2 ^ 36 - 1)
    if n % 128 = 127 then
      let c := comb combs (is.getLastD 0)
      let r := cic is c.1 bs (n + 1)
      (r.1, r.2.1, c.2 :: r.2.2)
    else cic is combs bs (n + 1)

/-- The longest run of identical bits that reaches 64 or more in the period, and the run left open (R189). -/
def bitRun (last : Bool) (run : Nat) (hit : Bool) : List Bool → Bool × Nat × Bool
  | [] => (last, run, hit)
  | b :: bs =>
    let r := if b = last then run + 1 else 1
    bitRun b r (hit || decide (64 ≤ r)) bs

/-- One decimation period of a channel: 2048 modulator bits give one value (R188 to R191), the run of R189 and whether
ones were the majority (R194). -/
def Channel.period (c : Channel) (bitsIn : BitVec 2048) : Channel × Int × Bool × Bool :=
  let l := msbBits 2048 bitsIn.toNat
  let r := cic c.ints c.combs l 0
  let x := r.2.2.map fun n => 16 * toSigned 36 n
  let h1 := hbStage 1 c.hb1 x
  let h2 := hbStage 2 c.hb2 h1.2
  let h3 := hbStage 3 c.hb3 h2.2
  let h4 := hbStage 4 c.hb4 h3.2
  let y := roundDiv (h4.2.headD 0) (16 * 24)
  let v := if y > 0x7FFFFFFE then 0x7FFFFFFE else if y < -0x7FFFFFFE then -0x7FFFFFFE else y
  let run := bitRun c.lastBit c.run false l
  ({ c with ints := r.1, combs := r.2.1, hb1 := h1.1, hb2 := h2.1, hb3 := h3.1, hb4 := h4.1, lastBit := run.1, run := run.2.1 },
    v, run.2.2, decide (popcount 2048 bitsIn.toNat > 1024))

/-- The value and flags of a sample (Table 5-9): bits VALID 0, OVR 1, SAT 2, SETTLE 3, LINK 4, REF 5. -/
structure Sample where
  value : Nat
  flags : Nat
deriving DecidableEq, Repr

/-- The first row of Table 5-9 that applies. -/
def sampleOf (enabled ref link sat settling : Bool) (v : Int) (ones : Bool) : Sample :=
  if !enabled then ⟨0x80000000, 0⟩
  else if ref then ⟨0x80000000, 32⟩
  else if link then ⟨0x80000000, 16⟩
  else if sat then ⟨if ones then 0x7FFFFFFF else 0x80000001, 4⟩
  else if settling then ⟨0x80000000, 8⟩
  else if v.natAbs > 0x44000000 then ⟨ofSigned 32 v, 3⟩
  else ⟨ofSigned 32 v, 1⟩

/-- Is the reference in deviation for the chain (R76)? -/
def State.refDeviation (s : State) : Bool := !s.on F.ANG_STAT_REFOK || s.angle.refBad

/-- One output sample of channel `c` (R193 to R197). -/
def State.sampleChannel (s : State) (c : Fin 24) (bitsIn : BitVec 2048) : State :=
  let (ch, v, run64, ones) := (s.chans.get c).period bitsIn
  let p : Fin 8 := ⟨c.val / 3, by have := c.isLt; omega⟩
  let enabled := s.getBit F.FIL_CHEN_MASK c
  let ref := s.refDeviation
  let notRun := s.portState p != 4 || (s.dev p).pattern != 0
  let link := notRun || decide (ch.linkAge ≤ 36)
  let sat := ch.ovl || run64
  let sm := sampleOf enabled ref link sat (decide (ch.since < 40)) v ones
  let cause := !enabled || ref || notRun || decide (ch.linkAge = 0) || sat
  let since := if cause then 0 else min (ch.since + 1) 40
  let isSat := bit sm.flags 2
  let wasValid := s.getBit F.FIL_VALID_MASK c
  let valid := bit sm.flags 0
  let hist := ((toSigned 32 sm.value, bit sm.flags 0, isSat) :: ch.hist).take 800
  let ch' : Channel := { ch with since := since, linkAge := min (ch.linkAge + 1) 37, ovl := ch.ovlLast && (s.port p).phase != 0,
                                 satNow := isSat, hist := hist, count := ch.count + 1 }
  let s1 : State := { s with chans := s.chans.set c ch' }
  let k := ch.count % 65536
  let s2 := ((((((s1.put (F.FIL_CH_OUT.i c) sm.value).put (F.FIL_CH_ST_FLAGS.i c) sm.flags).put (F.FIL_CH_ST_LEFT.i c) (40 - since)).put
    (F.FIL_CH_ST_SIDX.i c) k).putBit F.FIL_VALID_MASK c valid).putBit F.FIL_SATNOW_MASK c isSat)
  let s3 := (s2.putBit F.FIL_OVRNOW_MASK c (bit sm.flags 1)).putBit F.FIL_SETTLE_MASK c (bit sm.flags 3)
  let s4 := (s3.when (bit sm.flags 1) fun t => (t.incSat (F.FIL_CH_CNT_OVR.i c)).irq Page.FIL 3).when isSat fun t =>
    (t.incSat (F.FIL_CH_CNT_SAT.i c)).irq Page.FIL 2
  let s5 := (s4.when (valid && !wasValid) (·.irq Page.FIL 0)).when (!valid && wasValid) (·.irq Page.FIL 1)
  let s6 := s5.when (isSat && !ch.satNow) (·.logE Page.FIL 0x0348 c)
  s6.when (!isSat && ch.satNow) (·.logE Page.FIL 0x0349 c)

/-- All 24 channels produce their sample, with one index and one output instant (R186). -/
def State.chainSample (s : State) (bitsIn : List (BitVec 2048)) : State :=
  if s.on F.FIL_STAT_RUN then
    let k := (s.chans.get 0).count
    let s1 := (List.finRange 24).foldl (fun t c => t.sampleChannel c (bitsIn.getD c 0)) ((s.putW F.FIL_SIDX (k % 2 ^ 64)))
    (s1.putW F.FIL_SAMPANG_IDX (k % 2 ^ 64)).put F.FIL_SAMPANG_ANGLE s.angleWord
  else s

/-- The bits of the three lanes of a head link at the checker of its port (R764, R765): with LOOP 0 those received in RUN,
with LOOP 1 those of the port's own generator. -/
def State.checkHead (s : State) (bitsIn : List (BitVec 2048)) (p : Fin 8) : State :=
  let page := Page.HEAD p
  if s.chkOn page then
    (List.range 3).foldl (fun (t : State) l =>
      if t.loopOf page = 1 then
        let g := t.genBits page l 2048
        g.2.checkBits page l g.1
      else if t.portState p = 4 then t.checkBits page l (msbBits 2048 (bitsIn.getD (3 * p.val + l) 0).toNat)
      else t) s
  else s

/-- CHAIN_ENABLE (R186): FIL.CTL.EN set defines the chain epoch and clears every chain register, but for CHEN. A saturation
ends at the next sample (R194). -/
def State.enableChain (s : State) : State :=
  let s1 := ((s.put F.FIL_CTL_EN 1).put F.FIL_STAT_RUN 1).resetRange 0x40018044 0x40018200
  { s1 with chans := Vector.ofFn fun c => { satNow := (s.chans.get c).satNow } }

def execChainEnable (s : State) : Host.Outcome State Fault Refusal := .next s.enableChain

/-- A channel restarts from reset and settles (R202). The epoch stays, a link error stays in the input span of its samples,
and a saturation ends at the next sample that is not SAT (R194; DEDUCED, log entry 48). -/
def State.restartChannels (s : State) (mask : Nat) : State :=
  { s with chans := Vector.ofFn fun c =>
      let ch := s.chans.get c
      if bit mask c then { satNow := ch.satNow, linkAge := ch.linkAge, count := ch.count } else ch }

end Sys2Proof.Machine
end

