-- ==== Sys2Proof/Machine/Island.lean ====
section
/-!
DEFINITION. Machine/Island.lean: the safety island (chapter 10): pairs, test pulses, feedback, the weld check, fault
classes and resets, with the earth-fault latches of R434 and R435.
-/

namespace Sys2Proof.Machine

/-! ### The bleeder command and the island states -/

/-- The head port of the insulation measurement, and that of the RF-1 head. -/
def State.insPort (s : State) : Nat := bits (s.efPar 4) 1 3
def State.rcPort (s : State) : Nat := bits (s.efPar 2) 0 3

/-- AUXCTL with `arg` to INSPORT (R429). -/
def State.sendBleeder (s : State) (arg : Nat) : State :=
  ((s.put (F.HEAD_AUXST_ARG.i s.insPort) arg).put (F.HEAD_AUXST_ECHO.i s.insPort) 0).sendCommands (Fin.ofNat 8 s.insPort) [(4, arg)]

/-- The insulation measurement stops with the bleeder open (R430, R437, R438). -/
def State.stopInsulation (s : State) : State :=
  if s.insOn then
    let s1 := if s.get (F.HEAD_AUXST_ARG.i s.insPort) = 0 then s else s.sendBleeder 0
    ((s1.put F.EFM_INSCYC_STEP 0).put F.EFM_STAT_MEASURING 0).put F.EFM_STAT_TESTING 0
  else s

/-- A class 3 fault: LOCKOUT (R397, Table 10-5). -/
def State.lockout (s : State) (code : Nat) : State :=
  let s1 := (s.irq Page.SAF 2).logE Page.SAF code 0
  if s.get F.SAF_STAT_STATE = 3 then s1
  else (((s1.put F.SAF_STAT_STATE 3).put F.SAF_STAT_HOLDSRC 0).irq Page.SAF 6).stopInsulation.settle

/-- HELD from OPERATE with its cause (R403, Table 10-5). -/
def State.holdIsland (s : State) (src : Nat) : State :=
  if s.get F.SAF_STAT_STATE = 1 then
    ((((s.put F.SAF_STAT_STATE 2).put F.SAF_STAT_HOLDSRC src).irq Page.SAF 6).logE Page.SAF 0x0636 src).settle
  else s

/-! ### Pairs (R384 to R388) -/

/-- Put bit `k` of the state of pair `p`. -/
def State.putPair (s : State) (p k : Nat) (b : Bool) : State := s.put (pairField p k) (b2n b)

/-- The island evaluates pair `p` after a change: its bits, and for a stop pair a demand or a release. `quietRst`: a reset of
R388 is acting, which clears the RSTREQ that a release would set. -/
def State.evalPair (s : State) (quietRst : Bool) (p : Fin 16) : State :=
  let a := s.on (pairField p 0)
  let b := s.on (pairField p 1)
  let c := s.sp p
  let ty := s.pairType p
  if ty = 0 then s
  else
    let dem := a || !b || (ty == 1 && (!c.causes.isEmpty || c.assumed))
    let was := s.on (pairField p 2)
    let s1 := (((s.putPair p 2 dem).putPair p 3 (a == b)).putPair p 4 (!c.causes.isEmpty)).put (pairFltField p) (c.causes.headD 0)
    if ty = 1 && dem && !was then ((s1.incSat F.SAF_CNT_DEMANDS).irq Page.SAF 0).logE Page.SAF 0x0601 p
    else if ty = 1 && !dem && was then
      ((s1.when (s.pairManual p && !quietRst) (·.putPair p 5 true)).irq Page.SAF 1).logE Page.SAF 0x0602 p
    else s1

/-- Latch a class 1 fault of pair `p` (R382, R385, R386). -/
def State.latchPair (s : State) (p : Fin 16) (cause code arg : Nat) : State :=
  let c := s.sp p
  if s.pairType p = 0 ∨ c.causes.contains cause then s
  else (((s.setSp p { c with causes := c.causes ++ [cause] }).irq Page.SAF 2).logE Page.SAF code arg).evalPair false p

/-- Latch a class 2 fault of channel `n`, in the fault cell (R393, R397, R399, R416). -/
def State.latchChan (s : State) (n : Fin 8) (cause code arg : Nat) : State :=
  let c := s.sc n
  if c.causes.contains cause then s
  else (((s.setSc n { c with causes := c.causes ++ [cause] }).put (chFltField n) ((c.causes ++ [cause]).headD 0)).irq Page.SAF 2).logE
    Page.SAF code arg

/-- The number of an input in an event argument: 2p and 2p + 1 for the channels of pair p, 32 + n for FBn. -/
def inputNo : SafetyInput → Nat
  | .pairA p => 2 * p.val
  | .pairB p => 2 * p.val + 1
  | .fb n => 32 + n.val

/-- The source code of an input: 0 static, 1 TP0, 2 TP1. -/
def State.inputSrc (s : State) : SafetyInput → Nat
  | .pairA p => s.pairSrcA p
  | .pairB p => s.pairSrcB p
  | .fb n => s.chFbSrc n

/-- Is the input used by the loaded block? -/
def State.inputUsed (s : State) : SafetyInput → Bool
  | .pairA p => s.pairType p != 0
  | .pairB p => s.pairType p != 0
  | .fb n => s.chUsed n && s.chFben n

/-- The filtered level of an input. -/
def State.inputLevel (s : State) : SafetyInput → Bool
  | .pairA p => s.on (pairField p 0)
  | .pairB p => s.on (pairField p 1)
  | .fb n => (s.sc n).fb

/-- Every input. -/
def allInputs : List SafetyInput :=
  (List.finRange 16).flatMap (fun p => [.pairA p, .pairB p]) ++ (List.finRange 8).map .fb

/-- Has the source with code `src` a source fault? -/
def State.srcFaulty (s : State) (src : Nat) : Bool :=
  (src == 1 && s.safety.island.srcFault.get 0) || (src == 2 && s.safety.island.srcFault.get 1)

/-! ### Resets (R388, R389, R398, R435) -/

/-- Is the cause of a class 1 latch gone (R398)? `quiet`: fewer than 11 transitions in the last second. -/
def State.pairCauseGone (s : State) (p : Fin 16) (quiet : Bool) (cause : Nat) : Bool :=
  if cause = 1 ∨ cause = 2 then !s.on (pairField p 0) && s.on (pairField p 1) && quiet
  else if cause = 3 ∨ cause = 5 then (s.sp p).passA ≥ 3 && !s.srcFaulty (s.pairSrcA p)
  else (s.sp p).passB ≥ 3 && !s.srcFaulty (s.pairSrcB p)

/-- Is the cause of a class 2 latch gone (R398, R465)? -/
def State.chanCauseGone (s : State) (n : Fin 8) (cause : Nat) : Bool :=
  let c := s.sc n
  let off := !(s.sw (swOf n)).legs
  if cause ≤ 4 then off && c.fb
  else if cause = 5 then off && (c.fb || !s.chFben n) && s.weldClear n
  else if cause = 6 then c.passes ≥ 3 && !s.srcFaulty (s.chFbSrc n)
  else if cause = 7 then off && c.quiet
  else off && c.quiet && decide (s.get (F.SW_SC_LOAD_R.i n) ≥ 50)

/-- Does no leg of any channel in `mask` conduct? -/
def State.noLegs (s : State) (mask : Nat) : Bool := (List.finRange 8).all fun n => !bit mask n || !(s.sw (swOf n)).legs

/-- The earth-fault latches held: bit 0 residual trip, bit 1 insulation fault, bit 2 insulation monitor fault. -/
def State.earthLatches (s : State) : Nat :=
  b2n (s.on F.EFM_RCLATCH_LATCHED) + 2 * b2n s.safety.earth.insFault + 4 * b2n (s.on F.EFM_STAT_INSMF)

/-- INSSTATE takes a new state: event 0x0710 with old and new state and Riso (R432). -/
def State.putInsState (s : State) (st : Nat) : State :=
  let old := s.get F.EFM_STAT_INSSTATE
  if old = st then s
  else ((s.put F.EFM_STAT_INSSTATE st).irq Page.EFM 3).logE Page.EFM 0x0710 (old + 2 ^ 64 * st + 2 ^ 128 * s.get F.EFM_INSR_R)

/-- A reset clears the earth-fault latches whose cause is gone (Table 11-6): answers the mask of the cleared ones. -/
def State.resetEarth (s : State) : Nat × State :=
  let insMask := s.insMask
  let rc := s.on F.EFM_RCLATCH_LATCHED && s.on F.EFM_STAT_RCOK && !s.safety.earth.lastQual
  let ins := s.safety.earth.insFault && s.noLegs insMask
  let mf := s.on F.EFM_STAT_INSMF && s.on (F.HEAD_AUXST_ECHO.i s.insPort) && s.noLegs insMask
  let s1 := s.when rc fun t => (t.setWord F.EFM_RCLATCH_TIER.addr 0).put F.EFM_STAT_RCTRIP 0
  let s2 := s1.when ins fun t => ({ t with safety := { t.safety with earth := { t.safety.earth with insFault := false } } } : State).putInsState 0
  let s3 := s2.when mf (·.put F.EFM_STAT_INSMF 0)
  let cleared := b2n rc + 2 * b2n ins + 4 * b2n mf
  let s4 := if cleared = 0 then s3 else (s3.irq Page.EFM 6).logE Page.EFM 0x0721 cleared
  (cleared, s4.when (s4.earthLatches == 0 && s.get F.SAF_STAT_STATE != 3)
    fun t => (t.put (F.FAULT_CODE.on Page.EFM) 0).put (F.FAULT_COUNT.on Page.EFM) 0)

/-- The class 1 latches of stop pair `p` whose cause is gone clear. -/
def State.resetPair (s : State) (quiet : Nat) (p : Fin 16) : State :=
  if s.pairType p = 1 then
    s.setSp p { s.sp p with causes := (s.sp p).causes.filter fun c => !s.pairCauseGone p (bit quiet p) c }
  else s

/-- The class 2 latches of channel `n` whose cause is gone clear. -/
def State.resetChan (s : State) (n : Fin 8) : State :=
  let l := (s.sc n).causes.filter fun c => !s.chanCauseGone n c
  (s.setSc n { s.sc n with causes := l }).put (chFltField n) (l.headD 0)

/-- The number of class 1 latches of stop pairs, and of class 2 latches. -/
def State.pairLatches (s : State) : Nat :=
  ((List.finRange 16).map fun (p : Fin 16) => if s.pairType p = 1 then (s.sp p).causes.length else 0).sum
def State.chanLatches (s : State) : Nat := ((List.finRange 8).map fun (n : Fin 8) => (s.sc n).causes.length).sum

/-- The number of stop pairs with RSTREQ. -/
def State.rstreqs (s : State) : Nat := ((List.finRange 16).map fun (p : Fin 16) => b2n (s.on (pairField p 5))).sum

/-- A reset under R398. `full`: by a reset pair; `class1` and `earth`: which latches it reaches. -/
def State.islandReset (s : State) (full class1 earth : Bool) (quiet arg : Nat) : State :=
  let s1 := s.when class1 fun t => (List.finRange 16).foldl (fun (u : State) (p : Fin 16) => u.resetPair quiet p) t
  let s2 := s1.when full fun t => (List.finRange 8).foldl State.resetChan t
  let s3 := (List.finRange 16).foldl (State.evalPair · full) s2
  let s4 := s3.when full fun t => (List.finRange 16).foldl
    (fun (u : State) (p : Fin 16) => if u.on (pairField p 2) then u else u.putPair p 5 false) t
  let r := if earth then s4.resetEarth else (0, s4)
  let s5 := r.2
  let some12 := decide (s5.pairLatches < s.pairLatches ∨ s5.chanLatches < s.chanLatches ∨ s5.rstreqs < s.rstreqs)
  let remain := decide ((class1 ∧ s5.pairLatches > 0) ∨ (full ∧ s5.chanLatches > 0) ∨ (earth ∧ s5.earthLatches > 0))
  let s6 := s5.when some12 fun t => (t.irq Page.SAF 3).logE Page.SAF 0x0620 arg
  let s7 := s6.when remain fun t => t.logE Page.SAF 0x0621
    (t.getWords F.SAF_PAIRFLT.addr 2 + 2 ^ 64 * t.get F.SAF_CHFLT + 2 ^ 128 * t.earthLatches)
  let s8 := if remain then s7.incSat F.SAF_CNT_REFUSED else if some12 || r.1 != 0 then s7.incSat F.SAF_CNT_RESETS else s7
  let s9 := s8.when (class1 && s8.pairLatches == 0 && s8.chanLatches == 0 && s8.get F.SAF_STAT_STATE != 3)
    fun t => (t.put (F.FAULT_CODE.on Page.SAF) 0).put (F.FAULT_COUNT.on Page.SAF) 0
  s9.settle

/-- A reset pair is released after a demand of `ms` milliseconds (R388). -/
def State.resetPairReleased (s : State) (p : Fin 16) (ms quiet : Nat) : State :=
  if !(s.sp p).causes.isEmpty then s
  else if 100 ≤ ms ∧ ms ≤ 3000 then s.islandReset true true true quiet p
  else (s.incSat F.SAF_CNT_REFUSED).logE Page.SAF 0x0622 p

/-! ### Feedback (R393) -/

/-- The filtered level of FBn becomes `level`. While the open deadline runs, FBn = 1 meets it and is the reference of the
post-open check; FBn counts as seen at 1 with the legs off only after that deadline (R393, R396). -/
def State.feedbackChange (s : State) (n : Fin 8) (level : Bool) : State :=
  let c := s.sc n
  let s1 := s.setSc n { c with fb := level }
  if s.chUsed n && s.chFben n then
    let on := s.on (chField n 3)
    let off := !(s.sw (swOf n)).legs
    if level then
      let s2 := if on && c.seen0 then s1.latchChan n 3 0x0612 n else s1
      let c2 := s2.sc n
      if c2.opening then
        s2.setSc n { c2 with opened := true, postDue := false, post := if c2.postDue then some (s.chWeldT n) else c2.post }
      else s2.setSc n { c2 with seen1 := c2.seen1 || off }
    else if on then s1.setSc n { s1.sc n with seen0 := true }
    else if off && c.seen1 && !c.opening then s1.latchChan n 4 0x0613 n
    else s1
  else s1

/-- INPUT_FILTER_CHANGE (R380): the filtered level of an input changes. `chatter`: it is the eleventh change or a later one
within 1 s (R386); `quiet`: bit p is set when pair p had fewer than 11 transitions in the last second (R398); `demandMs`: how
long the demand of a reset pair lasted. -/
def State.inputChange (s : State) (i : SafetyInput) (level chatter : Bool) (quiet demandMs : Nat) : State :=
  if s.inputLevel i = level then s
  else
    let pairChange (p : Fin 16) (k : Nat) : State :=
      let was := s.on (pairField p 2)
      let s1 := (s.putPair p k level).evalPair false p
      let s2 := if chatter then s1.latchPair p 2 0x0604 p else s1
      if s.pairType p = 2 && was && !s2.on (pairField p 2) then s2.resetPairReleased p demandMs quiet else s2
    s.sameCycle (match i with
     | .pairA p => pairChange p 0
     | .pairB p => pairChange p 1
     | .fb n => s.feedbackChange n level).settle

def execInputFilterChange (i : SafetyInput) (level : Bool) (chatter : Bool) (quiet : BitVec 16) (demandMs : BitVec 16) (s : State) :
    Host.Outcome State Fault Refusal := .next (s.inputChange i level chatter quiet.toNat demandMs.toNat)

/-! ### Test pulses (R381 to R383) -/

/-- TEST_PULSE_START (R381): the output of the source falls to 0 V. -/
def execTestPulseStart (src : Fin 2) (s : State) : Host.Outcome State Fault Refusal :=
  .next { s with safety := { s.safety with island := { s.safety.island with pulse := s.safety.island.pulse.set src true } } }

/-- A check of an input passed or failed: the count of checks passed in succession. -/
def State.notePass (s : State) (i : SafetyInput) (ok : Bool) : State :=
  let next (k : Nat) : Nat := if ok then min 3 (k + 1) else 0
  match i with
  | .pairA p => s.setSp p { s.sp p with passA := next (s.sp p).passA }
  | .pairB p => s.setSp p { s.sp p with passB := next (s.sp p).passB }
  | .fb n => s.setSc n { s.sc n with passes := next (s.sc n).passes }

/-- A stuck-high or a cross-short fault of an input (R382). -/
def State.inputFault (s : State) (i : SafetyInput) (cross : Bool) : State :=
  let code := if cross then 0x0606 else 0x0605
  match i with
  | .pairA p => s.latchPair p (if cross then 5 else 3) code (inputNo i)
  | .pairB p => s.latchPair p (if cross then 6 else 4) code (inputNo i)
  | .fb n => s.latchChan n 6 code (inputNo i)

/-- The check of one input during a pulse of `src`, from the sampled levels. -/
def State.checkInput (s : State) (src : Fin 2) (levels : Nat) (i : SafetyInput) : State :=
  let own := s.inputSrc i
  if s.inputUsed i && own != 0 && s.inputLevel i then
    let bad := if own = src.val + 1 then bit levels (inputNo i) else !bit levels (inputNo i)
    let s1 := s.notePass i !bad
    if bad then s1.inputFault i (own != src.val + 1) else s1
  else s

/-- Both test-pulse outputs are read back: 3 bad periods in succession are a source fault, 3 good ones end it (R383). -/
def State.checkSource (s : State) (src : Fin 2) (good : Bool) : State :=
  let is := s.safety.island
  let bad := if good then 0 else min 3 (is.srcBad.get src + 1)
  let ok := if good then min 3 (is.srcGood.get src + 1) else 0
  let was := is.srcFault.get src
  let now := if bad = 3 then true else if ok = 3 then false else was
  let is' : Island := { is with srcBad := is.srcBad.set src bad, srcGood := is.srcGood.set src ok, srcFault := is.srcFault.set src now }
  let f := if src = 0 then F.SAF_STAT_TP0OK else F.SAF_STAT_TP1OK
  let s1 : State := { s with safety := { s.safety with island := is' } }
  if now && !was then
    let s2 := (s1.put f 0).logE Page.SAF 0x0607 src
    (allInputs.filter fun i => s.inputUsed i && s.inputSrc i == src.val + 1).foldl (fun (t : State) i => t.inputFault i false) s2
  else if was && !now then s1.put f 1
  else s1

/-- TEST_PULSE_CHECK (R382, R383): `levels` holds the samples taken 100 µs before the end of the pulse, by input number;
`low` and `high` say that the source reached 0 V in its pulse and 24 V outside it. -/
def State.testPulseCheck (s : State) (src : Fin 2) (levels : Nat) (low high : Bool) : State :=
  let s1 : State := { s with safety := { s.safety with island := { s.safety.island with pulse := s.safety.island.pulse.set src false } } }
  s.sameCycle ((allInputs.foldl (State.checkInput · src levels) s1).checkSource src (low && high)).settle

def execTestPulseCheck (src : Fin 2) (levels : BitVec 40) (low : Bool) (high : Bool) (s : State) : Host.Outcome State Fault Refusal :=
  .next (s.testPulseCheck src levels.toNat low high)

/-! ### Supervision (R373, R374, R378) -/

/-- LANE_COMPARISON (R373): the third disagreement in succession is a class 3 fault. -/
def execLaneComparison (agree : Bool) (s : State) : Host.Outcome State Fault Refusal :=
  let k := if agree then 0 else min 3 (s.safety.island.laneBad + 1)
  let s1 : State := { s with safety := { s.safety with island := { s.safety.island with laneBad := k } } }
  let s2 := s1.put F.SAF_STAT_LANEOK (b2n agree)
  .next (if k = 3 ∧ s.safety.island.laneBad ≠ 3 then s.sameCycle (s2.lockout 0x0633) else s2)

/-- OSCILLATOR_DEVIATION (R374): the deviation in 0.01 %; beyond 3 % it is a class 3 fault. -/
def execOscillatorDeviation (dev : BitVec 16) (s : State) : Host.Outcome State Fault Refusal :=
  let ok := decide (dev.toInt.natAbs ≤ 300)
  let s1 := (s.put F.SAF_OSCDEV_DEV dev.toNat).put F.SAF_STAT_OSCOK (b2n ok)
  let s2 : State := { s1 with safety := { s1.safety with island := { s1.safety.island with oscBad := !ok } } }
  .next (if !ok && !s.safety.island.oscBad then s.sameCycle (s2.lockout 0x0634) else s2)

/-- ISLAND_WATCHDOG (R374). -/
def execIslandWatchdog (s : State) : Host.Outcome State Fault Refusal := .next (s.sameCycle (s.lockout 0x0635))

/-- The bytes of the 63 words from `a`, as the CRC of a section takes them. -/
def State.sectionBytes (s : State) (a : Nat) : List Byte := (List.range 63).flatMap fun w => toBytes 4 (s.word (a + 4 * w)).toNat

/-- Do both sections of the loaded copy agree with their CRC (R378, R421)? -/
def State.loadedCrcOk (s : State) : Bool :=
  crc32 (s.sectionBytes F.SAF_PAR.addr) == s.par 63 && crc32 (s.sectionBytes F.EFM_PAR.addr) == s.efPar 63

/-- PARAMETER_CRC_CHECK (R378): `flip` disturbs word `w` of the loaded block before the check. With no block loaded there is
nothing to check. -/
def execParameterCrcCheck (w : Fin 128) (flip : Word) (s : State) : Host.Outcome State Fault Refusal :=
  if s.get F.SAF_STAT_STATE = 0 then .next s
  else
    let a := if w.val < 64 then F.SAF_PAR.addr + 4 * w.val else F.EFM_PAR.addr + 4 * (w.val - 64)
    let s1 := s.setWord a (s.word a ^^^ flip)
    let bad := !s1.loadedCrcOk
    let s2 : State := { s1 with safety := { s1.safety with island := { s1.safety.island with crcBad := bad } } }
    .next (if bad && !s.safety.island.crcBad then s.sameCycle (s2.lockout 0x0632) else s.sameCycle s2.settle)

/-! ### Deadlines and qualified waits -/

/-- DISCREPANCY_FAULT (R385). -/
def execDiscrepancyFault (p : Fin 16) (s : State) : Host.Outcome State Fault Refusal :=
  .next (if s.on (pairField p 0) = s.on (pairField p 1) then s.sameCycle (s.latchPair p 1 0x0603 p).settle else s)

/-- RESET_PAIR_FAULT_CLEAR (R388). -/
def execResetPairFaultClear (p : Fin 16) (s : State) : Host.Outcome State Fault Refusal :=
  .next (if s.pairType p = 2 ∧ !s.on (pairField p 0) ∧ s.on (pairField p 1) then
    (s.setSp p { s.sp p with causes := [] }).evalPair false p else s)

/-- RESTART_QUALIFY (R404): the pair has been released for one TPPER since S2. -/
def execRestartQualify (p : Fin 16) (s : State) : Host.Outcome State Fault Refusal :=
  let c := s.sp p
  .next (if c.assumed && !s.on (pairField p 0) && s.on (pairField p 1) && c.causes.isEmpty then
    s.sameCycle ((s.setSp p { c with assumed := false }).evalPair false p).settle else s)

/-- SAFETY_RESET_REQUEST (R389, R435): class 1 latches when APPRST1 is 1, earth-fault latches when EFAPPRST is 1. -/
def State.safetyReset (s : State) (v quiet : Nat) : State :=
  let c1 := bit (s.par 3) 0
  let ef := bit (s.efPar 2) 8
  if v = 0x5AF1 ∧ (c1 ∨ ef) then s.sameCycle (s.islandReset false c1 ef quiet 0xFF) else s

def execSafetyResetRequest (v : Word) (quiet : BitVec 16) (s : State) : Host.Outcome State Fault Refusal :=
  .next (s.safetyReset v.toNat quiet.toNat)

/-- CLOSE_DEADLINE (R393). -/
def execCloseDeadline (n : Fin 8) (s : State) : Host.Outcome State Fault Refusal :=
  .next (if s.chUsed n && s.chFben n && s.on (chField n 3) && !(s.sc n).seen0 then s.sameCycle (s.latchChan n 1 0x0610 n).settle else s)

/-- OPEN_DEADLINE (R393, R396): the deadline ends; with FBEN 0 it only begins the count of the post-open check. -/
def execOpenDeadline (n : Fin 8) (s : State) : Host.Outcome State Fault Refusal :=
  let c := s.sc n
  if c.opening then
    let s1 := if s.chFben n && !c.opened then s.latchChan n 2 0x0611 n else s
    let c1 := s1.sc n
    .next <| s.sameCycle (s1.setSc n { c1 with opening := false, opened := false, seen1 := c1.fb, postDue := false, post := if c1.postDue then some (s.chWeldT n) else c1.post }).settle
  else .next s

/-- LEG_FAULT (R463): the fault logic finds a leg that conducts when commanded off, or unequal leg currents. -/
def execLegFault (n : Fin 8) (s : State) : Host.Outcome State Fault Refusal := .next (s.sameCycle (s.latchChan n 7 0x0617 n).settle)

/-- TWO_LEG_SHORT (R464): no trip is counted and RETRY stays. -/
def execTwoLegShort (n : Fin 8) (s : State) : Host.Outcome State Fault Refusal := .next (s.sameCycle (s.latchChan n 8 0x0618 n).settle)

/-! ### The weld check (R394 to R396) -/

/-- The used channels that name port `q` in WPORTS. -/
def State.weldChans (s : State) (q : Nat) : List (Fin 8) := (List.finRange 8).filter fun n => s.chUsed n && bit (s.chPorts n) q

/-- The weld window of port `q` in mV over the last 160 samples of its voltage channel; none when it is indeterminate. -/
def State.weldWindow (s : State) (q : Nat) (dc : Bool) : Option Nat :=
  let ch : Channel := s.chans.toList.getD (3 * q) {}
  let l : List (Int × Bool × Bool) := ch.hist.take 160
  let fs := 1000 * s.get (F.HEAD_RATING_VFS.i q)
  if l.length = 160 && l.all (fun (x : Int × Bool × Bool) => x.2.1) then
    let sum : Int := (l.map fun (x : Int × Bool × Bool) => x.1).sum
    let sq : Int := (l.map fun (x : Int × Bool × Bool) => x.1 * x.1).sum
    some (if dc then sum.natAbs * fs / (160 * 2 ^ 30)
      else isqrt (sq.natAbs * (fs * fs) / (160 * 2 ^ 60)))
  else none

/-- WELDVOLT of port `q`. -/
def weldField (q : Nat) : Field := { F.SAF_WELDVOLT.i (q / 2) with lo := 16 * (q % 2), width := 16 }

/-- Form the window of port `q`. -/
def State.formWeld (s : State) (q : Nat) : State :=
  match s.weldChans q with
  | [] => s.put (weldField q) 0
  | n :: _ =>
    let w := s.weldWindow q (s.chDcWeld n)
    let s1 : State := { s with safety := { s.safety with island := { s.safety.island with weld := s.safety.island.weld.set q w } } }
    s1.put (weldField q) (match w with
      | none => 0xFFFF
      | some mv => min 0xFFFE ((mv + 500) / 1000))

/-- Has every port in WPORTS of channel `n` a valid window? -/
def State.weldValid (s : State) (n : Nat) : Bool :=
  (List.range 8).all fun q => !bit (s.chPorts n) q || (s.safety.island.weld.getD q none).isSome

/-- The post-open check of channel `n` at a new window, and the end of WELDSUSP (R396). -/
def State.postCheck (s : State) (n : Fin 8) : State :=
  if s.chUsed n && s.chPorts n != 0 then
    let clear := s.weldClear n
    let s1 := s.when clear (·.put (chField n 5) 0)
    let c := s1.sc n
    match c.post with
    | none => s1
    | some (k + 1) => s1.setSc n { c with post := some k }
    | some 0 =>
      if !s.weldValid n then s1.setSc n { c with postHold := true }
      else
        let s2 := s1.setSc n { c with postHold := false, post := none }
        if clear then s2
        else if s.chDcWeld n then
          if s.on (chField n 5) then s2 else ((s2.put (chField n 5) 1).irq Page.SAF 5).logE Page.SAF 0x0615 n
        else s2.latchChan n 5 0x0614 n
  else s

/-- WELD_WINDOW (R394 to R396). -/
def State.weldStep (s : State) : State :=
  s.sameCycle ((List.finRange 8).foldl State.postCheck ((List.range 8).foldl State.formWeld s)).settle

def execWeldWindow (s : State) : Host.Outcome State Fault Refusal :=
  .next (if s.get F.SAF_STAT_STATE = 0 then s else s.weldStep)

end Sys2Proof.Machine
end

