-- ==== Sys2Proof/Machine/EarthFault.lean ====
section
/-!
DEFINITION. Machine/EarthFault.lean: residual-current monitoring and the insulation measurement (chapter 11).
-/

namespace Sys2Proof.Machine

/-- Do the earth-fault functions run: in OPERATE and HELD, until t₀ of the power-fail sequence (R437, R438)? -/
def State.earthRuns (s : State) : Bool := (s.get F.SAF_STAT_STATE == 1 || s.get F.SAF_STAT_STATE == 2) && !s.boot.pfail

def State.setEarth (s : State) (e : Earth) : State := { s with safety := { s.safety with earth := e } }

/-- One sample as the island takes it: value, VALID, SAT. -/
abbrev IslandSample := Int × Bool × Bool

/-- The last `k` samples of channel `c`, newest first. -/
def State.samplesOf (s : State) (c k : Nat) : List IslandSample :=
  let ch : Channel := s.chans.toList.getD c {}
  ch.hist.take k

/-- Is a window of `k` samples wholly valid (R423)? -/
def wholeWindow (k : Nat) (l : List IslandSample) : Bool := decide (l.length = k) && l.all fun (x : IslandSample) => x.2.1 || x.2.2

def sumOf (l : List IslandSample) : Int := (l.map fun (x : IslandSample) => x.1).sum
def sqOf (l : List IslandSample) : Int := (l.map fun (x : IslandSample) => x.1 * x.1).sum

/-! ### Residual estimates (R423 to R428) -/

/-- A count of qualifying evaluations after one evaluation (R424). -/
def TierCount.next (t : TierCount) (q : Bool) : TierCount :=
  if q then ⟨t.n + 1, 0⟩ else if t.miss ≥ 3 then ⟨0, 4⟩ else ⟨t.n, t.miss + 1⟩

/-- The estimates of one evaluation: sums over the windows of Table 11-3, and which windows are wholly valid. -/
structure Residual where
  ok800 : Bool
  ok160 : Bool
  okExc : Bool
  sum800 : Int
  sq800 : Int
  sum160 : Int
  sat160 : Bool
  sumExc : Int
deriving DecidableEq, Repr

def State.residual (s : State) : Residual :=
  let p := s.rcPort
  let l800 := s.samplesOf (3 * p + 1) 800
  let l160 := l800.take 160
  let lv := s.samplesOf (3 * p) 160
  { ok800 := wholeWindow 800 l800, ok160 := wholeWindow 160 l160, okExc := wholeWindow 160 lv,
    sum800 := sumOf l800, sq800 := sqOf l800, sum160 := sumOf l160, sat160 := l160.any fun (x : IslandSample) => x.2.2, sumExc := sumOf lv }

/-- IDC, IDCF and IAC in 0.01 mA, by the full scale of 400 mA at 2³⁰. -/
def Residual.idc (r : Residual) : Int := roundDiv (r.sum800 * 40000) (800 * 2 ^ 30)
def Residual.idcf (r : Residual) : Int := roundDiv (r.sum160 * 40000) (160 * 2 ^ 30)
/-- (800 × the r.m.s. deviation)², from which IAC follows. -/
def Residual.acSq (r : Residual) : Nat := (800 * r.sq800 - r.sum800 * r.sum800).toNat
def Residual.iac (r : Residual) : Nat := isqrt (r.acSq * (40000 * 40000)) / (800 * 2 ^ 30)

/-- Is the magnitude of a mean over `n` samples at or above `ma`? -/
def meanAtLeast (sum : Int) (n ma : Nat) : Bool := decide (sum.natAbs * 400 ≥ ma * n * 2 ^ 30)

def Residual.acAtLeast (r : Residual) (ma : Nat) : Bool := decide (r.acSq * (400 * 400) ≥ (ma * 800 * 2 ^ 30) * (ma * 800 * 2 ^ 30))

/-- EXC lies in 0.40 to 0.60 of 2³⁰. -/
def Residual.excOk (r : Residual) : Bool := decide (40 * 160 * 2 ^ 30 ≤ 100 * r.sumExc ∧ 100 * r.sumExc ≤ 60 * 160 * 2 ^ 30)

/-- Which tiers the evaluation qualifies for (Table 11-4), then the AC trip (R427). -/
def State.qualifies (s : State) (r : Residual) : List Bool :=
  let lev := bits (s.efPar 2) 4 4
  let act := bits (s.efPar 2) 24 8
  [r.ok800 && meanAtLeast r.sum800 800 lev, r.ok160 && meanAtLeast r.sum160 160 (10 * lev),
   r.ok160 && (meanAtLeast r.sum160 160 200 || r.sat160), r.ok800 && act != 0 && r.acAtLeast act]

/-- The number of qualifying evaluations of each level. -/
def State.tierLimits (s : State) : List Nat := [1601, 31, 9, (bits (s.efPar 3) 0 13 + 4) / 5]

/-- The estimates go to the registers; over windows that are not wholly valid the spec gives them no value. -/
def State.putEstimates (s : State) (r : Residual) : State :=
  let lim (i : Int) : Nat := ofSigned 16 (max (-0x7FFF) (min 0x7FFF i))
  let s1 := if r.ok800 then (s.put F.EFM_RESDC_IDC (lim r.idc)).put F.EFM_RESAC_IAC (sat 16 r.iac)
    else s.free fun v t => (t.put F.EFM_RESDC_IDC v).put F.EFM_RESAC_IAC (v / 2 ^ 16)
  let s2 := if r.ok160 then s1.put F.EFM_RESDC_IDCF (lim r.idcf) else s1.free fun v t => t.put F.EFM_RESDC_IDCF v
  let s3 := if r.okExc then s2.put F.EFM_RFMON_EXC (sat 8 (roundDiv (100 * r.sumExc) (160 * 2 ^ 30)).toNat)
    else s2.free fun v t => t.put F.EFM_RFMON_EXC v
  match s.samplesOf (3 * s.rcPort + 2) 1 with
  | [(x, true, _)] => s3.put F.EFM_RFMON_TEMP (ofSigned 12 (roundDiv (x * s.get (F.HEAD_XRATING_XFS.i s.rcPort) * 16) (2 ^ 30)))
  | _ => s3.free fun v t => t.put F.EFM_RFMON_TEMP v

/-- The counts go to RCHOLD and ACHOLD. -/
def State.putCounts (s : State) (l : List TierCount) : State :=
  let n (k : Nat) : Nat := (l.getD k {}).n
  (((s.put F.EFM_RCHOLD_T1 (sat 16 (n 0))).put F.EFM_RCHOLD_T2 (sat 8 (n 1))).put F.EFM_RCHOLD_T3 (sat 8 (n 2))).put F.EFM_ACHOLD_N (sat 16 (n 3))

/-- A residual trip (R426, R427): tier 0 is the AC trip. The counts start again. -/
def State.residualTrip (s : State) (tier est : Nat) : State :=
  let s1 := (((s.put F.EFM_RCLATCH_TIER tier).put F.EFM_RCLATCH_LATCHED 1).put F.EFM_RCLATCH_EST (sat 16 est)).put F.EFM_STAT_RCTRIP 1
  let s2 := (s1.setEarth { s1.safety.earth with tiers := List.replicate 4 {} }).irq Page.EFM 0
  if tier = 0 then (s2.incSat F.EFM_CNT_AC).logE Page.EFM 0x0702 est
  else (s2.incSat F.EFM_CNT_DC).logE Page.EFM 0x0701 (tier + 2 ^ 64 * est)

/-- The AC warning (R427). -/
def State.acWarning (s : State) (r : Residual) : State :=
  let lev := bits (s.efPar 2) 16 8
  if lev = 0 ∨ !r.ok800 then s
  else if r.acAtLeast lev then
    let s1 := s.setEarth { s.safety.earth with acBelow := 0 }
    if s.on F.EFM_STAT_ACWARN then s1 else ((s1.put F.EFM_STAT_ACWARN 1).irq Page.EFM 1).logE Page.EFM 0x0703 r.iac
  else
    let k := min 20 (s.safety.earth.acBelow + 1)
    let s1 := s.setEarth { s.safety.earth with acBelow := k }
    if k = 20 ∧ s.on F.EFM_STAT_ACWARN then ((s1.put F.EFM_STAT_ACWARN 0).irq Page.EFM 1).logE Page.EFM 0x0704 0 else s1

/-- The first cause of R428 that holds, 0 for none. -/
def State.lossCause (s : State) (r : Residual) : Nat :=
  if s.get (F.HEAD_STAT_STATE.i s.rcPort) ≠ 4 then 1
  else if !(r.ok800 && r.ok160 && r.okExc) then 2
  else if s.get (F.HEAD_HFAULT_CODE.i s.rcPort) ≠ 0 then 3
  else if s.safety.earth.excBad ≥ 3 then 4
  else 0

/-- Loss or return of residual monitoring (R428). -/
def State.noteLoss (s : State) (cause : Nat) : State :=
  let was := s.on F.EFM_STAT_RCOK
  let s1 := (s.put F.EFM_RFMON_LOST cause).put F.EFM_STAT_RCOK (b2n (cause = 0))
  let s2 := s1.when (was != (cause == 0)) (·.irq Page.EFM 2)
  if cause ≠ 0 then
    let s3 := s2.setEarth { s2.safety.earth with tiers := List.replicate 4 {}, lossNoted := true }
    if s.safety.earth.lossNoted then s3 else (s3.incSat F.EFM_CNT_LOSS).logE Page.EFM 0x0705 cause
  else
    let s3 := s2.setEarth { s2.safety.earth with lossNoted := false }
    if s.safety.earth.lossNoted then s3.logE Page.EFM 0x0706 0 else s3

/-- The counts of the tiers and of the AC trip after an evaluation (R424, R427). -/
def State.nextTiers (s : State) (r : Residual) : List TierCount :=
  (List.range 4).map fun k => (s.safety.earth.tiers.getD k {}).next ((s.qualifies r).getD k false)

/-- The evaluations in succession with EXC outside its range, up to three (R428). -/
def State.nextExc (s : State) (r : Residual) : Nat := if !r.okExc || r.excOk then 0 else min 3 (s.safety.earth.excBad + 1)

/-- Has level `k` held for its number of qualifying evaluations at this one (R424, R427)? -/
def State.levelReached (s : State) (r : Residual) (k : Nat) : Bool :=
  decide (s.tierLimits.getD k 0 ≤ ((s.nextTiers r).getD k {}).n) && (s.qualifies r).getD k false

/-- The trip of an evaluation with its estimate: the highest DC tier, then the AC trip, tier 0 (log entry 65). -/
def State.tripOf (s : State) (r : Residual) : Option (Nat × Nat) :=
  if s.levelReached r 2 then some (3, r.idcf.natAbs)
  else if s.levelReached r 1 then some (2, r.idcf.natAbs)
  else if s.levelReached r 0 then some (1, r.idc.natAbs)
  else if s.levelReached r 3 then some (0, r.iac)
  else none

/-- RESIDUAL_EVALUATION (R423 to R428, R440): a trip is latched before a loss that arises in the same evaluation. -/
def State.residualStep (s : State) : State :=
  let r := s.residual
  let e := s.safety.earth
  let s1 := (s.putEstimates r).setEarth
    { e with tiers := s.nextTiers r, excBad := s.nextExc r, lastQual := (s.qualifies r).any (fun b => b) }
  let s2 := if s.on F.EFM_RCLATCH_LATCHED then s1
    else match s.tripOf r with
      | some (tier, est) => s1.residualTrip tier est
      | none => s1
  let s3 := (s2.acWarning r)
  let s4 := s3.noteLoss (s3.lossCause r)
  s.sameCycle (s4.putCounts s4.safety.earth.tiers).settle

def execResidualEvaluation (s : State) : Host.Outcome State Fault Refusal :=
  .next (if s.earthRuns && s.rcOn then s.residualStep else s)

/-! ### Insulation (R429 to R433) -/

/-- The insulation monitor fault is latched (R429, R433). -/
def State.latchMonitor (s : State) (code arg : Nat) : State :=
  if s.on F.EFM_STAT_INSMF then s else ((s.put F.EFM_STAT_INSMF 1).irq Page.EFM 5).logE Page.EFM code arg

/-- Begin step `k` of a cycle (R430, Table 11-5). -/
def State.beginStep (s : State) (k : Nat) (test : Bool) : State :=
  let s1 := (((s.sendBleeder (k + 4 * b2n test)).put F.EFM_INSCYC_STEP k).put F.EFM_INSCYC_TEST (b2n test)).put F.EFM_STAT_MEASURING 1
  (s1.put F.EFM_STAT_TESTING (b2n test)).setEarth { s1.safety.earth with samples := 0, sumI := 0, sumU := 0, bad := false }

/-- An output sample of INSPORT within a step: it enters the sums in the step's last quarter. -/
def State.bleederSample (s : State) : State :=
  if s.get F.EFM_INSCYC_STEP = 0 then s
  else
    let p := s.insPort
    let e := s.safety.earth
    let quarter := decide (e.samples ≥ 6 * bits (s.efPar 5) 0 14)
    let inRun := s.get (F.HEAD_STAT_STATE.i p) == 4
    match s.samplesOf (3 * p + 2) 1, s.samplesOf (3 * p) 1 with
    | [(x, vx, _)], [(u, vu, _)] =>
      if quarter then
        s.setEarth { e with samples := e.samples + 1, sumI := e.sumI + x, sumU := e.sumU + u, bad := e.bad || !inRun || !vx || !vu }
      else s.setEarth { e with samples := e.samples + 1, bad := e.bad || !inRun }
    | _, _ => s.setEarth { e with samples := e.samples + 1, bad := true }

/-- INSULATION_EVALUATION (R430): U of the evaluation, and the start and stop of the cycles. A window that is not wholly
valid gives no U: both runs begin again. -/
def State.insulationEval (s : State) : State :=
  let p := s.insPort
  let l := s.samplesOf (3 * p) 160
  let e := s.safety.earth
  if decide (l.length = 160) && l.all (fun (x : IslandSample) => x.2.1) then
    let num := sumOf l * s.get (F.HEAD_RATING_VFS.i p)
    let high := decide (num ≥ 50 * 160 * 2 ^ 30)
    let e1 : Earth := if high then { e with above := min 21 (e.above + 1), below := 0 } else { e with above := 0, below := min 20 (e.below + 1) }
    let s1 := (s.put F.EFM_INSU_U (ofSigned 16 (roundDiv num (160 * 2 ^ 30)))).setEarth e1
    if s.get F.EFM_INSCYC_STEP = 0 then (if e1.above = 21 then s1.beginStep 1 true else s1)
    else if e1.below = 20 then
      let s2 := ((s1.stopInsulation.putInsState (if e1.insFault then 3 else 0)).put F.EFM_STAT_FRESH 0)
      s2.setEarth { s2.safety.earth with testDone := false, above := 0 }
    else s1
  else s.free fun v t => (t.put F.EFM_INSU_U v).setEarth { e with above := 0, below := 0 }

def execInsulationEvaluation (s : State) : Host.Outcome State Fault Refusal :=
  .next (if s.earthRuns && s.insOn then s.sameCycle s.insulationEval.settle else s)

/-- A cycle is discarded and repeated (R430). -/
def State.discardCycle (s : State) (step reason : Nat) : State :=
  (((s.incSat F.EFM_INSCYC_DISC).logE Page.EFM 0x0715 (step + 2 ^ 64 * reason)).beginStep 1 (s.on F.EFM_STAT_TESTING))

/-- I / U of a step as I × Rb / U of R431, from its sums: µA × MΩ / V. -/
def State.stepRatio (s : State) (i u : Int) : Rat :=
  ((i.natAbs * s.get (F.HEAD_XRATING_XFS.i s.insPort) : Nat) : Rat) / ((u * s.get (F.HEAD_RATING_VFS.i s.insPort) : Int) : Rat)

/-- A resistance in kΩ, rounded down, as a register shows it; none is a divisor of 0. -/
def kOhm (r : Option Rat) : Nat :=
  match r with
  | none => 0xFFFFFF
  | some q => min 0xFFFFFF q.floor.toNat

/-- `1000 kΩ × c / d`, none where the divisor is 0. -/
def insQuot (c d : Rat) : Option Rat := if d = 0 then none else some (1000 * c / d)

/-- INSSTATE after a normal cycle (R432). -/
def State.judgeInsulation (s : State) (riso rp rn : Option Rat) : State :=
  let vref := bits (s.efPar 4) 4 12
  let below (ohmPerV : Nat) : Bool := match riso with
    | none => false
    | some q => decide (1000 * q < ((ohmPerV * vref : Nat) : Rat))
  let st := s.get F.EFM_STAT_INSSTATE
  if s.safety.earth.insFault then s
  else if below 100 then
    ((s.setEarth { s.safety.earth with insFault := true }).putInsState 3).incSat F.EFM_CNT_INS |>.logE Page.EFM 0x0712
      (kOhm riso + 2 ^ 64 * kOhm rp + 2 ^ 128 * kOhm rn)
  else if (st = 0 ∨ st = 1) ∧ below 500 then (s.putInsState 2).logE Page.EFM 0x0711 (kOhm riso)
  else if st = 2 ∧ !below 600 then s.putInsState 1
  else if st = 0 then s.putInsState 1
  else s

/-- The self-test after a test cycle and its normal cycle (R433). Where a value of Rp is 0xFF_FFFF the spec gives no Rt′. -/
def State.judgeSelfTest (s : State) (rp : Option Rat) : State :=
  let e := s.safety.earth
  let s1 := s.setEarth { e with testDone := false, rpTest := none }
  match e.rpTest, rp with
  | some a, some b =>
    if a = 0 ∨ b = 0 ∨ 1 / a = 1 / b ∨ kOhm rp = 0xFFFFFF ∨ kOhm e.rpTest = 0xFFFFFF then
      s1.free fun v t => ((t.put F.EFM_INSTEST_RT v).put F.EFM_INSTEST_PASS 0).latchMonitor 0x0713 (v % 2 ^ 24)
    else
      let rt := 1 / (1 / a - 1 / b)
      let ok := decide (170 ≤ rt ∧ rt ≤ 230)
      let s2 := (s1.put F.EFM_INSTEST_RT (kOhm (some rt))).put F.EFM_INSTEST_PASS (b2n ok)
      if ok then s2 else s2.latchMonitor 0x0713 (kOhm (some rt))
  | _, _ => s1.free fun v t => ((t.put F.EFM_INSTEST_RT v).put F.EFM_INSTEST_PASS 0).latchMonitor 0x0713 (v % 2 ^ 24)

/-- A cycle with ratios `a` and `b` is complete (R431 to R433). -/
def State.finishCycle (s : State) (a b : Rat) : State :=
  let c := max 0 (1 - a - b)
  let rp := insQuot c b
  let rn := insQuot c a
  let riso := insQuot c (a + b)
  if s.on F.EFM_STAT_TESTING then
    (s.setEarth { s.safety.earth with rpTest := rp, testDone := true, testDue := false }).beginStep 1 false
  else
    let s1 := (((s.put F.EFM_INSRP_R (kOhm rp)).put F.EFM_INSRN_R (kOhm rn)).put F.EFM_INSR_R (kOhm riso)).incSat F.EFM_INSCYC_NORMAL
    let s2 := if s1.safety.earth.testDone then s1.judgeSelfTest rp else s1
    let s3 := ((s2.judgeInsulation riso rp rn).put F.EFM_STAT_FRESH 1).irq Page.EFM 4
    s3.beginStep 1 s3.safety.earth.testDue

/-- Do two step voltages differ by more than 5 % (R430), relative to the larger? -/
def differ5 (u1 u2 : Rat) : Bool := decide (20 * |u1 - u2| > max |u1| |u2|)

/-- INSULATION_STEP_END (R430). -/
def State.insulationStep (s : State) : State :=
  let step := s.get F.EFM_INSCYC_STEP
  let e := s.safety.earth
  let n := e.samples - 6 * bits (s.efPar 5) 0 14
  let ua (sum : Int) (k : Nat) : Nat := sat 16 (roundDiv (sum.natAbs * s.get (F.HEAD_XRATING_XFS.i s.insPort) * 10) (k * 2 ^ 30)).toNat
  if step = 0 then s
  else if e.bad || n == 0 then s.discardCycle step 1
  else if step = 1 then
    (s.put F.EFM_INSI_I1 (ua e.sumI n)).setEarth { e with i1 := e.sumI, u1 := e.sumU, n1 := n } |>.beginStep 2 (s.on F.EFM_STAT_TESTING)
  else
    let s1 := s.put F.EFM_INSI_I2 (ua e.sumI n)
    if differ5 ((e.u1 : Rat) / (e.n1 : Rat)) ((e.sumU : Rat) / (n : Rat)) then s1.discardCycle 2 2
    else if e.u1 = 0 ∨ e.sumU = 0 then s1.free fun v t => t.finishCycle ((v % 65536 : Nat) : Rat) ((v / 65536 : Nat) : Rat)
    else s1.finishCycle (s1.stepRatio e.i1 e.u1) (s1.stepRatio e.sumI e.sumU)

def execInsulationStepEnd (s : State) : Host.Outcome State Fault Refusal :=
  .next (if s.earthRuns && s.insOn then s.sameCycle s.insulationStep.settle else s)

/-- SELF_TEST_DUE (R430): the next cycle is a test cycle. -/
def execSelfTestDue (s : State) : Host.Outcome State Fault Refusal :=
  .next (if s.insOn then s.setEarth { s.safety.earth with testDue := true } else s)

/-- BLEEDER_ECHO_TIMEOUT (R429). -/
def execBleederEchoTimeout (s : State) : Host.Outcome State Fault Refusal :=
  .next (if s.insOn && !s.on (F.HEAD_AUXST_ECHO.i s.insPort) then
    (s.latchMonitor 0x0714 (s.get (F.HEAD_AUXST_ARG.i s.insPort))).settle else s)

end Sys2Proof.Machine
end

