-- ==== Sys2Proof/Machine/Rws.lean ====
section
/-!
DEFINITION. Machine/Rws.lean: denied writes (R89, R91) and writes of sealed configuration, the RWS fields (R91, R107,
R304, R305).
-/

namespace Sys2Proof.Machine

/-- The page base of a register address. -/
def pageBase (a : Nat) : Nat := a / 4096 * 4096

/-- Record a write that Table 3-3 refuses, in LOCKSTAT of its page: the first one after DENIED was cleared keeps its domain
and word and logs `code` (R89, R91). -/
def State.recordDenied (s : State) (a : Nat) (dom : Domain) (code : Nat) : State :=
  let p := pageBase a
  if s.on (F.LOCKSTAT_DENIED.on p) then s.incSat (F.LOCKSTAT_DCOUNT.on p)
  else
    (((((s.put (F.LOCKSTAT_DENIED.on p) 1).put (F.LOCKSTAT_DDOM.on p) dom.code).put (F.LOCKSTAT_DWORD.on p) ((a - p) / 4)).put
      (F.LOCKSTAT_DCOUNT.on p) 1)).logE p code (a - p)

/-- Are RWS fields locked: the state is SEALED, or the counted log is full (R305)? -/
def State.rwsLocked (s : State) : Bool := s.sealed || s.on F.LDG_STAT_CLOGFULL

/-- The counted queue has at most 16 free entries: a change of an RWS field stalls (R304). -/
def State.rwsStalls (s : State) : Bool := decide (s.log.counted.length + s.log.waiting.length ≥ 48)

/-- Argument of event 0x0208 (Table 8-7). -/
def rwsArg (a old new : Nat) : Nat := pageIndex a + 2 ^ 16 * (a - pageBase a) + 2 ^ 32 * old + 2 ^ 64 * new

/-- Store `w` in the word at `a`, which holds RWS fields: while UNSEALED a change of such a field is logged and counted
(R107); a configuration copy becomes due (R300). -/
def State.putRws (s : State) (a w : Nat) : State :=
  let old := (s.word a).toNat
  let s1 := s.setWord a (BitVec.ofNat 32 w)
  if old &&& rwsMask a = w &&& rwsMask a then s1
  else if s.unsealed then s1.markConfig.logE (pageBase a) 0x0208 (rwsArg a old (w % 2 ^ 32))
  else s1.markConfig

/-- Does writing `w` change an RWS field of the word at `a`? -/
def State.rwsChanges (s : State) (a w : Nat) : Bool := (s.word a).toNat &&& rwsMask a != w &&& rwsMask a

/-- A write to a word of RWS fields by `who` whose new content would be `w`: refused while locked, with LOCKSTAT and event
0x020A; held back while the counted queue is short (R304); else `effect` takes place. -/
def State.rwsWrite (s : State) (who : Initiator) (a v w : Nat) (effect : State → State) : State :=
  if s.rwsLocked then s.recordDenied a (domainOf who) 0x020A
  else if s.unsealed && s.rwsChanges a w && s.rwsStalls then { s with stalled := s.stalled ++ [⟨who, a, BitVec.ofNat 32 v⟩] }
  else effect s

end Sys2Proof.Machine
end

