-- ==== Sys2Proof/Machine/Energy.lean ====
section
/-!
DEFINITION. Machine/Energy.lean: the energy engine (chapter 6).
-/

namespace Sys2Proof.Machine

/-! ### Arithmetic -/

/-- `n / d` rounded to nearest, ties to even (R228). -/
def roundEven (n d : Nat) : Nat :=
  let q := n / d
  let r := n % d
  if 2 * r > d ∨ (2 * r = d ∧ q % 2 = 1) then q + 1 else q

/-- Engine units in one watt: 2⁶⁰ × 2.56 × 10²⁰. -/
def unitsW : Nat := 2 ^ 60 * 256 * 10 ^ 18

/-- Engine units times 125 µs in one µWh: 28.8 times as many. -/
def unitsUwh : Nat := 2 ^ 60 * 73728 * 10 ^ 17

/-! ### Elements and their ports -/

def State.elem (s : State) (e : Nat) : Elem := s.energy.elems.getD e {}

def State.setElem (s : State) (e : Nat) (x : Elem) : State := { s with energy := { s.energy with elems := s.energy.elems.set e x } }

/-- The word of MEn_CFG in force. -/
def State.meCfg (s : State) (e : Nat) : Nat := s.energy.meCfg.getD e 0

def cfgEn (w : Nat) : Bool := bit w 0
def cfgDc (w : Nat) : Bool := bit w 2
def cfgVch (w : Nat) : Nat := bits w 8 5
def cfgIch (w : Nat) : Nat := bits w 16 5

/-- The port of a channel. -/
def portOf (ch : Nat) : Fin 8 := ⟨ch / 3 % 8, by omega⟩

/-- HEADn.CFG.TYPE of the port of a channel. -/
def State.typeOf (s : State) (ch : Nat) : Nat := s.get (F.HEAD_CFG_TYPE.i (portOf ch))

/-- Is a type DC (PH-DC, PH-DCX)? -/
def typeDc (t : Nat) : Bool := t == 2 || t == 3

/-- The type of the port of a channel in force for the engine cycle (R247). -/
def State.typeInForce (s : State) (ch : Nat) : Nat := s.energy.types.getD (portOf ch) 0

/-- Currents of Table 6-1 in mA: Iref, Ist, Imin. -/
def headLimits (t : Nat) : Nat × Nat × Nat :=
  match t with
  | 1 => (10000, 40, 500)
  | 2 => (40000, 160, 2000)
  | 3 => (150000, 600, 7500)
  | _ => (0, 0, 0)

/-- IREF and ISTART of an element's working copy, with Table 6-1 for 0 (R209). -/
def State.irefOf (s : State) (e : Nat) : Nat :=
  let i := s.energy.cal.iref.getD e 0
  if i = 0 then (headLimits (s.typeInForce (cfgIch (s.meCfg e)))).1 else i

def State.istartOf (s : State) (e : Nat) : Nat :=
  let i := s.energy.cal.istart.getD e 0
  if i = 0 then (headLimits (s.typeInForce (cfgIch (s.meCfg e)))).2.1 else i

/-- Full scales of the two ports of an element (kp, R211). -/
def State.vfsOf (s : State) (e : Nat) : Nat := s.get (F.HEAD_RATING_VFS.i (portOf (cfgVch (s.meCfg e))))
def State.ifsOf (s : State) (e : Nat) : Nat := s.get (F.HEAD_RATING_IFS.i (portOf (cfgIch (s.meCfg e))))

/-- Is an element billed: summed by an accumulator that an enabled billing register selects? -/
def State.billedElem (s : State) (e : Nat) : Bool :=
  s.energy.br.any fun b => bit b 6 && bit (s.energy.accCfg.getD (b % 64) 0) e

/-! ### One sample (R211, R236 to R241) -/

/-- Base correction of a sample of channel `ch`: (value - ofs) × (10⁶ + gain), in 10⁻⁶ sample units. -/
def State.baseSample (s : State) (ch : Nat) : Int :=
  (toSigned 32 (s.get (F.FIL_CH_OUT.i ch)) - s.energy.cal.ofs.getD ch 0) * (1000000 + s.energy.cal.gain.getD ch 0)

/-- Entry `i` of a window of samples, newest first. -/
def sampleIn (w : List (Option Int)) (i : Nat) : Int := (w.getD i none).getD (Config.gapFill w i)

/-- fracdelay of the current stream by `d` in 1/65 536 sample (R211, R213). -/
def fracDelay (ibs : List (Option Int)) (d : Int) : Int :=
  roundDiv (((Config.fracDelay.taps d).zipIdx).foldl (fun a e => a + e.1 * sampleIn ibs e.2) 0) (2 ^ 30)

/-- shift90 of the voltage stream (R211, R213): 255 antisymmetric taps around the sample 127 before the newest, which delay its phase by 90°, so that a
current that lags gives positive reactive power (R208); and the gain correction at the increment of the angle clock. -/
def shift90 (vds : List (Option Int)) (inc : Nat) : Int :=
  let sum := (Config.shift90.taps.zipIdx).foldl (fun a e => a + e.1 * (sampleIn vds (128 + e.2) - sampleIn vds (126 - e.2))) 0
  roundDiv (sum * Config.shift90.corr inc) (2 ^ 60)

/-- The active and reactive paths of one sample (R211, R215): sample k enters, the sample 8 before completes its active
energy, the one 127 before that its reactive energy. -/
def State.elemPath (s : State) (e : Nat) (valid : Bool) : State :=
  let x := s.elem e
  let c := s.meCfg e
  let vbs := ((if valid then some (s.baseSample (cfgVch c)) else none) :: x.vbs).take 9
  let ibs := ((if valid then some (s.baseSample (cfgIch c)) else none) :: x.ibs).take 17
  let kp : Int := s.vfsOf e * s.ifsOf e
  let ic := fracDelay ibs (8 * 65536 - x.adv) * (256000000 + x.g)
  -- active
  let x1 : Elem := match vbs[8]? with
    | none => { x with vbs := vbs, ibs := ibs }
    | some none => { x with vbs := vbs, ibs := ibs, vds := (none :: x.vds).take 255, ics := (ic :: x.ics).take 128, ps := (0 :: x.ps).take 128, allValid := false }
    | some (some vd) =>
      let p := vd * ic * kp
      let ib := (ibs.getD 8 none).getD 0
      { x with
        vbs := vbs, ibs := ibs, vds := (some vd :: x.vds).take 255, ics := (ic :: x.ics).take 128, ps := (p :: x.ps).take 128
        n := x.n + 1, ep := x.ep + p, v2 := x.v2 + (vd * vd).toNat, i2 := x.i2 + (ic * ic).toNat, ib2 := x.ib2 + (ib * ib).toNat
        sv := x.sv + vd, si := x.si + ic, sib := x.sib + ib }
  -- reactive
  let x2 : Elem := if vbs.length < 9 then x1 else match x1.vds[127]? with
    | none => x1
    | some none => { x1 with allValid := false }
    | some (some _) =>
      let q := if cfgDc c then 0 else shift90 x1.vds (s.get F.ANG_INC) * x1.ics.getD 127 0 * kp
      { x1 with nr := x1.nr + 1, epr := x1.epr + x1.ps.getD 127 0, eq := x1.eq + q }
  s.setElem e x2

/-- A held run ends (R239): event 0x0304 with its held active energy in whole µWh. -/
def State.endRun (s : State) (e : Nat) : State :=
  let amount := ofSigned 64 (roundDiv (s.elem e).run unitsUwh)
  let s1 := ((s.put (F.MET_ME_STAT_HELD.i e) 0).put (F.MET_ME_STAT_HOLDEXP.i e) 0).irq Page.MET 1
  (s1.setElem e { s1.elem e with run := 0, fresh := 0 }).logE Page.MET 0x0304 amount

/-- A held run begins (R239). -/
def State.beginRun (s : State) (e : Nat) : State :=
  let s1 := ((s.put (F.MET_ME_STAT_HELD.i e) 1).irq Page.MET 1).logE Page.MET 0x0303 e
  let s2 := s1.setElem e { s1.elem e with run := 0 }
  if (s.elem e).hadCycle then s2 else s2.logE Page.MET 0x0306 e

/-- Held energy of an invalid sample (R238), until HOLDMAX is exceeded (R239). -/
def State.holdSample (s : State) (e : Nat) : State :=
  if s.on (F.MET_ME_STAT_HOLDEXP.i e) then s
  else
    let x := s.elem e
    let s1 := s.setElem e { x with hep := x.hep + x.hpP, hepr := x.hepr + x.hpPr, heq := x.heq + x.hpQ, hes := x.hes + x.hpS, run := x.run + x.hpP }
    if s.get F.SIG_STAT_SESS ≠ 0 ∧ s.billedElem e then
      { s1 with session := { s1.session with heldFine := s1.session.heldFine + x.hpP } } else s1

/-- One output sample of element `e`. -/
def State.elemSample (s : State) (e : Nat) : State :=
  let c := s.meCfg e
  if cfgEn c then
    let v := cfgVch c
    let i := cfgIch c
    let hflt := s.get (F.HEAD_HFAULT_CODE.i (portOf v)) != 0 || s.get (F.HEAD_HFAULT_CODE.i (portOf i)) != 0
    let was := s.on (F.MET_ME_STAT_HFLT.i e)
    let s1 := s.put (F.MET_ME_STAT_HFLT.i e) (b2n hflt)
    let s2 := if hflt && !was then (s1.irq Page.MET 4).logE Page.MET 0x0307 e else s1
    let valid := bit (s.get (F.FIL_CH_ST_FLAGS.i v)) 0 && bit (s.get (F.FIL_CH_ST_FLAGS.i i)) 0
      && !(s.port (portOf v)).unbound && !(s.port (portOf i)).unbound && !hflt
    let s3 := s2.put (F.MET_ME_STAT_VALID.i e) (b2n valid)
    let held := s.on (F.MET_ME_STAT_HELD.i e)
    let s4 := if valid then (if held then s3.endRun e else s3) else (if held then s3 else s3.beginRun e).holdSample e
    let ovr := valid && (bit (s.get (F.FIL_CH_ST_FLAGS.i v)) 1 || bit (s.get (F.FIL_CH_ST_FLAGS.i i)) 1)
    let s5 := if ovr then s4.setElem e { s4.elem e with ovr := true } else s4
    s5.elemPath e valid
  else s

/-- Held time and energy of the session so far (Table 8-11). -/
def State.noteSessionHeld (s : State) : State :=
  if s.get F.SIG_STAT_SESS ≠ 0 ∧ (List.range 8).any (fun e => s.billedElem e && s.on (F.MET_ME_STAT_HELD.i e)) then
    let n := s.session.heldSamples + 1
    { s with session := { s.session with heldSamples := n, heldMs := n / 8, heldUwh := ofSigned 64 (roundDiv s.session.heldFine unitsUwh) } }
  else s

/-- One output sample of the chain and of the engine. -/
def State.outputSample (s : State) (bitsIn : List (BitVec 2048)) : State :=
  let sc := (List.finRange 8).foldl (fun (t : State) p => t.checkHead bitsIn p) (s.chainSample bitsIn)
  let s0 := sc.when (s.on F.FIL_STAT_RUN) (·.streamSample)
  let s1 := s0.when (s.on F.FIL_STAT_RUN && s.earthRuns && s.insOn) (·.bleederSample)
  if s.on F.FIL_STAT_RUN && s1.on F.MET_STAT_RUN && !s1.on F.MET_STAT_FROZEN then
    ((List.range 8).foldl State.elemSample s1).noteSessionHeld
  else s1

/-- OUTPUT_SAMPLE (R186, R193, R211): one sample of every channel, taken by every enabled element. -/
def execOutputSample (bits : List (BitVec 2048)) (s : State) : Host.Outcome State Fault Refusal :=
  .next (s.sameCycle (s.outputSample bits))

/-! ### Closing a cycle (R216 to R232) -/

/-- Sums that an accumulator takes over its elements. -/
structure Sums where
  ep : Int := 0
  epr : Int := 0
  eq : Int := 0
  es : Nat := 0
deriving DecidableEq, Repr

/-- ES of an element's open cycle (Table 6-3). -/
def State.esOf (s : State) (e : Nat) : Nat :=
  let x := s.elem e
  if cfgDc (s.meCfg e) then x.ep.natAbs else isqrt (x.v2 * x.i2) * (s.vfsOf e * s.ifsOf e)

/-- The amount of Table 6-5 for quantity `qty`, in engine units. -/
def amountOf (qty : Nat) (vector : Bool) (t : Sums) : Nat :=
  let app := if vector then isqrt (t.epr * t.epr + t.eq * t.eq).toNat else t.es
  match qty with
  | 1 => if t.ep > 0 then t.ep.natAbs else 0
  | 2 => if t.ep < 0 then t.ep.natAbs else 0
  | 3 => if t.epr ≥ 0 ∧ t.eq > 0 then t.eq.natAbs else 0
  | 4 => if t.epr < 0 ∧ t.eq > 0 then t.eq.natAbs else 0
  | 5 => if t.epr < 0 ∧ t.eq < 0 then t.eq.natAbs else 0
  | 6 => if t.epr ≥ 0 ∧ t.eq < 0 then t.eq.natAbs else 0
  | 7 => if t.eq > 0 then t.eq.natAbs else 0
  | 8 => if t.eq < 0 then t.eq.natAbs else 0
  | 9 => if t.ep > 0 then app else 0
  | 10 => if t.ep < 0 then app else 0
  | _ => 0

/-- Add `d` to accumulator `n`; the integer part stays at its maximum (R248). -/
def State.addAcc (s : State) (n d : Nat) : State :=
  let v := s.getW (F.MET_ACC.i n) + d
  if v < 2 ^ 128 then s.putW (F.MET_ACC.i n) v
  else
    let s1 := s.putW (F.MET_ACC.i n) (2 ^ 128 - 1)
    if s.energy.satLogged.contains n then s1
    else ({ s1 with energy := { s1.energy with satLogged := n :: s1.energy.satLogged } } : State).logE Page.MET 0x030E n

/-- The sums of the elements in `mask` that contribute (R217, R231), measured or held. A cycle with N = 0 contributes no
measured energy (Table 6-3), so its reactive energy is dropped too. -/
def State.sumsOf (s : State) (mask : Nat) (held : Bool) : Sums :=
  (List.range 8).foldl (fun (t : Sums) e =>
    let x := s.elem e
    if bit mask e && cfgEn (s.meCfg e) && !s.on (F.MET_ME_STAT_NOLOAD.i e) then
      if held then ⟨t.ep + x.hep, t.epr + x.hepr, t.eq + x.heq, t.es + x.hes⟩
      else if x.n = 0 then t
      else ⟨t.ep + x.ep, t.epr + x.epr, t.eq + x.eq, t.es + s.esOf e⟩
    else t) {}

/-- Is the accumulator one of DC elements? -/
def State.accDc (s : State) (mask : Nat) : Bool := (List.range 8).any fun e => bit mask e && cfgDc (s.meCfg e)

/-- Accumulator `n` at a close (R228, R229). -/
def State.closeAcc (s : State) (n : Nat) : State :=
  let w := s.energy.accCfg.getD n 0
  if bit w 14 then
    let mask := bits w 0 8
    let d := amountOf (bits w 8 4) (bit w 13 && !s.accDc mask) (s.sumsOf mask (bit w 12))
    if d = 0 then s else s.addAcc n (roundEven (16 * d) (73728 * 10 ^ 17))
  else s

/-- Is the open cycle of element `e` in no-load (R232)? A cycle without valid samples leaves it as it was. -/
def State.noLoad (s : State) (e : Nat) : Bool :=
  let x := s.elem e
  if x.n = 0 then s.on (F.MET_ME_STAT_NOLOAD.i e)
  else
    let lim := s.istartOf e * 2 ^ 30 * 256 * 10 ^ 9
    let ifs := s.ifsOf e
    if cfgDc (s.meCfg e) then decide (x.si.natAbs * ifs < x.n * lim) else decide (x.i2 * (ifs * ifs) < x.n * (lim * lim))

/-- No-load of element `e`: the flag and its events. -/
def State.closeNoLoad (s : State) (e : Nat) : State :=
  let nl := s.noLoad e
  let was := s.on (F.MET_ME_STAT_NOLOAD.i e)
  let s1 := s.put (F.MET_ME_STAT_NOLOAD.i e) (b2n nl)
  if nl = was then s1 else (s1.irq Page.MET 3).logE Page.MET (if nl then 0x030C else 0x030D) e

/-- Interpolation of a correction table at x in 1/4096 of 0.1 % (R222): gain and phase in 1/256. -/
def interpolate (l : List (Nat × Int × Int)) (x : Nat) : Int × Int :=
  match l with
  | [] => (0, 0)
  | (b, g, p) :: rest => go b g p rest
where
  go (b : Nat) (g p : Int) : List (Nat × Int × Int) → Int × Int
    | [] => (256 * g, 256 * p)
    | (b', g', p') :: rest =>
      if x ≤ 4096 * b then (256 * g, 256 * p)
      else if x < 4096 * b' then
        let d := 4096 * (b' - b)
        let t : Int := (x - 4096 * b : Nat)
        (roundDiv (256 * (g * d + (g' - g) * t)) d, roundDiv (256 * (p * d + (p' - p) * t)) d)
      else go b' g' p' rest

/-- Sum a component over the last 10 cycles. -/
def histSum (l : List CycleSums) (f : CycleSums → Int) : Int := l.foldl (fun a c => a + f c) 0

/-- r.m.s. or mean of a component over the last cycles, times `scale`, divided by `div`, rounded to nearest. -/
def histValue (l : List CycleSums) (dc : Bool) (sq sum : CycleSums → Int) (scale div : Nat) : Int :=
  let n := (histSum l (·.n)).toNat
  if n = 0 then 0
  else if dc then roundDiv (histSum l sum * scale) (n * div)
  else roundDiv (isqrt ((histSum l sq).toNat * (scale * scale) * 2 ^ 20 / n)) (2 ^ 10 * div)

/-- The result block of element `e` (Table 6-6, R220). -/
def State.writeResults (s : State) (e : Nat) : State :=
  let l := (s.elem e).hist
  let dc := cfgDc (s.meCfg e)
  let v := histValue l dc (·.v2) (·.v) (s.vfsOf e) (1000 * 2 ^ 30)
  let i := histValue l dc (·.i2) (·.i) (s.ifsOf e) (256 * 10 ^ 9 * 2 ^ 30)
  let n := (histSum l (·.n)).toNat
  let pw (f : CycleSums → Int) : Int := if n = 0 then 0 else roundDiv (100 * histSum l f) (n * unitsW)
  let ep := histSum l (·.ep)
  let es := (histSum l (·.es)).toNat
  let pf : Int := if ep = 0 then 0 else if dc then (if ep > 0 then 32767 else -32767)
    else if es = 0 then 0 else max (-32767) (min 32767 (roundDiv (32768 * ep) es))
  let seq := s.cycles % 2 ^ 32
  (((((((((s.put (F.MET_RES_SEQ.i e) seq).put (F.MET_RES_V.i e) (ofSigned 32 v)).put (F.MET_RES_I.i e) (ofSigned 32 i)).put
    (F.MET_RES_P.i e) (ofSigned 32 (pw (·.ep)))).put (F.MET_RES_Q.i e) (if dc then 0 else ofSigned 32 (pw (·.eq)))).put
    (F.MET_RES_S.i e) (ofSigned 32 (pw (·.es)))).put (F.MET_RES_PF_PF.i e) (ofSigned 16 pf)).put (F.MET_RES_PF_CYCLES.i e) l.length).put
    (F.MET_RES_SEQ2.i e) seq)

/-- Advance of element `e` in 1/65 536 sample before its limit (R212); 2π as 6.283185307179586. -/
def State.advanceOf (s : State) (e : Nat) (phi : Int) : Int :=
  let c := s.meCfg e
  let rtd : Int := (s.get (F.HEAD_RTD_DELAY.i (portOf (cfgIch c))) : Int) - s.get (F.HEAD_RTD_DELAY.i (portOf (cfgVch c)))
  let inc := s.get F.ANG_INC
  if cfgDc c ∨ inc = 0 then roundDiv (rtd * 65536) 1000000
  else
    let d : Nat := 256 * 1000000 * inc * 250 * 6283185307179586
    roundDiv (rtd * 65536 * (d / 1000000 : Nat) + phi * (8000 * 2 ^ 32 * 65536 * 10 ^ 15 : Nat)) d

/-- Segment correction and advance for the next cycle (R212, R222, R223), with CAL.MEe_NOW; x is formed from the cycles since
the element became valid. -/
def State.correct (s : State) (e : Nat) : State :=
  let x := s.elem e
  let iref := s.irefOf e
  let l := x.hist.take x.fresh
  let n := (histSum l (·.n)).toNat
  let ifs := s.ifsOf e
  let xi : Nat := if n = 0 ∨ iref = 0 then 0
    else if cfgDc (s.meCfg e) then (histSum l (·.ib)).natAbs * ifs * 4096 / (n * 2 ^ 30 * iref)
    else isqrt ((histSum l (·.ib2)).toNat * (ifs * ifs) * 2 ^ 24 / n) / (2 ^ 30 * iref)
  let (g, phi) := interpolate (s.energy.cal.bps.getD e []) xi
  let a := s.advanceOf e phi
  let adv := max (-65536) (min 65536 a)
  let s1 := (s.setElem e { x with g := g, adv := adv }).put (F.MET_ME_STAT_ADVLIM.i e) (b2n (a != adv))
  (((s1.put (F.CAL_ME_NOW_G.i e) (ofSigned 32 g)).put (F.CAL_ME_NOW_PHI.i e) (ofSigned 32 phi)).put (F.CAL_ME_NOW_X.i e)
    ((xi + 2048) / 4096)).put (F.CAL_ME_NOW_ADV.i e) (ofSigned 32 adv)

/-- Quadrant code of Table 6-4 for EQ ≠ 0. -/
def quadOf (epr eq : Int) : Nat := if eq > 0 then (if epr ≥ 0 then 0 else 1) else (if epr < 0 then 2 else 3)

/-- Own direction and quadrant of an element; for EQ = 0 the spec gives no code: a free value. -/
def State.putDirection (s : State) (e : Nat) (x : Elem) : State :=
  let s1 := s.put (F.MET_ME_STAT_EXPORT.i e) (b2n (decide (x.ep < 0)))
  if x.eq = 0 then s1.free fun v t => t.put (F.MET_ME_STAT_QUAD.i e) (v % 4) else s1.put (F.MET_ME_STAT_QUAD.i e) (quadOf x.epr x.eq)

/-- The held powers of element `e`, in engine units a sample, and MEn_HP (R237). -/
def State.putPowers (s : State) (e : Nat) (p pr q : Int) (sp : Nat) : State :=
  let s1 := s.setElem e { s.elem e with hpP := p, hpPr := pr, hpQ := q, hpS := sp }
  let w (i : Int) : Nat := ofSigned 32 (roundDiv (100 * i) unitsW)
  (((s1.put (F.MET_ME_HP_P.i e) (w p)).put (F.MET_ME_HP_P1.i e) (w pr)).put (F.MET_ME_HP_Q.i e) (w q)).put (F.MET_ME_HP_S.i e) (w sp)

/-- Held powers at a close (R237, R251): 0 for a no-load cycle, those of a cycle in which every sample was valid, or as they
were. -/
def State.holdPowers (s : State) (e : Nat) (es : Nat) : State :=
  let x := s.elem e
  if x.n = 0 then s
  else
    let s1 := if x.allValid then s.setElem e { x with hadCycle := true } else s
    if s.on (F.MET_ME_STAT_NOLOAD.i e) then s1.putPowers e 0 0 0 0
    else if x.allValid then
      let per (sum : Int) : Int := if x.nr = 0 then 0 else roundDiv sum x.nr
      s1.putPowers e (roundDiv x.ep x.n) (per x.epr) (per x.eq) (roundDiv es x.n).toNat
    else s1

/-- Element `e` starts afresh: no cycle, no held powers; its correction is that of breakpoint 0 (R223). -/
def State.freshElem (s : State) (e : Nat) : State := ((s.setElem e {}).putPowers e 0 0 0 0).when (cfgEn (s.meCfg e)) (·.correct e)

/-- Close the cycle of an enabled element: history, results, held powers, OVR, correction; then its sums start anew. The
result block of a disabled element is written too (Table 6-6). -/
def State.closeElem (s : State) (e : Nat) : State :=
  if cfgEn (s.meCfg e) then
    let x := s.elem e
    let es := s.esOf e
    let hist := if x.n = 0 then x.hist else (⟨x.n, x.ep, x.eq, es, x.v2, x.i2, x.ib2, x.sv, x.si, x.sib⟩ :: x.hist).take 10
    let s1 := ((s.holdPowers e es).putDirection e x)
    let s2 := s1.setElem e { s1.elem e with
      hist := hist, fresh := if x.n = 0 then x.fresh else min 10 (x.fresh + 1), n := 0, nr := 0, ep := 0, epr := 0, eq := 0, v2 := 0, i2 := 0, ib2 := 0, sv := 0, si := 0, sib := 0
      ovr := false, lastOvr := x.ovr, allValid := true, hep := 0, hepr := 0, heq := 0, hes := 0 }
    let s3 := (s2.writeResults e).put (F.MET_ME_STAT_OVR.i e) (b2n x.ovr)
    let s4 := if x.ovr && !x.lastOvr then s3.logE Page.MET 0x0308 e else s3
    s4.correct e
  else (s.put (F.MET_ME_STAT_OVR.i e) 0).writeResults e

/-- R206 for a word of MEn_CFG: channels, types and one kind. -/
def State.pairingOk (s : State) (w : Nat) : Bool :=
  let tv := s.typeOf (cfgVch w)
  let ti := s.typeOf (cfgIch w)
  cfgVch w % 3 == 0 && cfgIch w % 3 == 1 && cfgVch w < 24 && cfgIch w < 24 && decide (1 ≤ tv ∧ tv ≤ 3) && decide (1 ≤ ti ∧ ti ≤ 3) && typeDc tv == typeDc ti

/-- ISTART of the working copy does not exceed the Imin of the current port (R221). -/
def State.istartOk (s : State) (e w : Nat) : Bool := decide (s.energy.cal.istart.getD e 0 ≤ (headLimits (s.typeOf (cfgIch w))).2.2)

/-- KIND follows the port of VCH; an enabled element that fails R206 is disabled with event 0x0302 (R207). -/
def State.recheckElem (s : State) (e : Nat) : State :=
  let a := (F.MET_ME_CFG_EN.i e).addr
  let w := (s.word a).toNat
  let s1 := s.put (F.MET_ME_CFG_KIND.i e) (b2n (typeDc (s.typeOf (cfgVch w))))
  if cfgEn w && !s.pairingOk w then ((s1.put (F.MET_ME_CFG_EN.i e) 0).markConfig.irq Page.MET 2).logE Page.MET 0x0302 e else s1

/-- Element `e` takes the configuration written (R247): a disabled element ends its held run, an enabled one starts
afresh. -/
def State.adoptElem (s : State) (e : Nat) : State :=
  let old := s.meCfg e
  let new := (s.word (F.MET_ME_CFG_EN.i e).addr).toNat
  let s1 := if cfgEn old && !cfgEn new && s.on (F.MET_ME_STAT_HELD.i e) then s.endRun e else s
  let s2 := if cfgEn old && !cfgEn new then
      (s1.put (F.MET_ME_STAT_VALID.i e) 0).put (F.MET_ME_STAT_HFLT.i e) 0 else s1
  let s3 : State := { s2 with energy := { s2.energy with meCfg := s2.energy.meCfg.set e new } }
  if cfgEn new && !cfgEn old then s3.freshElem e else s3

/-- The tables of CAL as they stand. -/
def State.calTables (s : State) : Cal :=
  { gain := (List.range 24).map fun c => toSigned 32 (s.get (F.CAL_CH_GAIN.i c))
    ofs := (List.range 24).map fun c => toSigned 32 (s.get (F.CAL_CH_OFS.i c))
    iref := (List.range 8).map fun e => s.get (F.CAL_ME_IREF_MA.i e)
    istart := (List.range 8).map fun e => s.get (F.CAL_ME_ISTART_MA.i e)
    bps := (List.range 8).map fun e => (List.range (s.get (F.CAL_ME_NSEG_N.i e))).map fun j =>
      (s.get (F.CAL_ME_BP_BP.ij e j), toSigned 32 (s.get (F.CAL_ME_BP_GAIN.ij e j)), toSigned 32 (s.get (F.CAL_ME_BP_PHASE.ij e j))) }

/-- Configuration as written takes effect at the end of an engine cycle (R207, R224, R230, R245). -/
def State.adoptConfig (s : State) : State :=
  let s1 := (List.range 8).foldl State.recheckElem s
  let s2 := match s1.energy.calNext with
    | none => s1
    | some c => (({ s1 with energy := { s1.energy with cal := c, calNext := none } } : State).put F.CAL_APPLYST_SEQ
        (s1.get F.CAL_APPLYST_SEQ + 1)).irq Page.CAL 0
  let types := (List.finRange 8).map fun p : Fin 8 => s.get (F.HEAD_CFG_TYPE.i p)
  let s3 := (List.range 8).foldl State.adoptElem { s2 with energy := { s2.energy with types := types } }
  { s3 with energy := { s3.energy with
      accCfg := (List.range 64).map fun n => (s3.word (F.MET_ACC_CFG_EN.i n).addr).toNat
      br := (List.range 8).map fun n => (s3.word (F.MET_BR_EN.i n).addr).toNat } }

/-- Close the engine cycle (R216): no-load, accumulators (or the clear of R227), elements, configuration, MET.LASTCYC. DESIGN
CHOICES where R224 and R227 meet a close and the spec gives no order: a table replaced at this close gives g and φ from the
next close on, and a clear leaves the accumulators at 0, without this cycle's energy (log entry 52). -/
def State.closeCycle (s : State) : State :=
  let s1 := (List.range 8).foldl (fun t e => if cfgEn (t.meCfg e) then t.closeNoLoad e else t.put (F.MET_ME_STAT_NOLOAD.i e) 0) s
  let clear := s1.energy.clear && s1.get F.SEAL_STAT_STATE == 0
  let s2 := if clear then ((List.range 64).foldl (fun t n => t.putW (F.MET_ACC.i n) 0) s1).logE Page.MET 0x030A 0
    else (List.range 64).foldl State.closeAcc s1
  let s3 := (List.range 8).foldl State.closeElem { s2 with energy := { s2.energy with
    clear := false, satLogged := if clear then [] else s2.energy.satLogged } }
  let s4 := s3.adoptConfig.putW F.MET_LASTCYC s.cycles
  let s5 := s4.irq Page.MET 0
  { s5 with session := { s5.session with verifSeen := s5.session.verifSeen || s5.on F.SYS_MODE_VERIF } }

/-- Does the engine close cycles? -/
def State.engineRuns (s : State) : Bool := s.on F.MET_STAT_RUN && !s.on F.MET_STAT_FROZEN

/-- The window of the cycle just closed (R258): it begins 1024 ticks after the cycle's end, while the pulse engine runs. -/
def State.setWindow (s : State) : State :=
  if s.on F.PLS_CTL_EN then
    { s with pulses := { s.pulses with next := some (s.angle.carry.getD s.angle.now + 1024, s.angle.cycleLen) } }
  else s

/-- ENGINE_CYCLE_CLOSE (R216). -/
def execEngineCycleClose (s : State) : Host.Outcome State Fault Refusal :=
  .next (if s.engineRuns then s.sameCycle s.closeCycle.setWindow else s)

/-- The accumulators freeze (R234): a cycle in progress is closed as a partial cycle, and FROZEN is set. -/
def State.freezeEngine (s : State) : State :=
  if s.on F.MET_STAT_FROZEN then s
  else (((s.when s.engineRuns (·.closeCycle)).put F.MET_STAT_FROZEN 1).irq Page.MET 5)

/-- MET.CTL.EN: the engine starts, its elements afresh, or stops and discards its open cycle (R233). -/
def State.setEngine (s : State) (en : Bool) : State :=
  let s1 := (s.put F.MET_CTL_EN (b2n en)).put F.MET_STAT_RUN (b2n en)
  if en = s.on F.MET_STAT_RUN then s1 else (List.range 8).foldl State.freshElem s1

/-- The engine takes the configuration that S1 has restored (R233). DESIGN CHOICE: the working copy of CAL is what S1 has
restored, without APPLY and the validation of R221 (log entry 52). An accumulator restored at its maximum has logged its
event (R248). -/
def State.loadEngine (s : State) : State :=
  let full := (List.range 64).filter fun n => s.getW (F.MET_ACC.i n) == 2 ^ 128 - 1
  let s1 : State := { s with energy := { ({} : Energy) with cal := s.calTables, satLogged := full } }
  s1.adoptConfig

/-! ### Configuration writes -/

/-- A refused configuration write (IRQ bit REFUSED). -/
def State.refuseConfig (s : State) (code n : Nat) : State := (s.irq Page.MET 2).logE Page.MET code n

/-- The billing register that forbids clearing BILLABLE of element `e` (R242). -/
def State.billingUser (s : State) (e : Nat) : Option Nat :=
  (List.range 8).find? fun n => s.on (F.MET_BR_EN.i n) && bit (s.get (F.MET_ACC_CFG_ELEM.i (s.get (F.MET_BR_ACC.i n)))) e

/-- The word that a write of MEn_CFG gives: reserved channels keep their value (R17), KIND follows VCH. -/
def State.meCfgWord (s : State) (e v : Nat) : Nat :=
  let vch := if bits v 8 5 < 24 then bits v 8 5 else s.get (F.MET_ME_CFG_VCH.i e)
  let ich := if bits v 16 5 < 24 then bits v 16 5 else s.get (F.MET_ME_CFG_ICH.i e)
  bits v 0 2 + 4 * b2n (typeDc (s.typeOf vch)) + 2 ^ 8 * vch + 2 ^ 16 * ich

/-- ME_CFG_WRITE (R206, R207, R221, R242). DEDUCED: the refusal of R242 holds for a write that leaves EN at 0 too, which R207
exempts from the check of R206 (log entry 52). -/
def State.writeMeCfg (s : State) (who : Initiator) (e v : Nat) : State :=
  let a := (F.MET_ME_CFG_EN.i e).addr
  let w := s.meCfgWord e v
  s.rwsWrite who a v w fun t =>
    if cfgEn w && !(t.pairingOk w && t.istartOk e w) then t.refuseConfig 0x0302 e
    else match (if t.on (F.MET_ME_CFG_BILLABLE.i e) && !bit w 1 then t.billingUser e else none) with
      | some n => t.refuseConfig 0x0301 n
      | none => t.putRws a w

def execMeCfgWrite (n : Fin 8) (v : Word) (s : State) : Host.Outcome State Fault Refusal := .next (s.writeMeCfg .legal n v.toNat)

/-- May an accumulator sum these elements (R230)? -/
def State.elemsOk (s : State) (mask : Nat) : Bool :=
  let l := (List.range 8).filter fun e => bit mask e
  let kinds := l.map fun e => s.get (F.MET_ME_CFG_KIND.i e)
  let ichs := l.map fun e => s.get (F.MET_ME_CFG_ICH.i e)
  mask != 0 && (kinds.all fun k => k == kinds.headD 0) && decide ichs.Nodup

/-- ACC_CFG_WRITE (R230). -/
def State.writeAccCfg (s : State) (who : Initiator) (n v : Nat) : State :=
  let a := (F.MET_ACC_CFG_EN.i n).addr
  let qty := if bits v 8 4 ≤ 10 then bits v 8 4 else s.get (F.MET_ACC_CFG_QTY.i n)
  let w := bits v 0 8 + 2 ^ 8 * qty + 2 ^ 12 * bits v 12 3
  s.rwsWrite who a v w fun t => if bit w 14 && !t.elemsOk (bits w 0 8) then t.refuseConfig 0x030B n else t.putRws a w

def execAccCfgWrite (n : Fin 64) (v : Word) (s : State) : Host.Outcome State Fault Refusal := .next (s.writeAccCfg .legal n v.toNat)

/-- May a billing register select accumulator `a` (R242)? -/
def State.mayBillAcc (s : State) (a : Nat) : Bool :=
  s.on (F.MET_ACC_CFG_EN.i a) && s.get (F.MET_ACC_CFG_QTY.i a) != 0 && !s.on (F.MET_ACC_CFG_HELD.i a)
    && (List.range 8).all fun e => !bit (s.get (F.MET_ACC_CFG_ELEM.i a)) e || s.on (F.MET_ME_CFG_BILLABLE.i e)

/-- BR_WRITE (R242, R245): a change during a session closes it with reason 0x0A (Table 8-10). -/
def State.writeBr (s : State) (who : Initiator) (n v : Nat) : State :=
  let a := (F.MET_BR_EN.i n).addr
  let dec := if bits v 8 3 ≤ 6 then bits v 8 3 else s.get (F.MET_BR_DEC.i n)
  let w := bits v 0 7 + 2 ^ 8 * dec
  s.rwsWrite who a v w fun t =>
    if bit w 6 && !t.mayBillAcc (bits w 0 6) then t.refuseConfig 0x0301 n
    else
      let t1 := t.putRws a w
      if t.rwsChanges a w then t1.closeSession 0x0A 0 else t1

def execBrWrite (n : Fin 8) (v : Word) (s : State) : Host.Outcome State Fault Refusal := .next (s.writeBr .legal n v.toNat)

/-- Is the table of element `e` valid (R221)? -/
def State.tableOk (s : State) (c : Cal) (e : Nat) : Bool :=
  let l := c.bps.getD e []
  let t := s.typeOf (s.get (F.MET_ME_CFG_ICH.i e))
  decide (1 ≤ (l.headD (0, 0, 0)).1) && (List.range (l.length - 1)).all (fun j => decide ((l.getD j (0, 0, 0)).1 < (l.getD (j + 1) (0, 0, 0)).1))
    && l.all (fun b => decide (b.2.1.natAbs ≤ 50000 ∧ b.2.2.natAbs ≤ 20000))
    && (decide (t = 0 ∨ 3 < t) || decide (c.istart.getD e 0 ≤ (headLimits t).2.2))

/-- CAL_APPLY (R224): ignored while SEALED. -/
def State.applyCal (s : State) : State :=
  if s.sealed then s
  else
    let c := s.calTables
    match (List.range 8).find? fun e => !s.tableOk c e with
    | none => ({ s with energy := { s.energy with calNext := some c } } : State).put F.CAL_APPLYST_REF 0
    | some e => ((((s.put F.CAL_APPLYST_REF 1).put F.CAL_APPLYST_ELEM e).irq Page.CAL 1).logE Page.CAL 0x0309 e)

def execCalApply (s : State) : Host.Outcome State Fault Refusal := .next s.applyCal

/-- ACCUMULATOR_CLEAR (R227): a write of 0x0000_C1EA to MET.ACCCLR in FACTORY. -/
def State.clearAccs (s : State) (v : Nat) : State :=
  if v = 0xC1EA ∧ s.get F.SEAL_STAT_STATE = 0 then { s with energy := { s.energy with clear := true } } else s

def execAccumulatorClear (v : Word) (s : State) : Host.Outcome State Fault Refusal := .next (s.clearAccs v.toNat)

/-- HELD_RUN_LIMIT (R239): the run of element `n` has lasted longer than HOLDMAX. -/
def execHeldRunLimit (n : Fin 8) (s : State) : Host.Outcome State Fault Refusal :=
  if s.on (F.MET_ME_STAT_HELD.i n) ∧ !s.on (F.MET_ME_STAT_HOLDEXP.i n) then
    let s1 := (s.put (F.MET_ME_STAT_HOLDEXP.i n) 1).logE Page.MET 0x0305 n
    if s.billedElem n then .next (({ s1 with session := { s1.session with holdExp := true } } : State).closeSession 0x07 0) else .next s1
  else .next s

end Sys2Proof.Machine
end

