-- ==== Sys2Proof/Machine/Modem.lean ====
section
/-!
DEFINITION. Machine/Modem.lean: the Ethernet frames of the pilot-line modem (R355, R356, R767).
-/

namespace Sys2Proof.Machine

/-- Does the modem run: ready, in SLAC, matched or failed (GPM.STAT.MSTATE)? -/
def State.modemRuns (s : State) : Bool := [2, 3, 4, 5].contains (s.get F.GPM_STAT_MSTATE)

/-- A good frame at the modem: a test frame goes to a checker that runs, SLAC management stays with the modem while SLACEN
is 1, every other frame goes to the receive ring. -/
def State.modemFrame (s : State) (frame : List Byte) : State :=
  if s.chkOn Page.GPM && testFrame frame then s.checkFrame Page.GPM frame
  else if s.on F.GPM_CTL_SLACEN ∧ etherType frame = 0x88E1 then s
  else match s.ringFor 2 with
    | some r => (s.giveElem r ⟨frame, none, none⟩).2
    | none => s

/-- MODEM_FRAME_RECEIVED (R355, R356): a frame with its check sequence removed. Nothing arrives from outside while a
generator runs in a loop (R765). -/
def execModemFrameReceived (frame : List Byte) (fcsOk : Bool) (s : State) : Host.Outcome State Fault Refusal :=
  .next (if s.modemRuns ∧ s.loopOf Page.GPM = 0 then (if fcsOk then s.modemFrame frame else s.incSat F.GPM_CNT_BAD) else s)

/-- Is a frame consumed unsent: while LINK is 0, but for the SLAC management of firmware that runs SLAC itself in EVSE role with
SLACEN at 0 (R355, R356)? -/
def State.modemDrops (s : State) (frame : List Byte) : Bool :=
  !s.on F.GPM_STAT_LINK && !(s.get F.GPM_STAT_ROLE == 0 && !s.on F.GPM_CTL_SLACEN && etherType frame == 0x88E1)

/-- MODEM_FRAME_TRANSMIT (R355): the frame of the transmit ring is sent, or consumed unsent while LINK is 0. A running
generator sends its own frames, which a loop brings back to the checker (R765, R767). -/
def State.modemTransmit (s : State) : State :=
  if s.genOn Page.GPM then
    let g := s.genFrame Page.GPM (s.getW F.GPM_MAC_ADDR)
    if s.loopOf Page.GPM = 0 then g.2 else g.2.modemFrame g.1
  else match s.txFrame 3 with
    | none => s
    | some (r, f, _) => (s.when (s.modemDrops f) (·.incSat F.GPM_CNT_DROP)).frameDone r none none

def execModemFrameTransmit (s : State) : Host.Outcome State Fault Refusal := .next (if s.modemRuns then s.modemTransmit else s)

end Sys2Proof.Machine
end

