-- ==== Sys2Proof/Machine/Ethernet.lean ====
section
/-!
DEFINITION. Machine/Ethernet.lean: the Ethernet port (chapter 18, section 4).
-/

namespace Sys2Proof.Machine

/-- Destination address of a frame, first octet lowest. -/
def frameDest (f : List Byte) : Nat := ofBytes (f.take 6)

/-- Is the frame VLAN-tagged: bytes 12 and 13 are 0x81 and 0x00? -/
def vlanTagged (f : List Byte) : Bool := etherType f == 0x8100

/-- Does the Ethernet port run? After t₀ of the power-fail sequence it has stopped (R714). -/
def State.ethOn (s : State) : Bool := s.on F.ETH_CTL_EN && !s.boot.pfail

/-- Is the length of a frame in bytes, check sequence included, one that the port receives (R709)? -/
def frameLenOk (f : List Byte) : Bool := decide (64 ≤ f.length + 4 ∧ f.length + 4 ≤ if vlanTagged f then 1522 else 1518)

/-- The group address of PAUSE frames, 01-80-C2-00-00-01 (IEEE 802.3). -/
def pauseGroup : Nat := 0x010000C28001

/-- Is it a PAUSE frame of IEEE 802.3? -/
def pauseFrame (f : List Byte) : Bool := etherType f == 0x8808 && f.getD 14 0 == 0 && f.getD 15 0 == 1

/-- The pause time of a PAUSE frame, in its own units. -/
def pauseTime (f : List Byte) : Nat := (f.getD 16 0).toNat * 256 + (f.getD 17 0).toNat

/-- The pause time in reference ticks, rounded up: 512 bit times a unit (IEEE 802.3), at 10 or 100 Mbit/s. -/
def State.pauseTicks (s : State) (units : Nat) : Nat :=
  let k := if s.on F.ETH_STAT_SPEED100 then 100000 else 10000
  (units * 512 * 16384 + k - 1) / k

/-- The address filter (R708). -/
def State.ethAccepts (s : State) (dest : Nat) : Bool :=
  let multi := dest % 2 == 1
  s.on F.ETH_CTL_PROMISC || dest == s.getW F.ETH_ADDR_ADDR || (dest == 2 ^ 48 - 1 && !s.on F.ETH_CTL_BCDIS)
    || (multi && dest != 2 ^ 48 - 1 && (s.on F.ETH_CTL_ALLMULTI
      || (List.range 16).any fun k => s.on (F.ETH_MC_VALID.i k) && s.getW (F.ETH_MC_ADDR.i k) == dest))

/-- A received frame is dropped: event 0x0E22 at the first one after a frame received (R711); cause 1 check sequence,
2 length, 3 no descriptor. -/
def State.ethDrop (s : State) (cause : Nat) : State :=
  let s1 := s.irq Page.ETH 1
  if s1.ether.dropRun then s1
  else ({ s1 with ether := { s1.ether with dropRun := true } } : State).logE Page.ETH 0x0E22 (args [pageIndex Page.ETH, cause])

/-- A frame that the filter accepts (R709). -/
def State.ethCheck (s : State) (frame : List Byte) (fcsOk : Bool) (sfdUs : Nat) : State :=
  if !fcsOk then (s.incSat F.ETH_CNT_FCS).ethDrop 1
  else if !frameLenOk frame then (s.incSat F.ETH_CNT_LENERR).ethDrop 2
  else if s.chkOn Page.ETH && testFrame frame then s.checkFrame Page.ETH frame
  else match s.ringFor 7 with
    | none => (s.incSat F.ETH_CNT_NODESC).ethDrop 3
    | some r => match s.giveElem r ⟨frame, some sfdUs, none⟩ with
      | (true, t) => { t with ether := { t.ether with dropRun := false } }
      | (false, t) => (t.incSat F.ETH_CNT_NODESC).ethDrop 3

/-- Does the port honour the frame as a PAUSE frame (R707): in full duplex with PAUSEEN, sent to the group address or to ADDR? -/
def State.pauses (s : State) (frame : List Byte) (fcsOk : Bool) : Bool :=
  fcsOk && frameLenOk frame && pauseFrame frame && s.on F.ETH_CTL_PAUSEEN && s.on F.ETH_STAT_FULL
    && (frameDest frame == pauseGroup || frameDest frame == s.getW F.ETH_ADDR_ADDR)

/-- ETH_FRAME_RECEIVED (R707 to R709, R711): a frame from the destination address to the end of the payload, and TMR.US at
the end of its delimiter. -/
def State.ethReceive (s : State) (frame : List Byte) (fcsOk : Bool) (sfdUs : Nat) : State :=
  if !s.ethOn ∨ !s.on F.ETH_CTL_RXEN ∨ !s.on F.ETH_STAT_LINK ∨ s.loopOf Page.ETH ≠ 0 then s
  else if s.pauses frame fcsOk then
    let s1 := (s.incSat F.ETH_CNT2_PAUSES).put F.ETH_STAT_PAUSED (b2n (pauseTime frame != 0))
    { s1 with ether := { s1.ether with pausedTo := s.angle.now + s.pauseTicks (pauseTime frame) } }
  else if s.ethAccepts (frameDest frame) then s.ethCheck frame fcsOk sfdUs
  else s

def execEthFrameReceived (frame : List Byte) (fcsOk : Bool) (sfdUs : Word) (s : State) : Host.Outcome State Fault Refusal :=
  .next (s.ethReceive frame fcsOk sfdUs.toNat)

/-- A frame taken for transmission is discarded: event 0x0E23 at the first one after a frame sent (R711); cause 1 link down,
2 attempts, 3 cut. -/
def State.ethDiscard (s : State) (cause : Nat) : State :=
  let s1 := (s.incSat F.ETH_CNT_TXDISC).irq Page.ETH 2
  if s1.ether.discRun then s1
  else ({ s1 with ether := { s1.ether with discRun := true } } : State).logE Page.ETH 0x0E23 (args [pageIndex Page.ETH, cause])

/-- AUX of a transmit descriptor: attempts, DISC, late collision (R710). -/
def ethAux (attempts : Nat) (disc late : Bool) : Nat := attempts % 32 + 32 * b2n disc + 64 * b2n late

/-- How a frame ends at the line (R710): in full duplex it is sent at its first attempt; in half duplex it is sent after 1 to 16 attempts, or
discarded after the sixteenth. -/
def State.sendOutcome (s : State) (attempts : Nat) (sent late : Bool) : Nat × Bool × Bool :=
  if s.on F.ETH_STAT_FULL then (1, true, false) else if sent then (max 1 (min 16 attempts), true, late) else (16, false, late)

/-- ETH_FRAME_SENT (R710, R711): the frame taken was sent after `attempts`, or discarded. A running generator sends its own
frames, which a loop brings back (R765, R767). -/
def State.ethSend (s : State) (attempts : Nat) (sent late : Bool) (sfdUs : Nat) : State :=
  if !s.ethOn ∨ !s.on F.ETH_CTL_TXEN ∨ s.on F.ETH_STAT_PAUSED then s
  else if s.genOn Page.ETH then
    let g := s.genFrame Page.ETH (s.getW F.ETH_ADDR_ADDR)
    if s.loopOf Page.ETH = 0 then g.2 else if s.chkOn Page.ETH then g.2.checkFrame Page.ETH g.1 else g.2
  else match s.txFrame 8 with
    | none => s
    | some (r, _, _) =>
      let (tries, went, lateColl) := s.sendOutcome attempts sent late
      let s1 := (s.addSat F.ETH_CNT2_COLL (if went then tries - 1 else tries)).when lateColl (·.incSat F.ETH_CNT2_LATE)
      if !s.on F.ETH_STAT_LINK then (s.ethDiscard 1).frameDone r (some 0) (some (ethAux 0 true false))
      else if !went then (s1.ethDiscard 2).frameDone r (some 0) (some (ethAux tries true lateColl))
      else ({ s1 with ether := { s1.ether with discRun := false } } : State).frameDone r (some sfdUs) (some (ethAux tries false lateColl))

def execEthFrameSent (attempts : BitVec 5) (sent late : Bool) (sfdUs : Word) (s : State) : Host.Outcome State Fault Refusal :=
  .next (s.ethSend attempts.toNat sent late sfdUs.toNat)

/-- ETH_LINK_UP (R711). -/
def execEthLinkUp (speed100 full anDone mdix : Bool) (s : State) : Host.Outcome State Fault Refusal :=
  .next (if s.on F.ETH_STAT_LINK ∨ !s.ethOn then s
    else
      let s1 := ((((s.put F.ETH_STAT_LINK 1).put F.ETH_STAT_SPEED100 (b2n speed100)).put F.ETH_STAT_FULL (b2n full)).put F.ETH_STAT_ANDONE (b2n anDone)).put
        F.ETH_STAT_MDIX (b2n mdix)
      (s1.irq Page.ETH 0).logE Page.ETH 0x0E20 (args [pageIndex Page.ETH, b2n speed100, b2n full]))

/-- ETH_LINK_DOWN (R711). -/
def execEthLinkDown (s : State) : Host.Outcome State Fault Refusal :=
  .next (if s.on F.ETH_STAT_LINK then
    ((s.setWord F.ETH_STAT_LINK.addr 0).irq Page.ETH 0).logE Page.ETH 0x0E21 (args [pageIndex Page.ETH]) else s)

/-- The commit of ETH.ADDR by a domain (R708). -/
def State.writeEthAddr (s : State) (d : Domain) (v : Nat) : State :=
  let a := F.ETH_ADDR_ADDR.addr
  let old := s.getW F.ETH_ADDR_ADDR
  let new := s.commitValue d a 2 v % 2 ^ 48
  let s1 := s.unstage d a 2
  if s.on F.ETH_CTL_EN ∨ new = old then s1 else (s1.putWords a 2 new).logE Page.ETH 0x0E24 (args [pageIndex Page.ETH, new])

/-- The owner of a transferable page. -/
def State.ownerOf (s : State) (page : Nat) : Domain := if s.get (F.OWNER_DOMAIN.on page) = 0 then .legal else .app

/-- ETH_ADDR_WRITE (R708): the owner of ETH commits ETH.ADDR with its highest word. -/
def execEthAddrWrite (v : Word) (s : State) : Host.Outcome State Fault Refusal := .next (s.writeEthAddr (s.ownerOf Page.ETH) v.toNat)

/-- TXEN cleared (R720): a frame in progress is cut, with DISC. -/
def State.ethTxOff (s : State) : State :=
  let s1 := s.put F.ETH_CTL_TXEN 0
  if s.on F.ETH_CTL_EN && s.on F.ETH_CTL_TXEN then match s1.txFrame 8 with
    | none => s1
    | some (r, _, _) => (s1.ethDiscard 3).frameDone r (some 0) (some (ethAux 0 true false))
  else s1

/-- ETH_TX_DISABLE (R720). -/
def execEthTxDisable (s : State) : Host.Outcome State Fault Refusal := .next s.ethTxOff

end Sys2Proof.Machine
end

