-- ==== Sys2Proof/Machine/Panel.lean ====
section
/-!
DEFINITION. Machine/Panel.lean: the panel engine: its supplies, frames, updates, the waveform table, late layers and the
stale pattern (chapter 16, sections 1 to 8).
-/

namespace Sys2Proof.Machine

/-- `n` bytes of the waveform memory from byte `i`, little-endian. -/
def waveAt (w : List Byte) (i n : Nat) : Nat := ofBytes ((w.drop i).take n)

/-! ### The waveform table (R613 to R616) -/

/-- The descriptor of band `b` and mode `m` (Table 16-7): OFFSET, NFRAMES, FRATE. -/
def waveDesc (w : List Byte) (b m : Nat) : Nat × Nat × Nat :=
  let i := 64 + 16 * (4 * b + m)
  (waveAt w i 4, waveAt w (i + 4) 1, waveAt w (i + 5) 1)

/-- LOW_b in 0.1 °C. -/
def waveLow (w : List Byte) (b : Nat) : Int := toSigned 16 (waveAt w (36 + 2 * b) 2)

def waveBands (w : List Byte) : Nat := waveAt w 5 1

/-- Does the header lie within Table 16-6? -/
def waveHeaderOk (w : List Byte) : Bool :=
  let n := waveBands w
  let pw := waveAt w 16 2
  let ph := waveAt w 18 2
  let lx := waveAt w 20 2
  let ly := waveAt w 22 2
  let lw := waveAt w 24 2
  let lh := waveAt w 26 2
  waveAt w 0 4 == 0x57585653 && waveAt w 4 1 == 1 && decide (1 ≤ n ∧ n ≤ 12) && decide (waveAt w 6 1 < n) && waveAt w 7 1 == 0
    && decide (832 ≤ waveAt w 8 4 ∧ waveAt w 8 4 ≤ 262144 ∧ w.length = waveAt w 8 4)
    && decide (256 ≤ pw ∧ pw ≤ 1872 ∧ pw % 8 = 0) && decide (128 ≤ ph ∧ ph ≤ 1404)
    && decide (lx % 8 = 0 ∧ lw % 8 = 0 ∧ 480 ≤ lw ∧ 200 ≤ lh ∧ lx + lw ≤ pw ∧ ly + lh ≤ ph)
    && decide (1000 ≤ waveAt w 28 2 ∧ waveAt w 28 2 ≤ 1500) && decide (150 ≤ waveAt w 30 2 ∧ waveAt w 30 2 ≤ 280)
    && decide (150 ≤ waveAt w 32 2 ∧ waveAt w 32 2 ≤ 280) && decide (waveAt w 34 2 ≤ 3000)
    && ((List.range 12).all fun b => if b < n then b == 0 || decide (waveLow w (b - 1) < waveLow w b) else waveAt w (36 + 2 * b) 2 == 0x7FFF)

/-- Is the descriptor of band `b` and mode `m` in order (R615)? -/
def waveDescOk (w : List Byte) (b m : Nat) : Bool :=
  let d := waveDesc w b m
  let i := 64 + 16 * (4 * b + m)
  if b < waveBands w then
    if d.1 = 0 then m != 0
    else decide (d.1 % 64 = 0 ∧ 832 ≤ d.1 ∧ 1 ≤ d.2.1 ∧ d.2.1 ≤ 64 ∧ 1 ≤ d.2.2 ∧ d.2.2 ≤ 100 ∧ d.1 + 64 * d.2.1 ≤ waveAt w 8 4)
      && waveAt w (i + 6) 10 == 0
  else waveAt w i 16 == 0

/-- The check of a loaded table (R615, R616): 0 valid, else the cause of event 0x0C06. -/
def waveCheck (w : List Byte) (digestOk : Bool) : Nat :=
  if !digestOk then 1
  else if !waveHeaderOk w then 2
  else if (List.range 12).all fun b => (List.range 4).all fun m => waveDescOk w b m then 0 else 3

/-- WAVEFORM_LOAD (R616): the registers taken from the table, WAVEOK and event 0x0C05, or event 0x0C06. -/
def State.loadWave (s : State) (w : List Byte) (digestOk : Bool) : State :=
  match waveCheck w digestOk with
  | 0 =>
    let s1 := { s with panel := { s.panel with wave := w } }
    let s2 := ((s1.put F.EPD_PANEL_W (waveAt w 16 2)).put F.EPD_PANEL_H (waveAt w 18 2)).put F.EPD_PANELID (waveAt w 12 4)
    let s3 := (((s2.put F.EPD_LEGALRECT_LX (waveAt w 20 2)).put F.EPD_LEGALRECT_LY (waveAt w 22 2)).put F.EPD_LEGALRECT_LW (waveAt w 24 2)).put
      F.EPD_LEGALRECT_LH (waveAt w 26 2)
    ((s3.put F.EPD_WAVEVER (waveAt w 60 4)).put F.EPD_STAT_WAVEOK 1).logE Page.EPD 0x0C05 (args [waveAt w 12 4, waveAt w 60 4])
  | c => (s.put F.EPD_STAT_WAVEOK 0).logE Page.EPD 0x0C06 c

/-! ### Rectangles, pixels, the current image -/

def Rect.has (r : Rect) (x y : Nat) : Bool := decide (r.x ≤ x ∧ x < r.x + r.w ∧ r.y ≤ y ∧ y < r.y + r.h)

def Rect.overlaps (a b : Rect) : Bool := decide (a.x < b.x + b.w ∧ b.x < a.x + a.w ∧ a.y < b.y + b.h ∧ b.y < a.y + a.h)

def Rect.inside (a b : Rect) : Bool := decide (b.x ≤ a.x ∧ a.x + a.w ≤ b.x + b.w ∧ b.y ≤ a.y ∧ a.y + a.h ≤ b.y + b.h)

/-- The pixels of a rectangle, row by row. -/
def Rect.pixels (r : Rect) : List (Nat × Nat) := (List.range (r.w * r.h)).map fun i => (r.x + i % r.w, r.y + i / r.w)

/-- The legal rectangle (R603). -/
def State.legalRect (s : State) : Rect :=
  ⟨s.get F.EPD_LEGALRECT_LX, s.get F.EPD_LEGALRECT_LY, s.get F.EPD_LEGALRECT_LW, s.get F.EPD_LEGALRECT_LH⟩

/-- The current grey of a pixel; none when it is unknown (R604). -/
def State.grey (s : State) (x y : Nat) : Option Nat :=
  match s.panel.image.find? fun p => p.rect.has x y with
  | some p => p.greys.map fun g => g.getD ((y - p.rect.y) * p.rect.w + (x - p.rect.x)) 15
  | none => none

/-- The pixels of a rectangle take greys, or become unknown. -/
def State.putImage (s : State) (r : Rect) (g : Option (List Nat)) : State :=
  { s with panel := { s.panel with image := ⟨r, g⟩ :: s.panel.image.filter fun p => !p.rect.inside r } }

/-- Bases of the regions of Table 16-2: the stores of L0, L1, L2, and the mask. -/
def storeL (n : Nat) : Nat := if n = 0 then 0x60320000 else if n = 1 then 0x60000000 else 0x60160000
def maskBase : Nat := 0x602C0000

/-- Pixel (x, y) of the store of layer `n` (R600). -/
def State.storePixel (s : State) (n x y : Nat) : Nat :=
  bits (s.byte (storeL n + 1024 * y + x / 2)).toNat (4 * (x % 2)) 4

/-- The layer that a pixel takes its value from, and the addresses of the lines that decide it (R603). -/
def State.pixelLayer (s : State) (x y : Nat) : Nat × List Nat :=
  if s.legalRect.has x y then (0, [(storeL 0 + 1024 * y + x / 2) / 16 * 16])
  else
    let m := maskBase + 256 * y + x / 8
    let n := if bit (s.byte m).toNat (x % 8) then 2 else 1
    (n, [m / 16 * 16, (storeL n + 1024 * y + x / 2) / 16 * 16])

def State.layerOpen (s : State) (n : Nat) : Bool := s.on (F.EPD_LCTL_OPEN.i n)

/-- The target of a pixel (R603); none when it keeps its current grey. -/
def State.target (s : State) (bad : List Nat) (x y : Nat) : Option Nat :=
  let l := s.pixelLayer x y
  if s.layerOpen l.1 || l.2.any bad.contains then none else some (s.storePixel l.1 x y)

/-- The lines of panel memory that hold damage and fail their check (R601, R603). -/
def State.damagedPanel (s : State) : List Nat :=
  (s.sramTags.filter fun e => decide (0x60000000 ≤ e.1 ∧ e.1 < 0x60600000)
    && checkLine 0 none ⟨0, 0, e.2.flips, e.2.poison⟩ == .bad).map (·.1)

/-! ### Slots -/

def State.inflight (s : State) : List PanelUpd := s.panel.slots.filterMap id

/-- Show a slot in its registers (Table 16-10), INFLIGHT and the queue lengths. -/
def State.showSlot (s : State) (k : Nat) : State :=
  match s.panel.slots.getD k none with
  | some u =>
    let s1 := (((s.put (F.EPD_SLOT_X.i k) u.rect.x).put (F.EPD_SLOT_Y.i k) u.rect.y).put (F.EPD_SLOT_W.i k) u.rect.w).put (F.EPD_SLOT_H.i k) u.rect.h
    let s2 := ((s1.put (F.EPD_SLOT_LAYER.i k) u.layer).put (F.EPD_SLOT_MODE.i k) u.mode).put (F.EPD_SLOT_BAND.i k) u.band
    ((s2.put (F.EPD_SLOT_FRAME.i k) u.frame).put (F.EPD_SLOT_NFRAMES.i k) u.nframes).put (F.EPD_SLOT_BUSY.i k) 1
  | none => s.put (F.EPD_SLOT_BUSY.i k) 0

def State.showQueues (s : State) : State :=
  let s1 := (List.range 3).foldl (fun (t : State) n => t.put (F.EPD_LQ_N.i n) (t.panel.queue.filter fun q => q.layer == n).length) s
  s1.put F.EPD_STAT_INFLIGHT s1.inflight.length

def State.setSlot (s : State) (k : Nat) (u : Option PanelUpd) : State :=
  ({ s with panel := { s.panel with slots := s.panel.slots.set k u } } : State).showSlot k

/-- Every update in flight ends unfinished: its pixels become unknown (R598, R624). -/
def State.cutUpdates (s : State) : State :=
  ((List.range 8).foldl (fun (t : State) k =>
    match t.panel.slots.getD k none with
    | some u => (t.putImage u.rect none).setSlot k none
    | none => t) s).showQueues

/-- The frames of every update in flight advance; the updates that have run their frames end (R612). -/
def State.endFrames (s : State) : State :=
  (List.range 8).foldl (fun (t : State) k =>
    match t.panel.slots.getD k none with
    | some u =>
      if u.frame + 1 < u.nframes then t.setSlot k (some { u with frame := u.frame + 1 })
      else ((t.putImage u.rect (some u.targets)).setSlot k none).irq Page.EPD 1
    | none => t) s

/-! ### Rails (R596 to R598) -/

/-- The rail state that EPD.STAT shows: a power-down is over when 10 ms have discharged the rails. -/
def State.railState (s : State) : Nat :=
  if s.get F.EPD_STAT_RAILST = 3 ∧ s.panel.railsAt + 10 * tickMs ≤ s.angle.now then 0 else s.get F.EPD_STAT_RAILST

/-- The power-up begins, to the settings of the table header and EPD.VCOMADJ. -/
def State.railsUp (s : State) : State :=
  let mv : Int := toSigned 11 (s.get F.EPD_VCOMADJ_MV) - (waveAt s.panel.wave 34 2 : Int)
  { s.put F.EPD_STAT_RAILST 1 with panel := { s.panel with railsAt := s.angle.now, vcom := mv } }

/-- The power-down begins. -/
def State.railsDown (s : State) : State :=
  { s.put F.EPD_STAT_RAILST 3 with panel := { s.panel with railsAt := s.angle.now } }

/-- Is rail `k` on: VGL, VSNEG, VGH, VSPOS, VCOM in the order of the power-up, each 1 ms after the one before, the power-down in the reverse
order (R596)? -/
def State.railOn (s : State) (k : Nat) : Bool :=
  match s.get F.EPD_STAT_RAILST with
  | 1 => decide (s.panel.railsAt + k * tickMs ≤ s.angle.now)
  | 2 => true
  | 3 => decide (s.angle.now < s.panel.railsAt + (4 - k) * tickMs)
  | _ => false

/-- The setting of rail `k` in mV. -/
def State.railSetting (s : State) (k : Nat) : Int :=
  match k with
  | 0 => -(100 * waveAt s.panel.wave 32 2 : Int)
  | 1 => -(10 * waveAt s.panel.wave 28 2 : Int)
  | 2 => 100 * waveAt s.panel.wave 30 2
  | 3 => 10 * waveAt s.panel.wave 28 2
  | _ => s.panel.vcom

/-- The code of pixel (x, y) of an update in frame `f` (R611, R614). -/
def PanelUpd.code (w : List Byte) (u : PanelUpd) (x y f : Nat) : Nat :=
  let i := (y - u.rect.y) * u.rect.w + (x - u.rect.x)
  let p := 16 * u.olds.getD i 15 + u.targets.getD i 15
  bits (waveAt w ((waveDesc w u.band u.mode).1 + 64 * f + p / 4) 1) (2 * (p % 4)) 2

/-- The rail that the source output of a pixel of an update has in frame `f` (Table 16-4): 0 VCOM, 1 VSPOS, 2 VSNEG; a hold keeps that of the
frame before, zero in the first. -/
def PanelUpd.level (w : List Byte) (u : PanelUpd) (x y : Nat) : Nat → Nat
  | 0 => u.code w x y 0 % 3
  | f + 1 => if u.code w x y (f + 1) = 3 then u.level w x y f else u.code w x y (f + 1)

/-- The drive code of pixel (x, y) in the frame in progress (R605): zero where no update drives it. -/
def State.driveCode (s : State) (x y : Nat) : Nat :=
  match s.inflight.find? fun u => u.rect.has x y with
  | some u => u.code s.panel.wave x y u.frame
  | none => 0

/-- The source output of pixel (x, y) while the rails are on: zero for a pixel of no update, and for every pixel in the neutral frame, from 1 ms
after t₀ (R605, R624). -/
def State.driveLevel (s : State) (x y : Nat) : Nat :=
  if s.boot.pfail ∧ s.panel.failAt + tickMs ≤ s.angle.now then 0
  else match s.inflight.find? fun u => u.rect.has x y with
    | some u => u.level s.panel.wave x y u.frame
    | none => 0

/-! ### Requests (R608) -/

/-- The reason of Table 16-5 that refuses a request, 0 when it is accepted. -/
def State.panelRefusal (s : State) (q : PanelReq) : Nat :=
  let r := q.rect
  if r.x % 2 = 1 ∨ r.w % 2 = 1 ∨ r.w = 0 ∨ r.h = 0 then 1
  else if r.x + r.w > s.get F.EPD_PANEL_W ∨ r.y + r.h > s.get F.EPD_PANEL_H then 2
  else if q.layer = 0 ∧ !r.inside s.legalRect then 3
  else if q.layer ≠ 0 ∧ r.overlaps s.legalRect then 4
  else if (s.panel.queue.filter fun e => e.layer == q.layer).length ≥ (if q.layer = 0 then 4 else 8) then 5
  else if !s.on F.EPD_STAT_WAVEOK then 6
  else if s.on F.EPD_STAT_RAILHELD then 7
  else 0

/-- A committed request is queued or refused. -/
def State.requestPanel (s : State) (q : PanelReq) : State :=
  match s.panelRefusal q with
  | 0 => ({ s with panel := { s.panel with queue := s.panel.queue ++ [q] } } : State).showQueues
  | c => (((((s.put F.EPD_REFUSE_REASON c).put F.EPD_REFUSE_LAYER q.layer).incSat F.EPD_CNT_REFUSED).irq Page.EPD 2)).logE Page.EPD 0x0C01 (args [q.layer, c])

/-- A write of word 1 of EPD.LnREQ: L0REQ by the legal domain, the others by the owner of EPD. -/
def State.commitPanel (s : State) (n v : Nat) : State :=
  let d := if n = 0 then .legal else s.ownerOf Page.EPD
  let f := F.EPD_LREQ_X.i n
  let w := s.commitValue d f.addr 2 v
  let s1 := ((s.unstage d f.addr 2).put (F.EPD_LREQ_X.i n) (bits w 0 11)).put (F.EPD_LREQ_Y.i n) (bits w 16 11)
  let s2 := ((s1.put (F.EPD_LREQ_W.i n) (bits w 32 11)).put (F.EPD_LREQ_H.i n) (bits w 48 11)).put (F.EPD_LREQ_MODE.i n) (bits w 60 2)
  s2.requestPanel ⟨n, ⟨bits w 0 11, bits w 16 11, bits w 32 11, bits w 48 11⟩, bits w 60 2⟩

/-- The legal image presents the whole legal rectangle in full mode (R621, R634). -/
def State.presentRect (s : State) : State :=
  let r := s.legalRect
  let s2 := ((s.put (F.EPD_LREQ_X.i 0) r.x).put (F.EPD_LREQ_Y.i 0) r.y).put (F.EPD_LREQ_W.i 0) r.w
  let s3 := (s2.put (F.EPD_LREQ_H.i 0) r.h).put (F.EPD_LREQ_MODE.i 0) 0
  s3.when (s3.on F.EPD_STAT_WAVEOK) (·.requestPanel ⟨0, r, 0⟩)

/-- PANEL_REQUEST (R608). -/
def execPanelRequest (n : Fin 3) (v : Word) (s : State) : Host.Outcome State Fault Refusal := .next (s.commitPanel n.val v.toNat)

/-! ### Taking (R609 to R611, R619, R620) -/

/-- The mode in which an update of a rectangle runs (R611). -/
def State.runMode (s : State) (r : Rect) (mode : Nat) : Nat :=
  if r.pixels.any (fun p => (s.grey p.1 p.2).isNone) then 0
  else if (waveDesc s.panel.wave (s.get F.EPD_STAT_BAND) mode).1 = 0 then 0
  else mode

/-- The frame rate of the descriptor that a request would run. -/
def State.runRate (s : State) (r : Rect) (mode : Nat) : Nat :=
  (waveDesc s.panel.wave (s.get F.EPD_STAT_BAND) (s.runMode r mode)).2.2

/-- What the engine considers: the stale pattern as layer 3, then L0, then L1 and L2 in the order of their commits. -/
def State.considered (s : State) : List PanelReq :=
  (if s.panel.stale then [⟨3, s.legalRect, 0⟩] else [])
    ++ (s.panel.queue.filter fun q => q.layer == 0) ++ (s.panel.queue.filter fun q => q.layer != 0)

/-- What the consideration of a boundary carries on: the requests that wait, and whether one of L0 or the stale pattern waits
only for its rate. -/
structure Considering where
  waits : List Rect := []
  rateWaits : Bool := false
deriving DecidableEq, Repr

/-- The conditions of R609 but for the rate and the rails. -/
def State.takeable (s : State) (c : Considering) (q : PanelReq) : Bool :=
  (q.layer == 3 || q.layer == 0 || s.on F.EPD_CTL_EN) && (q.layer == 3 || !s.layerOpen q.layer)
    && (s.inflight.all fun u => !u.rect.overlaps q.rect) && (c.waits.all fun r => !r.overlaps q.rect)
    && decide (s.inflight.length < 8) && (q.layer == 3 || q.layer == 0 || !c.rateWaits)

/-- Does the rate of the request agree with the rate in force (R609)? -/
def State.rateAgrees (s : State) (q : PanelReq) : Bool :=
  s.inflight.isEmpty || s.runRate q.rect q.mode == s.get F.EPD_RATE_HZ

def State.dropReq (s : State) (q : PanelReq) : State := { s with panel := { s.panel with queue := s.panel.queue.erase q } }

/-- The stale pattern (R619): a border of 8 pixels of grey 0, and inside it grey 15 with the words in grey 0. The font is not
given: which pixels of the interior the words cover is free (`v`, one bit a pixel). -/
def staleTarget (r : Rect) (v i x y : Nat) : Nat :=
  if x < r.x + 8 ∨ r.x + r.w ≤ x + 8 ∨ y < r.y + 8 ∨ r.y + r.h ≤ y + 8 then 0 else if bit v i then 0 else 15

/-- Take a request at this boundary (R611). A target that keeps the grey of an unknown pixel is open (`v`). -/
def State.takeReq (s : State) (bad : List Nat) (q : PanelReq) (v : Nat) : State :=
  let mode := s.runMode q.rect q.mode
  let band := s.get F.EPD_STAT_BAND
  let d := waveDesc s.panel.wave band mode
  let px := q.rect.pixels
  let olds := px.map fun p => (s.grey p.1 p.2).getD 15
  let mono (g : Nat) : Nat := if mode = 1 then (if g < 8 then 0 else 15) else g
  let targets := px.mapIdx fun i p =>
    if q.layer = 3 then staleTarget q.rect v i p.1 p.2
    else ((s.target bad p.1 p.2).map mono).getD ((s.grey p.1 p.2).getD (v / 16 ^ i % 16))
  let k := (s.panel.slots.findIdx? fun u => u.isNone).getD 0
  let s1 := if s.inflight.isEmpty then s.put F.EPD_RATE_HZ d.2.2 else s
  let s2 := if q.layer = 3 then { s1 with panel := { s1.panel with stale := false } } else (s1.dropReq q).incSat F.EPD_CNT_TAKEN
  let s3 := (s2.setSlot k (some ⟨q.layer, q.rect, mode, band, 0, d.2.1, olds, targets⟩)).put (F.EPD_SLOT_FRAMENO.i k) (s.get F.EPD_FRAMENO)
  let s4 := s3.irq Page.EPD 0
  if q.layer = 0 ∧ s4.on F.EPD_STAT_LEGALSTALE ∧ q.rect = s4.legalRect then
    ((s4.put F.EPD_STAT_LEGALSTALE 0).irq Page.EPD 4).logE Page.EPD 0x0C04 (s4.get F.EPD_FRAMENO)
  else s4

/-- Lines that failed their check in the composition of a request (R633): event 0x0C0B once for each line. Answers whether one
is a line of L0. -/
def State.badLines (s : State) (bad : List Nat) (q : PanelReq) : List Nat :=
  if q.layer = 3 then [] else bad.filter fun l => q.rect.pixels.any fun p => (s.pixelLayer p.1 p.2).2.contains l && !s.layerOpen (s.pixelLayer p.1 p.2).1

/-- Consider the requests in turn; `go` false asks only whether one could be taken. Answers whether one was (or could be), the
failed lines, and the state. -/
def State.consider (s : State) (bad : List Nat) (go : Bool) (c : Considering) (hit : List Nat) : List PanelReq → Bool × List Nat × State
  | [] => (false, hit, s)
  | q :: qs =>
    if s.takeable c q then
      if s.rateAgrees q then
        if !go then (true, hit, s)
        else if q.layer = 0 ∧ s.on F.EPD_STAT_LEGALSTALE ∧ q.rect ≠ s.legalRect then
          let r := State.consider ((s.dropReq q).incSat F.EPD_CNT_DISC) bad go c hit qs
          (true, r.2)
        else
          let lines := (s.badLines bad q).filter fun l => !hit.contains l
          let r := State.consider (s.free fun v t => t.takeReq bad q v) bad go c (hit ++ lines) qs
          (true, r.2)
      else s.consider bad go { c with waits := q.rect :: c.waits, rateWaits := c.rateWaits || q.layer == 0 || q.layer == 3 } hit qs
    else s.consider bad go { c with waits := q.rect :: c.waits } hit qs

/-! ### Late layers (R618, R619) -/

def latFields : List Field := [F.EPD_STAT_L0LATE, F.EPD_STAT_L1LATE, F.EPD_STAT_L2LATE]

/-- One late boundary more for layer `n`; the fourth in succession of L0 makes the reading stale (R619). -/
def State.countLate (s : State) (n : Nat) : State :=
  let first := s.get (F.EPD_LQ_CONSEC.i n) = 0
  let s1 := s.incSat (F.EPD_LQ_CONSEC.i n)
  let s2 := if first then (s1.irq Page.EPD 3).logE Page.EPD 0x0C02 n else s1
  if n = 0 ∧ s2.get (F.EPD_LQ_CONSEC.i n) = 4 ∧ !s2.on F.EPD_STAT_LEGALSTALE then
    let s3 := ((s2.put F.EPD_STAT_LEGALSTALE 1).irq Page.EPD 4).logE Page.EPD 0x0C03 (s2.get F.EPD_FRAMENO)
    { s3 with panel := { s3.panel with stale := true } }
  else s2

/-- The late layers of a boundary. CONSEC of a layer that is not late clears. -/
def State.noteLate (s : State) : State :=
  (List.range 3).foldl (fun (t : State) n =>
    let open_ := t.layerOpen n
    let t1 := t.put (latFields.getD n F.EPD_STAT_L0LATE) (b2n open_)
    if open_ then (t1.incSat (F.EPD_LQ_LATES.i n)).countLate n else t1) s

/-- CONSEC of the layers that were not late clears; a failed line of L0 counts as late for CONSEC (R633). -/
def State.closeLate (s : State) (hit : List Nat) (consec0 : Nat) : State :=
  let s1 := (List.range 3).foldl (fun (t : State) n => if t.layerOpen n then t else t.put (F.EPD_LQ_CONSEC.i n) 0) s
  if !s.layerOpen 0 ∧ hit.any (fun l => decide (0x60320000 ≤ l ∧ l < 0x60480000)) then (s1.put (F.EPD_LQ_CONSEC.i 0) consec0).countLate 0 else s1

/-! ### Frame boundaries -/

/-- Does the engine run (R606)? -/
def State.panelRuns (s : State) : Bool := s.on F.EPD_STAT_WAVEOK && (s.on F.EPD_CTL_EN || s.on F.EPD_LCTL_L0ON) && !s.boot.pfail

/-- Has no rail fault occurred in the last second (R598)? -/
def State.railsRetry (s : State) : Bool := s.panel.railFaults.all fun t => decide (t + 1000 * tickMs ≤ s.angle.now)

/-- The updates end that have run their frames; RAILHOLD runs from the end of the last, and the rate in force returns to IDLERATE (R597, R610,
R612). -/
def State.endUpdates (s : State) : State :=
  let s1 := s.endFrames
  if s1.inflight.isEmpty then
    let s2 := s1.put F.EPD_RATE_HZ (s1.get F.EPD_FRAMECFG_IDLERATE)
    if s.inflight.isEmpty then s2 else { s2 with panel := { s2.panel with idleAt := s2.angle.now } }
  else s1

/-- A frame boundary, from which the frame period counts as begun at tick `begin_` (R605, R609, R610): updates end, late layers are counted,
requests are taken or the rails powered up. `bad`: addresses of lines of the panel memory that fail their check. -/
def State.boundary (s : State) (begin_ : Nat) (bad : List Nat) : State :=
  if !s.panelRuns then s
  else
    let lines := bad ++ s.damagedPanel
    let s1 := s.put F.EPD_FRAMENO (s.get F.EPD_FRAMENO + 1)
    let s2 := s1.put F.EPD_STAT_RAILST s1.railState
    let s3 : State := { s2 with panel := { s2.panel with begun := begin_ } }
    let s5 := s3.endUpdates.noteLate
    let go := decide (s5.get F.EPD_STAT_RAILST = 2)
    let r := s5.consider lines go {} [] s5.considered
    let s6 := if !go && r.1 && s5.get F.EPD_STAT_RAILST == 0 && s5.railsRetry && !s5.on F.EPD_STAT_RAILHELD then r.2.2.railsUp else r.2.2
    let s7 := r.2.1.foldl (fun (t : State) l => t.logE Page.EPD 0x0C0B l) s6
    (s7.closeLate r.2.1 (s.get (F.EPD_LQ_CONSEC.i 0))).showQueues

/-- The frame period in reference ticks (R605). -/
def State.framePeriod (s : State) : Nat := (2 * 16384000 + s.get F.EPD_RATE_HZ) / (2 * max 1 (s.get F.EPD_RATE_HZ))

/-- The tick of the next boundary; none while the engine does not run, and while the rails power up, which make the next one when they are
good (R610). -/
def State.boundaryAt (s : State) : Option Nat :=
  if s.panelRuns && s.get F.EPD_STAT_RAILST != 1 then some (s.panel.begun + s.framePeriod) else none

/-- The rails are good, 5 ms after the power-up began (R596, R610): a boundary is made at once. -/
def State.railsAreGood (s : State) (bad : List Nat) : State :=
  let s1 := s.put F.EPD_STAT_RAILST 2
  ({ s1 with panel := { s1.panel with idleAt := s1.angle.now } } : State).boundary s1.angle.now bad

/-- A rail fault (R598, R634). -/
def State.railFault (s : State) (rail : Nat) : State :=
  let legal := s.inflight.any fun u => u.layer == 0
  let faults := s.angle.now :: s.panel.railFaults.filter fun t => decide (s.angle.now ≤ t + 60000 * tickMs)
  let s1 := s.cutUpdates.railsDown
  let s2 := ((({ s1 with panel := { s1.panel with railFaults := faults } } : State).irq Page.EPD 5).logE Page.EPD 0x0C0A (args [rail, faults.length])).when
    (decide (3 ≤ faults.length)) (·.put F.EPD_STAT_RAILHELD 1)
  if legal && s2.boot.legalRuns then
    if s2.on F.EPD_STAT_RAILHELD then { s2 with panel := { s2.panel with redraw := true } } else s2.presentRect
  else s2

/-- RAIL_HOLD_EXPIRY (R597): no update has been in flight for RAILHOLD. -/
def execRailHoldExpiry (s : State) : Host.Outcome State Fault Refusal :=
  .next (if s.get F.EPD_STAT_RAILST = 2 ∧ s.inflight = [] ∧ !s.boot.pfail ∧ s.panel.idleAt + s.get F.EPD_FRAMECFG_RAILHOLD * tickMs ≤ s.angle.now then s.railsDown
  else s)

/-- An alarm with ACT = 3 (R607); on the tick of a natural boundary the two make one. -/
def State.alarmFrame (s : State) : State :=
  if s.panelRuns ∧ s.inflight = [] ∧ s.get F.EPD_STAT_RAILST ≠ 1 then
    if s.panel.begun = s.angle.now ∧ s.get F.EPD_FRAMENO ≠ 0 then s else s.boundary s.angle.now []
  else s.incSat F.EPD_CNT_ALMS

/-! ### Temperature (R599) -/

/-- The highest band whose LOW is at or below `t` (1/16 °C), band 0 when there is none. -/
def waveBand (w : List Byte) (t : Int) : Nat :=
  ((List.range (waveBands w)).reverse.find? fun b => decide (16 * waveLow w b ≤ 10 * t)).getD 0

/-- The band in force after a good reading: it changes only 1.0 °C beyond the boundary of the band in force; the first reading sets it
(DEDUCED, log entry 79). -/
def State.nextBand (s : State) (t : Int) : Nat :=
  let w := s.panel.wave
  let b := s.get F.EPD_STAT_BAND
  let c := waveBand w t
  if !s.panel.banded then c
  else if b < c then (if 16 * waveLow w (b + 1) + 160 ≤ 10 * t then c else b)
  else if c < b then (if 10 * t ≤ 16 * waveLow w b - 160 then c else b)
  else b

def State.toBand (s : State) (b : Nat) : State :=
  if s.get F.EPD_STAT_BAND = b then s else (s.put F.EPD_STAT_BAND b).irq Page.EPD 6

/-- The band in force after a good measurement `t`. -/
def State.measuredBand (s : State) (t : Int) : State :=
  let s1 := s.toBand (s.nextBand t)
  { s1 with panel := { s1.panel with banded := true } }

/-- A measurement of the panel temperature, in 1/16 °C. -/
def State.panelTemp (s : State) (v : Nat) : State :=
  let t := toSigned 12 v
  let s0 := s.put F.EPD_TEMP_T v
  let p : Panel := { s0.panel with tempAt := some s0.angle.now }
  let fail (u : State) : State := if u.panel.tAge ≥ 600 then u.toBand (waveAt u.panel.wave 6 1) else u
  if t < -640 ∨ 1360 < t then
    if s0.on F.EPD_TEMP_TFAULT then fail { s0 with panel := { p with tGood := 0, tAge := p.tAge + 1 } }
    else if p.tBad + 1 ≥ 3 then
      (({ s0 with panel := { p with tBad := 0, tGood := 0, tAge := 0 } } : State).put F.EPD_TEMP_TFAULT 1 |>.irq Page.EPD 6).logE Page.EPD 0x0C07 v
    else { s0 with panel := { p with tBad := p.tBad + 1 } }
  else if s0.on F.EPD_TEMP_TFAULT then
    if p.tGood + 1 ≥ 3 then
      let s1 := (({ s0 with panel := { p with tGood := 0, tAge := 0 } } : State).put F.EPD_TEMP_TFAULT 0 |>.irq Page.EPD 6).logE Page.EPD 0x0C08 v
      s1.measuredBand t
    else fail { s0 with panel := { p with tGood := p.tGood + 1, tAge := p.tAge + 1 } }
  else
    ({ s0 with panel := { p with tBad := 0 } } : State).measuredBand t

/-- PANEL_TEMPERATURE (R599): measured every 1 s; sooner after the last measurement, none takes place. -/
def execPanelTemperature (t : BitVec 12) (s : State) : Host.Outcome State Fault Refusal :=
  .next (if s.panel.tempAt.all fun a => decide (a + 1000 * tickMs ≤ s.angle.now) then
    s.panelTemp t.toNat else s)

/-! ### Power loss and resets -/

/-- At t₀ (R624, R625): the panel cell is written; rails that power up go down at once. -/
def State.panelPowerFail (s : State) : State :=
  let cut := (s.inflight.find? fun u => u.layer == 0 || u.layer == 3).map (·.frame)
  let s1 := { s with panel := { s.panel with cell := cut, failAt := s.angle.now } }
  if s1.get F.EPD_STAT_RAILST = 1 then s1.railsDown else s1

/-- PANEL_CELL_CHECK (R625): at a cold start the cell is read once. -/
def State.checkPanelCell (s : State) : State :=
  match s.panel.cell with
  | some f => (({ s with panel := { s.panel with cell := none } } : State).put F.EPD_STAT_PFABORT 1).logE Page.EPD 0x0C0C f
  | none => s

/-- A reset of the application domain (R602, R635): the stores of L1 and L2 and the mask clear, their queues are discarded. -/
def State.resetPanelApp (s : State) : State :=
  let s1 : State := { s with
    mem := storeErase (fun a => decide (0x60000000 ≤ a ∧ a < 0x60318000)) s.mem
    sramTags := storeErase (fun a => decide (0x60000000 ≤ a ∧ a < 0x60318000)) s.sramTags
    panel := { s.panel with queue := s.panel.queue.filter fun q => q.layer == 0 } }
  s1.showQueues

/-- A cold start (R602, R604): the whole panel memory clears, the current image and all that the engine does are lost; the
panel cell stays. -/
def State.resetPanel (s : State) : State :=
  { s with
    mem := storeErase (fun a => decide (0x60000000 ≤ a ∧ a < 0x60600000)) s.mem
    sramTags := storeErase (fun a => decide (0x60000000 ≤ a ∧ a < 0x60600000)) s.sramTags
    panel := { cell := s.panel.cell } }

/-- CTL.EN or L0CTL.L0ON has been written from 0 to 1 in state `s0`: RAILHELD clears (R598), the legal image makes the presentation it owes
(R634), and an engine that did not run starts: its boundaries count from now, at IDLERATE (R605, R606). -/
def State.panelEnabled (s s0 : State) : State :=
  let s1 := s.put F.EPD_STAT_RAILHELD 0
  let s2 := if s1.panel.redraw then ({ s1 with panel := { s1.panel with redraw := false } } : State).presentRect else s1
  if s2.panelRuns && !s0.panelRuns then
    let s3 := s2.put F.EPD_FRAMENO 0
    let s4 := if s3.inflight.isEmpty then s3.put F.EPD_RATE_HZ (s3.get F.EPD_FRAMECFG_IDLERATE) else s3
    { s4 with panel := { s4.panel with begun := s4.angle.now } }
  else s2

end Sys2Proof.Machine
end

