-- ==== Sys2Proof/Machine/Pulse.lean ====
section
/-!
DEFINITION. Machine/Pulse.lean: the pulse outputs (chapter 7).
-/

namespace Sys2Proof.Machine

def State.po (s : State) (n : Fin 4) : PulseOut := s.pulses.outs.get n

def State.setPo (s : State) (n : Fin 4) (p : PulseOut) : State := { s with pulses := { s.pulses with outs := s.pulses.outs.set n p } }

/-- 10⁹ pulse units in Q64.64: one pulse (R259). -/
def onePulse : Nat := 10 ^ 9 * 2 ^ 64

/-- Accumulator `a`. -/
def State.acc (s : State) (a : Nat) : Nat := s.getW (F.MET_ACC.i a)

/-- The constant that output `n` would use now: the test constant in Verification mode (R267). -/
def State.constNow (s : State) (n : Nat) : Nat :=
  if s.on F.SYS_MODE_VERIF && s.on (F.PLS_PO_TEST_TEN.i n) then s.get (F.PLS_PO_TEST_TCONST.i n) else s.get (F.PLS_PO_CONST_C.i n)

/-- Does the pulse engine run? -/
def State.pulsesRun (s : State) : Bool := s.on F.PLS_CTL_EN && !s.on F.MET_STAT_FROZEN

/-- Is accumulator `a` selected by an enabled billing register of the list of words `l`? -/
def billedBy (l : List Nat) (a : Nat) : Bool := l.any fun b => bit b 6 && b % 64 == a

/-- The residue at the end of the window (R261). -/
def PulseOut.residue (p : PulseOut) : Nat := p.r0 + p.d - onePulse * p.emitted

/-- Placement of pulse `k`, in ticks after the window start (R260). -/
def PulseOut.place (p : PulseOut) (len k : Nat) : Nat :=
  if p.d = 0 then 0 else ((onePulse * k - p.r0) * len + p.d - 1) / p.d

/-- Pulses whose placement is at or before `t` ticks after the window start. -/
def PulseOut.due (p : PulseOut) (len t : Nat) : Nat :=
  min ((p.r0 + p.d) / onePulse) ((p.r0 + (if len = 0 then p.d else t * p.d / len)) / onePulse)

/-- POn_BACKLOG as it stands now: pulses whose placement has passed and that are not yet emitted, those owed after a start apart
(R265, R273). -/
def State.backlog (s : State) (n : Fin 4) : Nat :=
  let p := s.po n
  if s.pulsesRun ∧ s.pulses.windowOn ∧ p.en then sat 16 (p.due s.pulses.len (s.angle.now - s.pulses.start) - p.emitted - p.owed) else 0

/-- Does output `n` stand in its active state as the outside sees it: PO0's emitter on, or the switch of PO1 to PO3 conducting, which INV
inverts (Table 7-1)? -/
def State.pulseOut (s : State) (n : Fin 4) : Bool :=
  s.getBit F.PLS_STAT_ACTIVE n != (n != 0 && s.on (F.PLS_PO_CFG_INV.i n))

/-- Latch the snapshot of output `n` (R274). -/
def State.latchSnap (s : State) (n : Fin 4) : State :=
  let p := s.po n
  ((((s.putW (F.PLS_PO_SNAP_ACC.i n) (s.pulses.seen.getD p.acc 0)).putW (F.PLS_PO_SNAP_COUNT.i n) (s.getW (F.PLS_PO_COUNT.i n))).putW
    (F.PLS_PO_SNAP_RES.i n) p.residue).putW (F.PLS_PO_SNAP_CYC.i n) (s.getW F.MET_LASTCYC)).put (F.PLS_PO_SNAP_CONST.i n) p.const

/-- A change of TCONST or TEN takes effect at a window start in Verification mode: it is logged and counted with the output, the
old and the new constant (R267 to R269). -/
def State.noteTest (s : State) (n : Fin 4) (old new : Nat) : State :=
  let t := (s.get (F.PLS_PO_TEST_TCONST.i n), s.get (F.PLS_PO_TEST_TEN.i n))
  if s.on F.SYS_MODE_VERIF ∧ t ≠ (s.po n).test then
    (s.setPo n { s.po n with test := t }).logE Page.PLS 0x0353 (args [n, old, new])
  else s

/-- Output `n` at a window start: residue, R257 and R269, then R₀ and D (R260, R261). -/
def State.openWindow (s : State) (n : Fin 4) : State :=
  let p := s.po n
  let res := if p.en then p.residue else p.r0
  let stop := n == 0 && s.on (F.PLS_PO_CFG_EN.i n) && !billedBy s.energy.br (s.get (F.PLS_PO_CFG_ACC.i n))
  let s1 := if stop then ((((s.put (F.PLS_PO_CFG_EN.i n) 0).markConfig).irq Page.PLS 6).logE Page.PLS 0x0354 n) else s
  let en := s1.on (F.PLS_PO_CFG_EN.i n)
  let acc := s1.get (F.PLS_PO_CFG_ACC.i n)
  let c := s1.constNow n
  let changed := !(en == p.en && acc == p.acc && c == p.const)
  let r0 := if changed then 0 else res
  let d := if en then (s1.acc acc - s1.pulses.seen.getD acc 0) * c else 0
  let s2 := s1.setPo n { p with en := en, acc := acc, const := c, r0 := r0, d := d, emitted := 0, owed := if changed then 0 else p.owed }
  let s3 := (s2.putW (F.PLS_PO_RES.i n) r0).putBit F.PLS_STAT_TEST n (s1.on F.SYS_MODE_VERIF && s1.on (F.PLS_PO_TEST_TEN.i n))
  let s4 := s3.noteTest n p.const c
  if changed then (s4.irq Page.PLS 5).logE Page.PLS 0x0350 n else s4

/-- A window begins at tick `start` with T_c = `len` (R258 to R261, R274, R279). -/
def State.startWindow (s : State) (start len : Nat) : State :=
  let s1 := if s.pulses.snap then
      (((List.finRange 4).foldl State.latchSnap s).put F.PLS_SNAPSEQ_N (s.get F.PLS_SNAPSEQ_N + 1)).irq Page.PLS 7 else s
  let s2 : State := { s1 with pulses := { s1.pulses with snap := false, start := start, len := len, windowOn := true, next := none } }
  let s3 := (List.finRange 4).foldl State.openWindow s2
  { s3 with pulses := { s3.pulses with seen := (List.range 64).map s3.acc } }

/-- The end of the open window: the start of the next one, known from the carry that follows the window's cycle, or ahead of the running
clock; none while no cycle will close (R258, R277). -/
def State.windowEnd (s : State) : Option Nat :=
  match s.pulses.next with
  | some w => some w.1
  | none =>
    if !s.engineRuns then none
    else if (s.angle.carry.any fun c => decide (s.pulses.start < c + 1024)) then s.angle.carry.map (· + 1024)
    else if s.angleRuns then some (s.angle.now + s.ticksTo (2 ^ 48 - s.angle.phase) + 1024)
    else none

/-- Twice the width of output `n` in reference ticks, rounded up: a width unit is 1 638.4 ticks (R264, R265). -/
def State.minSpacing (s : State) (n : Fin 4) : Nat := (s.get (F.PLS_PO_WIDTH_W.i n) * 16384 + 4) / 5

/-- The placement of the next pulse of output `n` (R260). -/
def State.placed (s : State) (n : Fin 4) : Nat := s.pulses.start + (s.po n).place s.pulses.len ((s.po n).emitted + 1)

/-- The emission tick of the next pulse of output `n` that the open window holds: its placement, or twice the width after the previous active
edge (R260, R265), and never before now; none where that is not before the start of the next window (R260, R280). -/
def State.nextPulse (s : State) (n : Fin 4) : Option Nat :=
  let p := s.po n
  let at_ := max (max (s.placed n) (match p.lastEdge with
    | none => 0
    | some e => e + s.minSpacing n)) s.angle.now
  if s.pulsesRun ∧ s.pulses.windowOn ∧ p.en ∧ (p.emitted + 1) * onePulse ≤ p.r0 + p.d ∧ (s.windowEnd.all fun w => decide (at_ < w)) then
    some at_
  else none

/-- The active edge of the next pulse of output `n` at tick `at_` (R264, R265, R273), placed at `place`. -/
def State.emitPulse (s : State) (n : Fin 4) (place at_ : Nat) : State :=
  let p := s.po n
  let late := decide (place < at_)
  let owed := decide (0 < p.owed)
  let s2 := ((s.putW (F.PLS_PO_COUNT.i n) ((s.getW (F.PLS_PO_COUNT.i n) + 1) % 2 ^ 64)).irq Page.PLS n).putBit F.PLS_STAT_ACTIVE n true
  let s3 := match p.lastEdge with
    | none => s2
    | some e => s2.put (F.PLS_PO_PERIOD.i n) (sat 32 (at_ - e))
  let was := s3.getBit F.PLS_STAT_OVRATE n
  let ovl := late && !owed
  let p1 := { p with
    emitted := p.emitted + 1, owed := p.owed - 1, lastEdge := some at_, width := s.get (F.PLS_PO_WIDTH_W.i n) * 16384 / 10
    delayed := if ovl then (if was then p.delayed + 1 else 1) else 0 }
  let s4 := s3.setPo n p1
  if ovl && !was then ((s4.putBit F.PLS_STAT_OVRATE n true).irq Page.PLS 4).logE Page.PLS 0x0351 n
  else if !late && was then (s4.putBit F.PLS_STAT_OVRATE n false).logE Page.PLS 0x0352 (n.val + 2 ^ 64 * p.delayed)
  else s4

/-- Every output stops and RES takes all energy not yet pulsed (R272). -/
def State.stopPulses (s : State) : State :=
  let s1 := (List.finRange 4).foldl (fun (t : State) (n : Fin 4) =>
    let p := t.po n
    let res := if p.en then p.residue + (t.acc p.acc - t.pulses.seen.getD p.acc 0) * p.const else p.r0
    ((t.setPo n { p with r0 := res, d := 0, emitted := 0 }).putW (F.PLS_PO_RES.i n) res).putBit F.PLS_STAT_ACTIVE n false) s
  { s1 with pulses := { s1.pulses with windowOn := false, next := none } }

/-- PLS.CTL.EN (R270, R273): the outputs take the restored residue, whose whole pulses are owed from the first window on, or stop. -/
def State.setPulses (s : State) (en : Bool) : State :=
  let s1 := s.put F.PLS_CTL_EN (b2n en)
  if en = s.on F.PLS_CTL_EN then s1
  else if en then
    let s2 := (List.finRange 4).foldl (fun (t : State) (n : Fin 4) =>
      let r := t.getW (F.PLS_PO_RES.i n)
      t.setPo n { t.po n with en := t.on (F.PLS_PO_CFG_EN.i n), acc := t.get (F.PLS_PO_CFG_ACC.i n), const := t.constNow n, r0 := r, d := 0, emitted := 0, owed := r / onePulse }) s1
    { s2 with pulses := { s2.pulses with seen := (List.range 64).map s2.acc, windowOn := false, next := none } }
  else if s.on F.MET_STAT_FROZEN then s1
  else
    let s2 := s.stopPulses
    { (s2.put F.PLS_CTL_EN 0) with pulses := { s2.pulses with seen := (List.range 64).map s2.acc } }

/-- PO_CFG_WRITE (R256): PO0 may select only an accumulator billed by the registers in force (R245); INV of PO0 is reserved. -/
def State.writePoCfg (s : State) (who : Initiator) (n : Fin 4) (v : Nat) : State :=
  let a := (F.PLS_PO_CFG_EN.i n).addr
  let w := bits v 0 7 + (if n = 0 then 0 else 2 ^ 7 * bits v 7 1)
  s.rwsWrite who a v w fun t =>
    if n = 0 ∧ bit w 6 ∧ !billedBy t.energy.br (bits w 0 6) then t.logE Page.PLS 0x0355 n else t.putRws a w

def execPoCfgWrite (n : Fin 4) (v : Word) (s : State) : Host.Outcome State Fault Refusal := .next (s.writePoCfg .legal n v.toNat)

/-- PO_TEST_WRITE (R267) by the legal domain: no effect while SEALED. A change is logged and counted when it takes effect, at
a window start (R268, R269). -/
def State.writePoTest (s : State) (n : Fin 4) (v : Nat) : State :=
  if s.sealed then s
  else
    let old := s.get (F.PLS_PO_TEST_TCONST.i n)
    let tc := if 1 ≤ bits v 0 24 ∧ bits v 0 24 ≤ 10000000 then bits v 0 24 else old
    (s.put (F.PLS_PO_TEST_TCONST.i n) tc).put (F.PLS_PO_TEST_TEN.i n) (bits v 24 1)

def execPoTestWrite (n : Fin 4) (v : Word) (s : State) : Host.Outcome State Fault Refusal := .next (s.writePoTest n v.toNat)

/-- PULSE_SNAPSHOT_REQUEST (R274). -/
def execPulseSnapshotRequest (s : State) : Host.Outcome State Fault Refusal :=
  .next { s with pulses := { s.pulses with snap := true } }

end Sys2Proof.Machine
end

