-- ==== Sys2Proof/Machine/Tenant.lean ====
section
/-!
DEFINITION. Machine/Tenant.lean: tenant slots, authorisations, allow lists and tariffs (chapter 15, sections 1 to 6).
-/

namespace Sys2Proof.Machine

/-! ### Slot blocks (Tables 15-1 and 15-9) -/

def State.setSlotWord (s : State) (t w v : Nat) : State :=
  { s with tenants := { s.tenants with words := storeWrite (fun _ => (0 : Word)) s.tenants.words (64 * t + w) (BitVec.ofNat 32 v) } }

/-- `n` words of a slot block as bytes. -/
def State.slotBytes (s : State) (t w n : Nat) : List Byte := (List.range n).flatMap fun k => toBytes 4 (s.slotWord t (w + k))

def State.slotEn (s : State) (t : Nat) : Bool := bit (s.slotWord t 0) 0
def State.slotMethods (s : State) (t : Nat) : Nat := bits (s.slotWord t 0) 1 6
def State.slotAlmask (s : State) (t : Nat) : Nat := bits (s.slotWord t 0) 8 6

/-- Is a session of slot `t` open (R560)? -/
def State.slotOpen (s : State) (t : Nat) : Bool := s.get F.SIG_STAT_SESS != 0 && s.get F.SIG_SESSST_TENANT == t

/-- SSTAT of slot `t`. -/
def State.slotStat (s : State) (t : Nat) : Nat :=
  b2n (bit s.tenants.alok t) + 2 * b2n (s.slotOpen t) + 4 * s.periodNow t

/-- A word of the slot block as TEN shows it. -/
def State.slotShown (s : State) (w : Nat) : Nat :=
  let t := s.get F.TEN_SLOTSEL_SLOT
  if w = 1 then s.slotStat t else s.slotWord t w

/-- PERIOD and PERVALID of TEN.STAT: of the slot of the open session, while it is enabled. -/
def State.tenPeriod (s : State) : Nat × Bool :=
  let t := s.get F.SIG_SESSST_TENANT
  if s.slotOpen t && s.slotEn t then (s.periodNow t, true) else (0, false)

/-- A table of `n` periods in order: START of period 0 is 0 and the STARTs rise (R571). -/
def State.tableInOrder (s : State) (t n : Nat) : Bool :=
  decide (1 ≤ n ∧ n ≤ 8) && s.slotWord t 0x28 == 0
    && (List.range (n - 1)).all fun j => decide (s.slotWord t (0x28 + 2 * j) < s.slotWord t (0x2A + 2 * j))

/-- Event 0x0B22: the identifier (1) or the key (2) of a slot has changed. -/
def State.slotChanged (s : State) (t what : Nat) : State := (s.irq Page.TEN 4).logE Page.TEN 0x0B22 (args [t, what])

/-- ALOK of slot `t` clears, with its cause (R563). -/
def State.spoilSlot (s : State) (t cause : Nat) : State := s.spoilList (0x2F400 + 0x800 * t) cause

/-- SCFG of slot `t` after a write of `v`: reserved encodings keep their field, and reserved bits read 0 (R16, R17). -/
def State.scfgOf (s : State) (t v : Nat) : Nat :=
  let al := if bit v 8 ∨ bit v 12 then s.slotAlmask t else bits v 8 6
  bits v 0 7 + 2 ^ 8 * al + 2 ^ 16 * bits v 16 10

/-- The effect of a write to word `w` of a slot that may be changed. -/
def State.putSlot (s : State) (t w v : Nat) : State :=
  if w = 0 then s.setSlotWord t 0 (s.scfgOf t v)
  else if w = 3 then (if s.tableInOrder t (v % 16) then s.setSlotWord t 3 (v % 16) else s)
  else if 4 ≤ w ∧ w < 8 then (s.setSlotWord t w v).when (s.slotWord t w != v) (·.slotChanged t 1)
  else if 8 ≤ w ∧ w < 14 then s.setSlotWord t w v
  else if 16 ≤ w ∧ w < 32 then (s.setSlotWord t w v).when (s.slotWord t w != v) (·.slotChanged t 2)
  else if 32 ≤ w ∧ w < 40 then (s.setSlotWord t w v).spoilSlot t 2
  else if 40 ≤ w ∧ w < 56 then
    if w % 2 = 0 then (if v % 2048 < 1440 then s.setSlotWord t w (v % 2048) else s) else s.setSlotWord t w v
  else s

/-- SLOT_WRITE (R560): EN and LASTSEQ take a write at any time, the other fields only while the slot is disabled and no session
of it is open. -/
def State.slotWrite (s : State) (w v : Nat) : State :=
  let t := s.get F.TEN_SLOTSEL_SLOT
  if w = 1 then s
  else if w = 2 then s.setSlotWord t 2 v
  else if !s.slotEn t && !s.slotOpen t then s.putSlot t w v
  else if w = 0 ∧ s.scfgOf t v / 2 = s.slotWord t 0 / 2 then s.setSlotWord t 0 (s.scfgOf t v)
  else s.logE Page.TEN 0x0B23 (args [t, 4 * w])

def execSlotWrite (word : BitVec 6) (v : Word) (s : State) : Host.Outcome State Fault Refusal := .next (s.slotWrite word.toNat v.toNat)

/-! ### The allow list (R562, R563) -/

/-- First line of the partition of slot `t`. -/
def partLine (t : Nat) : Nat := 0x2F400 + 0x800 * t

/-- A line as an unsigned byte string, byte 0 highest. -/
def beLine (n : Nat) : Nat := (toBytes 16 n).foldl (fun acc (b : Byte) => 256 * acc + b.toNat) 0

/-- The header of an allow list in order. -/
def headerOk (h : Nat) : Bool := h % 2 ^ 32 == 0x41585653 && bits h 32 8 == 1 && bits h 40 24 == 0 && decide (bits h 64 32 ≤ 1022) && bits h 96 32 == 0

/-- Read lines `i` to `i + n - 1` of a partition under R284: the first that fails its tag, and the state after. -/
def State.readLines (s : State) (i : Nat) : Nat → Option Nat × State
  | 0 => (none, s)
  | n + 1 =>
    let r := s.readLine i
    if r.1 = .bad then (some i, r.2) else r.2.readLines (i + 1) n

/-- The first entry of a list that does not rise above the one before it. -/
def State.firstFall (s : State) (t n : Nat) : Option Nat :=
  (List.range n).find? fun k => k ≠ 0 && decide (beLine (s.lineNat (partLine t + k + 1)) ≤ beLine (s.lineNat (partLine t + k)))

/-- The check of the list of slot `t`: none when it passes, else the line at which it fails; and the state after its reads. -/
def State.checkList (s : State) (t : Nat) : Option Nat × State :=
  let r0 := s.readLine (partLine t)
  if r0.1 = .bad ∨ !headerOk (s.lineNat (partLine t)) then (some 0, r0.2)
  else
    let n := s.listCount t
    let r := r0.2.readLines (partLine t + 1) n
    match r.1 with
    | some l => (some (l - partLine t), r.2)
    | none =>
      match s.firstFall t n with
      | some k => (some (k + 1), r.2)
      | none =>
        let d := sha256Bytes ((List.range (n + 1)).flatMap fun k => toBytes 16 (s.lineNat (partLine t + k)))
        (if d = s.slotBytes t 32 8 then none else some (n + 1), r.2)

/-- A line of the list that equals the leftmost 16 bytes of the digest, by halving the interval of lines `lo` to `hi - 1`:
found or not, or a tag failure. -/
def State.lookUp (s : State) (t key : Nat) (lo hi : Nat) : Nat → Option Bool × State
  | 0 => (some false, s)
  | f + 1 =>
    if hi ≤ lo then (some false, s)
    else
      let m := (lo + hi) / 2
      let r := s.readLine (partLine t + m)
      if r.1 = .bad then (none, r.2)
      else
        let e := beLine (s.lineNat (partLine t + m))
        if e = key then (some true, r.2)
        else if e < key then r.2.lookUp t key (m + 1) hi f
        else r.2.lookUp t key lo m f

/-! ### Authorisations (R564 to R569) -/

/-- TEN.STAT.BUSY. -/
def State.noteTen (s : State) : State :=
  (s.put F.TEN_STAT_BUSY (b2n (s.tenants.req.isSome || s.tenants.check.isSome))).put F.TEN_STAT_AUTOPEND (b2n s.tenants.auto_.isSome)

/-- LEN that Table 15-2 permits for a method. -/
def lenOk (method len : Nat) : Bool :=
  match method with
  | 0 => len == 0
  | 1 => [4, 7, 10].contains len
  | 2 => decide (2 ≤ len ∧ len ≤ 62) && len % 2 == 0
  | 3 => len == 12
  | 4 => len == 16
  | 5 => decide (1 ≤ len ∧ len ≤ 64)
  | _ => false

/-- The check of a token for slot `t` (R565): its RESULT. -/
def State.checkToken (s : State) (t : Nat) (k : List Byte) : Nat :=
  let flags := leAt k 5 1
  if leAt k 0 4 ≠ 0x54585653 ∨ leAt k 4 1 ≠ 1 ∨ flags ≥ 4 ∨ leAt k 76 4 ≠ 0 then 7
  else if (k.drop 8).take 16 ≠ s.slotBytes t 4 4 then 8
  else if !ecdsaVerify (s.slotBytes t 16 16) (k.take 80) ((k.drop 80).take 64) then 9
  else if !s.on F.RTC_STAT_VALID ∨ s.utc < leAt k 56 8 ∨ leAt k 64 8 < s.utc then 10
  else if bit flags 0 ∧ leAt k 40 16 ≠ Config.uid.toNat then 11
  else if bit flags 1 ∧ leAt k 72 4 ≤ s.slotWord t 2 then 12
  else 3
where
  leAt (m : List Byte) (i n : Nat) : Nat := ofBytes ((m.drop i).take n)

/-- The authorisation digest (R561). -/
def authDigest (q : AuthReq) : Nat :=
  let id := if q.method = 4 then (q.data.drop 24).take 16 else q.data.take q.len
  sha256 (BitVec.ofNat 8 q.method :: BitVec.ofNat 8 id.length :: id)

/-- The candidates of a request (R567). -/
def State.authCandidates (s : State) (q : AuthReq) : List Nat :=
  let all := if q.auto_ then (List.range 16).filter fun t => q.method != 4 || (q.data.drop 8).take 16 == s.slotBytes t 4 4 else [q.tenant]
  all.filter fun t => s.slotEn t && bit (s.slotMethods t) q.method

/-- The decision of one candidate: its RESULT, and the state after its reads. -/
def State.decideSlot (s : State) (q : AuthReq) (t : Nat) : Nat × State :=
  if q.method = 4 then (s.checkToken t q.data, s)
  else if bit (s.slotAlmask t) q.method then
    if !bit s.tenants.alok t then (6, s)
    else
      match s.lookUp t (beLine (authDigest q % 2 ^ 128)) 1 (s.listCount t + 1) 12 with
      | (none, s1) => (6, s1)
      | (some true, s1) => (1, s1)
      | (some false, s1) => (5, s1)
  else (2, s)

/-- The decision of a request: RESULT, the slot that decided or the lowest that refused, and the state after the reads. -/
def State.decideAuth (s : State) (q : AuthReq) : List Nat → Option (Nat × Nat) → (Nat × Option Nat) × State
  | [], none => ((4, none), s)
  | [], some (r, t) => ((r, some t), s)
  | t :: ts, first =>
    let d := s.decideSlot q t
    if 1 ≤ d.1 ∧ d.1 ≤ 3 then ((d.1, some t), d.2)
    else d.2.decideAuth q ts (first.or (some (d.1, t)))

/-- A request starts. -/
def State.startAuth (s : State) (q : AuthReq) : State := ({ s with tenants := { s.tenants with req := some q } } : State).noteTen

/-- An automatic request (R566): AUTO 1, SEQ 0xFF; it waits while BUSY, the newest one only (R568). -/
def State.autoAuth (s : State) (method : Nat) (id : List Byte) : State :=
  let q : AuthReq := ⟨method, true, 0, id.length, 0xFF, id⟩
  if s.on F.TEN_STAT_BUSY then ({ s with tenants := { s.tenants with auto_ := some q } } : State).noteTen else s.startAuth q

/-- AUTH_REQUEST (R566, R568): a write of TEN.AUTHREQ. -/
def State.authRequest (s : State) (v : Nat) : State :=
  if s.on F.TEN_STAT_BUSY then s
  else
    let m := bits v 0 3
    let s1 := s.setWord F.TEN_AUTHREQ_METHOD.addr (BitVec.ofNat 32 (v &&& 0x00FF7FFF))
    let data := if m = 4 then toBytes 144 (s.getWords F.TEN_TOKEN.addr 36) else toBytes 64 (s.getWords F.TEN_AUTHID.addr 16)
    s1.startAuth ⟨m, bit v 3, bits v 4 4, bits v 8 7, bits v 16 8, data⟩

def execAuthRequest (v : Word) (s : State) : Host.Outcome State Fault Refusal := .next (s.authRequest v.toNat)

/-- What waits for the end of an authorisation or of a check begins: a held check (R590), then an automatic request (R568). -/
def State.nextTen (s : State) : State :=
  match s.tenants.checkHeld, s.tenants.auto_ with
  | some t, _ => ({ s with tenants := { s.tenants with checkHeld := none, check := some t, checkHit := false } } : State).noteTen
  | none, some q => ({ s with tenants := { s.tenants with auto_ := none, req := some q } } : State).noteTen
  | none, none => s.noteTen

/-- What an acceptance leaves: the digest, and for a token its MAXCUR and TOKSEQ and the slot's LASTSEQ (R565, R569). -/
def State.acceptAuth (s : State) (q : AuthReq) (t : Nat) : State :=
  let s1 := s.putW F.TEN_AUTHDIG (authDigest q)
  if q.method = 4 then
    let w (i n : Nat) : Nat := ofBytes ((q.data.drop i).take n)
    let s2 := (s1.put F.TEN_AUTHTOK_MAXCUR (w 6 2)).put F.TEN_AUTHTSEQ (w 72 4)
    if bit (w 5 1) 1 then s2.setSlotWord t 2 (w 72 4) else s2
  else s1

/-- AUTH_COMPLETE (R567, R569). With no candidate AUTHRES.TENANT is not stated: a free value. -/
def State.authComplete (s : State) : State :=
  match s.tenants.req with
  | none => s
  | some q =>
    let d := if lenOk q.method q.len then s.decideAuth q (s.authCandidates q) none else ((13, none), s)
    let s0 : State := { d.2 with tenants := { d.2.tenants with req := none } }
    let done (t : Nat) (u : State) : State :=
      let u1 := ((((u.put F.TEN_AUTHRES_RESULT d.1.1).put F.TEN_AUTHRES_METHOD q.method).put F.TEN_AUTHRES_TENANT t).put F.TEN_AUTHRES_SEQ q.seq).put
        F.TEN_AUTHRES_DONE 1
      if 1 ≤ d.1.1 ∧ d.1.1 ≤ 3 then (((u1.acceptAuth q t).irq Page.TEN 0).logE Page.TEN 0x0B20 (args [q.method, t, d.1.1])).nextTen
      else ((u1.irq Page.TEN 0).logE Page.TEN 0x0B21 (args [q.method, d.1.1])).nextTen
    match d.1.2 with
    | some t => done t s0
    | none => s0.free fun v u => done (v % 16) u

def execAuthComplete (s : State) : Host.Outcome State Fault Refusal := .next s.authComplete

/-- CMD.ALCHECK (R563, R590): held while an authorisation or another check runs. -/
def State.allowListCheck (s : State) : State :=
  let t := s.get F.TEN_SLOTSEL_SLOT
  if s.on F.TEN_STAT_BUSY then { s with tenants := { s.tenants with checkHeld := some t } }
  else ({ s with tenants := { s.tenants with check := some t, checkHit := false } } : State).noteTen

/-- ALLOW_LIST_CHECK (R563). -/
def execAllowListCheck (s : State) : Host.Outcome State Fault Refusal := .next s.allowListCheck

/-- ALLOW_LIST_CHECK_DONE (R563, R590). -/
def State.listChecked (s : State) : State :=
  match s.tenants.check with
  | none => s
  | some t =>
    let r := s.checkList t
    let ok := r.1.isNone && !s.tenants.checkHit
    let s1 : State := { r.2 with tenants := { r.2.tenants with check := none, alok := setBits r.2.tenants.alok t 1 (b2n ok) } }
    let s2 := s1.irq Page.TEN 1
    (if ok then s2.logE Page.TEN 0x0B24 (args [t, s.listCount t]) else s2.logE Page.TEN 0x0B25 (args [t, r.1.getD 0])).nextTen

def execAllowListCheckDone (s : State) : Host.Outcome State Fault Refusal := .next s.listChecked

/-- PARTITION_WIPE (R594, Table 15-8): no effect while the slot is enabled or a session of it is open. -/
def State.wipePartition (s : State) : State :=
  let t := s.get F.TEN_SLOTSEL_SLOT
  if s.slotEn t || s.slotOpen t || s.tenants.wipe.isSome then s
  else ((({ s with tenants := { s.tenants with wipe := some (t, 0) } } : State).put F.TEN_STAT_WIPING 1).spoilSlot t 5).feedWipe 17 |>.noteQueues

def execPartitionWipe (s : State) : Host.Outcome State Fault Refusal := .next s.wipePartition

/-! ### Tariff boundaries (R574) -/

/-- The interim request of a boundary of slot `t` to period `j`. -/
def State.requestInterim (s : State) (t j : Nat) : State :=
  let s1 : State := { s with tenants := { s.tenants with boundary := none } }
  let s2 := ((s1.put F.SYS_SESS_REQ_TENANT t).put F.SYS_SESS_REQ_APPREASON 0).readingRequest (0xE0 + j)
  (s2.irq Page.TEN 3).logE Page.TEN 0x0B27 (args [t, j])

/-- A write of TEN.CTL: AUTOINT sees boundaries from the period in force at which it was set (R574). -/
def State.writeTenCtl (s : State) (v : Nat) : State :=
  let s1 := ((s.put F.TEN_CTL_AUTOHF (bits v 0 1)).put F.TEN_CTL_AUTOUHF (bits v 1 1)).put F.TEN_CTL_AUTOINT (bits v 2 1)
  s1.when (bit v 2 && !s.on F.TEN_CTL_AUTOINT && s.get F.SIG_STAT_SESS == 2) State.notePeriod

/-- TARIFF_BOUNDARY (R574, R593): a request where the period in force of the open session's slot has changed. -/
def State.tariffBoundary (s : State) : State :=
  let t := s.get F.SIG_SESSST_TENANT
  let slot := s.get F.SIG_SESSST_SLOT
  let j := s.periodNow t
  if s.on F.TEN_CTL_AUTOINT && s.get F.SIG_STAT_SESS == 2 && s.tenants.period != some (slot, j) then
    let s1 : State := { s with tenants := { s.tenants with period := some (slot, j) } }
    if s.get F.SYS_SESS_REQ_OP = 0 then s1.requestInterim t j
    else { s1 with tenants := { s1.tenants with boundary := some (t, j) } }
  else s.when (s.get F.SIG_STAT_SESS == 2) State.notePeriod

def execTariffBoundary (s : State) : Host.Outcome State Fault Refusal := .next s.tariffBoundary

/-- TARIFF_REQUEST_DEFERRED (R574): OP reads 0 again. -/
def execTariffRequestDeferred (s : State) : Host.Outcome State Fault Refusal :=
  .next (match s.tenants.boundary with
    | some (t, j) =>
      if s.get F.SYS_SESS_REQ_OP = 0 then
        (if s.get F.SIG_STAT_SESS = 2 then s.requestInterim t j else { s with tenants := { s.tenants with boundary := none } })
      else s
    | none => s)

/-- A reset of the application domain, Standby entry or Winter mode (R558, R563, R588): every field of TEN is at its reset
value. -/
def State.resetTen (s : State) : State :=
  let s1 := (List.range 16).foldl (fun (t : State) k => t.spoilSlot k 4) s
  { (s1.resetRange (Page.TEN + 8) (Page.TEN + 0x1000)) with tenants := {} }

end Sys2Proof.Machine
end

