-- ==== Sys2Proof/Machine/Reader.lean ====
section
/-!
DEFINITION. Machine/Reader.lean: the contactless reader (chapter 15, sections 7 to 9).
-/

namespace Sys2Proof.Machine

/-! ### HF -/

def State.hfState (s : State) : Nat := s.get F.RDR_STAT_HFSTATE

/-- Enter an HF state; in OFF, WAIT and FAULT no card is held and its state is IDLE. -/
def State.toHf (s : State) (st : Nat) : State :=
  let s1 := s.put F.RDR_STAT_HFSTATE st
  if st = 0 ∨ st = 1 ∨ st = 6 then (s1.put F.RDR_STAT_CARDPRES 0).put F.RDR_STAT_CARD 0 else s1

/-- The result of tuning the antenna (R576). -/
def State.tuneHf (s : State) (tuned : Bool) (code : Nat) : State :=
  let s1 : State := { s with reader := { s.reader with tunedAt := s.angle.now } }
  if tuned then (s1.put F.RDR_STAT_TUNEOK 1).toHf 1
  else (((s1.put F.RDR_STAT_TUNEOK 0).toHf 6).irq Page.RDR 3).logE Page.RDR 0x0B06 code

/-- HF_ENABLE (R576): a write of HFEN = 1; it is the only way out of FAULT. -/
def execHfEnable (tuned : Bool) (code : Byte) (s : State) : Host.Outcome State Fault Refusal :=
  let s1 := s.put F.RDR_CTL_HFEN 1
  .next (if s.hfState = 0 ∨ s.hfState = 6 then s1.tuneHf tuned code.toNat else s1)

/-- An exchange in progress ends with `xres`. -/
def State.endExchange (s : State) (xres : Nat) : State :=
  if s.get F.RDR_HFCMD_OP = 1 then ((s.put F.RDR_HFXST_XRES xres).put F.RDR_HFCMD_OP 0).irq Page.RDR 2 else s

/-- HFEN is cleared (R592): the field is off; only a new write of HFEN = 1 leaves FAULT (R576). -/
def State.hfOff (s : State) : State :=
  let s1 := s.put F.RDR_CTL_HFEN 0
  if s.hfState = 6 then s1 else ((s1.endExchange 4).put F.RDR_STAT_TUNEOK 0).toHf 0

/-- HF_DISABLE (R592). -/
def execHfDisable (s : State) : Host.Outcome State Fault Refusal := .next s.hfOff

/-- ANTENNA_RETUNE (R576): every 60 s in WAIT. -/
def execAntennaRetune (tuned : Bool) (code : Byte) (s : State) : Host.Outcome State Fault Refusal :=
  .next (if s.hfState = 1 ∧ s.reader.tunedAt + 60000 * tickMs ≤ s.angle.now then s.tuneHf tuned code.toNat else s)

/-- REQA_POLL (R577, R578): in WAIT, 100 ms after the last one, a REQA is sent; an answer begins the selection. -/
def State.pollReqa (s : State) (answer : Bool) : State :=
  if s.hfState = 1 ∧ (s.reader.reqaAt.all fun t => decide (t + 100 * tickMs ≤ s.angle.now)) then
    let s1 : State := { s with reader := { s.reader with reqaAt := some s.angle.now } }
    if answer then (s1.toHf 2).put F.RDR_STAT_CARD 1 else s1
  else s

def execReqaPoll (answer : Bool) (s : State) : Host.Outcome State Fault Refusal := .next (s.pollReqa answer)

/-- The bytes of a list in consecutive words from `a`, `n` words. -/
def State.putBytesReg (s : State) (a n : Nat) (l : List Byte) : State := s.putWords a n (ofBytes (l.take (4 * n)))

/-- A card has been selected (R578, step 5). -/
def State.cardActive (s : State) (collision : Bool) (atqa sak : Nat) (uid ats : List Byte) (rate : Nat) : State :=
  let dep := bit sak 5 && s.on F.RDR_HFCFG_AUTORATS
  let r := if dep then min rate (s.get F.RDR_HFCFG_MAXRATE) else 0
  let s1 := (((s.put F.RDR_HFCARD_ATQA atqa).put F.RDR_HFCARD_SAK sak).put F.RDR_HFCARD_UIDLEN uid.length).put F.RDR_HFCARD_RATE r
  let s2 := ((s1.put F.RDR_HFCARD_ISODEP (b2n dep)).put F.RDR_HFCARD_MULTI (b2n collision)).putBytesReg F.RDR_HFUID.addr 4 uid
  let s3 := ((s2.putBytesReg F.RDR_HFATS.addr 8 (if dep then ats else [])).toHf (if dep then 4 else 3)).put F.RDR_STAT_CARD 2
  let s4 := ((s3.put F.RDR_STAT_CARDPRES 1).incSat F.RDR_HFCNT_CARDS).irq Page.RDR 0
  let s5 := ({ s4 with reader := { s4.reader with cmdAt := s.angle.now } } : State).logE Page.RDR 0x0B01 (args [uid.length, sak])
  if s.on F.TEN_CTL_AUTOHF then s5.autoAuth 1 uid else s5

/-- CARD_ACTIVATION (R578, R579): what the selection finds. -/
def State.activateCard (s : State) (answered collision : Bool) (atqa sak : Nat) (uid ats : List Byte) (rate : Nat) : State :=
  if s.hfState ≠ 2 then s
  else if !answered then s.toHf 1
  else
    let s1 := s.when collision (·.incSat F.RDR_HFCNT_COLLS)
    if collision && s.on F.RDR_HFCFG_ONECARD then
      (((s1.toHf 1).put F.RDR_HFCARD_MULTI 1).irq Page.RDR 6).logE Page.RDR 0x0B03 0
    else s1.cardActive collision atqa sak uid ats rate

def execCardActivation (answered collision : Bool) (atqa : BitVec 16) (sak : Byte) (uid ats : List Byte) (rate : BitVec 2) (s : State) :
    Host.Outcome State Fault Refusal := .next (s.activateCard answered collision atqa.toNat sak.toNat uid ats rate.toNat)

/-- HFCMD is written: the time of R583 begins anew. -/
def State.noteHfcmd (s : State) : State := { s with reader := { s.reader with cmdAt := s.angle.now } }

/-- TXLEN of a write of HFCMD while OP reads 0. A reserved value keeps the old one (R17). -/
def State.putTxlen (s : State) (txlen : Nat) : State := if 1 ≤ txlen ∧ txlen ≤ 1024 then s.put F.RDR_HFCMD_TXLEN txlen else s

/-- HFCMD with OP = 1 (R581). -/
def State.exchangeCard (s : State) (txlen : Nat) : State :=
  if s.get F.RDR_HFCMD_OP ≠ 0 then s.noteHfcmd
  else
    let s1 := (s.noteHfcmd.putTxlen txlen).put F.RDR_HFCMD_OP 1
    if s.hfState = 4 then s1 else s1.endExchange 6

/-- CARD_EXCHANGE (R581). -/
def execCardExchange (txlen : BitVec 11) (s : State) : Host.Outcome State Fault Refusal := .next (s.exchangeCard txlen.toNat)

/-- EXCHANGE_DONE (R581): `xres` 1 done, 2 timeout, 3 protocol error, 5 too long an answer; `block` is the block type of a
protocol error. -/
def State.exchangeDone (s : State) (xres : Nat) (answer : List Byte) (block : Nat) : State :=
  if s.get F.RDR_HFCMD_OP ≠ 1 ∨ s.hfState ≠ 4 then s
  else
    let x := if xres = 1 ∧ answer.length > 1024 then 5 else xres
    match x with
    | 1 => ((s.putBytesReg F.RDR_HFRXBUF.addr 256 answer).put F.RDR_HFXST_RXLEN answer.length).endExchange 1
    | 2 => s.endExchange 2
    | 3 => ((((s.endExchange 3).toHf 1).incSat F.RDR_HFCNT_ERRS).irq Page.RDR 3).logE Page.RDR 0x0B04 block
    | 5 => s.endExchange 5
    | _ => s

def execExchangeDone (xres : BitVec 3) (answer : List Byte) (block : Byte) (s : State) : Host.Outcome State Fault Refusal :=
  .next (s.exchangeDone xres.toNat answer block.toNat)

/-- The card is released (R580, R582): HALTWATCH with the card in HALT. -/
def State.releaseCard (s : State) : State :=
  if s.hfState = 3 ∨ s.hfState = 4 then
    let s1 := ((((s.put F.RDR_HFCMD_OP 0).toHf 5).put F.RDR_STAT_CARD 3).put F.RDR_STAT_CARDPRES 0).irq Page.RDR 2
    { s1 with reader := { s1.reader with silent := 0, probeAt := s.angle.now } }
  else s

/-- HFCMD with OP = 2, while OP reads 0 (R582). -/
def State.commandRelease (s : State) : State := if s.get F.RDR_HFCMD_OP = 0 then s.noteHfcmd.releaseCard else s.noteHfcmd

/-- CARD_RELEASE (R582). -/
def execCardRelease (s : State) : Host.Outcome State Fault Refusal := .next s.commandRelease

/-- A write of HFCMD (R17, R581, R582): while OP reads 0, TXLEN takes its value with every OP, and a reserved OP starts nothing. -/
def State.writeHfcmd (s : State) (v : Nat) : State :=
  if bits v 0 2 = 1 then s.exchangeCard (bits v 16 11)
  else if s.get F.RDR_HFCMD_OP ≠ 0 then s.noteHfcmd
  else
    let s1 := s.noteHfcmd.putTxlen (bits v 16 11)
    if bits v 0 2 = 2 then s1.releaseCard else s1

/-- The card is gone: WAIT, the interrupt, the count and event 0x0B02. -/
def State.cardGone (s : State) : State := (((s.toHf 1).irq Page.RDR 1).incSat F.RDR_HFCNT_GONE).logE Page.RDR 0x0B02 0

/-- HALTWATCH_PROBE (R582): every 500 ms. -/
def State.probeCard (s : State) (answer : Bool) : State :=
  if s.hfState ≠ 5 ∨ s.angle.now < s.reader.probeAt + 500 * tickMs then s
  else if answer then { s with reader := { s.reader with silent := 0, probeAt := s.angle.now } }
  else
    let s1 : State := { s with reader := { s.reader with silent := s.reader.silent + 1, probeAt := s.angle.now } }
    if s.reader.silent ≥ 1 then s1.cardGone else s1

def execHaltwatchProbe (answer : Bool) (s : State) : Host.Outcome State Fault Refusal := .next (s.probeCard answer)

/-- ACTIVE_TIMEOUT (R583): ACTTO seconds without a write of HFCMD. -/
def execActiveTimeout (s : State) : Host.Outcome State Fault Refusal :=
  .next (if (s.hfState = 3 ∨ s.hfState = 4) ∧ s.reader.cmdAt + s.get F.RDR_HFCFG_ACTTO * 1000 * tickMs ≤ s.angle.now then (s.releaseCard.irq Page.RDR 3).logE Page.RDR 0x0B05 0 else s)

/-- CARD_LEFT_FIELD (R583): an exchange in progress ends with XRES 4. -/
def execCardLeftField (s : State) : Host.Outcome State Fault Refusal :=
  .next (if s.hfState = 3 ∨ s.hfState = 4 then (s.endExchange 4).cardGone else s)

/-! ### UHF -/

def State.uhfState (s : State) : Nat := s.get F.RDR_STAT_UHFSTATE

/-- Ticks of the HOLD time. -/
def State.holdTicks (s : State) : Nat := s.get F.RDR_UHFCFG_HOLD * 16384000

/-- The 96 bytes of a tag record (Table 15-7). -/
def State.tagRecord (s : State) (channel : Nat) (t : UhfTag) : List Byte :=
  let tid := match t.tid with
    | some l => if s.on F.RDR_UHFCFG_TIDREAD then some l else none
    | none => none
  toBytes 2 t.pc.toNat ++ [BitVec.ofNat 8 (2 * bits t.pc.toNat 3 5), BitVec.ofNat 8 (b2n tid.isSome + 2 * s.get F.RDR_UHFSEL_SELEN), t.rssi,
    BitVec.ofNat 8 channel] ++ toBytes 2 1 ++ toBytes 8 s.cycles ++ toBytes 12 (ofBytes ((tid.getD []).take 12))
    ++ toBytes 62 (ofBytes (t.epc.take 62)) ++ toBytes 6 0

/-- The EPC of queued record `r`. -/
def State.tagEpc (s : State) (r : Nat) : List Byte :=
  let l := toBytes 96 (s.getWords (F.RDR_TAG.i r).addr 24)
  (l.drop 28).take (l.getD 2 0).toNat

/-- Raise the read count of the newest queued record with this EPC, if there is one. -/
def State.countRead (s : State) (epc : List Byte) : State :=
  let h := s.get F.RDR_UHFQ_HEAD
  match (List.range (s.get F.RDR_UHFQ_N)).reverse.find? fun k => s.tagEpc ((h + k) % 8) == epc with
  | some k =>
    let f : Field := { F.RDR_TAG.ij ((h + k) % 8) 1 with lo := 16, width := 16 }
    s.incSat f
  | none => s

/-- Note the read of a tag that is among the last 32 reported: it keeps its place. -/
def State.reread (s : State) (epc : List Byte) : State :=
  { s with reader := { s.reader with tags := s.reader.tags.map fun e => if e.1 = epc then (epc, s.angle.now) else e } }

/-- Note a tag that is reported, the newest of the last 32. -/
def State.noteTag (s : State) (epc : List Byte) : State :=
  { s with reader := { s.reader with tags := ((epc, s.angle.now) :: s.reader.tags.filter fun e => e.1 != epc).take 32 } }

/-- One tag read in a round (R586): answers whether its record was dropped. -/
def State.readTag (s : State) (channel : Nat) (t : UhfTag) : Bool × State :=
  let s0 := s.incSat F.RDR_UHFCNT_TAGS
  let s1 := s0.when (s.on F.RDR_UHFCFG_TIDREAD && t.tid.isNone) (·.incSat F.RDR_UHFCNT_TIDFAIL)
  let known := s.reader.tags.any fun e => e.1 == t.epc && decide (s.angle.now - e.2 < s.holdTicks)
  if known then (false, (s1.countRead t.epc).reread t.epc)
  else
    let n := s.get F.RDR_UHFQ_N
    if n ≥ 8 then (true, s1.incSat F.RDR_UHFQ_DROP)
    else
      let r := (s.get F.RDR_UHFQ_HEAD + n) % 8
      let s2 := (((s1.putWords (F.RDR_TAG.i r).addr 24 (ofBytes (s1.tagRecord channel t))).put F.RDR_UHFQ_N (n + 1)).irq Page.RDR 4).noteTag t.epc
      (false, if s.on F.TEN_CTL_AUTOUHF then s2.autoAuth 2 t.epc else s2)

/-- The channel of a round (Table 15-6): in REGION 0 the four in turn; in REGION 1 the pseudo-random `choice`, each channel once in 50
rounds, so that a choice used up gives way to the first channel that is left. -/
def State.roundChannel (s : State) (choice : Nat) : Nat :=
  if !s.on F.RDR_UHFCFG_REGION then s.reader.turn
  else if choice < 50 ∧ !s.reader.hopped.contains choice then choice
  else ((List.range 50).find? fun c => !s.reader.hopped.contains c).getD 0

/-- A round begins on channel `c`. -/
def State.beginRound (s : State) (c : Nat) : State :=
  if s.on F.RDR_UHFCFG_REGION then
    let h := if s.reader.hopped.length ≥ 49 then [] else c :: s.reader.hopped
    { s with reader := { s.reader with roundAt := some s.angle.now, hopped := h } }
  else { s with reader := { s.reader with roundAt := some s.angle.now, turn := (s.reader.turn + 1) % 4 } }

/-- Is a round due, UHFPER after the last one (R585)? -/
def State.roundDue (s : State) : Bool :=
  s.uhfState == 1 && s.reader.roundAt.all fun t => decide (t + s.get F.RDR_UHFPER_MS * tickMs ≤ s.angle.now)

/-- INVENTORY_ROUND (R585, R586). -/
def State.inventory (s : State) (choice : Nat) (tags : List UhfTag) (crcErrors : Nat) : State :=
  if !s.roundDue then s
  else
    let channel := s.roundChannel choice
    let s1 := ((s.beginRound channel).incSat F.RDR_UHFCNT_ROUNDS).addSat F.RDR_UHFCNT_CRC crcErrors
    let r := tags.foldl (fun (a : Nat × State) t => let b := a.2.readTag channel t; (a.1 + b2n b.1, b.2)) (0, s1)
    if r.1 = 0 then r.2 else (r.2.irq Page.RDR 5).logE Page.RDR 0x0B11 r.1

def execInventoryRound (channel : Byte) (tags : List UhfTag) (crcErrors : Byte) (s : State) : Host.Outcome State Fault Refusal :=
  .next (s.inventory channel.toNat tags crcErrors.toNat)

/-- A write of UHFEN (R585): 1 starts the front end, and alone leaves FAULT; 0 stops it. -/
def State.enableUhf (s : State) (en : Bool) : State :=
  let s1 := s.put F.RDR_CTL_UHFEN (b2n en)
  if en then
    if s.uhfState = 0 ∨ s.uhfState = 3 then ({ s1 with reader := { s1.reader with roundAt := none } } : State).put F.RDR_STAT_UHFSTATE 1 else s1
  else if s.uhfState = 3 then s1
  else s1.put F.RDR_STAT_UHFSTATE 0

/-- UHF_REFLECTION_FAULT (R585). -/
def execUhfReflectionFault (power : BitVec 16) (s : State) : Host.Outcome State Fault Refusal :=
  .next (if s.uhfState = 1 ∨ s.uhfState = 2 then ((s.put F.RDR_STAT_UHFSTATE 3).irq Page.RDR 5).logE Page.RDR 0x0B10 power.toNat else s)

/-- Release the oldest tag record (R586). -/
def State.popTag (s : State) : State :=
  let n := s.get F.RDR_UHFQ_N
  if n = 0 then s else (s.put F.RDR_UHFQ_N (n - 1)).put F.RDR_UHFQ_HEAD (s.get F.RDR_UHFQ_HEAD + 1)

/-- UHF_POP (R586). -/
def execUhfPop (s : State) : Host.Outcome State Fault Refusal := .next s.popTag

/-- Both fields go off and every field of RDR takes its reset value (R588). -/
def State.resetReader (s : State) : State := { (s.resetRange (Page.RDR + 8) (Page.RDR + 0x1000)) with reader := {} }

/-- Both fields go off at t₀ of the power-fail sequence (R588). -/
def State.readerFieldsOff (s : State) : State := s.hfOff.enableUhf false

end Sys2Proof.Machine
end

