-- ==== Sys2Proof/Machine/SafetyBlock.lean ====
section
/-!
DEFINITION. Machine/SafetyBlock.lean: the checks that S2 makes on the safety parameter block (R377, R421) and the load of
the block into the island (R379, R403, R404, R436).
-/

namespace Sys2Proof.Machine

/-- Word `w` of a block. -/
def bw (l : List Word) (w : Nat) : Nat := (l.getD w 0).toNat

/-- Is channel `n` used in the block? -/
def blkUsed (l : List Word) (n : Nat) : Bool := bit (bw l (20 + 2 * n)) 0

/-- Does a mask name only used channels? -/
def onlyUsed (l : List Word) (m : Nat) : Bool := (List.range 8).all fun n => !bit m n || blkUsed l n

/-- A value lies in a range. -/
def within (lo hi v : Nat) : Bool := decide (lo ≤ v ∧ v ≤ hi)

/-- The CRC word of the section from word `w0`. -/
def sectionCrc (l : List Word) (w0 : Nat) : Nat := crc32 ((List.range 63).flatMap fun k => toBytes 4 (bw l (w0 + k)))

/-- A pair word (Table 10-1, R377). -/
def pairWordOk (l : List Word) (v : Nat) : Bool :=
  let ty := bits v 0 2
  let cm := bits v 8 8
  if ty = 0 then v == 0
  else ty != 3 && bits v 4 2 != 3 && bits v 6 2 != 3 && !bit v 3 && bits v 25 7 == 0 && within 5 500 (bits v 16 9)
    && (if ty = 1 then cm != 0 && onlyUsed l cm else cm == 0 && !bit v 2)

/-- A deadline: 0, or 10 to 500 ms. -/
def deadlineOk (v : Nat) : Bool := v == 0 || within 10 500 v

/-- The first word of a channel. -/
def chanWordOk (l : List Word) (v : Nat) : Bool :=
  if bit v 0 then bits v 3 2 != 3 && deadlineOk (bits v 5 9) && deadlineOk (bits v 14 9) && onlyUsed l (bits v 23 8) && !bit v 31
  else v == 0

/-- The second word of a channel; `types` are the head types of the ports. -/
def weldWordOk (types : List Nat) (used : Bool) (v : Nat) : Bool :=
  if used then
    bits v 9 7 == 0 && !bit v 31 &&
      (bits v 0 8 == 0 ||
        (within 10 250 (bits v 16 8) && within 1 100 (bits v 24 7) && (List.range 8).all fun q =>
          !bit v q || (if bit v 8 then [2, 3].contains (types.getD q 0) else types.getD q 0 == 1)))
  else v == 0

/-- Is word `w` of the safety section in order? -/
def safetyWordOk (l : List Word) (types : List Nat) (w : Nat) : Bool :=
  let v := bw l w
  if w = 0 then v == 0x53585653
  else if w = 1 then bits v 0 16 == 1
  else if w = 2 then within 10 1000 (bits v 0 10) && bits v 10 6 == 0 && within 20 100 (bits v 16 7) && bits v 23 9 == 0
  else if w = 3 then v / 2 == 0
  else if w < 20 then pairWordOk l v
  else if w < 36 then
    if w % 2 = 0 then chanWordOk l v && (w != 20 || (List.range 8).any fun n => bit (bw l (20 + 2 * n)) 1)
    else weldWordOk types (blkUsed l ((w - 21) / 2)) v
  else if w < 63 then v == 0
  else v == sectionCrc l 0

/-- Is word `w` of the earth-fault section in order (R421)? -/
def earthWordOk (l : List Word) (types : List Nat) (w : Nat) : Bool :=
  let v := bw l (64 + w)
  let rc := bit (bw l 66) 3
  let acw := bits (bw l 66) 16 8
  let act := bits (bw l 66) 24 8
  let ins := bit (bw l 68) 0
  if w = 0 then v == 0x45585653
  else if w = 1 then bits v 0 16 == 1
  else if w = 2 then
    if rc then types.getD (bits v 0 3) 0 == 4 && within 6 12 (bits v 4 4) && bits v 9 7 == 0 && (acw == 0 || within 10 200 acw)
      && (act == 0 || within 10 250 act) && (act == 0 || acw == 0 || decide (act > acw))
    else v == 0
  else if w = 3 then
    if rc then (if act = 0 then bits v 0 13 == 0 else within 40 5000 (bits v 0 13)) && bits v 13 3 == 0 && bits v 24 8 == 0
      && bits v 16 8 != 0 && onlyUsed l (bits v 16 8)
    else v == 0
  else if w = 4 then
    if ins then [2, 3].contains (types.getD (bits v 1 3) 0) && within 100 1250 (bits v 4 12) && bits v 24 8 == 0
      && bits v 16 8 != 0 && onlyUsed l (bits v 16 8)
    else v == 0
  else if w = 5 then
    if ins then within 500 10000 (bits v 0 14) && bits v 14 2 == 0 && within 1 24 (bits v 16 6) && bits v 22 10 == 0 else v == 0
  else if w < 63 then v == 0
  else v == sectionCrc l 64

/-- The index of the first failing word of a block, if any. -/
def blockFailure (l : List Word) (types : List Nat) : Option Nat :=
  (List.range 128).find? fun w => if w < 64 then !safetyWordOk l types w else !earthWordOk l types (w - 64)

/-- The configured head types. -/
def State.headTypes (s : State) : List Nat := (List.range 8).map fun p => s.get (F.HEAD_CFG_TYPE.i p)

/-- A stop pair is treated as demanding from S2 on (R404), which is no event. -/
def State.assumeDemand (s : State) (p : Fin 16) : State :=
  if s.pairType p = 1 then ((s.setSp p { s.sp p with assumed := true }).putPair p 2 true).evalPair false p
  else s.evalPair false p

/-- The island passes to OPERATE (R403, R404). -/
def State.operateIsland (s : State) : State :=
  ((List.finRange 16).foldl State.assumeDemand
    (((s.put F.SAF_STAT_STATE 1).put F.SAF_STAT_HOLDSRC 0).irq Page.SAF 6)).settle

/-- The old block's demands, class 1 latches, manual restarts and earth-fault latches go (R379, R436); the fault cell
stays (R399). -/
def State.clearIsland (s : State) : State :=
  let s1 := (List.finRange 16).foldl (fun (t : State) (p : Fin 16) =>
    ((t.setSp p {}).put { pairField p 2 with width := 6 } 0).put (pairFltField p) 0) s
  let s2 := (List.finRange 8).foldl (fun (t : State) (n : Fin 8) =>
    (t.setSc n { causes := (t.sc n).causes, fb := (t.sc n).fb, quiet := (t.sc n).quiet, seen1 := (t.sc n).fb }).put
      { chField n 5 with width := 2 } 0) s1
  let s3 := ((s2.setWord F.EFM_RCLATCH_TIER.addr 0).setWord F.EFM_STAT_RCON.addr 0).setWord F.EFM_INSCYC_NORMAL.addr 0
  s3.setEarth {}

/-- The words of a block go to SAF.PAR, EFM.PAR and PDIGEST. -/
def State.putBlock (s : State) (l : List Word) (digest : Nat) : State :=
  let s1 := (List.range 64).foldl (fun (t : State) (w : Nat) => t.setWord (F.SAF_PAR.addr + 4 * w) (l.getD w 0)) s
  let s2 := (List.range 64).foldl (fun (t : State) (w : Nat) => t.setWord (F.EFM_PAR.addr + 4 * w) (l.getD (64 + w) 0)) s1
  s2.putWords F.SAF_PDIGEST.addr 8 digest

/-- S2 loads a block that has passed its checks (R379): an equal block keeps the island's state; a new one clears it, with the
bleeder opened (R437). LOCKOUT is left by loss of supply only. -/
def State.loadIsland (s : State) (l : List Word) (digest : Nat) : State :=
  let st := s.get F.SAF_STAT_STATE
  if st = 3 then s
  else if st ≠ 0 ∧ s.getWords F.SAF_PDIGEST.addr 8 = digest then (if st = 2 then s.operateIsland else s)
  else
    let s1 := ((s.stopInsulation.put F.SAF_STAT_STATE 0).clearIsland.putBlock l digest)
    let s2 := (s1.put F.SAF_STAT_TP0OK 1).put F.SAF_STAT_TP1OK 1
    let s3 := s2.put F.EFM_STAT_RCON (b2n s2.rcOn)
    let s4 := (List.finRange 8).foldl (fun (t : State) (n : Fin 8) => t.put (chFltField n) ((t.sc n).causes.headD 0)) s3
    let s5 := (s4.logE Page.SAF 0x0630 (s4.par 1 / 65536)).logE Page.EFM 0x0720 (s4.efPar 1 / 65536)
    let held := (List.finRange 8).any fun (n : Fin 8) => !(s5.sc n).causes.isEmpty
    let s6 := s5.when (held && !s.safety.island.restored) (·.logE Page.SAF 0x0637 (s5.get F.SAF_CHFLT))
    let is : Island := { s6.safety.island with restored := true, srcBad := Vector.replicate 2 0, srcGood := Vector.replicate 2 0,
                                               srcFault := Vector.replicate 2 false, crcBad := false }
    ({ s6 with safety := { s6.safety with island := is } } : State).operateIsland

/-- A block that fails at S2 leaves an island without parameters: UNLOADED, every permission withheld (R123, R145). -/
def State.unloadIsland (s : State) : State :=
  if s.get F.SAF_STAT_STATE = 3 then s
  else
    let s1 := (s.stopInsulation.clearIsland.putBlock [] 0).put F.SAF_STAT_STATE 0
    (s1.when (s.get F.SAF_STAT_STATE != 0) (·.irq Page.SAF 6)).settle

/-- The supply is gone: the island keeps only its fault cell (R399), the switch block its cycle cells (R447). -/
def State.dropIsland (s : State) : State :=
  let chans := (Vector.ofFn fun (n : Fin 8) => ({ causes := (s.sc n).causes } : SafeChan))
  let sw := (Vector.ofFn fun (n : Fin 24) => ({ cell := (s.sw n).cell } : SwChan))
  { s with safety := { sw := sw, island := { chans := chans } } }

end Sys2Proof.Machine
end

