-- ==== Sys2Proof/Machine/Seal.lean ====
section
/-!
DEFINITION. Machine/Seal.lean: the seal switch, the seal states and the sealing sequence (chapter 3, section 5; chapter 1,
R35, R36, R45).
-/

namespace Sys2Proof.Machine

/-- The sealing sequence ends: ARMED and PUSHED clear. -/
def State.disarmSeal (s : State) : State :=
  let s1 := (s.put F.SEAL_STAT_ARMED 0).put F.SEAL_STAT_PUSHED 0
  { s1 with sealSt := { s1.sealSt with recorded := false, freshPress := false } }

/-- OP = ARM (R103, R110, R305, R770): accepted in FACTORY and UNSEALED while ARMED is 0. -/
def State.armSeal (s : State) : State :=
  if s.sealed ∨ s.on F.SEAL_STAT_ARMED ∨ s.on F.SEAL_STAT_LECSAT ∨ s.on F.LDG_STAT_CLOGFULL ∨ s.boot.productionTest then s
  else
    let s1 := s.put F.SEAL_STAT_ARMED 1
    { s1 with sealSt := { s1.sealSt with freshPress := false, recorded := false } }

/-- SEAL_ARM (R103). -/
def execSealArm (s : State) : Host.Outcome State Fault Refusal := .next s.armSeal

/-- R779: a pattern that still runs on a head page is ended by the legal image; its PAT.CTL is an RWS register. -/
def State.endHeadPatterns (s : State) : State :=
  (List.range 8).foldl (fun (t : State) p =>
    let page := Page.HEAD p
    let f := F.PAT_CTL_GEN.on page
    if t.on f then (t.putRws f.addr ((t.word f.addr).toNat - 2 ^ f.lo)).stopGen page else t) s

/-- HEAD_BINDING_RECORD (R36): the configured type and the reported serial number; a port with no head is bound as empty. -/
def State.bindHeads (s : State) : State :=
  (List.finRange 8).foldl (fun (t : State) (p : Fin 8) =>
    let here := t.on (F.HEAD_STAT_PRESENT.i p)
    (t.put (F.HEAD_BIND_TYPE.i p) (if here then t.get (F.HEAD_CFG_TYPE.i p) else 0)).putW (F.HEAD_BINDSER_NUM.i p)
      (if here then t.getW (F.HEAD_SERIAL_NUM.i p) else 0)) s

/-- The bytes of SEAL.DIGEST (R106): the RWS words in ascending address order, then the eight binding entries of 16 bytes. -/
def State.sealBytes (s : State) : List Byte :=
  s.rwsValues.flatMap (toBytes 4) ++ (List.range 8).flatMap fun p => toBytes 16 (s.bindEntry p)

/-- The seal block of the ledger is written for state `st`, while SEAL.STAT still shows the state before it. -/
def State.writeSealBlock (s : State) (st trans : Nat) : State :=
  let s1 := (s.put F.SEAL_STAT_STATE st)
  let s2 := ({ s1 with sealSt := { s1.sealSt with trans := trans } } : State).commitSealBlock
  let s3 := s2.put F.SEAL_STAT_STATE (s.get F.SEAL_STAT_STATE)
  { s3 with sealSt := { s3.sealSt with trans := s.sealSt.trans } }

/-- SEALING_RECORD_COMMIT (R103, step 3): patterns end, the bindings and the digest are taken, and the record, the increment
and a configuration copy (R300) are committed. The record counts for COMMIT once the commit engine has committed it: none waits in the
counted queue or in its source, as one does when the counted log is full. -/
def State.commitSealing (s : State) : State :=
  let s1 := s.endHeadPatterns.bindHeads
  let s2 := s1.putW F.SEAL_DIGEST (sha256 s1.sealBytes)
  let s3 := (s2.putW F.SEAL_LASTSEAL_UTC s2.utc).putW F.SEAL_LASTSEAL_CYCLES s2.cycles
  let s4 := (s3.logE Page.SEAL (if s3.get F.SEAL_STAT_STATE = 0 then 0x0201 else 0x0202) 0)
  let s5 := (s4.commitEvents s4.pendingRecords).commitConfig
  let s6 := s5.writeSealBlock 1 (min (s5.sealSt.trans + 1) 0xFFFF)
  { s6 with sealSt := { s6.sealSt with recorded := s6.log.counted.isEmpty && s6.log.waiting.isEmpty } }

/-- The push contact has been held for 2 s since a press after ARM (R103, step 2); `recorded`: the legal domain commits the
sealing record within its second. The press is spent: holding longer has no further effect (R114). -/
def State.qualifyPush (s : State) (recorded : Bool) : State :=
  if s.on F.SEAL_STAT_ARMED ∧ !s.on F.SEAL_STAT_PUSHED ∧ s.on F.SEAL_STAT_PUSH ∧ s.sealSt.freshPress then
    let s0 := (s.put F.SEAL_STAT_PUSHED 1).irq Page.SEAL 2
    let s1 : State := { s0 with sealSt := { s0.sealSt with stalePress := true } }
    if recorded then s1.commitSealing else s1
  else s

/-- SEAL_PUSH_QUALIFIED (R103). -/
def execSealPushQualified (recorded : Bool) (s : State) : Host.Outcome State Fault Refusal := .next (s.qualifyPush recorded)

/-- The seal cell takes state `st`, and what follows from the state in the same clock cycle (R35, R103, R104, R174). -/
def State.setSeal (s : State) (st : Nat) : State :=
  let n := min (s.sealSt.trans + 1) 0xFFFF
  let s1 : State := { s with sealSt := { s.sealSt with cell := st, trans := n } }
  let s2 := ((s1.put F.SEAL_STAT_STATE st).put F.SEAL_STAT_X22ON (b2n (st != 1))).put F.SEAL_TRANS_N n
  (s2.irq Page.SEAL 0).recheckHold.noteMode

/-- OP = COMMIT (R103, step 4), only after a sealing record since PUSHED, and not with a saturated counter (R110). LDG.STAT.CFGLOST clears
with it (R301). -/
def State.commitSeal (s : State) : State :=
  if s.on F.SEAL_STAT_ARMED ∧ s.on F.SEAL_STAT_PUSHED ∧ s.sealSt.recorded ∧ !s.on F.SEAL_STAT_LECSAT then
    (s.setSeal 1).disarmSeal.put F.LDG_STAT_CFGLOST 0
  else s

/-- SEAL_COMMIT (R103). -/
def execSealCommit (s : State) : Host.Outcome State Fault Refusal := .next s.commitSeal

/-- OP = CANCEL at any time before COMMIT (R103). -/
def State.cancelSeal (s : State) : State := if s.on F.SEAL_STAT_ARMED then s.disarmSeal.irq Page.SEAL 4 else s

/-- SEAL_CANCEL (R103). -/
def execSealCancel (s : State) : Host.Outcome State Fault Refusal := .next s.cancelSeal

/-- SEAL_ARM_EXPIRY (R103): 60 s without the push. -/
def execSealArmExpiry (s : State) : Host.Outcome State Fault Refusal :=
  .next (if s.on F.SEAL_STAT_ARMED ∧ !s.on F.SEAL_STAT_PUSHED then (s.disarmSeal.irq Page.SEAL 4).logE Page.SEAL 0x0206 0 else s)

/-- SEAL_COMMIT_EXPIRY (R103): 1 s after PUSHED without COMMIT. -/
def execSealCommitExpiry (s : State) : Host.Outcome State Fault Refusal :=
  .next (if s.on F.SEAL_STAT_PUSHED then (s.disarmSeal.irq Page.SEAL 4).logE Page.SEAL 0x0207 0 else s)

/-- A write of SEAL.CMD by the legal domain. -/
def State.writeSealCmd (s : State) (op : Nat) : State :=
  match op with
  | 1 => s.armSeal
  | 2 => s.commitSeal
  | 3 => s.cancelSeal
  | _ => s

/-- UNSEAL (R104, R108, R114, Table 3-4): the cover open and the push contact held for 5 s while SEALED. After the supply has failed the
switch still writes the cell while the power-fail sequence runs; that sequence takes precedence over the record, which R105 makes at the
next start (R113). -/
def State.unseal (s : State) : State :=
  if !(s.sealed && s.on F.SEAL_STAT_COVER && s.on F.SEAL_STAT_PUSH && !s.sealSt.stalePress) then s
  else if !s.boot.powered then (if s.boot.pfail ∧ !s.on F.LDG_STAT_LOCKED then (s.setSeal 2).irq Page.SEAL 2 else s)
  else
    let s1 := ((s.setSeal 2).irq Page.SEAL 2).logE Page.SEAL 0x0203 0
    let s2 := s1.closeSession 0x03 0
    (s2.commitEvents s2.pendingRecords).commitSealBlock

def execUnseal (s : State) : Host.Outcome State Fault Refusal := .next s.unseal

/-- PUSH_CONTACT_CHANGE (R103, R114). -/
def execPushContactChange (pressed : Bool) (s : State) : Host.Outcome State Fault Refusal :=
  let s1 := s.put F.SEAL_STAT_PUSH (b2n pressed)
  .next { s1 with sealSt := { s1.sealSt with freshPress := pressed && s.on F.SEAL_STAT_ARMED, stalePress := false } }

/-- The cover contact changes (R45, R817): the seal cell holds its state. -/
def State.setCover (s : State) (open_ : Bool) : State :=
  if s.on F.SEAL_STAT_COVER = open_ then s
  else if !s.boot.powered then s.put F.SEAL_STAT_COVER (b2n open_)
  else
    let s1 := (s.put F.SEAL_STAT_COVER (b2n open_)).irq Page.SEAL 1
    let s2 : State := { s1 with sealSt := { s1.sealSt with cellCover := open_ } }
    if !open_ then s2.logE Page.SEAL 0x0205 0 else if s.sealed then s2.logE Page.SEAL 0x0204 0 else s2

/-- COVER_OPEN (R45). -/
def execCoverOpen (s : State) : Host.Outcome State Fault Refusal := .next (s.setCover true)

/-- COVER_CLOSE (R110). -/
def execCoverClose (s : State) : Host.Outcome State Fault Refusal := .next (s.setCover false)

end Sys2Proof.Machine
end

