-- ==== Sys2Proof/Machine/Switch.lean ====
section
/-!
DEFINITION. Machine/Switch.lean: the protected switch channels (chapter 12): requests, trips, retries, latches, clamp
events, shedding and the VSW supply.
-/

namespace Sys2Proof.Machine

/-- A mask of one page as a mask over all 24 channels. -/
def pageMask (x : Fin 2) (m : Nat) : Nat := m % 4096 * 2 ^ (12 * x.val)

/-- REQSET_WRITE (R448). -/
def execReqsetWrite (x : Fin 2) (mask : BitVec 12) (s : State) : Host.Outcome State Fault Refusal :=
  .next (s.request (pageMask x mask.toNat) 0)

/-- REQCLR_WRITE (R448). -/
def execReqclrWrite (x : Fin 2) (mask : BitVec 12) (s : State) : Host.Outcome State Fault Refusal :=
  .next (s.request 0 (pageMask x mask.toNat))

/-- A write of SWx.REQ: ones set, zeros clear (R448). -/
def State.writeReq (s : State) (x : Fin 2) (m : Nat) : State := s.request (pageMask x m) (pageMask x (4095 - m % 4096))

def execReqWrite (x : Fin 2) (mask : BitVec 12) (s : State) : Host.Outcome State Fault Refusal := .next (s.writeReq x mask.toNat)

/-- TURN_ON_CHECK (R450, R463): 50 µs after the low-side leg turned on. `hsHigh`: the high-side terminal lies above 4.0 V. -/
def State.turnOnCheck (s : State) (n : Fin 8) (hsHigh : Bool) : State :=
  let c := s.sw (swOf n)
  if c.ls && !c.hs then s.sameCycle (if hsHigh then s.latchChan n 7 0x0617 n else s.startConduction (swOf n)).settle else s

def execTurnOnCheck (n : Fin 8) (hsHigh : Bool) (s : State) : Host.Outcome State Fault Refusal := .next (s.turnOnCheck n hsHigh)

/-! ### Trips (R452 to R458) -/

/-- The argument of an event of channel `n` with a further value. -/
def chanArg (n : Fin 24) (v : Nat) : Nat := n.val + 2 ^ 64 * v

/-- The pause after a trip with `retry` retries made, in ms, and the stagger of channel `n` (R456, R457). -/
def pauseMs (n : Fin 24) (retry : Nat) : Nat := min (10 * 2 ^ retry) 10240 + n.val * 5 / 4

/-- The stagger of channel `n`, n × 1.25 ms, in ticks (R456, R477). -/
def staggerTicks (n : Fin 24) : Nat := n.val * 20480

/-- The tick of the retry instant of a trip at the present tick (R456). -/
def State.retryTick (s : State) (n : Fin 24) (retry : Nat) : Nat := s.angle.now + min (10 * 2 ^ retry) 10240 * tickMs + staggerTicks n

/-- A trip of channel `n`: counted, and followed by a pause or the latch (R456). -/
def State.trip (s : State) (n : Fin 24) (code arg : Nat) (hard therm : Bool) : State :=
  let x := swX n
  let i := swI n
  let retry := s.get (F.SW_CH_ST_RETRY.ij x i)
  let s1 := (s.incSat (F.SW_CH_CNT_TRIPS.ij x i)).when hard (·.incSat (F.SW_CH_CNT_HARDS.ij x i))
  let s2 := ((s1.put (F.SW_CH_ST_HARD.ij x i) (b2n hard)).put (F.SW_CH_ST_THERM.ij x i) (b2n therm)).put (F.SW_CH_CLEAN_MS.ij x i) 0
  let s3 := ((s2.irq (Page.SW x) 0).logE (Page.SW x) code (chanArg n arg)).legsOff n
  let nretry := s3.get (F.SW_CH_CFG_NRETRY.ij x i)
  s.sameCycle (if retry ≥ nretry then
    (((((s3.putBit (F.SW_LATCH_MASK.i x) i true).offRequest n).put (F.SW_CH_ST_PAUSELEFT.ij x i) 0).incSat (F.SW_CH_CNT_LATCHES.ij x i)).irq
      (Page.SW x) 1).logE (Page.SW x) 0x0803 (chanArg n nretry)
  else
    (s3.setSw n { s3.sw n with pausing := true, waitCool := false, retryAt := s3.retryTick n retry }).put (F.SW_CH_ST_PAUSELEFT.ij x i) (pauseMs n retry)).settle

/-- REGULATION_TRIP (R452): outside the blanking window. -/
def execRegulationTrip (n : Fin 24) (s : State) : Host.Outcome State Fault Refusal :=
  .next (if s.chState n = 2 ∧ s.conducts n then s.trip n 0x0801 (s.get (F.SW_CH_ST_RETRY.ij (swX n) (swI n))) false false else s)

/-- BLANKING_END (R453): the window of the last start of conduction has passed. -/
def execBlankingEnd (n : Fin 24) (s : State) : Host.Outcome State Fault Refusal :=
  .next (if s.chState n = 1 ∧ (s.sw n).blankEnd ≤ s.angle.now then s.putChState n 2 0 else s)

/-- HARD_SHORT (R454): in every state in which a leg conducts. -/
def execHardShort (n : Fin 24) (s : State) : Host.Outcome State Fault Refusal :=
  .next (if (s.sw n).legs then s.trip n 0x0802 (s.get (F.SW_CH_ST_RETRY.ij (swX n) (swI n))) true false else s)

/-- THERMAL_TRIP (R455): the junction temperature in 1/16 °C. -/
def execThermalTrip (n : Fin 24) (temp : BitVec 12) (s : State) : Host.Outcome State Fault Refusal :=
  .next (if (s.sw n).legs then
    ((s.put (F.SW_TEMP_T.i (swX n)) temp.toNat).setSw n { s.sw n with hot := true }).trip n 0x0804 temp.toNat false true else s)

/-- The pause ends with the retry: the channel starts, waits in HELD or is OFF. -/
def State.endPause (s : State) (n : Fin 24) : State :=
  (s.setSw n { s.sw n with pausing := false, waitCool := false }).settle

/-- RETRY_INSTANT (R455, R456, R458): the pause and its stagger have passed: RETRY counts; a junction that has not cooled holds the
start back. -/
def State.retryInstant (s : State) (n : Fin 24) : State :=
  let c := s.sw n
  if c.pausing && !c.waitCool && decide (c.retryAt ≤ s.angle.now) then
    let s1 := (s.incSat (F.SW_CH_ST_RETRY.ij (swX n) (swI n))).put (F.SW_CH_ST_PAUSELEFT.ij (swX n) (swI n)) 0
    if c.hot && s.reqOn n then s1.setSw n { c with waitCool := true } else s1.endPause n
  else s

def execRetryInstant (n : Fin 24) (s : State) : Host.Outcome State Fault Refusal := .next (s.retryInstant n)

/-- JUNCTION_COOLED (R455): below 160 °C after a thermal trip. -/
def execJunctionCooled (n : Fin 24) (s : State) : Host.Outcome State Fault Refusal :=
  let c := s.sw n
  let s1 := s.setSw n { c with hot := false }
  .next (if c.pausing && c.waitCool then s1.endPause n else s1)

/-- CLEAN_RUNNING_COMPLETE (R459): clean running has reached 10 s. -/
def execCleanRunningComplete (n : Fin 24) (s : State) : Host.Outcome State Fault Refusal :=
  .next (if 10000 ≤ s.get (F.SW_CH_CLEAN_MS.ij (swX n) (swI n)) then s.put (F.SW_CH_ST_RETRY.ij (swX n) (swI n)) 0 else s)

/-- Clear the latch of channel `n` (R460): the channel is OFF, and conducts again only after REQ is set anew. -/
def State.clearLatch (s : State) (n : Fin 24) : State :=
  let x := swX n
  let i := swI n
  if s.latched n then
    ((((s.putBit (F.SW_LATCH_MASK.i x) i false).put (F.SW_CH_ST_RETRY.ij x i) 0).put (F.SW_CH_CLEAN_MS.ij x i) 0).offRequest n).logE
      (Page.SW x) 0x0805 n
  else s

/-- A write of SWx.LATCH (R460). -/
def State.clearLatches (s : State) (m : Nat) : State :=
  ((List.finRange 24).foldl (fun (t : State) (n : Fin 24) => if bit m n then t.clearLatch n else t) s).settle

def execLatchClear (x : Fin 2) (mask : BitVec 12) (s : State) : Host.Outcome State Fault Refusal :=
  .next (s.clearLatches (pageMask x mask.toNat))

/-! ### Measurements -/

/-- LOAD_MEASUREMENT (R462, R465): with the legs off; `quiet`: both terminals have lain in the levels of R465 and no clamp
current has flowed for 100 ms. -/
def execLoadMeasurement (n : Fin 8) (r : BitVec 16) (quiet : Bool) (s : State) : Host.Outcome State Fault Refusal :=
  .next (if (s.sw (swOf n)).legs then s
    else (s.put (F.SW_SC_LOAD_R.i n) r.toNat).setSc n { s.sc n with quiet := quiet })

/-- CURRENT_SENSE_SAMPLE (R451): the leg currents in the sense unit. -/
def execCurrentSenseSample (n : Fin 24) (hs : BitVec 16) (ls : BitVec 16) (s : State) : Host.Outcome State Fault Refusal :=
  let bad := faultedState (s.chState n)
  let read (v : Nat) : Nat := if bad then 0x3FFF else min v 0xFFF
  .next ((s.put (F.SW_CH_SENSE_SENSE.ij (swX n) (swI n)) (read hs.toNat)).when (n < 8)
    (·.put (F.SW_CH_SENSE_LSENSE.ij (swX n) (swI n)) (read ls.toNat)))

/-- The clamp events of a switch whose energy still counts for the mean over the last 10 s. -/
def State.recentClamps (s : State) (l : List (Nat × Nat)) : List (Nat × Nat) := l.filter fun p => decide (s.angle.now < p.1 + 10000 * tickMs)

/-- Does a clamp event of `e` in 0.1 mJ that took `ms` and ends now exceed the figure of R467 that applies to it? `l` holds the
earlier events of the switch: 150 mJ when the last of them ended at least 10 s before this one began; else 20 mJ, and 200 mJ in
all over the last 10 s. -/
def State.clampOver (s : State) (l : List (Nat × Nat)) (e ms : Nat) : Bool :=
  if l.all fun p => decide (p.1 + (10000 + ms) * tickMs ≤ s.angle.now) then decide (e > 1500)
  else decide (e > 200) || decide (((s.recentClamps l).map Prod.snd).sum + e > 2000)

/-- The events of a switch after one of `e` that ends now; a leg whose clamp took no energy had none. -/
def State.noteClamp (s : State) (l : List (Nat × Nat)) (e : Nat) : List (Nat × Nat) :=
  if e = 0 then l else (s.angle.now, e) :: (s.recentClamps l ++ (l.filter fun p => !decide (s.angle.now < p.1 + 10000 * tickMs)).take 1)

/-- Does a clamp event of channel `n` exceed the figures of R467 in either leg? -/
def State.clampBeyond (s : State) (n : Fin 24) (hs ls ms : Nat) : Bool :=
  (hs != 0 && s.clampOver (s.sw n).clampH hs ms) || (ls != 0 && s.clampOver (s.sw n).clampL ls ms)

/-- CLAMP_EVENT (R467, R469): the energies of both legs in 0.1 mJ, and how many ms the event took; a channel without a low-side
leg has the first only. CHn_CLAMP reports the larger. -/
def State.clampEvent (s : State) (n : Fin 24) (hs ls0 ms : Nat) : State :=
  let x := swX n
  let i := swI n
  let ls := if n.val < 8 then ls0 else 0
  let e := max hs ls
  let c := s.sw n
  let s1 := (s.put (F.SW_CH_CLAMP_LAST.ij x i) (sat 16 e)).put (F.SW_CH_CLAMP_MAX.ij x i)
    (max (s.get (F.SW_CH_CLAMP_MAX.ij x i)) (sat 16 e))
  let s2 := s1.setSw n { c with clampH := s.noteClamp c.clampH hs, clampL := s.noteClamp c.clampL ls }
  if s.clampBeyond n hs ls ms then
    ((s2.incSat (F.SW_CH_CNT_CLAMPS.ij x i)).irq (Page.SW x) 4).logE (Page.SW x) 0x0809 (chanArg n e)
  else s2

def execClampEvent (n : Fin 24) (hs : BitVec 24) (ls : BitVec 24) (ms : BitVec 16) (s : State) : Host.Outcome State Fault Refusal :=
  .next (s.clampEvent n hs.toNat ls.toNat ms.toNat)

/-- SWITCH_ARRAY_HOT (R478): the hottest junction of a page, signed in 1/16 °C; HOT while it lies above 125 °C. -/
def execSwitchArrayHot (x : Fin 2) (temp : BitVec 12) (s : State) : Host.Outcome State Fault Refusal :=
  let hot := decide (temp.toInt > 2000)
  let s1 := (s.put (F.SW_TEMP_T.i x) temp.toNat).put (F.SW_STAT_HOT.i x) (b2n hot)
  .next (if hot && !s.on (F.SW_STAT_HOT.i x) then (s1.irq (Page.SW x) 6).logE (Page.SW x) 0x080A x else s1)

/-! ### Shedding and VSW (R470, R476, R477, R483) -/

/-- The same value into a field of both pages. -/
def State.putBoth (s : State) (f : Field) (v : Nat) : State := (s.put (f.i 0) v).put (f.i 1) v

/-- The channel to shed next: the highest of SW23 to SW08 that conducts. -/
def State.shedNext (s : State) : Option (Fin 24) := ((List.finRange 24).reverse.find? fun n => decide (8 ≤ n.val) && s.conducts n)

/-- SHEDDING (R470, R483): the total current from VSW in 10 mA. Above 44 A shedding begins; one channel is shed at each
command until the total is at most 40 A. -/
def State.shedStep (s : State) (cur : Nat) : State :=
  let s1 := s.putBoth F.SW_VSWMON_CURR cur
  if cur > 4000 ∧ (cur > 4400 ∨ s.on (F.SW_STAT_SHEDACT.i 0)) then
    let s2 := s1.putBoth F.SW_STAT_SHEDACT 1
    match s2.shedNext with
    | some n => ((((s2.putBit (F.SW_SHED_MASK.i (swX n)) (swI n) true).irq (Page.SW (swX n)) 3).logE (Page.SW (swX n)) 0x0808 (chanArg n cur))).settle
    | none =>
      if s2.safety.shedNone then s2
      else ({ s2 with safety := { s2.safety with shedNone := true } } : State).logE (Page.SW 1) 0x0808 (0xFF + 2 ^ 64 * cur)
  else
    let s2 := s1.putBoth F.SW_STAT_SHEDACT 0
    { s2 with safety := { s2.safety with shedNone := false } }

def execShedding (cur : BitVec 16) (s : State) : Host.Outcome State Fault Refusal := .next (s.shedStep cur.toNat)

/-- VSWOK changes on both pages. -/
def State.putVswOk (s : State) (ok : Bool) : State :=
  let s1 := ((s.putBoth F.SW_STAT_VSWOK (b2n ok)).irq (Page.SW 0) 2).irq (Page.SW 1) 2
  { s1 with safety := { s1.safety with vswOk := ok } }

/-- VSW_OUT_OF_RANGE (R446, R476): below 8.5 V or above 33.0 V no channel conducts; a blanking window ends without a trip. -/
def State.vswLost (s : State) (mv : Nat) : State :=
  let s1 := s.putBoth F.SW_VSWMON_MV mv
  if s.safety.vswOk ∧ (mv < 8500 ∨ 33000 < mv) then
    let s0 := s1.putVswOk false
    let s2 := ({ s0 with safety := { s0.safety with vswLeft := true } } : State).logE (Page.SW 0) 0x0806 mv
    s.sameCycle ((List.finRange 24).foldl (fun (t : State) (n : Fin 24) => t.setSw n { t.sw n with vswWait := false }) s2).settle
  else s1

def execVswOutOfRange (mv : BitVec 16) (s : State) : Host.Outcome State Fault Refusal := .next (s.vswLost mv.toNat)

/-- VSW_IN_RANGE (R446, R477): from 9.0 V to 32.0 V; each channel for which R449 then holds waits for its instant n × 1.25 ms
later. Only a supply that had left its range returns to it. -/
def State.vswBack (s : State) (mv : Nat) : State :=
  let s1 := s.putBoth F.SW_VSWMON_MV mv
  if s.safety.vswOk ∨ mv < 9000 ∨ 32000 < mv then s1
  else
    let s0 := s1.putVswOk true
    let s2 := ({ s0 with safety := { s0.safety with vswBackAt := s.angle.now } } : State).when s.safety.vswLeft (·.logE (Page.SW 0) 0x0807 mv)
    s.sameCycle ((List.finRange 24).foldl (fun (t : State) (n : Fin 24) =>
      if t.holdReason n = 0 then t.setSw n { t.sw n with vswWait := true } else t) s2).settle

def execVswInRange (mv : BitVec 16) (s : State) : Host.Outcome State Fault Refusal := .next (s.vswBack mv.toNat)

/-- VSW_RESTART (R477): n × 1.25 ms after the return, a start that is no retry. -/
def execVswRestart (n : Fin 24) (s : State) : Host.Outcome State Fault Refusal :=
  .next (if (s.sw n).vswWait ∧ s.safety.vswBackAt + staggerTicks n ≤ s.angle.now then s.sameCycle (s.setSw n { s.sw n with vswWait := false }).settle else s)

/-! ### Resets of the switch pages (R472, R473, R475) -/

/-- The registers of a channel that an application reset puts back: CHn_CFG. -/
def State.resetChCfg (s : State) (n : Fin 24) : State :=
  s.setWord (F.SW_CH_CFG_BLANK.ij (swX n) (swI n)).addr (resetWord (F.SW_CH_CFG_BLANK.ij (swX n) (swI n)).addr)

/-- An application reset of the switch channels (R472): the latches, RETRY, pauses, CLEAN, the counters and LEGFLT stay. -/
def State.resetSwitches (s : State) : State :=
  let s1 := ((s.putBoth F.SW_CTL_EN 0).putBoth F.SW_REQ_MASK 0).putBoth F.SW_SHED_MASK 0
  let s2 := (List.finRange 24).foldl State.resetChCfg s1
  ({ s2 with safety := { s2.safety with shedNone := false } } : State).settle

/-- Entry into Standby (R473): everything but CHn_CYCLES and STATE LEGFLT is lost. -/
def State.loseSwitch (s : State) (n : Fin 24) : State :=
  let x := swX n
  let i := swI n
  let s1 := s.setSw n { s.sw n with pausing := false, waitCool := false, hot := false, clampH := [], clampL := [] }
  let s2 := ((s1.putBit (F.SW_LATCH_MASK.i x) i false).setWord (F.SW_CH_ST_STATE.ij x i).addr
    (BitVec.ofNat 32 (if s.legFault n then 6 else 0))).put (F.SW_CH_CLEAN_MS.ij x i) 0
  let s3 := (s2.setWord (F.SW_CH_CLAMP_LAST.ij x i).addr 0).setWord (F.SW_CH_CNT_TRIPS.ij x i).addr 0
  (s3.setWord (F.SW_CH_SENSE_SENSE.ij x i).addr 0).when (decide (n.val < 8)) (·.put (F.SW_SC_LOAD_R.i n) 0xFFFF)

def State.standbySwitches (s : State) : State := ((List.finRange 24).foldl State.loseSwitch s.resetSwitches).settle

/-- t₀ of the power-fail sequence (R475): every leg stops, REQ clears and no retry follows. -/
def State.powerFailSwitches (s : State) : State :=
  let s1 := (s.putBoth F.SW_REQ_MASK 0).putBoth F.SW_SHED_MASK 0
  ((List.finRange 24).foldl (fun (t : State) (n : Fin 24) => t.setSw n { t.sw n with pausing := false, waitCool := false }) s1).settle

end Sys2Proof.Machine
end

