-- ==== Sys2Proof/Machine/Vehicle.lean ====
section
/-!
DEFINITION. Machine/Vehicle.lean: the control pilot, proximity and the vehicle-role emulation (chapter 9, sections 1 to 5
and 7), and the SLAC part of the pilot-line modem (section 6).
-/

namespace Sys2Proof.Machine

/-! ### Duty and signified current (R339 to R342) -/

/-- A permitted duty of Table 9-4, per mille. -/
def permitted (d : Nat) : Bool := d == 50 || (decide (80 ≤ d) && decide (d ≤ 970))

/-- The current a duty signifies, in 10 mA; 0 outside the table. -/
def signified (d : Nat) : Nat :=
  if d < 80 then 0
  else if d ≤ 99 then 600
  else if d ≤ 850 then 6 * d
  else if d ≤ 960 then 25 * (d - 640)
  else if d ≤ 970 then 8000
  else 0

/-- The smallest duty whose signified current is the largest not above `cur` (R340). -/
def dutyFor (cur : Nat) : Nat :=
  let best := (List.range 971).foldl (fun b d => if permitted d ∧ signified d ≤ cur then max b (signified d) else b) 0
  ((List.range 971).find? fun d => decide (80 ≤ d) && signified d == best).getD 50

/-- Is a written VALUE allowed (R340)? -/
def dutyOk (value : Nat) (cursel : Bool) : Bool :=
  if cursel then decide (600 ≤ value ∧ value ≤ 8000) else permitted value

/-- The duty that a request gives, and its current. -/
def dutyOf (value : Nat) (cursel : Bool) : Nat := if cursel then dutyFor value else value
def currentOf (value : Nat) (cursel : Bool) : Nat := if cursel then value else signified value

/-- High ticks of a duty: round(d × 16 384 / 1000), ties away from zero (R333). -/
def highTicks (d : Nat) : Nat := (2 * d * 16384 + 1000) / 2000

/-! ### The generator (R332, R363, R365) -/

/-- The generator mode that the module's mode forces, if any (Table 9-8, R365). In Production test the spec names no mode of
the generator and VEH.GEN holds. -/
def State.forcedGen (s : State) : Option Nat :=
  if s.boot.pfail then some 1
  else match s.get F.SYS_MODE_MODE with
    | 1 => some 1
    | 2 => some 3
    | 4 => some 3
    | 6 => some 1
    | _ => none

/-- A rating limits the duty now: its current in 10 mA (R342). -/
def State.cableLimit (s : State) : Option Nat :=
  let r := s.get F.VEH_PPSTAT_RATING
  if s.on F.VEH_CTL_PPLIM ∧ r ≠ 0 then some (100 * r) else none

/-- The duty in force in PWM mode and whether the cable lowers it. -/
def State.dutyNow (s : State) : Nat × Bool :=
  let (v, c) := s.vehicle.want
  let d := dutyOf v c
  match s.cableLimit with
  | some lim => if d ≠ 50 ∧ currentOf v c > lim ∧ d > dutyFor lim then (dutyFor lim, true) else (d, false)
  | none => (d, false)

/-- PILOT_PERIOD_START (R332, R336, R341, R342). -/
def State.pilotPeriod (s : State) : State :=
  let mode := s.forcedGen.getD (s.get F.VEH_GEN_MODE)
  let pwm := mode == 2
  let (d, lim) := if pwm then s.dutyNow else (0, false)
  let old := s.get F.VEH_DUTYNOW_DUTY
  let s1 := (((s.put F.VEH_DUTYNOW_DUTY d).put F.VEH_DUTYNOW_CURR (signified d)).put F.VEH_DUTYNOW_HLC (b2n (d = 50))).put F.VEH_STAT_PWMON (b2n pwm)
  let s2 := s1.when (pwm && d != old) (·.irq Page.VEH 4)
  let s3 := s2.put F.VEH_STAT_LIMITED (b2n lim)
  let s4 := s3.when (lim && !s.on F.VEH_STAT_LIMITED) (·.logE Page.VEH 0x0508 (s.get F.VEH_PPSTAT_RATING))
  { s4 with vehicle := { s4.vehicle with gen := mode, high := highTicks d, skip := mode != s.vehicle.gen || d != old } }

def execPilotPeriodStart (s : State) : Host.Outcome State Fault Refusal := .next s.pilotPeriod

/-- A write of VEH.DUTY (R340, R341): at the next period, or staged for an alarm with ACT = 7. A reserved VALUE is logged; VALUE
and the duty stay as they are, and CURSEL and TRIG are written (R17; the model's choice, log entry 56: no duty is staged). -/
def State.writeDuty (s : State) (v : Nat) : State :=
  let value := bits v 0 13
  let cursel := bit v 13
  let trig := bit v 14
  if dutyOk value cursel then
    let s1 := (((s.put F.VEH_DUTY_VALUE value).put F.VEH_DUTY_CURSEL (b2n cursel)).put F.VEH_DUTY_TRIG (b2n trig)).put F.VEH_DUTY_STAGED (b2n trig)
    if trig then { s1 with vehicle := { s1.vehicle with staged := some (value, cursel) } }
    else { s1 with vehicle := { s1.vehicle with want := (value, cursel), staged := none } }
  else ((s.put F.VEH_DUTY_CURSEL (b2n cursel)).put F.VEH_DUTY_TRIG (b2n trig)).logE Page.VEH 0x0507 (value + 2 ^ 64 * b2n cursel)

def execDutyWrite (v : Word) (s : State) : Host.Outcome State Fault Refusal := .next (s.writeDuty v.toNat)

/-- An alarm with ACT = 7 applies the staged duty (R341). -/
def State.applyStagedDuty (s : State) : State :=
  match s.vehicle.staged with
  | none => s
  | some w => ({ s with vehicle := { s.vehicle with want := w, staged := none } } : State).put F.VEH_DUTY_STAGED 0

/-! ### States (R335, R336) -/

/-- The window of a high sample in 10 mV while state `q` is qualified (Table 9-3, R335). -/
def pilotWindow (q : Nat) (x : Int) : Nat :=
  let inside (k : Nat) (w : Int) : Bool :=
    match k with
    | 1 => decide (x ≥ 1050 - w)
    | 2 => decide (750 - w ≤ x ∧ x < 1050 + w)
    | 3 => decide (450 - w ≤ x ∧ x < 750 + w)
    | 4 => decide (150 - w ≤ x ∧ x < 450 + w)
    | 5 => decide (-150 - w < x ∧ x < 150 + w)
    | 6 => decide (x ≤ -1050 + w)
    | 7 => decide (-1050 - w < x ∧ x ≤ -150 + w)
    | _ => false
  if inside q 20 then q else ((List.range 8).find? fun k => inside k 0).getD 7

/-- The conditions of R343 on state, faults and proximity. -/
def State.vehicleAdmits (s : State) : Bool :=
  s.pilotAdmits && !s.on F.VEH_STAT_DIODE && !s.on F.VEH_STAT_STUCK && !s.on F.VEH_STAT_INVAL && !s.ppBars

/-- The automatic off of R344 after a change that ended the conditions which held in `old`: cause 1 state, 2 pilot or diode
fault, 3 proximity. -/
def State.autoOff (s old : State) (cause : Nat) : State :=
  if s.on F.VEH_CTL_AUTOOFF && old.vehicleAdmits && !s.vehicleAdmits then
    let m := s.get F.VEH_CPMASK_MASK
    let s1 := (((s.put F.VEH_STAT_BLOCK 1).irq Page.VEH 3).incSat F.VEH_FLTCNT_OFFS).logE Page.VEH 0x0505 (cause + 2 ^ 64 * m)
    ({ s1 with vehicle := { s1.vehicle with afresh := 0 } } : State).request 0 m
  else s

/-- A state is qualified (R336): STAMP, the interrupt and event 0x0501; a state that R343 admits lets BLOCK clear (R344). -/
def State.qualifyPilot (s : State) (w : Nat) : State :=
  let old := s.get F.VEH_STAT_STATE
  let s1 := (((((s.put F.VEH_STAT_STATE w).put F.VEH_STAMP_NEW w).put F.VEH_STAMP_OLD old).put F.VEH_STAMP_ANGLE s.angleWord).putW
    F.VEH_STAMP_CYCLES s.cycles).irq Page.VEH 0
  let s2 := (s1.logE Page.VEH 0x0501 (old + 2 ^ 64 * w)).autoOff s 1
  s2.when s2.vehicleAdmits (·.put F.VEH_STAT_BLOCK 0)

/-- The run of samples in one window, and the qualification after DEB of them. -/
def State.runPilot (s : State) (w : Nat) : State :=
  let n := if w = s.vehicle.cand then min 20 (s.vehicle.candN + 1) else 1
  let s1 : State := { s with vehicle := { s.vehicle with cand := w, candN := n } }
  if n ≥ s.get F.VEH_TIMING_DEB then (if w = s.get F.VEH_STAT_STATE then s1 else s1.qualifyPilot w) else s1

/-- BLOCK clears when the admitted state is qualified afresh after the off cause has ended (R344). -/
def State.runAfresh (s : State) (w : Nat) : State :=
  if s.on F.VEH_STAT_BLOCK && s.vehicleAdmits && w == s.get F.VEH_STAT_STATE then
    let n := s.vehicle.afresh + 1
    let s1 : State := { s with vehicle := { s.vehicle with afresh := n } }
    s1.when (decide (n ≥ s.get F.VEH_TIMING_DEB)) (·.put F.VEH_STAT_BLOCK 0)
  else { s with vehicle := { s.vehicle with afresh := 0 } }

/-- The diode check of one low sample (R337). -/
def State.diodeCheck (s : State) (low : Int) : State :=
  let deb := s.get F.VEH_TIMING_DEB
  let high := decide (low > -1050)
  let bad := high && s.vehicle.gen == 2 && [2, 3, 4].contains (s.get F.VEH_STAT_STATE)
  let nb := if bad then min 20 (s.vehicle.diodeBad + 1) else 0
  let ng := if high then 0 else min 20 (s.vehicle.diodeGood + 1)
  let s1 : State := { s with vehicle := { s.vehicle with diodeBad := nb, diodeGood := ng } }
  if nb ≥ deb ∧ !s.on F.VEH_STAT_DIODE then
    ((((s1.put F.VEH_STAT_DIODE 1).irq Page.VEH 1).incSat F.VEH_FLTCNT_DIODE).logE Page.VEH 0x0504 0).autoOff s 2
  else s1.when (decide (ng ≥ deb)) (·.put F.VEH_STAT_DIODE 0)

/-- The conditions of the pilot faults in one period of 1 ms: how many periods in succession met each, up to the longest INVT; a
fault clears after DEB periods without its condition (R338). -/
def State.faultCheck (s : State) (w : Nat) (high low : Int) : State :=
  let deb := s.get F.VEH_TIMING_DEB
  let inval := w == 7
  let stuck := s.vehicle.gen == 2 && decide ((high - low).natAbs < 300) && w != 5
  let gi := if inval then 0 else min 20 (s.vehicle.invalGone + 1)
  let gs := if stuck then 0 else min 20 (s.vehicle.stuckGone + 1)
  let ni := if inval then min 2000 (s.vehicle.invalFor + 1) else 0
  let ns := if stuck then min 2000 (s.vehicle.stuckFor + 1) else 0
  let s1 : State := { s with vehicle := { s.vehicle with invalFor := ni, stuckFor := ns, invalGone := gi, stuckGone := gs } }
  (s1.when (decide (gi ≥ deb)) (·.put F.VEH_STAT_INVAL 0)).when (decide (gs ≥ deb)) (·.put F.VEH_STAT_STUCK 0)

/-! ### Observation of the post under test (R360) -/

/-- VR_DEMAND: DEMAND per cent of the allowed current (R361). -/
def State.noteDemand (s : State) : State :=
  if s.on F.VEH_VR_PROFCTL_RUN && s.on F.VEH_STAT_VROLE then
    s.put F.VEH_VR_DEMAND_CURR (s.get (F.VEH_VR_STEP_DEMAND.i (s.get F.VEH_VR_STAT_STEP)) * s.get F.VEH_VR_STAT_CURR / 100)
  else s

/-- The duration of the running profile step is counted from now on (R361). -/
def State.stepCounts (s : State) : State := { s with vehicle := { s.vehicle with stepFrom := some s.angle.now } }

/-- The observed mode (0 none, 1 steady positive, 2 PWM, 3 steady negative) and the high ticks of an observed period. -/
def State.observe (s0 : State) (mode ticks : Nat) : State :=
  let s := s0.when (mode == 2 && s0.vehicle.stepFrom.isNone) (·.stepCounts)
  let duty := if mode = 2 then (2 * ticks * 1000 + 16384) / 32768 else 0
  let cur := if mode = 2 then signified duty else 0
  let changed := decide (mode ≠ s.get F.VEH_VR_STAT_OBS ∨ ((duty : Int) - s.vehicle.obsDuty).natAbs ≥ 2)
  let s1 := ((s.put F.VEH_VR_STAT_OBS mode).put F.VEH_VR_STAT_DUTY duty).put F.VEH_VR_STAT_CURR cur
  if changed then
    let s2 := ((((s1.put F.VEH_VR_EVSTAMP_OBS mode).put F.VEH_VR_EVSTAMP_DUTY duty).put F.VEH_VR_EVSTAMP_ANGLE s.angleWord).putW
      F.VEH_VR_EVSTAMP_CYCLES s.cycles).irq Page.VEH 7
    (({ s2 with vehicle := { s2.vehicle with obsDuty := duty } } : State).logE Page.VEH 0x0513 (mode + 2 ^ 64 * duty)).noteDemand
  else s1

/-- PILOT_SAMPLE (R334 to R338, R360): the high and low samples of the period in 10 mV and, in vehicle role, what the test
port shows. A skipped period enters no count. -/
def State.pilotSample (s : State) (high low : Int) (obs obsHigh : Nat) : State :=
  let w := pilotWindow (s.get F.VEH_STAT_STATE) high
  let s1 := ((s.put F.VEH_LEVEL_HIGH (ofSigned 16 high)).put F.VEH_LEVEL_LOW (ofSigned 16 low)).put F.VEH_STAT_RAW w
  let s2 := if s.vehicle.skip then s1 else (((s1.runPilot w).runAfresh w).diodeCheck low).faultCheck w high low
  s2.when (s.on F.VEH_STAT_VROLE) (·.observe obs obsHigh)

def execPilotSample (high : BitVec 16) (low : BitVec 16) (obs : BitVec 2) (obsHigh : BitVec 15) (s : State) :
    Host.Outcome State Fault Refusal := .next (s.pilotSample high.toInt low.toInt obs.toNat obsHigh.toNat)

/-- PILOT_FAULT (R338): the condition of the invalid-level or the stuck-pilot fault has held for INVT periods of 1 ms; before
that the command finds nothing to declare. -/
def State.pilotFault (s : State) (stuck : Bool) : State :=
  if stuck then
    if decide (s.get F.VEH_TIMING_INVT ≤ s.vehicle.stuckFor) && !s.on F.VEH_STAT_STUCK then
      ((((s.put F.VEH_STAT_STUCK 1).irq Page.VEH 1).incSat F.VEH_FLTCNT_STUCK).logE Page.VEH 0x0503 0).autoOff s 2
    else s
  else if decide (s.get F.VEH_TIMING_INVT ≤ s.vehicle.invalFor) && !s.on F.VEH_STAT_INVAL then
    ((((s.put F.VEH_STAT_INVAL 1).irq Page.VEH 1).incSat F.VEH_FLTCNT_INVAL).logE Page.VEH 0x0502 0).autoOff s 2
  else s

def execPilotFault (stuck : Bool) (s : State) : Host.Outcome State Fault Refusal := .next (s.pilotFault stuck)

/-! ### Proximity (R346, R347) -/

/-- The code of a resistance (Table 9-5). -/
def ppCode (mode thr ohms : Nat) : Nat :=
  let inside (a b : Nat) : Bool := decide (a ≤ ohms ∧ ohms ≤ b)
  if ohms > 4500 then 0
  else match mode with
    | 1 => if inside 1100 2460 then 1 else if inside 400 936 then 2 else if inside 164 308 then 3 else if inside 75 140 then 4 else 8
    | 2 => if inside 100 200 then 5 else if inside 380 600 then 6 else 8
    | 3 => if ohms ≤ 10 * thr then 7 else 8
    | _ => 8

/-- The cable rating of a code in A. -/
def ppRating (single : Bool) (code : Nat) : Nat :=
  match code with
  | 1 => 13
  | 2 => 20
  | 3 => 32
  | 4 => if single then 70 else 63
  | _ => 0

/-- A code is qualified. -/
def State.qualifyPp (s : State) (code ohms : Nat) : State :=
  let old := s.get F.VEH_PPSTAT_CODE
  if code = old then s
  else
    let s1 := (((s.put F.VEH_PPSTAT_CODE code).put F.VEH_PPSTAT_RATING (ppRating (s.on F.VEH_PPCFG_SINGLE) code)).irq Page.VEH 2).logE
      Page.VEH 0x0509 (old + 2 ^ 64 * code)
    (s1.when (code == 8) (·.logE Page.VEH 0x050A ohms)).autoOff s 3

/-- PP_MEASUREMENT (R346). -/
def State.ppMeasure (s : State) (ohms : Nat) : State :=
  let mode := s.get F.VEH_PPCFG_MODE
  if mode = 0 then s
  else
    let c := ppCode mode (s.get F.VEH_PPCFG_THR) ohms
    let n := if c = s.vehicle.ppCand then min 10 (s.vehicle.ppN + 1) else 1
    let s1 := ({ s with vehicle := { s.vehicle with ppCand := c, ppN := n } } : State).put F.VEH_PPSTAT_OHMS (if ohms > 5000 then 0xFFFF else ohms)
    if n ≥ 10 then s1.qualifyPp c ohms else s1

def execPpMeasurement (ohms : BitVec 24) (s : State) : Host.Outcome State Fault Refusal := .next (s.ppMeasure ohms.toNat)

/-- A write of VEH.PPCFG: a change of MODE restarts the measurement; in mode 0 the source is off and CODE reads 0. RATING follows
SINGLE (Table 9-5). -/
def State.writePpcfg (s : State) (v : Nat) : State :=
  let mode := bits v 0 2
  let s1 := (s.put F.VEH_PPCFG_MODE mode).put F.VEH_PPCFG_SINGLE (bits v 2 1)
  let s2 := if bits v 8 8 = 0 then s1 else s1.put F.VEH_PPCFG_THR (bits v 8 8)
  if mode = s.get F.VEH_PPCFG_MODE then s2.put F.VEH_PPSTAT_RATING (ppRating (bit v 2) (s.get F.VEH_PPSTAT_CODE))
  else ({ s2 with vehicle := { s2.vehicle with ppCand := 0, ppN := 0 } } : State).qualifyPp 0 0

/-! ### Vehicle-role emulation (R357 to R362) -/

/-- VR_NET_WRITE (R359): in vehicle role; reserved encodings keep the old value (R17). -/
def State.writeVrNet (s : State) (v : Nat) : State :=
  if s.on F.VEH_STAT_VROLE then
    (s.when (decide (bits v 0 3 ≤ 5)) (·.put F.VEH_VR_NET_EMU (bits v 0 3))).when (decide (bits v 4 3 ≤ 6)) (·.put F.VEH_VR_NET_PPR (bits v 4 3))
  else s

def execVrNetWrite (v : Word) (s : State) : Host.Outcome State Fault Refusal := .next (s.writeVrNet v.toNat)

/-- A step of the load profile begins (R361): its duration is counted from now, or with WAITPWM from the first observed period
in PWM. -/
def State.beginProfileStep (s0 : State) (k : Nat) : State :=
  let s : State := { s0 with vehicle := { s0.vehicle with stepFrom := if s0.on (F.VEH_VR_STEP_WAITPWM.i k) then none else some s0.angle.now } }
  let s1 := ((s.put F.VEH_VR_STAT_STEP k).writeVrNet (s.get (F.VEH_VR_STEP_EMU.i k) + 16 * s.get (F.VEH_VR_STEP_PPR.i k))).irq Page.VEH 6
  s1.noteDemand

/-- VR_PROFCTL is written with RUN = 1 (R361); outside vehicle role it is stored and takes effect on entry. A reserved STEPS
keeps the old value. -/
def State.runProfile (s : State) (steps : Nat) : State :=
  let s1 := s.when (decide (1 ≤ steps ∧ steps ≤ 32)) (·.put F.VEH_VR_PROFCTL_STEPS steps)
  let s2 := s1.put F.VEH_VR_PROFCTL_RUN 1
  if s.on F.VEH_STAT_VROLE then (s2.put F.VEH_VR_STAT_DONE 0).beginProfileStep 0 else s2

def execProfileRun (steps : BitVec 6) (s : State) : Host.Outcome State Fault Refusal := .next (s.runProfile steps.toNat)

/-- The duration of the running profile step has passed (R361). -/
def State.stepOver (s : State) : Bool :=
  match s.vehicle.stepFrom with
  | none => false
  | some t => decide (t + s.get (F.VEH_VR_STEP_DUR.i (s.get F.VEH_VR_STAT_STEP)) * tickMs ≤ s.angle.now)

/-- PROFILE_STEP_END (R361): the duration has passed; before that the step goes on. -/
def State.endProfileStep (s : State) : State :=
  if s.on F.VEH_VR_PROFCTL_RUN && s.on F.VEH_STAT_VROLE && !s.on F.VEH_VR_STAT_DONE && s.stepOver then
    let k := s.get F.VEH_VR_STAT_STEP
    let n := s.get F.VEH_VR_PROFCTL_STEPS
    if k + 1 < n then s.beginProfileStep (k + 1)
    else ((s.put F.VEH_VR_STAT_DONE 1).irq Page.VEH 6).logE Page.VEH 0x0512 n
  else s

def execProfileStepEnd (s : State) : Host.Outcome State Fault Refusal := .next s.endProfileStep

/-- PROFILE_STOP (R361). -/
def State.stopProfile (s : State) : State := s.put F.VEH_VR_PROFCTL_RUN 0

def execProfileStop (s : State) : Host.Outcome State Fault Refusal := .next s.stopProfile

/-! ### The modem (R350 to R354, R370) -/

/-- LINK falls. -/
def State.dropLink (s : State) : State := if s.on F.GPM_STAT_LINK then (s.put F.GPM_STAT_LINK 0).irq Page.GPM 3 else s

/-- The modem loses power or restarts: LINK, its run and its network go. -/
def State.resetModem (s : State) (mstate : Nat) : State :=
  let s1 := (s.dropLink).put F.GPM_STAT_MSTATE mstate
  { s1 with modem := {} }

/-- MODEM_ENABLE (R350). -/
def State.enableModem (s : State) : State :=
  let s1 := s.put F.GPM_CTL_EN 1
  if s.on F.GPM_CTL_EN then s1 else s1.put F.GPM_STAT_MSTATE 1

def execModemEnable (s : State) : Host.Outcome State Fault Refusal := .next s.enableModem

/-- MODEM_DISABLE (R350). -/
def State.disableModem (s : State) : State := (s.put F.GPM_CTL_EN 0).resetModem 0

def execModemDisable (s : State) : Host.Outcome State Fault Refusal := .next s.disableModem

/-- The version of the pilot-modem firmware: that of its entry in the manifest of the active bank (Tables 9-10 and 19-5). `fw` is
what the modem itself answers, for a bank without such an entry. -/
def State.modemVersion (s : State) (fw : Word) : Word :=
  match s.bankPart s.update.active 5 with
  | some p => BitVec.ofNat 32 p.version
  | none => fw

/-- MODEM_READY (R350): with the version of its firmware. -/
def execModemReady (fw : Word) (s : State) : Host.Outcome State Fault Refusal :=
  .next (if s.get F.GPM_STAT_MSTATE = 1 then
    (((s.put F.GPM_STAT_MSTATE 2).setWord F.GPM_FWVER.addr (s.modemVersion fw)).irq Page.GPM 0).logE Page.GPM 0x0520 (s.modemVersion fw).toNat
    else s)

/-- The restarts of the modem within the last 60 s. -/
def State.modemRestarts (s : State) : List Nat := s.vehicle.restarts.filter fun t => decide (s.angle.now < t + 60000 * tickMs)

/-- MODEM_WATCHDOG (R350): the modem has not answered for `silent` ms. After 1 s it is restarted; when three restarts lie within
the last 60 s it is held in fault instead. -/
def State.modemWatchdog (s : State) (silent : Nat) : State :=
  let l := s.modemRestarts
  if [1, 2, 3, 4, 5].contains (s.get F.GPM_STAT_MSTATE) && decide (1000 ≤ silent) then
    if l.length ≥ 3 then ((s.resetModem 6).irq Page.GPM 4).logE Page.GPM 0x0522 0
    else
      let s1 := (s.resetModem 1).incSat F.GPM_CNT_RESTARTS
      ({ s1 with vehicle := { s1.vehicle with restarts := s.angle.now :: l } } : State).logE Page.GPM 0x0521 (l.length + 1)
  else s

def execModemWatchdog (silent : BitVec 16) (s : State) : Host.Outcome State Fault Refusal := .next (s.modemWatchdog silent.toNat)

/-- SLAC_ENABLE (R351, R352): SLACEN is set; a run starts while the modem is ready. -/
def State.enableSlac (s : State) : State :=
  let s1 := s.put F.GPM_CTL_SLACEN 1
  if s.get F.GPM_STAT_MSTATE = 2 then
    let s2 := (((s1.put F.GPM_STAT_MSTATE 3).put F.GPM_RESULT_CAUSE 0).put F.GPM_RESULT_SOUNDS 0).incSat F.GPM_RESULT_RUNS
    { s2 with modem := { since := s.angle.now } }
  else s1

def execSlacEnable (s : State) : Host.Outcome State Fault Refusal := .next s.enableSlac

/-- Is a SLAC run in progress in the role given (0 EVSE, 1 vehicle)? -/
def State.slacRun (s : State) (role : Nat) : Bool := s.get F.GPM_STAT_MSTATE == 3 && s.get F.GPM_STAT_ROLE == role

/-- Are the INIT seconds for the parameter request still running (R351)? -/
def State.parmInTime (s : State) : Bool := decide (s.angle.now ≤ s.modem.since + s.get F.GPM_SLACCFG_INIT * 1000 * tickMs)

/-- SLAC_PARM_REQ (R351): the first request of the run within INIT seconds is answered; the sounds and their average attenuation
follow. -/
def execSlacParmReq (mac : BitVec 48) (run : BitVec 64) (sounds : BitVec 8) (att : BitVec 8) (s : State) :
    Host.Outcome State Fault Refusal :=
  if s.slacRun 0 && !s.modem.parm && s.parmInTime then
    let s1 := (s.put F.GPM_RESULT_SOUNDS sounds.toNat).put F.GPM_RESULT_ATT att.toNat
    .next { s1 with modem := { s1.modem with parm := true, peer := mac.toNat, run := run.toNat } }
  else .next s

/-- SLAC_MATCH_REQ (R351): the request of the vehicle of this run is answered with an identifier and a key that the modem
generates, which are free values. -/
def execSlacMatchReq (mac : BitVec 48) (run : BitVec 64) (s : State) : Host.Outcome State Fault Refusal :=
  if s.slacRun 0 && s.modem.parm && s.modem.peer == mac.toNat && s.modem.run == run.toNat then
    .next (s.free fun v t => t.free fun w u =>
      { u with modem := { u.modem with matched := true, nid := v % 2 ^ 56, key := w % 2 ^ 128 } })
  else .next s

/-- A SLAC run fails with its cause. -/
def State.failSlac (s : State) (cause : Nat) : State :=
  (((s.put F.GPM_STAT_MSTATE 5).put F.GPM_RESULT_CAUSE cause).irq Page.GPM 2).logE Page.GPM 0x0524 cause

/-- The best EVSE among the profiles: the lowest average attenuation, the first of equals. -/
def bestProfile : List (Nat × Nat) → Option (Nat × Nat)
  | [] => none
  | p :: l => match bestProfile l with
    | none => some p
    | some q => if p.2 ≤ q.2 then some p else some q

/-- The cause of a failed run: 1 without a parameter request in EVSE role, 3 in vehicle role without an EVSE within ATTMAX
(R352); any other as the modem finds it. -/
def State.slacCause (s : State) (cause : Nat) : Nat :=
  if s.get F.GPM_STAT_ROLE = 0 then (if s.modem.parm then cause else 1)
  else if (bestProfile s.modem.profiles).all fun p => decide (s.get F.GPM_SLACCFG_ATTMAX < p.2) then 3 else cause

/-- SLAC_RESULT (R351, R352): the run ends matched, once the match was answered, or failed with its cause. -/
def State.slacResult (s : State) (ok : Bool) (cause rate : Nat) : State :=
  if s.get F.GPM_STAT_MSTATE = 3 then
    if ok && s.modem.matched then
      let s1 := ((s.put F.GPM_STAT_MSTATE 4).put F.GPM_STAT_LINK 1).put F.GPM_LINKQ_RATE rate
      let s2 := ((s1.putW F.GPM_PEER_MAC s.modem.peer).putW F.GPM_PEER_RUN s.modem.run).putW F.GPM_NID_ID s.modem.nid
      (s2.irq Page.GPM 1).logE Page.GPM 0x0523 (s.get F.GPM_RESULT_ATT)
    else if ok then s
    else s.failSlac (s.slacCause cause)
  else s

def execSlacResult (ok : Bool) (cause : BitVec 4) (rate : BitVec 8) (s : State) : Host.Outcome State Fault Refusal :=
  .next (s.slacResult ok cause.toNat rate.toNat)

/-- VALIDATION_REQUEST (R353): `toggles` B-C-B toggles were qualified in the validation window; another count than announced
fails the run. With VALEN = 0 the request is answered as not supported. -/
def execValidationRequest (announced : BitVec 8) (toggles : BitVec 8) (s : State) : Host.Outcome State Fault Refusal :=
  .next (if s.slacRun 0 && s.on F.GPM_CTL_VALEN && announced != toggles then s.failSlac 5 else s)

/-- ATTENUATION_PROFILE_RECEIVED (R352): a later profile of one EVSE replaces the earlier one. -/
def execAttenuationProfileReceived (mac : BitVec 48) (att : BitVec 8) (s : State) : Host.Outcome State Fault Refusal :=
  .next (if s.slacRun 1 then
    { s with modem := { s.modem with profiles := (s.modem.profiles.filter fun p => p.1 != mac.toNat) ++ [(mac.toNat, att.toNat)] } } else s)

/-- MATCH_CONFIRMATION_RECEIVED (R352): from the EVSE chosen, provided that its attenuation is at most ATTMAX; the modem joins
the network it names. -/
def State.matchConfirmed (s : State) (mac nid : Nat) : State :=
  match bestProfile s.modem.profiles with
  | none => s
  | some (m, a) =>
    if s.slacRun 1 ∧ m = mac ∧ a ≤ s.get F.GPM_SLACCFG_ATTMAX then
      let s1 := s.put F.GPM_RESULT_ATT a
      { s1 with modem := { s1.modem with matched := true, peer := m, nid := nid } }
    else s

def execMatchConfirmationReceived (mac : BitVec 48) (nid : BitVec 56) (s : State) : Host.Outcome State Fault Refusal :=
  .next (s.matchConfirmed mac.toNat nid.toNat)

/-- The modem leaves the logical network (R354). -/
def State.leaveNetwork (s : State) (cause : Nat) : State :=
  let s1 := ((s.dropLink).put F.GPM_STAT_MSTATE 2).irq Page.GPM 0
  ({ s1 with modem := {} } : State).when (s.get F.GPM_STAT_MSTATE == 4) (·.logE Page.GPM 0x0525 cause)

/-- SLACEN is cleared: a network is left, and a run or its failure ends (R354). -/
def State.clearSlac (s : State) : State :=
  let s1 := s.put F.GPM_CTL_SLACEN 0
  if [3, 4, 5].contains (s.get F.GPM_STAT_MSTATE) then s1.leaveNetwork 2 else s1

/-- LOGICAL_NETWORK_LEAVE (R354): cause 0 state A, E or F; 1 no proximity; 2 SLACEN cleared. -/
def State.networkLeave (s : State) (cause : Nat) : State :=
  let joined := s.get F.GPM_STAT_MSTATE == 4
  match cause with
  | 0 => if joined && [1, 5, 6].contains (s.get F.VEH_STAT_STATE) then s.leaveNetwork 0 else s
  | 1 => if joined && s.get F.VEH_PPCFG_MODE != 0 && s.get F.VEH_PPSTAT_CODE == 0 then s.leaveNetwork 1 else s
  | 2 => s.clearSlac
  | _ => s

def execLogicalNetworkLeave (cause : BitVec 2) (s : State) : Host.Outcome State Fault Refusal := .next (s.networkLeave cause.toNat)

/-! ### Vehicle role -/

/-- Entry into vehicle role (R358); a profile whose RUN was stored starts, and the emulation network is at its reset value. -/
def State.enterVehicleRole (s : State) : State :=
  let s1 := (((s.resetModem (if s.on F.GPM_CTL_EN then 1 else 0)).put F.GPM_STAT_ROLE 1).put F.GPM_STAT_PATH 1)
  let s2 := ((s1.put F.VEH_VR_NET_EMU 0).put F.VEH_VR_NET_PPR 0).put F.VEH_STAT_VROLE 1
  let s3 := s2.logE Page.VEH 0x0510 0
  if s3.on F.VEH_VR_PROFCTL_RUN then (s3.put F.VEH_VR_STAT_DONE 0).beginProfileStep 0 else s3

/-- Vehicle role is left (R362): cause 1 a request, 2 an application reset, 3 Winter mode. -/
def State.leaveVehicleRole (s : State) (cause : Nat) : State :=
  if s.on F.VEH_STAT_VROLE then
    let s1 := ((s.put F.VEH_VR_NET_EMU 0).put F.VEH_VR_NET_PPR 0).stopProfile
    let s2 := ((s1.resetModem (if s.on F.GPM_CTL_EN then 1 else 0)).put F.GPM_STAT_ROLE 0).put F.GPM_STAT_PATH 0
    ((s2.put F.VEH_GEN_MODE 1).put F.VEH_STAT_VROLE 0).logE Page.VEH 0x0511 cause
  else s

end Sys2Proof.Machine
end

