-- ==== Sys2Proof/Machine/Resets.lean ====
section
/-!
DEFINITION. Machine/Resets.lean: page ownership (R95), the reset of the application domain, failed starts (R136 to R138),
Winter mode (chapter 4, section 7), cold starts and stage S0 (chapter 4, sections 2 and 3), and the fallback from an
unconfirmed bank (R749).
-/

namespace Sys2Proof.Machine

/-! ### Page ownership (R95) -/

/-- Every register of the page at `p` but OWNER takes its reset value; ID and REV have no other. -/
def State.resetPage (s : State) (p : Nat) : State :=
  (s.resetRange (p + 8) (p + 0x20)).resetRange (p + 0x24) (p + 0x1000)

/-- The words of EPD that show what the engine is doing, and the fields of the waveform table (chapter 16): a reset of the application domain
does not touch them (R612). -/
def epdLive (a : Nat) : Bool :=
  a == Page.EPD + 0xC || (decide (Page.EPD + 0x40 ≤ a) && decide (a < Page.EPD + 0x54))
    || (decide (Page.EPD + 0x5C ≤ a) && decide (a < Page.EPD + 0x68)) || (decide (Page.EPD + 0x200 ≤ a) && decide (a < Page.EPD + 0x280))

/-- The words of UPD that the bank-select record and the configuration copies hold. -/
def updLedger (a : Nat) : Bool :=
  a == Page.UPD + 0x6C || a == Page.UPD + 0x70 || (decide (Page.UPD + 0x80 ≤ a) && decide (a < Page.UPD + 0x200))

/-- The registers of UPD take their reset values; PENDING and the other fields of the ledger stay. -/
def State.resetUpd (s : State) : State :=
  let pend := s.get F.UPD_STAT_PENDING
  let s1 : State := { s with regs := storeErase (fun a => decide (Page.UPD + 8 ≤ a ∧ a < Page.UPD + 0x1000 ∧ a ≠ Page.UPD + 0x20) && !updLedger a) s.regs }
  s1.put F.UPD_STAT_PENDING pend

/-- The legal image sets L0ON and presents the whole legal rectangle in full mode (R621). -/
def State.presentLegal (s : State) : State :=
  ((s.put (F.EPD_LCTL_L0ON.i 0) 1).panelEnabled s).presentRect

/-- The words of EPD from the table (their reset value), and those of the updates in flight. -/
def State.epdShown (s : State) (a : Nat) : Bool :=
  (decide (Page.EPD + 0x40 ≤ a) && decide (a < Page.EPD + 0x54)) || (a == Page.EPD + 0x5C && !s.inflight.isEmpty)
    || ((List.range 8).any fun k => (s.panel.slots.getD k none).isSome && decide (Page.EPD + 0x200 + 16 * k ≤ a ∧ a < Page.EPD + 0x210 + 16 * k))

/-- Every register of EPD takes its reset value, the legal group included (R95, R621), and the requests that wait are discarded. The engine, which is
powered with the legal domain, goes on: STAT shows at once again its rails, its valid table, its band and its updates in flight, with their slots
(DEDUCED, log entry 79). The legal image then presents the legal rectangle (R621). -/
def State.resetEpd (s : State) : State :=
  let s1 : State := { s with
    regs := storeErase (fun a => decide (Page.EPD + 8 ≤ a ∧ a < Page.EPD + 0x1000 ∧ a ≠ Page.EPD + 0x20) && !s.epdShown a) s.regs
    panel := { s.panel with queue := [], stale := false, redraw := false, tBad := 0, tGood := 0, tAge := 0 } }
  let s2 := ((s1.put F.EPD_STAT_RAILST (s.get F.EPD_STAT_RAILST)).put F.EPD_STAT_WAVEOK (s.get F.EPD_STAT_WAVEOK)).put F.EPD_STAT_BAND (s.get F.EPD_STAT_BAND)
  s2.showQueues.presentLegal

/-- The pages whose owner may change (Table 3-1). -/
def xferPages : List Nat := [Page.EPD, Page.DMA, Page.U 0, Page.ETH, Page.UPD]

/-- The owner of a transferable page changes: its registers take their reset values, XCOUNT counts, event 0x0210. -/
def State.setOwner (s : State) (p dom : Nat) : State :=
  let n := sat 8 (s.get (F.OWNER_XCOUNT.on p) + 1)
  let s1 := if p = Page.UPD then (s.discardUpdate 3).resetUpd
    else if p = Page.EPD then s.resetEpd
    else if p = Page.U 0 then (s.resetPat p).resetPage p |>.setUart 0 {}
    else if p = Page.ETH then { (s.resetPat p).resetPage p with ether := {} }
    else (s.resetPage p).noteLegalRings
  ((s1.put (F.OWNER_DOMAIN.on p) dom).put (F.OWNER_XCOUNT.on p) n).logE p 0x0210 dom

/-- Is the application domain in reset or without power? -/
def State.appHeld (s : State) : Bool := !s.boot.appRuns

/-- A write of OWNER.DOMAIN by `who` (R95). DOMAIN = 1, the safety island, which owns no transferable page, is refused as a write that breaks
the rule (DESIGN CHOICE, log entry 41). -/
def State.writeOwner (s : State) (who : Initiator) (p dom : Nat) : State :=
  if domainOf who = .legal ∧ xferPages.contains p ∧ s.appHeld ∧ (dom = 0 ∨ dom = 2) then
    if s.get (F.OWNER_DOMAIN.on p) = dom then s else s.setOwner p dom
  else s.logE p 0x0211 dom

/-- OWNER_TRANSFER (R95): a write by the legal domain. -/
def execOwnerTransfer (page : Word) (dom : BitVec 2) (s : State) : Host.Outcome State Fault Refusal :=
  .next (s.writeOwner .legal (pageBase page.toNat) dom.toNat)

/-- Table of R145: the legal domain takes the pages, or gives them back. -/
def State.takePages (s : State) : State :=
  xferPages.foldl (fun (t : State) p => if t.get (F.OWNER_DOMAIN.on p) = 0 then t else t.setOwner p 0) s
def State.returnPages (s : State) : State :=
  xferPages.foldl (fun (t : State) p => if t.get (F.OWNER_DOMAIN.on p) = 0 then t.setOwner p 2 else t) s

/-! ### Reset of the application domain -/

/-- The pages of the application domain that a reset puts back whole. -/
def appPages : List Nat :=
  [Page.VEH, Page.GPM, Page.CLU, Page.PWA, Page.AUD, Page.U 1, Page.U 2, Page.U 3, Page.TW 0, Page.TW 1]

/-- SYS (R150): MODE, HOLDUP and the identity stay. -/
def State.resetSys (s : State) : State :=
  ((s.resetRange (Page.SYS + 8) (Page.SYS + 0x60)).resetRange (Page.SYS + 0x64) (Page.SYS + 0xA4)).resetRange (Page.SYS + 0xA8) (Page.SYS + 0x1000)

/-- TMR (R67): TMR.US counts on, and ALM16 to ALM63 are kept across Standby only. -/
def State.resetTmr (s : State) (standby : Bool) : State :=
  let s1 := (s.resetRange (Page.TMR + 8) (Page.TMR + 0x40)).resetRange (Page.TMR + 0x48) (Page.TMR + 0x400)
  if standby then s1 else s1.resetRange (Page.TMR + 0x400) (Page.TMR + 0x1000)

/-- The rest of the switch pages (R472); the channels themselves are put back by `resetSwitches`. -/
def State.resetSwPages (s : State) : State :=
  [Page.SW 0, Page.SW 1].foldl (fun (t : State) p =>
    ((t.resetRange (p + 0x10) (p + 0x20)).resetRange (p + 0x24) (p + 0x28)).resetRange (p + 0xC0) (p + 0xE0)) s

/-- A transferable page of the application domain takes its reset values. -/
def State.resetOwned (s : State) (p : Nat) (f : State → State) : State := if s.get (F.OWNER_DOMAIN.on p) = 2 then f s else s

/-- EPD at a reset of its owner (R602, R635): the layer L0, the table fields and the updates in flight stay. -/
def State.resetEpdApp (s : State) : State :=
  let keep (a : Nat) : Bool := epdLive a || a == Page.EPD + 0x80 || a == Page.EPD + 0x90 || a == Page.EPD + 0x94 || a == Page.EPD + 0xB0
  ({ s with regs := storeErase (fun a => decide (Page.EPD + 8 ≤ a ∧ a < Page.EPD + 0x1000 ∧ a ≠ Page.EPD + 0x20) && !keep a) s.regs } : State).showQueues

/-- Application SRAM is lost in Standby (R150). -/
def State.loseAppSram (s : State) : State :=
  { s with mem := storeErase (fun a => decide (0x20000000 ≤ a ∧ a < 0x20400000)) s.mem
           sramTags := storeErase (fun a => decide (0x20000000 ≤ a ∧ a < 0x20400000)) s.sramTags }

/-- The registers and the memories of the application domain at its reset. -/
def State.resetAppRegs (s : State) (standby : Bool) : State :=
  let pilot := s.get F.VEH_STAT_STATE
  let s1 := [Page.CLU, Page.GPM, Page.U 1, Page.U 2, Page.U 3, Page.TW 0, Page.TW 1].foldl State.resetPat s
  let s2 := appPages.foldl State.resetPage ((s1.resetSys.resetTmr standby).resetSwPages)
  let s3 := if standby then s2.put F.VEH_STAT_STATE pilot else s2
  let s4 := (if standby then s3.standbySwitches else s3.resetSwitches).resetTen.resetReader.resetPanelApp
  let s5 := s4.resetOwned Page.EPD State.resetEpdApp
  let s6 := s5.resetOwned Page.DMA (·.resetPage Page.DMA)
  let s7 := s6.resetAppRings
  let s8 := s7.resetOwned Page.UPD State.resetUpd
  let s9 := s8.resetOwned Page.ETH fun t => { (t.resetPat Page.ETH).resetPage Page.ETH with ether := {} }
  let u0 := s9.uart 0
  let s10 := s9.resetOwned (Page.U 0) fun t => (t.resetPat (Page.U 0)).resetPage (Page.U 0)
  let keepU0 := s9.get (F.OWNER_DOMAIN.on (Page.U 0)) = 0
  { s10 with
    snaps := storeErase (fun k => k % 2 == 1) s10.snaps
    stages := storeErase (fun k => k % 2 == 1) s10.stages
    stalled := s10.stalled.filter fun w => domainOf w.who != .app
    uarts := (Vector.replicate 4 {}).set 0 (if keepU0 then u0 else {})
    tws := Vector.replicate 2 {}
    vehicle := {}, modem := {}, cluster := {}, alloc := {}, audio := {}, timers := Vector.replicate 8 {}, utcReq := none }

/-- A reset of the application domain with its cause of BOOT.APPRST: an open session ends at causes 2 to 4 (R140), vehicle role
is left (R362), a staged update is discarded (R729), and the application's pages and memories take their reset values. -/
def State.applicationReset (s : State) (cause : Nat) (standby : Bool) : State :=
  let s1 := if 1 ≤ cause ∧ cause ≤ 4 then s.closeSession 0x04 0 else s
  let s2 := ((s1.leaveVehicleRole 2).discardUpdate 2).put F.BOOT_APPRST_CAUSE cause
  let s3 : State := { s2 with boot := { s2.boot with appRuns := false, mismatch := false, ready := false, tmaxValid := false } }
  let s4 := ((s3.put F.BOOT_DEADLINE_MS 0).put F.BOOT_GOODLEFT_S 0).resetAppRegs standby
  let s5 := if standby then s4.loseAppSram else s4.put F.SYS_MODE_REQRES 0
  s5.settle

/-! ### Winter mode (R144 to R148) -/

/-- Legal Winter takes hold (R145): the channels, the pages, layer L0. -/
def State.holdWinter (s : State) : State :=
  ((s.holdIsland 1).takePages).toStage 5

/-- SEQ and existence of record `k` of the counted log (R302). -/
def State.countedExists (s : State) (k : Nat) : Bool :=
  s.linesVerify (0x3400 + 4 * (k - 1)) 4 && s.lineNat (0x3400 + 4 * (k - 1)) % 2 ^ 32 == k

/-- The newest existing counted record at or below `k`. -/
def State.newestCounted (s : State) : Nat → Option Nat
  | 0 => none
  | k + 1 => if s.countedExists (k + 1) then some (k + 1) else s.newestCounted k

/-- The reads of the counted log at a start (R284, R327): from the last record used down to the newest that exists. -/
def State.touchCounted (s : State) : State :=
  let n := s.get F.LDG_CLOG_USED
  let k := (s.newestCounted n).getD 1 - 1
  s.touch (0x3400 + 4 * k) (4 * (n - k))

/-- SEAL.LEC at a start (R307): the larger of the newest existing counted record's LEC and the newest mirror slot's; it never decreases (R327). -/
def State.restoreLec (s : State) : State :=
  let a := match s.newestCounted (s.get F.LDG_CLOG_USED) with
    | some k => bits (s.lineNat (0x3400 + 4 * (k - 1) + 1)) 64 32
    | none => 0
  let b := match s.newestSlot fun k => s.slotComplete k with
    | some k => bits (s.lineNat (mirrorLine k + 1)) 64 32
    | none => 0
  s.touchCounted.put F.SEAL_LEC (max (s.get F.SEAL_LEC) (max a b))

/-- The later of two places in time (cycle number, UTC). -/
def laterOf (a b : Nat × Nat) : Nat × Nat := if a.1 < b.1 ∨ (a.1 = b.1 ∧ a.2 < b.2) then b else a

/-- Cycle number and UTC of the event record whose first line is `l`, if it verifies. -/
def State.recordTime (s : State) (l : Nat) : Nat × Nat :=
  if s.linesVerify l 4 then (bits (s.lineNat l) 64 64, bits (s.lineNat (l + 1)) 0 64) else (0, 0)

/-- The last cycle number committed to the ledger, with the UTC of that commit (R56, R298): in the newest complete mirror slot
or the newest record of the logbook. -/
def State.lastCommit (s : State) : Nat × Nat :=
  let m := match s.newestSlot fun k => s.slotComplete k with
    | some k => (s.lineNat (mirrorLine k) / 2 ^ 64, s.lineNat (mirrorLine k + 1) % 2 ^ 64)
    | none => (0, 0)
  let c := match s.newestCounted (s.get F.LDG_CLOG_USED) with
    | some k => s.recordTime (0x3400 + 4 * (k - 1))
    | none => (0, 0)
  let r := if s.log.ringSeq = 0 then (0, 0) else s.recordTime (0x13400 + 4 * ((s.log.ringSeq - 1) % 8192))
  laterOf (laterOf m c) r

/-- Does the boot ROM serve, and no legal image run (R146, R751)? -/
def State.romLevel (s : State) : Bool := s.on F.BOOT_STAT_ROMW || s.boot.romOnly

/-- The bank-select record and the boot record are committed, with what waited for S4 (R159). -/
def State.commitStart (s : State) : State :=
  (({ s with boot := { s.boot with bselDue := false } } : State).when s.boot.bselDue State.commitBsel).commitBoot

/-- ROM Winter serves U0, the channels held open: before that the boot ROM commits the held events (R146, R308). -/
def State.romServe (s : State) : State :=
  let s1 := ((s.holdIsland 1).restoreLec.put F.LDG_CTL_EN 1).put F.LDG_STAT_RUN 1
  let s2 := s1.flushBootBuffer (s1.lastCommit.1 + 1)
  (s2.commitEvents s2.pendingRecords).toStage 5

/-- Enter Winter mode with its reason and the event that completed the entry (R144, R147); `rom` is the level. The island's cause is
recorded first (R29), and a session that is open is closed (Table 8-10). A later cause changes nothing of the entry; where it leaves no
legal image to run, the boot ROM serves under the reason and the level kept (DESIGN CHOICE, log entry 32). -/
def State.enterWinter (s : State) (reason code : Nat) (rom : Bool) : State :=
  if s.inWinter then
    (if rom then ({ s with boot := { s.boot with romOnly := !s.on F.BOOT_STAT_ROMW } } : State).romServe else s.holdWinter)
  else
    let s0 := (((s.holdIsland 1).put F.BOOT_WINTER_REASON reason).put F.BOOT_WINTER_CODE code).put F.BOOT_STAT_ROMW (b2n rom)
    let s1 := (((s0.closeSession 0x09 0).logE Page.BOOT 0x010C reason).irq Page.BOOT 1).commitStart
    let s2 : State := { s1 with boot := { s1.boot with ready := false } }
    if rom then s2.romServe else s2.holdWinter

/-- Winter mode is left (R148). -/
def State.leaveWinter (s : State) : State :=
  if s.inWinter then
    let r := s.get F.BOOT_WINTER_REASON
    ((((s.put F.BOOT_WINTER_REASON 0).put F.BOOT_WINTER_CODE 0).put F.BOOT_STAT_ROMW 0).put F.BOOT_STARTS_LCONSEC 0).logE Page.BOOT 0x010D r
  else s

/-! ### Choice of bank at a cold start (R126) -/

/-- The suspect mark of a bank. -/
def suspField (b : Nat) : Field := if b = 0 then F.BOOT_STAT_SUSP_SPR else F.BOOT_STAT_SUSP_AUT

/-- Mark a bank suspect. The boot record with the mark is committed by what follows. -/
def State.markSuspect (s : State) (b : Nat) : State := (s.put (suspField b) 1).irq Page.BOOT 3

/-- The active bank becomes `b`; a bank made active again is not an activated one. -/
def State.makeActive (s : State) (b : Nat) : State :=
  let s1 : State := { s with update := { s.update with active := b } }
  (s1.put F.UPD_STAT_PENDING 0).put F.BOOT_STAT_BANK b

/-- Does bank `b` hold a complete set recorded as confirmed? -/
def State.bankConfirmed (s : State) (b : Nat) : Bool := s.on (confField b) && s.on (complField b)

/-- First address of the legal SRAM (Table 17-1), where S0 puts the legal image (DESIGN CHOICE, log entry 95). -/
def legalSram : Nat := 0x10000000

/-- Does the manifest signature of a bank verify at S0 (R120, R725)? -/
def State.bankSigned (s : State) (b : Nat) : Bool := legalSigOk (s.legalBlock b)

/-- S0 copies the legal image of the active bank into legal SRAM in full (R121), with fresh tags. An image above the limit of R117, which fails
at S1, is not copied. -/
def State.copyLegal (s : State) : State :=
  let b := s.update.active
  let p := s.legalEntry b
  if p.size ≤ partLimit 1 then
    let t := s.setBytes legalSram (s.flashBytes (bankBase b + 0x10000) p.size)
    { t with sramTags := storeErase (fun a => decide (legalSram ≤ a ∧ a < legalSram + p.size)) t.sramTags }
  else s

/-- Does the copy in legal SRAM pass the checks of S1 (R117, R121): its size, its digest and the legal signature of the manifest? -/
def State.copyVerifies (s : State) : Bool :=
  let p := s.legalEntry s.update.active
  decide (p.size ≤ partLimit 1) && sha256 (s.bytes legalSram p.size) == p.digest && s.bankSigned s.update.active

/-- The active bank has failed at S0 or S1 (R126). A start goes on at S0 from the other bank once; where that bank fails as well, it is marked
and its event 0x0102 logged in the same way before Winter mode with reason 3 (DESIGN CHOICE, log entry 95). What is changed is committed at S4
or with the Winter entry (R159). -/
def State.bankFails (s : State) : State :=
  let b := s.update.active
  let s1 := (s.markSuspect b).logE Page.BOOT 0x0102 b
  if s1.bankConfirmed (1 - b) && !s1.boot.fellBack then
    let s2 := ((s1.makeActive (1 - b)).logE Page.BOOT 0x0116 (1 - b)).toStage 0
    let s3 : State := { s2 with boot := { s2.boot with fellBack := true, bselDue := true } }
    if s3.bankSigned (1 - b) then s3.copyLegal
    else ((s3.markSuspect (1 - b)).logE Page.BOOT 0x0102 (1 - b)).enterWinter 3 0x0102 true
  else s1.enterWinter 3 0x0102 true

/-! ### Cold starts -/

/-- The registers that a cold start keeps: what the ledger, the seal cell, the real-time clock and the hold-up store hold;
while the supply stays, the pages of the island and of the switch channels as well. -/
def coldKeeps (supply : Bool) (a : Nat) : Bool :=
  a == F.SYS_HOLDUP_PRED.addr || a == F.SEAL_STAT_STATE.addr || (decide (Page.SEAL + 0x40 ≤ a) && decide (a < Page.SEAL + 0xF00))
    || (List.range 8).any (fun p => a == (F.HEAD_BIND_TYPE.i p).addr || a == (F.HEAD_BINDSER_NUM.i p).addr || a == (F.HEAD_BINDSER_NUM.i p).addr + 4)
    || a == F.BOOT_APPRST_CAUSE.addr || a == F.LDG_STAT_CLOGLOW.addr || (decide (F.LDG_MSEQ.addr ≤ a) && decide (a ≤ F.LDG_SESSRING_NEXT.addr))
    || (decide ((F.LDG_PARTWR.i 0).addr ≤ a) && decide (a ≤ F.LDG_PFLOG_US.addr)) || a == F.SIG_SEQ.addr || a == F.SIG_ENDRSN_REASON.addr
    || (List.range 16).any (fun k => a == (F.SIG_TCNT.i k).addr)
    || a == F.RTC_STAT_VALID.addr || a == F.RTC_UTC.addr || a == F.RTC_UTC.addr + 4 || a == F.RTC_SUPV_MV.addr
    || (!supply && decide (Page.SAF ≤ a ∧ a < Page.SW 1 + 0x1000))

/-- The parts of kept words that are not kept: ARMED and PUSHED, RUN, LOCKED and MIRBUSY, EVLOST, HELD and SLEWING. -/
def State.trimKept (s : State) : State :=
  let s1 := ((s.put F.SEAL_STAT_ARMED 0).put F.SEAL_STAT_PUSHED 0).put F.LDG_EVRING_EVLOST 0
  ((((s1.put F.LDG_STAT_RUN 0).put F.LDG_STAT_LOCKED 0).put F.LDG_STAT_MIRBUSY 0).put F.RTC_STAT_HELD 0).put F.RTC_STAT_SLEWING 0

/-- Every domain is reset; what is kept is the ledger and the flash, the seal cell and its contacts, the real-time clock, and,
while the supply stays, the safety island and the switch channels (R379, R472). -/
def State.coldReset (s0 : State) (supply : Bool) : State :=
  let s := if supply then s0.dropIsland else s0.resetSwPages.resetSwitches
  let s1 := s.resetPanel
  let t : State := { State.reset with
    regs := storeErase (fun a => !coldKeeps supply a) s.regs
    flash := s.flash, ledger := s.ledger, pending := s.pending, fresh := s.fresh, bus := s.bus
    mem := if supply then [] else s1.mem, sramTags := if supply then [] else s1.sramTags
    log := { ringSeq := s.log.ringSeq, order := s.log.order, satLogged := s.log.satLogged, lowLogged := s.log.lowLogged }
    angle := { now := if supply then 0 else s.angle.now, usOrigin := if supply then 0 else s.angle.now, utcFrac := s.angle.utcFrac }
    sealSt := { cell := s.sealSt.cell, cellCover := s.sealSt.cellCover, trans := s.sealSt.trans,
                stalePress := if supply then s.on F.SEAL_STAT_PUSH else s.sealSt.stalePress }
    boot := { legalReset := s.boot.legalReset, pfailReturn := s.boot.pfailReturn }
    commit := { discarded := s.commit.discarded, lastMirror := if supply then 0 else s.commit.lastMirror }
    heads := s.heads.map fun (h : HeadPort) => ({ plugged := h.plugged } : HeadPort)
    safety := s.safety, panel := s1.panel }
  t.trimKept

/-- Once the supply has become valid, the lanes and the oscillator of the island run. -/
def State.startIsland (s : State) : State := (s.put F.SAF_STAT_LANEOK 1).put F.SAF_STAT_OSCOK 1

/-- Stage S0 (R120, R126, R139): the legal domain leaves reset, the bank-select word is read, and the manifest of the active bank
is checked. `cause`: 0 supply, 1 watchdog, 2 lockstep mismatch, 3 activation or recovery. -/
def State.stageS0 (s : State) (cause : Nat) (z : ColdCheck) : State :=
  let s1 := s.loadBoot.loadBsel
  let s2 := ((s1.put F.BOOT_STAT_BANK s1.update.active).put F.SYS_HOLDUP_PRED z.pred.toNat).put F.SYS_HOLDUP_HUREADY 1
  let s3 : State := { s2 with boot := { s2.boot with powered := true, legalRuns := true, resetCause := cause } }
  let s4 := s3.noteEngine.noteMode.logE Page.BOOT 0x0101 cause
  let s5 := s4.when s.boot.pfailReturn (·.logE Page.LDG 0x040E 0)
  let s6 := s5.when s.boot.legalReset (·.logE Page.LDG 0x040F 0)
  let s7 := s6.when (decide (s.commit.discarded > 0)) (·.logE Page.LDG 0x040B s.commit.discarded)
  let s8 : State := { s7 with boot := { s7.boot with pfailReturn := false, legalReset := false }
                              commit := { s7.commit with discarded := 0 } }
  if s8.inWinter ∧ s8.on F.BOOT_STAT_ROMW then s8.romServe
  else if !s8.inWinter ∧ s8.get F.BOOT_STARTS_LCONSEC ≥ 3 then s8.enterWinter 6 (if cause = 2 then 0x0111 else 0x0110) true
  else if s8.bankSigned s8.update.active then s8.copyLegal
  else s8.bankFails

/-- A cold start (R120); `pre` logs what preceded it into the boot event buffer. An update that was staged is discarded
(R729), and vehicle role is left while the supply stays (R362). -/
def State.coldStart (s : State) (supply : Bool) (cause : Nat) (z : ColdCheck) (pre : State → State) : State :=
  let staged := s.updState != 0
  let role := s.on F.VEH_STAT_VROLE && !supply
  let s1 := pre (if supply then (s.coldReset true).startIsland else (s.coldReset false).settle)
  ((s1.when role (·.logE Page.VEH 0x0511 2)).when staged (·.logE Page.UPD 0x0F06 4)).stageS0 cause z

/-- The pending records are committed before a cold start that the module makes by itself. -/
def State.drainLog (s : State) : State := if s.commitOpen then s.commitEvents (s.pendingRecords + s.log.waiting.length) else s

/-! ### Fallback and failed starts -/

/-- Before a reset of the legal domain that the module makes by itself: the accumulators close, a mirror slot and the pending
records are committed. -/
def State.quiesce (s : State) : State :=
  if s.commitOpen then
    let s1 := s.freezeEngine.stopPulses
    (s1.commitMirror s1.cycles s1.utc false false).drainLog
  else s

/-- The module returns to the previous bank and makes a cold start (R749, R750). -/
def State.previousBank (s : State) (code arg : Nat) (z : ColdCheck) : State :=
  let b := s.update.active
  let s1 := (((s.makeActive (1 - b)).put (complField b) 0).put F.BOOT_STARTS_CONSEC 0).irq Page.UPD 3
  let s2 := (s1.commitBsel.commitBoot).logE Page.UPD code arg
  (s2.applicationReset 1 false).quiesce.coldStart false 3 z id

/-- CONFIRMATION_FALLBACK (R749): cause 1 STARTS, 2 SLEFT, 3 CONSEC, 4 the scan of R132. -/
def State.fallBack (s : State) (cause : Nat) (z : ColdCheck) : State := s.previousBank 0x0F12 cause z

/-- A reset of the application domain that fails the start, unless it has become good and no tag mismatch has occurred in it (R131): event
0x0108, FAILED_START_COUNT (R136 to R138), and the application start, Winter mode or fallback that follows. -/
def State.failStart (s : State) (cause code : Nat) (z : ColdCheck) : State :=
  let good := s.on F.BOOT_STAT_GOOD
  let always := s.boot.mismatch
  let s1 := (s.applicationReset cause false).when (!good) (·.logE Page.BOOT 0x0108 cause)
  if s.boot.failCounted ∨ (good ∧ !always) then s1.toStage 3
  else
    let n := min 3 (s.get F.BOOT_STARTS_CONSEC + 1)
    let s2 := s1.put F.BOOT_STARTS_CONSEC n
    let s3 := ({ s2 with boot := { s2.boot with failCounted := true } } : State).commitBoot
    if n < 3 then s3.toStage 3
    else if s3.on F.UPD_STAT_PENDING then s3.fallBack 3 z
    else s3.enterWinter 1 code false

end Sys2Proof.Machine
end

