-- ==== Sys2Proof/Machine/Uart.lean ====
section
/-!
DEFINITION. Machine/Uart.lean: the UARTs U0 to U3 (chapter 18, section 2).
-/

namespace Sys2Proof.Machine

/-- Do U2 and U3 carry RS-485 (Table 18-1)? -/
def rs485 (n : Fin 4) : Bool := decide (2 ≤ n.val)

/-- Does U `n` run? After t₀ of the power-fail sequence it has stopped (R714). -/
def State.uartOn (s : State) (n : Fin 4) : Bool := s.on (F.U_CTL_EN.i n) && !s.boot.pfail

/-- A bit time in 1/192 of a reference tick: BRD / 16 periods of the serial clock, which is 12 times the reference (R681). -/
def State.bitTime (s : State) (n : Fin 4) : Nat := s.get (F.U_BAUD_BRD.i n)

/-- RTS of U0 and U1 (R687). -/
def State.rtsLevel (s : State) (n : Fin 4) : Bool :=
  let level := (s.uart n).rxq.length
  let run := s.uartOn n && s.on (F.U_CTL_RXEN.i n)
  if rs485 n ∨ !run then false
  else if s.on (F.U_FLOW_RTSEN.i n) then
    if level ≥ s.get (F.U_FLOW_RTSOFF.i n) then false
    else if level ≤ s.get (F.U_FLOW_RTSON.i n) then true
    else s.on (F.U_STAT_RTS.i n)
  else true

/-- The registers that show the queues: QLEVEL, RXDATA, RTS, and the trigger levels crossed (R683, R687). While a ring
serves the receive direction, RXDATA reads EMPTY (R679). -/
def State.noteUart (s : State) (n : Fin 4) : State :=
  let u := s.uart n
  let oldRx := s.get (F.U_QLEVEL_RX.i n)
  let oldTx := s.get (F.U_QLEVEL_TX.i n)
  let rt := s.get (F.U_TRIG_RXTRIG.i n)
  let tt := s.get (F.U_TRIG_TXTRIG.i n)
  let s1 := (s.put (F.U_QLEVEL_RX.i n) u.rxq.length).put (F.U_QLEVEL_TX.i n) u.txq.length
  let front := if s.on (F.U_RINGS_RXR.i n) then 0x8000 else match u.rxq with
    | [] => 0x8000
    | e :: _ => e % 4096
  let s2 := (s1.put (F.U_RXDATA.i n) front).put (F.U_STAT_RTS.i n) (b2n (s1.rtsLevel n))
  let s3 := s2.when (decide (oldRx < rt ∧ rt ≤ u.rxq.length)) (·.irq (Page.U n) 0)
  s3.when (decide (tt < oldTx ∧ u.txq.length ≤ tt)) (·.irq (Page.U n) 1)

/-- Set the queues and show them; a ring of the block becomes ready or waits. -/
def State.putUart (s : State) (n : Fin 4) (u : Uart) : State :=
  (((s.setUart n u).noteUart n).refreshPort (9 + 2 * n.val)).refreshPort (10 + 2 * n.val)

/-- Bits of a character: 7 or 8. -/
def State.charBits (s : State) (n : Fin 4) : Nat := if s.get (F.U_FMT_DATA.i n) = 0 then 7 else 8

/-- A character time in the same unit: start bit, data, parity where one is selected, one or two stop bits (R680, R683). -/
def State.charTime (s : State) (n : Fin 4) : Nat :=
  (2 + s.charBits n + (if s.get (F.U_FMT_PARITY.i n) = 0 then 0 else 1) + s.get (F.U_FMT_STOP2.i n)) * s.bitTime n

/-- The first reference tick at or after an instant in 1/192 of a tick. -/
def tickAt (t : Nat) : Nat := (t + 191) / 192

/-- A character into the receive queue (R684, R685). -/
def State.storeChar (s : State) (n : Fin 4) (data : Nat) (fe pe brk : Bool) : State :=
  let page := Page.U n
  let e := data % 2 ^ s.charBits n + 256 * b2n fe + 512 * b2n pe + 1024 * b2n brk
  let u := { s.uart n with rxAt := some (192 * s.angle.now) }
  let full := u.rxq.length ≥ s.uartSize n
  let s1 := s.when fe (·.incSat (F.U_CNT_FE.i n)) |>.when pe (·.incSat (F.U_CNT_PE.i n))
  let s2 := s1.when (fe || pe) (·.irq page 4)
  let s3 := s2.when brk fun t => ((t.incSat (F.U_CNT_BRK.i n)).irq page 5).logE page 0x0E02 (args [pageIndex page])
  if full then
    let s4 := (s3.incSat (F.U_CNT_OVW.i n)).irq page 3
    let s5 := if u.ovwRun then s4 else s4.logE page 0x0E01 (args [pageIndex page, u.rxq.length])
    s5.putUart n { u with rxq := u.rxq.dropLast ++ [e + 2048], ovwRun := true }
  else s3.putUart n { u with rxq := u.rxq ++ [e], ovwRun := false }

/-- A character from the line at the receiver (R764, R690): to the checker while CHK is set; discarded while the RS-485
driver is enabled without ECHO. -/
def State.receiveChar (s : State) (n : Fin 4) (data : Nat) (fe pe brk : Bool) : State :=
  if !s.uartOn n ∨ !s.on (F.U_CTL_RXEN.i n) then s
  else if s.chkOn (Page.U n) then s.checkBits (Page.U n) 0 (lsbBits (s.charBits n) data)
  else if rs485 n ∧ s.on (F.U_STAT_DE.i n) ∧ !s.on (F.U_RS485_ECHO.i n) ∧ s.loopOf (Page.U n) = 0 then s
  else s.storeChar n (if brk then 0 else data) (fe || brk) pe brk

/-- UART_CHARACTER_RECEIVED (R683 to R685). In LOOP 1 the line is not received (R765). -/
def execUartCharacterReceived (n : Fin 4) (data : BitVec 8) (fe pe brk : Bool) (s : State) : Host.Outcome State Fault Refusal :=
  .next (if s.loopOf (Page.U n) = 1 then s else s.receiveChar n data.toNat fe pe brk)

/-- Word 2 of a UART element (R693). -/
def State.uartWord2 (s : State) (n : Fin 4) (stop : Nat) (ovw : Bool) : Nat := stop + 8 * b2n ovw + 16 * s.get (F.U_RINGS_WIDE.i n)

/-- The line has been idle for IDLEG character times (R683, R693): RXIDLE; an element in progress ends with END 2 behind the characters received so far. -/
def State.idleGap (s : State) (n : Fin 4) : State :=
  if !s.uartOn n ∨ s.get (F.U_TRIG_IDLEG.i n) = 0 then s
  else
    let u := { s.uart n with rxAt := none }
    let s1 := (s.irq (Page.U n) 2).setUart n u
    match u.rxq.getLast? with
    | some e => s1.setUart n { u with rxq := u.rxq.dropLast ++ [e % 4096 + 4096] }
    | none => match s1.ringFor (9 + 2 * n.val) with
      | none => s1
      | some r =>
        let g := s1.ring r
        if g.desc.isSome ∧ g.moved > 0 ∧ g.fin = none then
          (s1.setRing r { g with fin := some (1, some (s1.uartWord2 n 2 g.elemOvw), none), elemOvw := false }).refreshRing r
        else s1

/-! ### Transmitting -/

/-- May the transmitter begin a character now (R688, R692)? -/
def State.txMay (s : State) (n : Fin 4) : Bool :=
  s.uartOn n && s.on (F.U_CTL_TXEN.i n) && !s.on (F.U_STAT_TXHOLD.i n)

/-- The instant at which a start bit begins: the end of the character before, with no gap beyond its stop bits (R686), or now; DEPRE bit times
later where the RS-485 driver is off (R690). -/
def State.txBegin (s : State) (n : Fin 4) : Nat :=
  let now := 192 * s.angle.now
  let from_ := if now < (s.uart n).lineEnd + 192 then (s.uart n).lineEnd else now
  from_ + if rs485 n && s.loopOf (Page.U n) != 1 && !s.on (F.U_STAT_DE.i n) then s.get (F.U_RS485_DEPRE.i n) * s.bitTime n else 0

/-- The line carries a character or a break of `len`: TXBUSY, and on U2 and U3 the driver (R690), which LOOP 1 leaves off. -/
def State.drive (s : State) (n : Fin 4) (len : Nat) : State :=
  ((s.put (F.U_STAT_TXBUSY.i n) 1).when (rs485 n && s.loopOf (Page.U n) != 1) (·.put (F.U_STAT_DE.i n) 1)).setUart n
    { s.uart n with lineEnd := s.txBegin n + len }

/-- Start the next character, or the break that is due (R686, R688); while a generator runs, the next character of its
sequence. -/
def State.startTx (s : State) (n : Fin 4) : State :=
  let u := s.uart n
  if u.cur.isSome ∨ u.brkNow ∨ !s.txMay n then s
  else if s.genOn (Page.U n) then
    let g := s.genBits (Page.U n) 0 (s.charBits n)
    let t := g.2.drive n (s.charTime n)
    t.setUart n { t.uart n with cur := some (ofLsb g.1) }
  else match u.txq with
    | c :: rest =>
      if !rs485 n ∧ s.on (F.U_FLOW_CTSEN.i n) ∧ !s.on (F.U_STAT_CTS.i n) then s.setUart n { u with held := true }
      else
        let t := s.drive n (s.charTime n)
        t.putUart n { t.uart n with txq := rest, cur := some c, held := false }
    | [] =>
      if u.brkDue then
        let t := s.drive n (2 * s.charTime n + s.bitTime n)
        t.setUart n { t.uart n with brkDue := false, brkNow := true }
      else s

/-- Queue a character for transmission. -/
def State.queueTx (s : State) (n : Fin 4) (c : Nat) : State :=
  let u := s.uart n
  (s.putUart n { u with txq := u.txq ++ [c % 2 ^ s.charBits n] }).startTx n

/-- UART_TXDATA_WRITE (R686, R679, R692, R765): queued, or discarded and counted. -/
def execUartTxdataWrite (n : Fin 4) (v : Word) (s : State) : Host.Outcome State Fault Refusal :=
  .next (if (s.uart n).txq.length ≥ s.uartSize n ∨ s.on (F.U_RINGS_TXR.i n) ∨ s.on (F.U_STAT_TXHOLD.i n) ∨ s.genOn (Page.U n) then
    s.incSat (F.U_CNT2_DISC.i n) else s.queueTx n (v.toNat % 256))

/-- Flush the transmit queue. -/
def State.flushTx (s : State) (n : Fin 4) : State := s.putUart n { s.uart n with txq := [], held := false }

/-- The RS-485 driver is disabled. -/
def State.driverOff (s : State) (n : Fin 4) : State :=
  (s.put (F.U_STAT_DE.i n) 0).setUart n { s.uart n with collRun := false }

/-- A sent character differs from the line as read back (R691). -/
def State.collision (s : State) (n : Fin 4) (sent back : Nat) : State :=
  let page := Page.U n
  let s1 := (s.incSat (F.U_CNT2_COLL.i n)).irq page 7
  let s2 := if (s1.uart n).collRun then s1
    else (s1.setUart n { s1.uart n with collRun := true }).logE page 0x0E03 (args [pageIndex page, sent, back])
  if s2.on (F.U_RS485_CDSTOP.i n) then ((s2.flushTx n).driverOff n).put (F.U_STAT_TXHOLD.i n) 1 else s2

/-- The character or break on the line has ended (R686, R691); `readBack` is the character as the
RS-485 receiver read it. -/
def State.charSent (s : State) (n : Fin 4) (readBack : Nat) : State :=
  let u := s.uart n
  if u.cur = none ∧ !u.brkNow then s
  else
    let s1 := s.setUart n { u with cur := none, brkNow := false }
    let s2 := match u.cur with
      | none => s1
      | some c =>
        if s1.loopOf (Page.U n) = 1 then s1.receiveChar n c false false false
        else if rs485 n ∧ s1.on (F.U_STAT_DE.i n) ∧ readBack % 2 ^ s1.charBits n ≠ c then s1.collision n c readBack
        else s1
    let s3 := s2.startTx n
    let v := s3.uart n
    if v.cur.isSome ∨ v.brkNow then s3
    else
      let s4 := s3.put (F.U_STAT_TXBUSY.i n) 0
      if v.txq = [] then s4.irq (Page.U n) 6 else s4

/-- UART_BREAK_COMMAND (R686): a break follows once the queue is empty. -/
def execUartBreakCommand (n : Fin 4) (s : State) : Host.Outcome State Fault Refusal :=
  .next ((s.setUart n { s.uart n with brkDue := true }).startTx n)

/-- Empty the receive queue. -/
def State.flushRx (s : State) (n : Fin 4) : State := s.putUart n { s.uart n with rxq := [], ovwRun := false }

/-- UART_RX_FLUSH (R683). -/
def execUartRxFlush (n : Fin 4) (s : State) : Host.Outcome State Fault Refusal := .next (s.flushRx n)

/-- UART_TX_FLUSH (R686). -/
def execUartTxFlush (n : Fin 4) (s : State) : Host.Outcome State Fault Refusal := .next (s.flushTx n)

/-- CMD.TXRESUME clears TXHOLD (R692). -/
def State.resumeTx (s : State) (n : Fin 4) : State :=
  ((s.put (F.U_STAT_TXHOLD.i n) 0).putUart n (s.uart n)).startTx n

/-- UART_TX_RESUME (R692). -/
def execUartTxResume (n : Fin 4) (s : State) : Host.Outcome State Fault Refusal := .next (s.resumeTx n)

/-- A write of Un.CMD. -/
def State.writeUartCmd (s : State) (n : Fin 4) (v : Nat) : State :=
  (((s.when (bit v 0) (·.flushRx n)).when (bit v 1) (·.flushTx n)).when (bit v 2) fun t =>
    (t.setUart n { t.uart n with brkDue := true }).startTx n).when (bit v 3) (·.resumeTx n)

/-- A read of Un.RXDATA: the oldest entry, which is removed, or EMPTY. -/
def State.readRxData (s : State) (n : Fin 4) : Nat × State :=
  let u := s.uart n
  if s.on (F.U_RINGS_RXR.i n) then (0x8000, s)
  else match u.rxq with
    | [] => (0x8000, s)
    | e :: rest => (e % 4096, s.putUart n { u with rxq := rest })

/-- UART_RXDATA_READ (R683, R679). -/
def execUartRxdataRead (n : Fin 4) (s : State) : Host.Outcome State Fault Refusal :=
  let r := s.readRxData n
  .next (r.2.busOk r.1)

/-- May the RS-485 driver be disabled: it is enabled, and nothing is queued or sent (R690)? -/
def State.driverIdle (s : State) (n : Fin 4) : Bool :=
  let u := s.uart n
  rs485 n && s.on (F.U_STAT_DE.i n) && u.txq.isEmpty && u.cur.isNone && !u.brkNow && !s.genOn (Page.U n)

/-- RS485_DRIVER_FAULT (R692). -/
def execRs485DriverFault (n : Fin 4) (thermal : Bool) (s : State) : Host.Outcome State Fault Refusal :=
  if rs485 n ∧ s.on (F.U_STAT_DE.i n) then
    let page := Page.U n
    let s1 := (((s.driverOff n).incSat (F.U_CNT2_DRVF.i n)).irq page 8).logE page 0x0E04 (args [pageIndex page, if thermal then 2 else 1])
    let s2 := (s1.setUart n { s1.uart n with cur := none, brkNow := false, brkDue := false, lineEnd := 192 * s.angle.now }).put (F.U_STAT_TXBUSY.i n) 0
    .next ((s2.put (F.U_STAT_TXHOLD.i n) 1).flushTx n)
  else .next s

/-- CTS_CHANGE (R688): STAT.CTS follows the input of U0 or U1; a transmitter held by it starts its next character. -/
def execCtsChange (n : Fin 4) (ready : Bool) (s : State) : Host.Outcome State Fault Refusal :=
  .next (if rs485 n then s else (s.put (F.U_STAT_CTS.i n) (b2n ready)).startTx n)

/-- Everything that U `n` was doing is lost (R712, R714). -/
def State.stopUart (s : State) (n : Fin 4) : State :=
  ((s.setUart n {}).setWord (F.U_STAT_TXBUSY.i n).addr 0).noteUart n

end Sys2Proof.Machine
end

