-- ==== Sys2Proof/Machine/Alarms.lean ====
section
/-!
DEFINITION. Machine/Alarms.lean: the angle alarms (chapter 2, section 4) and the reference tick of a module whose queue is
empty; the commands that let the clock run on to an instant of their own: of the clock itself (R48, R66, R73, R76), the pulse outputs,
the slots, grants and allowances of the cluster, the panel, prompt audio and the serial ports.
-/

namespace Sys2Proof.Machine

/-- A field of alarm `n`: ALM0 to ALM15 stand in ANG, the others in TMR (R58). -/
def almField (n : Nat) (a t : Field) : Field := if n < 16 then a.i n else t.i (n - 16)

def almArm (n : Nat) : Field := almField n F.ANG_ALM_ARM F.TMR_ALM_ARM
def almPer (n : Nat) : Field := almField n F.ANG_ALM_PER F.TMR_ALM_PER
def almLatepol (n : Nat) : Field := almField n F.ANG_ALM_LATEPOL F.TMR_ALM_LATEPOL
def almWake (n : Nat) : Field := almField n F.ANG_ALM_WAKE F.TMR_ALM_WAKE
def almLockreq (n : Nat) : Field := almField n F.ANG_ALM_LOCKREQ F.TMR_ALM_LOCKREQ
def almAct (n : Nat) : Field := almField n F.ANG_ALM_ACT F.TMR_ALM_ACT
def almArg (n : Nat) : Field := almField n F.ANG_ALM_ARG F.TMR_ALM_ARG
def almFired (n : Nat) : Field := almField n F.ANG_ALM_FIRED F.TMR_ALM_FIRED
def almLate (n : Nat) : Field := almField n F.ANG_ALM_LATE F.TMR_ALM_LATE
def almSkip (n : Nat) : Field := almField n F.ANG_ALM_SKIP F.TMR_ALM_SKIP
def almAngle (n : Nat) : Field := almField n F.ANG_ALM_ANGLE F.TMR_ALM_ANGLE
def almPeriod (n : Nat) : Field := almField n F.ANG_ALM_PERIOD F.TMR_ALM_PERIOD
def almTarget (n : Nat) : Field := almField n F.ANG_ALM_TARGET F.TMR_ALM_TARGET

/-- The phase accumulator, cycle number included, in units of 2⁻⁴⁸ cycle. -/
def State.phaseNow (s : State) : Nat := s.cycles * 2 ^ 48 + s.angle.phase

/-- The target of an alarm in the same units. -/
def State.almAt (s : State) (n : Nat) : Nat := s.getW (almTarget n) * 2 ^ 48 + s.get (almAngle n) * 2 ^ 32

/-- Is alarm `n` armed and its target reached (R59)? -/
def State.almDue (s : State) (n : Nat) : Bool := s.on (almArm n) && decide (s.almAt n ≤ s.phaseNow)

/-- May alarm `n` use ACT with ARG (Table 2-3)? -/
def actOk (n act arg : Nat) : Bool :=
  match act with
  | 0 => true
  | 1 => decide (16 ≤ n ∧ arg < 24)
  | 2 => decide (arg < 24)
  | 3 => true
  | 4 => decide (n < 16)
  | 5 => decide (16 ≤ n ∧ arg < 8)
  | 6 => if n < 16 then decide (arg < 32) else decide (32 ≤ arg)
  | 7 => decide (16 ≤ n)
  | _ => false

/-- Alarm `n` has set FIRED, LATE or SKIP; event 0x84 for a late or skipped alarm of ANG. In Standby, TMR.ALMEV and the
interrupt are lost with the rest of the page (R67). -/
def State.noteAlm (s : State) (n : Nat) (odd : Bool) : State :=
  if n < 16 then
    let s1 := (s.putBit F.ANG_ALMEV_BITS n true).irq Page.ANG 5
    s1.when odd (·.logE Page.ANG (s.angCode 0x84) n)
  else if s.boot.standby then s
  else if n < 48 then (s.putBit F.TMR_ALMEV_L (n - 16) true).irq Page.TMR 8
  else (s.putBit F.TMR_ALMEV_H_BITS (n - 48) true).irq Page.TMR 8

/-- LATE_ALARM (R63): the target is already reached; a discarded alarm clears ARM. -/
def State.lateAlm (s : State) (n : Nat) : State :=
  let s1 := (s.put (almLate n) 1).noteAlm n true
  if s.on (almLatepol n) then s1.put (almArm n) 0 else s1

/-- A commit of alarm `n` by the write of its fourth word (R61, R62, R63, R66). -/
def State.commitAlarm (s : State) (n v : Nat) : State :=
  let d : Domain := if n < 16 then .legal else .app
  let a := (almArm n).addr
  let w := s.commitValue d a 4 v
  let useAct := actOk n (bits w 8 4) (bits w 16 8)
  let usePer := !(bit w 1 && bits w 48 16 == 0)
  let s1 := s.unstage d a 3
  let s2 := (((s1.put (almArm n) (bits w 0 1)).put (almLatepol n) (bits w 2 1)).put (almWake n) (bits w 3 1)).put (almLockreq n) (bits w 4 1)
  let s3 := if useAct then (s2.put (almAct n) (bits w 8 4)).put (almArg n) (bits w 16 8) else s2
  let s4 := if usePer then (s3.put (almPer n) (bits w 1 1)).put (almPeriod n) (bits w 48 16) else s3
  let s5 := ((s4.put (almFired n) 0).put (almLate n) 0).put (almSkip n) 0
  let s6 := (s5.put (almAngle n) (bits w 32 16)).putW (almTarget n) (bits w 64 64)
  if s6.almDue n then s6.lateAlm n else s6

/-- Does the action of alarm `n` target a block that has no power in Standby (R67)? -/
def State.almUnpowered (s : State) (n : Nat) : Bool :=
  s.boot.standby && ([1, 2, 5, 7].contains (s.get (almAct n)) || (s.get (almAct n) == 6 && decide (32 ≤ s.get (almArg n))))

/-- The actions of the alarms that fire on one tick, merged (R65): channels on and off, a panel frame, an activation, timers,
rings, the staged duty. `alm15` is the activation for which the legal image keeps ALM15 (R740). -/
structure AlarmActs where
  setM : Nat := 0
  clr : Nat := 0
  frame : Bool := false
  update : Bool := false
  alm15 : Bool := false
  timers : List Nat := []
  rings : List Nat := []
  duty : Bool := false
deriving DecidableEq, Repr

/-- Add the action of alarm `n`. -/
def AlarmActs.add (a : AlarmActs) (n act arg : Nat) : AlarmActs :=
  match act with
  | 1 => { a with setM := a.setM ||| 2 ^ arg }
  | 2 => { a with clr := a.clr ||| 2 ^ arg }
  | 3 => { a with frame := true }
  | 4 => if n = 15 then { a with alm15 := true } else { a with update := true }
  | 5 => { a with timers := if a.timers.contains arg then a.timers else a.timers ++ [arg] }
  | 6 => { a with rings := if a.rings.contains arg then a.rings else a.rings ++ [arg] }
  | 7 => { a with duty := true }
  | _ => a

/-- After it has fired or skipped, a one-shot alarm clears ARM, and a periodic one moves its target on (R62, R64); a target that
is past again makes it late (R63). -/
def State.almNext (s : State) (n : Nat) : State :=
  if s.on (almPer n) then
    let s1 := s.putW (almTarget n) (s.getW (almTarget n) + s.get (almPeriod n))
    if s1.almDue n then s1.lateAlm n else s1
  else s.put (almArm n) 0

/-- Alarm `n` fires or withholds its action (R59, R64, R67). -/
def State.fireAlm (r : AlarmActs × State) (n : Nat) : AlarmActs × State :=
  let s := r.2
  if (s.on (almLockreq n) && !s.locked) || s.almUnpowered n then
    let s1 := (s.put (almSkip n) 1).noteAlm n true
    (r.1, (if n = 15 then s1.disarmCluster 3 else s1).almNext n)
  else
    (r.1.add n (s.get (almAct n)) (s.get (almArg n)), ((s.put (almFired n) 1).noteAlm n false).almNext n)

/-- A timer that an alarm starts takes part only with TRIG = 1 (R68). -/
def State.triggerTimer (s : State) (n : Nat) : State :=
  if h : n < 8 then (if s.on (F.TMR_T_CTL_TRIG.i n) then s.startTimer ⟨n, h⟩ else s) else s

/-- ACT 4 of ALM00 to ALM14 (Table 2-3) stands for the write that begins an activation, under its condition (R60, R740): the engine
is PREPARED. -/
def State.activateByAlarm (s : State) : State := if s.updState = 4 then s.beginActivation (if s.inWinter then 1 else 0) else s

/-- The merged actions take place; an off request prevails over an on request (R65). -/
def State.actAlarms (s : State) (a : AlarmActs) : State :=
  let s1 := if a.setM = 0 ∧ a.clr = 0 then s else s.request (a.setM &&& (2 ^ 24 - 1 - a.clr)) a.clr
  let s2 := (s1.when a.duty State.applyStagedDuty).when a.frame State.alarmFrame
  ((a.rings.foldl State.kickRing (a.timers.foldl State.triggerTimer s2)).when a.update State.activateByAlarm).when a.alm15 State.fireAlm15

/-- An alarm that has reached its target in Standby wakes the application domain when its WAKE is 1, whether it acted or withheld its
action (R67, R151); the first one in ascending order is recorded. -/
def State.wakeByAlarms (s : State) (woken : List Nat) : State :=
  match woken with
  | n :: _ => if s.boot.standby then ((s.put F.SYS_WAKE_ALARM 1).put F.SYS_WAKE_ALMNUM n).leaveStandby 4 n else s
  | [] => s

/-- Every alarm that is due fires, in ascending order. A late alarm that was discarded is armed no more, so that it is not among them. -/
def State.fireDue (s : State) : State :=
  let due := (List.range 64).filter s.almDue
  let r := due.foldl State.fireAlm ({}, s)
  if due = [] then s else (r.2.actAlarms r.1).wakeByAlarms (due.filter fun n => s.on (almWake n))

/-! ### The clock runs on -/

/-- The reference ticks, at least 1, until armed alarm `k` has reached its target. -/
def State.almWait (s : State) (k : Nat) : Nat := max 1 (s.ticksTo (s.almAt k - s.phaseNow))

/-- The reference ticks until the next alarm fires, `n` at most. An alarm whose target is already reached fires on the next tick (R63);
one whose target lies ahead of a clock that is held does not fire. -/
def State.nextFiring (s : State) (n : Nat) : Nat :=
  (List.range 64).foldl (fun m k =>
    if s.on (almArm k) && (s.angleRuns || decide (s.almAt k ≤ s.phaseNow)) then min m (s.almWait k) else m) n

/-- `n` reference ticks pass, and every alarm fires on the tick on which it reaches its target (R59). Each turn takes one tick or more,
so that `fuel` = `n` is enough. -/
def State.runFor (s : State) : Nat → Nat → State
  | 0, _ => s
  | fuel + 1, n => if n = 0 then s else ((s.advance (s.nextFiring n)).fireDue).runFor fuel (n - s.nextFiring n)

/-- `n` reference ticks pass. -/
def State.run (s : State) (n : Nat) : State := s.runFor n n

/-- CYCLE_END (R48): the clock runs on to the next carry out of bit 47. -/
def execCycleEnd (s : State) : Host.Outcome State Fault Refusal :=
  .next (if s.angleRuns then s.run (s.ticksTo (2 ^ 48 - s.angle.phase)) else s)

/-- ALARM_FIRE (R59): the clock runs on to the targets of the armed alarms named, and every alarm fires on its own tick; a target that is
already reached fires now. -/
def State.fireAlarms (s : State) (ns : List (Fin 64)) : State :=
  let target := (ns.filter fun n => s.on (almArm n.val)).foldl (fun (m : Nat) (n : Fin 64) => max m (s.almAt n.val)) 0
  if s.angleRuns ∧ s.phaseNow < target then s.run (s.ticksTo (target - s.phaseNow)) else s.fireDue

def execAlarmFire (ns : List (Fin 64)) (s : State) : Host.Outcome State Fault Refusal := .next (s.fireAlarms ns)

/-! ### The slots of the Llyn link -/

/-- 1.5 ms, from the passing of angle 0x0000 or 0x8000 to the start of a slot, and 7.0 ms, the length of a slot (R487). -/
def slotLead : Nat := 24576
def slotLen : Nat := 114688

/-- The tick at which slot A (`b` false) or B next begins: 24 576 ticks after the angle clock passed 0x0000 or 0x8000 for the last time,
unless that slot has begun already, then after it passes there the next time (R487); none while the clock is held. -/
def State.slotTick (s : State) (b : Bool) : Option Nat :=
  let point := if b then 2 ^ 47 else 0
  let gone := (s.angle.phase + 2 ^ 48 - point) % 2 ^ 48
  let last := s.angle.now - gone / max (s.get F.ANG_INC) 1
  let begin_ := (if b then last else s.angle.carry.getD last) + slotLead
  if !s.angleRuns then none
  else if s.angle.now ≤ begin_ ∧ s.cluster.slotAt ≠ some begin_ then some begin_
  else some (s.angle.now + s.ticksTo (2 ^ 48 - gone) + slotLead)

/-- SLOT_A_START and SLOT_B_START (R487): the clock runs on to the start of the slot, and the slot begins. -/
def State.slotStart (s : State) (b : Bool) (rx : BitVec 96) : State :=
  match s.slotTick b with
  | some t => let u := s.run (t - s.angle.now); if b then u.slotB rx else u.slotA rx
  | none => s

def execSlotAStart (rxBits : BitVec 96) (s : State) : Host.Outcome State Fault Refusal := .next (s.slotStart false rxBits)

def execSlotBStart (rxBits : BitVec 96) (s : State) : Host.Outcome State Fault Refusal := .next (s.slotStart true rxBits)

/-- SLOT_B_END (R487, R503): the clock runs on to the end of the open slot B. -/
def State.slotEnd (s : State) : State :=
  match s.cluster.slotAt with
  | some t => if s.cluster.inB then (s.run (t + slotLen - s.angle.now)).slotBEnd else s
  | none => s

def execSlotBEnd (s : State) : Host.Outcome State Fault Refusal := .next s.slotEnd

/-! ### The panel and the audio output -/

/-- FRAME_BOUNDARY (R605, R609): the clock runs on to the tick of the next boundary. `legal` and `bad`: offsets in the L0 store, and in the stores of L1
and L2 and the mask, of lines that fail their check. -/
def State.frameBoundary (s : State) (lines : List Nat) : State :=
  match s.boundaryAt with
  | some t =>
    let s1 := s.run (t - s.angle.now)
    match s1.boundaryAt with
    | some u => if u ≤ s1.angle.now then s1.boundary u lines else s1
    | none => s1
  | none => s

/-- The line addresses of offsets from `base`. -/
def lineAddrs {n : Nat} (base : Nat) (l : List (BitVec n)) : List Nat := l.map fun o => base + o.toNat / 16 * 16

def execFrameBoundary (legal : List (BitVec 21)) (bad : List (BitVec 22)) (s : State) : Host.Outcome State Fault Refusal :=
  .next (s.frameBoundary (lineAddrs (storeL 0) legal ++ lineAddrs (storeL 1) bad))

/-- The clock runs on to the check of rails that power up, 5 ms after VGL (R596). -/
def State.railsCheck (s : State) (f : State → State) : State :=
  if s.get F.EPD_STAT_RAILST = 1 then
    let s1 := s.run (s.panel.railsAt + 5 * tickMs - s.angle.now)
    if s1.get F.EPD_STAT_RAILST = 1 then f s1 else s1
  else s

/-- RAILS_GOOD (R596, R610). -/
def execRailsGood (bad : List (BitVec 23)) (s : State) : Host.Outcome State Fault Refusal :=
  .next (s.railsCheck (·.railsAreGood (lineAddrs (storeL 1) bad)))

/-- RAIL_FAULT (R598): a rail is found not good at the check, or (`limit`) has exceeded its current limit for 1 ms. -/
def execRailFault (rail : BitVec 3) (limit : Bool) (s : State) : Host.Outcome State Fault Refusal :=
  .next (if limit then
    (if s.get F.EPD_STAT_RAILST = 2 ∨ (s.get F.EPD_STAT_RAILST = 1 ∧ s.panel.railsAt + tickMs ≤ s.angle.now) then s.railFault rail.toNat else s)
  else s.railsCheck (·.railFault rail.toNat))

/-- PANEL_NEUTRAL_FRAME (R624): the clock runs on to 11 ms after t₀, where the neutral frame has ended; the updates end unfinished and the rails power
down. -/
def State.neutralFrame (s : State) : State :=
  if s.boot.pfail ∧ s.get F.EPD_STAT_RAILST = 2 then
    (s.run (s.panel.failAt + 11 * tickMs - s.angle.now)).cutUpdates.railsDown
  else s

def execPanelNeutralFrame (s : State) : Host.Outcome State Fault Refusal := .next s.neutralFrame

/-- AUDIO_SAMPLE (R628): the clock runs on to the next sample instant, 1 024 ticks after the last. -/
def State.audioInstant (s : State) : State :=
  if s.audioRuns then
    let s1 := s.run (s.audio.last + 1024 - s.angle.now)
    if s1.audioRuns then s1.audioSample (s.audio.last + 1024) else s1
  else s

def execAudioSample (s : State) : Host.Outcome State Fault Refusal := .next s.audioInstant

/-- AUDIO_RESTART (R630): the clock runs on to 1 s after a fault that is not held, and the output restarts. -/
def State.audioRestart (s : State) : State :=
  if s.on F.AUD_STAT_FAULT && !s.on F.AUD_STAT_HELD then
    let s1 := s.run (s.audio.faults.headD 0 + 1000 * tickMs - s.angle.now)
    (s1.put F.AUD_STAT_FAULT 0).audioSilent
  else s

def execAudioRestart (s : State) : Host.Outcome State Fault Refusal := .next s.audioRestart

/-! ### Serial ports -/

/-- UART_CHARACTER_SENT (R681, R686): the clock runs on to the end of the character or break on the line. -/
def State.charEnds (s : State) (n : Fin 4) (readBack : Nat) : State :=
  if (s.uart n).cur = none ∧ !(s.uart n).brkNow then s
  else (s.run (tickAt (s.uart n).lineEnd - s.angle.now)).charSent n readBack

def execUartCharacterSent (n : Fin 4) (readBack : BitVec 8) (s : State) : Host.Outcome State Fault Refusal :=
  .next (s.charEnds n readBack.toNat)

/-- UART_IDLE_GAP (R683): the clock runs on to IDLEG character times after the end of the last character stored; each character has one gap. -/
def State.gapDue (s : State) (n : Fin 4) : State :=
  match (s.uart n).rxAt with
  | none => s
  | some at_ =>
    if !s.uartOn n ∨ s.get (F.U_TRIG_IDLEG.i n) = 0 then s
    else (s.run (tickAt (at_ + s.get (F.U_TRIG_IDLEG.i n) * s.charTime n) - s.angle.now)).idleGap n

def execUartIdleGap (n : Fin 4) (s : State) : Host.Outcome State Fault Refusal := .next (s.gapDue n)

/-- RS485_DRIVER_OFF (R690): the clock runs on to DEPOST bit times after the last stop bit, with nothing queued meanwhile. -/
def State.driverDue (s : State) (n : Fin 4) : State :=
  if s.driverIdle n then
    let s1 := s.run (tickAt ((s.uart n).lineEnd + s.get (F.U_RS485_DEPOST.i n) * s.bitTime n) - s.angle.now)
    if s1.driverIdle n then s1.driverOff n else s1
  else s

def execRs485DriverOff (n : Fin 4) (s : State) : Host.Outcome State Fault Refusal := .next (s.driverDue n)

/-- PAUSE_EXPIRY (R707): the clock runs on to the end of the pause time, and transmission resumes. -/
def State.pauseOver (s : State) : State :=
  if s.on F.ETH_STAT_PAUSED then (s.run (s.ether.pausedTo - s.angle.now)).put F.ETH_STAT_PAUSED 0 else s

def execPauseExpiry (s : State) : Host.Outcome State Fault Refusal := .next s.pauseOver

/-! ### Allowances take effect at a crossing -/

/-- The clock runs on to the positive zero crossing that begins cycle `cyc`. -/
def State.toCycle (s : State) (cyc : Nat) : State := s.run (s.ticksTo ((cyc - s.cycles) * 2 ^ 48 - s.angle.phase))

/-- GRANT_APPLY (R515, R535): the clock runs on to the crossing that begins the EFF cycle of the held GRANT, where it has not come yet, and the
GRANT takes effect; while the clock is held the crossing does not come. -/
def State.grantDue (s : State) : State :=
  match s.cluster.held with
  | some (_, at_) => if at_ ≤ s.cycles then s.applyGrant else if s.angleRuns then (s.toCycle at_).applyGrant else s
  | none => s

def execGrantApply (s : State) : Host.Outcome State Fault Refusal := .next s.grantDue

/-- Is the present tick that of a positive zero crossing? -/
def State.atCrossing (s : State) : Bool := s.angle.carry == some s.angle.now

/-- ALLOWANCE_UPDATE (R535): ALLOW changes only at a positive zero crossing, to which the clock runs on. -/
def State.allowanceDue (s : State) : State :=
  if s.atCrossing then s.updateAllowance else if s.angleRuns then (s.toCycle (s.cycles + 1)).updateAllowance else s

def execAllowanceUpdate (s : State) : Host.Outcome State Fault Refusal := .next s.allowanceDue

/-- One reference tick of a module that has power: what step does while no command waits. -/
def State.tick (s : State) : State := if s.boot.powered ∨ s.boot.pfail then (s.advance 1).fireDue else s

/-- ALARM_COMMIT (R66): the commit takes effect at the next reference tick, on which an old target that it reaches fires first. The
command is that tick and the commit. -/
def execAlarmCommit (n : Fin 64) (v : Word) (s : State) : Host.Outcome State Fault Refusal := .next (s.tick.commitAlarm n.val v.toNat)

/-- PULSE_WINDOW_START (R258, R260): the clock runs on to the start of the window of the cycle last closed, which begins; without such a cycle
no window begins (R270, R277). `len` is T_c where the model has not seen the carry that began the cycle (log entry 53). -/
def State.windowStart (s : State) (len : Nat) : State :=
  match s.pulses.next with
  | some (start, t) =>
    if s.pulsesRun then
      let s1 := s.run (start - s.angle.now)
      if s1.pulsesRun then s1.sameCycle (s1.startWindow start (t.getD len)) else s1
    else s
  | none => s

def execPulseWindowStart (len : Word) (s : State) : Host.Outcome State Fault Refusal := .next (s.windowStart len.toNat)

/-- PULSE_ACTIVE_EDGE (R260, R264, R265): the clock runs on to the emission tick of output `n`'s next pulse, which is emitted; without one in
this window nothing happens. -/
def State.pulseEdge (s : State) (n : Fin 4) : State :=
  match s.nextPulse n with
  | some at_ =>
    let s1 := s.run (at_ - s.angle.now)
    if s1.pulsesRun then s1.emitPulse n (s.placed n) at_ else s1
  | none => s

def execPulseActiveEdge (n : Fin 4) (s : State) : Host.Outcome State Fault Refusal := .next (s.pulseEdge n)

/-- PULSE_END (R264): the clock runs on to the end of the pulse's width, and the output of an active pulse is inactive again. -/
def State.pulseEnds (s : State) (n : Fin 4) : State :=
  if s.getBit F.PLS_STAT_ACTIVE n then
    (s.run (((s.po n).lastEdge.getD 0) + (s.po n).width - s.angle.now)).putBit F.PLS_STAT_ACTIVE n false
  else s

def execPulseEnd (n : Fin 4) (s : State) : Host.Outcome State Fault Refusal := .next (s.pulseEnds n)

/-- RTC_SLEW_END (R73): the clock runs on, 1 % fast or slow, until Δ is used up. -/
def execRtcSlewEnd (s : State) : Host.Outcome State Fault Refusal :=
  .next (if s.on F.RTC_STAT_SLEWING then s.run s.slewTicks else s)

/-- REFERENCE_RECOVERED (R76): the oscillators agree again and REFOK rises, with the channels still invalid; where REFOK has risen, the
clock runs on until it has been 1 for 1 s, and the channels may settle. While EN is 0 REFOK stays 0 (R78). -/
def State.recoverRef (s : State) : State :=
  if !s.on F.ANG_CTL_EN then s
  else if !s.on F.ANG_STAT_REFOK then
    let s1 := s.put F.ANG_STAT_REFOK 1
    { s1 with angle := { s1.angle with refSince := s1.angle.now } }
  else if s.angle.refBad then s.run (max 1 (s.angle.refSince + 16384000 - s.angle.now))
  else s

def execReferenceRecovered (s : State) : Host.Outcome State Fault Refusal := .next s.recoverRef

end Sys2Proof.Machine
end

