-- ==== Sys2Proof/Machine/Activation.lean ====
section
/-!
DEFINITION. Machine/Activation.lean: the flip of an activation, its decision and its target cycle, its confirmation and the confirmation window, and its revert (chapter 19,
sections 7 and 9).
-/

namespace Sys2Proof.Machine

/-- The flip (R741, step 2): ACTIVE selects the target bank, PENDING is set, or CONF when the previous bank was not confirmed. -/
def State.flipBank (s : State) : State :=
  let old := s.update.active
  let b := s.targetBank
  let s1 : State := { s with update := { s.update with
    active := b, logged := false, source := s.update.begun, actCycle := s.cycles, actUtc := s.utc } }
  let s2 := ((s1.put F.BOOT_STAT_BANK b).put F.UPD_PEND_STARTS 0).put F.UPD_PEND_SLEFT 86400
  let s3 := if s.on (confField old) then s2.put F.UPD_STAT_PENDING 1 else (s2.put F.UPD_STAT_PENDING 0).put (confField b) 1
  s3.commitBsel

/-- BANK_FLIP (R741, R743): once no session is open, the mirror and the bank-select record are committed, Winter mode is left,
and a cold start from the new bank follows. After t₀ of the power-fail sequence there is no flip (R756). -/
def State.activateBank (s : State) (z : ColdCheck) : State :=
  if s.updState ≠ 6 ∨ s.get F.SIG_STAT_SESS ≠ 0 ∨ s.boot.pfail then s
  else
    let s1 := s.freezeEngine.stopPulses
    let s2 := if s1.commitOpen ∧ !s1.romLevel then s1.commitMirror s1.cycles s1.utc false false else s1
    let s3 := (((s2.flipBank).put F.BOOT_STARTS_CONSEC 0).leaveWinter).commitBoot.drainLog
    ((s3.put F.BOOT_APPRST_CAUSE 1).toEngine 0).coldStart false 3 z id

def execBankFlip (z : ColdCheck) (s : State) : Host.Outcome State Fault Refusal := .next (s.activateBank z)

/-- A refused write of UPD.PENDCMD (R748, R750): OP 7 for a confirmation, 8 for a revert. -/
def State.refusePend (s : State) (op : Nat) : State := (s.put F.UPD_RES_RESULT 17).put F.UPD_RES_OP op

/-- Each FLOOR rises to the GEN of its TYPE in the confirmed bank (R728). -/
def State.raiseFloors (s : State) (b : Nat) : State :=
  (manParts (s.bankManifest b)).foldl (fun (t : State) p =>
    if 1 ≤ p.type ∧ p.type ≤ 7 then t.put (F.UPD_FLOOR.i (p.type - 1)) (max (t.get (F.UPD_FLOOR.i (p.type - 1))) p.gen) else t) s

/-- PENDING_CONFIRM (R748). After t₀ the power-fail sequence commits no other record (R310). -/
def State.confirmBank (s : State) : State :=
  if s.boot.pfail then s
  else if s.on F.UPD_STAT_PENDING ∧ s.on F.BOOT_STAT_START_OK then
    let b := s.update.active
    let s1 := (((s.put F.UPD_STAT_PENDING 0).put (confField b) 1).raiseFloors b).commitBsel
    (s1.irq Page.UPD 3).logE Page.UPD 0x0F11 b
  else s.refusePend 7

def execPendingConfirm (s : State) : Host.Outcome State Fault Refusal := .next s.confirmBank

/-- PENDING_REVERT (R750). -/
def State.revertBank (s : State) (z : ColdCheck) : State :=
  if s.boot.pfail then s
  else if s.on F.UPD_STAT_PENDING then s.previousBank 0x0F13 s.update.active z else s.refusePend 8

def execPendingRevert (z : ColdCheck) (s : State) : Host.Outcome State Fault Refusal := .next (s.revertBank z)

/-- A write of UPD.PENDCMD; other values have no effect. -/
def State.writePendcmd (s : State) (v : Nat) (z : ColdCheck) : State :=
  if v = 0x3C5A then s.confirmBank else if v = 0xA5E7 then s.revertBank z else s

/-- Does the confirmation window run? -/
def State.windowOpen (s : State) : Bool := s.boot.legalRuns && !s.boot.pfail && s.on F.UPD_STAT_PENDING

/-- 60 s of powered time have gone off SLEFT (R748); at 0 the module falls back (R749). -/
def State.windowTick (s : State) (z : ColdCheck) : State :=
  let s0 : State := { s with update := { s.update with windowAt := s.update.windowAt + 60 * 16384000 } }
  let s1 := (s0.subTo0 F.UPD_PEND_SLEFT 60).commitBsel
  if s1.get F.UPD_PEND_SLEFT = 0 then s1.fallBack 2 z else s1

/-- CONFIRMATION_WINDOW_TICK (R748, R749): the clock runs on to the end of the running 60 s. -/
def State.windowDue (s : State) (z : ColdCheck) : State :=
  if s.windowOpen then
    let s1 := s.run (s.update.windowAt + 60 * 16384000 - s.angle.now)
    if s1.windowOpen then s1.windowTick z else s1
  else s

def execConfirmationWindowTick (z : ColdCheck) (s : State) : Host.Outcome State Fault Refusal := .next (s.windowDue z)

/-! ### The decision and the target cycle of a cluster activation (R746) -/

/-- The state in the cycle with cluster cycle number `c`: the clock runs on to the crossing that begins it where that is ahead; none while the clock
is held and it cannot come. -/
def State.inCcn (s : State) (c : Nat) : Option State :=
  let ahead := (c + 2 ^ 32 - s.ccn) % 2 ^ 32
  if ahead = 0 ∨ 2 ^ 31 ≤ ahead then some s else if s.angleRuns then some (s.toCycle (s.cycles + ahead)) else none

/-- ACTIVATION_DECISION (R746): the clock runs on to the cycle TARGET - 256, where the master decides. -/
def State.decisionDue (s : State) : State :=
  if s.isMaster && s.on F.CLU_ACTTX_SEND then
    match s.inCcn ((s.get F.CLU_ACTTX_TARGET + 2 ^ 32 - 256) % 2 ^ 32) with
    | some t => t.decideActivation
    | none => s
  else s

def execActivationDecision (s : State) : Host.Outcome State Fault Refusal := .next s.decisionDue

/-- ACTIVATION_TARGET_CYCLE (R746): the clock runs on to the cycle TARGET, where the master clears ACTTX.SEND, whatever the outcome. -/
def State.targetDue (s : State) : State :=
  if s.isMaster && s.on F.CLU_ACTTX_SEND then
    match s.inCcn (s.get F.CLU_ACTTX_TARGET) with
    | some t => if t.isMaster then t.put F.CLU_ACTTX_SEND 0 else t
    | none => s
  else s

def execActivationTargetCycle (s : State) : Host.Outcome State Fault Refusal := .next s.targetDue

end Sys2Proof.Machine
end

