-- ==== Sys2Proof/Machine/Fields.lean ====
section
/-!
DEFINITION. Machine/Fields.lean: what a write does to the fields of a word by their access codes (Table 0-3, R13, R16, R17),
and the registers of the common page layout (R85 to R89).
-/

namespace Sys2Proof.Machine

/-- Is the EN bit of the block that holds the word at `a` 0 ("RW while EN is 0")? -/
def State.blockOff (s : State) (a : Nat) : Bool :=
  match ringPage a with
  | some _ => !s.on (F.RING_CTL_EN.i ((a - 0x40061000) / 64))
  | none =>
    if pageBase a = Page.TMR then !s.on F.TMR_WDG_CTL_EN
    else !bit (s.word (pageBase a + 8)).toNat 0

/-- The access code of a field as it stands: the conditional codes resolve to one of Table 0-3. -/
def State.accOf (s : State) (a : Nat) (r : FieldRow) : Access :=
  match r.acc with
  | .rwOff => if s.blockOff a then .rw else .ro
  | .rwlOff => if s.blockOff a then .rwl else .ro
  | .rwVeh => if s.on F.VEH_STAT_VROLE then .rw else .ro
  | .wol => .rwl
  | .layer => if hitsReps r.addr [] a then .rwl else .rw
  | .layer0 => if hitsReps r.addr [] a then .rwl else .ro
  | .slot => .rw
  | .pat => if Page.HEAD 0 ≤ a ∧ a < Page.FIL then .rws else .rw
  | c => c

/-- Is the value one that the field's table lists (R17)? -/
def FieldRow.admits (r : FieldRow) (x : Nat) : Bool := r.legal.isEmpty || r.legal.any fun (p : Nat × Nat) => decide (p.1 ≤ x ∧ x ≤ p.2)

/-- Does the value keep the ranges that depend on another field (Table 18-5)? RXTRIG is 1 to QSIZE, TXTRIG at most QSIZE - 1; RTSON lies below
RTSOFF, and RTSOFF is at most QSIZE, one encoding of the two fields. -/
def State.ranged (s : State) (a v : Nat) (r : FieldRow) : Bool :=
  if Page.U 0 ≤ a ∧ a < Page.TW 0 then
    let size := s.uartSize ((a - Page.U 0) / 0x1000)
    let x := bits v r.lo r.width
    match a % 0x1000, r.lo with
    | 0x04C, 0 => decide (1 ≤ x ∧ x ≤ size)
    | 0x04C, 8 => decide (x < size)
    | 0x048, 8 => decide (bits v 16 7 < x ∧ x ≤ size)
    | 0x048, 16 => decide (x < bits v 8 7 ∧ bits v 8 7 ≤ size)
    | _, _ => true
  else true

/-- What a permitted write of `v` makes of one field of the word `w`. -/
def State.fieldWrite (s : State) (a v w : Nat) (r : FieldRow) : Nat :=
  let x := bits v r.lo r.width
  match s.accOf a r with
  | .rw => if r.admits x && s.ranged a v r then setBits w r.lo r.width x else w
  | .rwl => if r.acc != .wol && r.admits x then setBits w r.lo r.width x else w
  | .rws => if r.admits x then setBits w r.lo r.width x else w
  | .w1c => w - (w &&& (x * 2 ^ r.lo))
  | .w1s => w ||| (x * 2 ^ r.lo)
  | _ => w

/-- The content that the word at `a` takes from a permitted write of `v`. -/
def State.newWord (s : State) (a v : Nat) : Nat := (rowsAt a).foldl (s.fieldWrite a v) (s.word a).toNat

/-- Does the word at `a` hold a field that only the legal domain writes? -/
def State.hasRwl (s : State) (a : Nat) : Bool := (rowsAt a).any fun r => s.accOf a r == .rwl

/-- Does the word at `a` hold an RWS field? -/
def State.hasRws (s : State) (a : Nat) : Bool := (rowsAt a).any fun r => s.accOf a r == .rws

/-- A permitted write of one word without any other effect. -/
def State.plain (s : State) (who : Initiator) (a v : Nat) : State :=
  let w := s.newWord a v
  if s.hasRws a then s.rwsWrite who a v w fun t => t.putRws a w else s.setWord a (BitVec.ofNat 32 w)

/-- The words that the commit of a wide register writes, in ascending order: those marked as written, and the highest (R99). -/
def State.commitWords (s : State) (d : Domain) (a n v : Nat) : List (Nat × Nat) :=
  (List.range n).filterMap fun k =>
    if k + 1 = n then some (a + 4 * k, v) else (s.staged d (a + 4 * k)).map fun w => (a + 4 * k, w.toNat)

/-- The commit of a wide register by the write of its highest word (R99, R107). -/
def State.plainWide (s : State) (who : Initiator) (a n v : Nat) : State :=
  let d := domainOf who
  let l := s.commitWords d a n v
  let store (t : State) : State := (l.foldl (fun (u : State) (p : Nat × Nat) =>
    if u.hasRws p.1 then u.putRws p.1 (u.newWord p.1 p.2) else u.setWord p.1 (BitVec.ofNat 32 (u.newWord p.1 p.2))) t).unstage d a n
  if l.any fun p => s.hasRws p.1 then
    if s.rwsLocked then (s.unstage d a n).recordDenied (a + 4 * (n - 1)) d 0x020A
    else if s.unsealed && s.rwsStalls && l.any (fun p => s.hasRws p.1 && s.rwsChanges p.1 (s.newWord p.1 p.2)) then
      { s with stalled := s.stalled ++ [⟨who, a + 4 * (n - 1), BitVec.ofNat 32 v⟩] }
    else store s
  else store s

/-! ### The common registers -/

/-- A write of FAULT (R88): each 1 clears its bit of CODE; COUNT clears with the last. -/
def State.writeFault (s : State) (p v : Nat) : State :=
  let old := s.get (F.FAULT_CODE.on p)
  let new := old - (old &&& v % 65536)
  let s1 := s.put (F.FAULT_CODE.on p) new
  if new = 0 then s1.put (F.FAULT_COUNT.on p) 0 else s1

/-- A write of LOCKSTAT: a 1 in DENIED clears it with DDOM, DCOUNT and DWORD (R89). -/
def State.writeLockstat (s : State) (p v : Nat) : State := if bit v 1 then s.setWord (p + 0x24) 0 else s

/-- A write of IRQ_RAW: each 1 clears its bit (W1C). -/
def State.writeIrqRaw (s : State) (p v : Nat) : State :=
  let w := (s.word (p + 0x10)).toNat
  s.setWord (p + 0x10) (BitVec.ofNat 32 (w - (w &&& v)))

/-- The interrupt bits that the page's chapter names: COLL and DRVF are reserved on U0 and U1, LEGF on SWB. -/
def PageRow.irqMask (r : PageRow) : Nat :=
  if r.base = Page.U 0 ∨ r.base = Page.U 1 then 0x7F else if r.base = Page.SW 1 then 0x5F else 2 ^ r.irqs - 1

/-- A write of IRQ_EN: the bits that the page's chapter names. -/
def State.writeIrqEn (s : State) (p v : Nat) : State :=
  match pageRow p with
  | some r => s.setWord (p + 0x14) (BitVec.ofNat 32 (v &&& r.irqMask))
  | none => s

/-- A write of a common register by its owner, or of OWNER (R95); none for the other offsets. -/
def State.writeCommon (s : State) (who : Initiator) (a v : Nat) : Option State :=
  let p := pageBase a
  match a - p with
  | 0x010 => some (s.writeIrqRaw p v)
  | 0x014 => some (s.writeIrqEn p v)
  | 0x01C => some (s.writeFault p v)
  | 0x020 => some (s.writeOwner who p (v % 4))
  | 0x024 => some (s.writeLockstat p v)
  | _ => none

end Sys2Proof.Machine
end

