-- ==== Sys2Proof/Machine/Start.lean ====
section
/-!
DEFINITION. Machine/Start.lean: the start stages (chapter 4, sections 2 to 6), the confirmation of a start, legal restarts,
and the commands of chapter 4, section 5.
-/

namespace Sys2Proof.Machine

/-! ### S0 -/

/-- The real-time clock at a return of the supply: what it reads when it ran on (R71, R75). -/
def State.wakeClock (s : State) (utc : Option (BitVec 64)) : State :=
  match utc with
  | some u =>
    let s1 := s.putW F.RTC_UTC u.toNat
    { s1 with boot := { s1.boot with rtcRan := true } }
  | none => s

/-- SUPPLY_VALID (R785, R120, R313): a cold start, once a power-fail sequence that has begun has run to its end. -/
def execSupplyValid (z : ColdCheck) (utc : Option (BitVec 64)) (s : State) : Host.Outcome State Fault Refusal :=
  .next (if s.boot.powered ∨ (s.boot.pfail ∧ s.commitOpen) then s else s.coldStart true 0 z (·.wakeClock utc))

/-! ### S1 -/

/-- SEAL_RECOVERY (R105): the module runs in the state of the seal cell; when the last seal record disagrees, a record of it is
committed and event 0x020B logged. -/
def State.recoverSeal (s : State) : State :=
  let r := s.loadSealBlock
  let s1 := ((r.2.put F.SEAL_STAT_STATE s.sealSt.cell).put F.SEAL_STAT_X22ON (b2n (s.sealSt.cell != 1))).put F.SEAL_TRANS_N s.sealSt.trans
  if (r.1.map (·.1)).getD 0 = s.sealSt.cell then s1 else s1.commitSealBlock.logE Page.SEAL 0x020B s.sealSt.cell

/-- COVER_STATE_CHECK (R817), and the push contact as it is found (R114). -/
def State.checkCover (s : State) (coverOpen pushPressed : Bool) : State :=
  let s1 := (s.put F.SEAL_STAT_COVER (b2n coverOpen)).put F.SEAL_STAT_PUSH (b2n pushPressed)
  let s2 : State := { s1 with sealSt := { s1.sealSt with
    cellCover := coverOpen, stalePress := pushPressed && (s.boot.resetCause == 0 || s.sealSt.stalePress) } }
  if coverOpen && !s.sealSt.cellCover then s2.when s.sealed (·.logE Page.SEAL 0x0204 0)
  else if !coverOpen && s.sealSt.cellCover then s2.logE Page.SEAL 0x0205 0
  else s2

/-- RTC_HOLDOVER_CHECK (R75): the clock ran on, or restarts from the last UTC value committed to the ledger (R298). -/
def State.checkClock (s : State) : State :=
  if s.boot.resetCause ≠ 0 then s
  else if s.boot.rtcRan then s.put F.RTC_STAT_HELD 1
  else
    let u := match s.newestSlot fun k => s.slotComplete k with
      | some k => s.lineNat (mirrorLine k + 1) % 2 ^ 64
      | none => 0
    ((s.putW F.RTC_UTC u).put F.RTC_STAT_VALID 0).logE Page.RTC (s.angCode 0x8A) 0

/-- CYCLE_COUNT_RESTORE (R56), in nominal cycles of the site, for which the legal image has set NOM. -/
def State.restartCycle (s : State) : Nat :=
  let c := s.lastCommit
  let e := if s.on F.RTC_STAT_VALID then (s.utc - c.2) * (if s.on F.ANG_CTL_NOM then 60 else 50) / 1000 else 0
  c.1 + e + 1

/-- ACTIVATION_LOG (R742). -/
def State.logActivation (s : State) : State :=
  if s.update.logged then s
  else
    let b := s.update.active
    let s1 := s.logE Page.UPD 0x0F10 (args [s.update.source, b, manLver (s.bankManifest b), s.bankDigest b % 2 ^ 64])
    let s2 := s1.commitEvents s1.pendingRecords
    ({ s2 with update := { s2.update with logged := true } } : State).commitBsel

/-- SIGNING_SELF_TEST (R328). -/
def State.testSigning (s : State) (ok : Bool) : State :=
  let s1 := s.put F.SIG_STAT_KEYOK (b2n ok)
  if ok then s1 else (s1.irq Page.SIG 3).logE Page.SIG 0x0415 0

/-- An end record that a start without its self-test left unsigned is signed (R328). -/
def State.signPending (s : State) : State :=
  let l := sessionLineOf ((s.get F.LDG_SESSRING_NEXT + 2047) % 2048) + 20
  let t := s.touch l 20
  if s.on F.SIG_STAT_KEYOK ∧ s.recordExists l ∧ s.linesNat (l + 16) 4 = 0 then t.storeRecord l (s.signBody (s.linesNat l 16)) else t

/-- DEFERRED_SESSION_CLOSE (R318): a session restored as OPEN or CLOSING is closed with the values of the restored slot. -/
def State.closeDeferred (s : State) : State :=
  let st := s.get F.SIG_STAT_SESS
  if st < 2 then s
  else
    let b := mirrorLine (s.get F.LDG_MSLOT_N)
    let flags := bits (s.lineNat (b + 75)) 32 2
    let l := sessionLineOf s.session.slot
    let r := s.linesNat l 6
    let pf := if bit flags 0 then true else if bit flags 1 then false else s.boot.resetCause == 0
    let t := s.touch l 20
    let s1 : State := { t with session := { t.session with
      reason := if st = 3 then s.session.reason else if pf then 5 else 6
      appReason := if st = 3 then s.session.appReason else 0
      counter := bits r (8 * 52) 32, auth := bits r (8 * 64) 256, startRseq := bits r (8 * 48) 32, startCycle := bits r (8 * 24) 64 } }
    let s2 := (s1.put F.SIG_SESSST_TENANT s.session.tenant).put F.SIG_SESSST_SLOT s.session.slot
    (s2.endSession (s.lineNat b / 2 ^ 64) (s.lineNat (b + 1) % 2 ^ 64) (bit flags 0) true).logE Page.SIG 0x0413 s1.session.reason

/-- What S1 restores before the commit engine accepts writes. -/
def State.restoreLedger (s : State) (c : S1Check) : State :=
  let s1 := (s.restoreMirror.restoreLec.recoverSeal.checkCover c.coverOpen c.pushPressed).loadCounters.restoreConfig
  let s2 := s1.checkClock.put F.ANG_CTL_NOM (b2n c.nom60)
  let n := s2.restartCycle
  let s3 := (((s2.putW F.ANG_CYCLES n).put F.LDG_CTL_EN 1).put F.LDG_STAT_RUN 1).flushBootBuffer n
  s3.commitEvents s3.pendingRecords

/-- The legal image loads the waveform table of the active bank (R613, R616, R723). -/
def State.loadBankWave (s : State) : State :=
  let p := partAt (s.legalBlock s.update.active) 80
  s.loadWave (s.partBytes s.update.active p) (s.partDigestOk s.update.active p)

/-- S1 of a legal image that runs (R120, R233, R270). -/
def State.runS1 (s : State) (c : S1Check) : State :=
  let s1 := ((s.toStage 1).restoreLedger c).enableAngle
  let s2 := ((s1.loadEngine.enableChain).setEngine true).setPulses true
  let s3 := (List.finRange 8).foldl State.enablePort s2
  let s4 := (s3.loadBankWave.checkPanelCell).presentLegal
  ((s4.logActivation.testSigning c.selfTestOk).signPending.closeDeferred).settle.noteMode

/-- STAGE_S1 (R121, R122, R126). -/
def State.stageS1 (s : State) (c : S1Check) : State :=
  if !s.boot.legalRuns ∨ s.get F.BOOT_STAT_STAGE ≠ 0 then s
  else if !s.copyVerifies then s.bankFails
  else if !s.steppingListed (s.legalBlock s.update.active) then (s.logE Page.BOOT 0x0103 0).enterWinter 2 0x0103 true
  else s.runS1 c

def execStageS1 (c : S1Check) (s : State) : Host.Outcome State Fault Refusal := .next (s.stageS1 c)

/-! ### S2 -/

/-- The words of the safety parameter block that a part holds. -/
def State.blockWords (s : State) (p : PartEntry) : List Word :=
  let l := s.partBytes s.update.active p
  (List.range 128).map fun k => BitVec.ofNat 32 (leAt l (4 * k) 4)

/-- The safety parameter block of the active bank: its entry, the bank's first of TYPE 4 with the 512 bytes of a block, where the die
delivers it (R123). -/
def State.blockPart (s : State) (c : S2Check) : Option PartEntry :=
  if c.readable then (s.bankPart s.update.active 4).filter fun p => p.size == 512 else none

/-- The argument of event 0x0104, none when the block passes (R123). -/
def State.blockError (s : State) (c : S2Check) : Option Nat :=
  match s.blockPart c with
  | none => some 0xFFFE
  | some p => if !s.partDigestOk s.update.active p then some 0xFFFF else blockFailure (s.blockWords p) s.headTypes

/-- STAGE_S2 (R123, R145, R379). -/
def State.stageS2 (s : State) (c : S2Check) : State :=
  if s.get F.BOOT_STAT_STAGE ≠ 1 then s
  else match s.blockError c, s.blockPart c with
    | none, some p => (s.loadIsland (s.blockWords p) p.digest).toStage 2
    | e, _ => ((s.logE Page.BOOT 0x0104 (e.getD 0xFFFE)).unloadIsland).enterWinter 4 0x0104 false

def execStageS2 (c : S2Check) (s : State) : Host.Outcome State Fault Refusal := .next (s.stageS2 c)

/-! ### S3 -/

/-- A start enters S3: TOTAL and STARTS count, and the marks of the start before it clear (R133, R748). The counts are committed at S4, or with a
Winter entry (R159). -/
def State.beginS3 (s : State) : State :=
  let s1 := (s.put F.BOOT_STARTS_TOTAL (sat 16 (s.get F.BOOT_STARTS_TOTAL + 1))).toStage 3
  let s2 := if s.on F.UPD_STAT_PENDING then (({ s1 with boot := { s1.boot with bselDue := true } } : State).put F.UPD_PEND_STARTS (s.get F.UPD_PEND_STARTS + 1)) else s1
  let s3 := (((s2.put F.BOOT_STAT_START_OK 0).put F.BOOT_STAT_GOOD 0).put F.BOOT_DEADLINE_MS 0).put F.BOOT_GOODLEFT_S 0
  ({ (s3.setWord F.BOOT_CUST_ACTIVE.addr 0) with boot := { s3.boot with reachedS3 := true, failCounted := false, wrongConf := false, ready := false } } : State).noteMode

/-- SUSPECT_BANK_SCAN passed (R132). -/
def State.scanPassed (s : State) : State := (s.put (suspField s.update.active) 0).logE Page.BOOT 0x010A 0

/-- Does the bank's manifest agree with its recorded digest (R726)? -/
def State.manifestAgrees (s : State) (c : S3Check) : Bool :=
  c.readable && manDigest (s.bankManifest s.update.active) == s.bankDigest s.update.active

/-- The manifest index of the first part that the tested-with set does not list (R141). -/
def State.firstUntested (s : State) : Option Nat :=
  let m := s.bankManifest s.update.active
  (manParts m).findIdx? fun p => !twPart m p

/-- TESTED_WITH_CHECK (R141): the first item in manifest order that fails; the stepping comes first. -/
def State.testedCheck (s : State) : State :=
  let s1 := if !s.twStepping (s.bankManifest s.update.active) then (s.put F.BOOT_CUST_ACTIVE 1).put F.BOOT_CUST_STEP 1
    else match s.firstUntested with
      | some i => ((s.put F.BOOT_CUST_ACTIVE 1).put F.BOOT_CUST_PART 1).put F.BOOT_CUST_PARTIDX i
      | none => s
  if s1.on F.BOOT_CUST_ACTIVE then ((s1.irq Page.BOOT 2).logE Page.BOOT 0x0106 (s1.word F.BOOT_CUST_ACTIVE.addr).toNat).noteMode else s1

/-- S3 derives the tag key of the active bank and loads it into the fetch verifier (R130). -/
def State.loadTagKey (s : State) : State :=
  match s.bankPart s.update.active 3 with
  | some p => { s with boot := { s.boot with tagKey := p.key s.update.active, imageSize := p.size } }
  | none => { s with boot := { s.boot with tagKey := [], imageSize := 0 } }

/-- S3 has passed: the application start may enter S4. -/
def State.passS3 (s : State) : State :=
  let t := s.loadTagKey.testedCheck
  { t with boot := { t.boot with ready := true } }

/-- Does every tag of the application image of the active bank agree (R132)? -/
def State.imageTagsOk (s : State) : Bool := (s.bankPart s.update.active 3).any (s.partTagsOk s.update.active)

/-- The cold start has entered S3: so it is where Winter mode with reason 1 or 5 is entered or goes on there (R77). -/
def State.noteS3 (s : State) : State :=
  if s.inWinter ∧ [1, 5].contains (s.get F.BOOT_WINTER_REASON) = false then s else { s with boot := { s.boot with reachedS3 := true } }

/-- S3 (R130, R132, R138, R141, R748): entered from S2 or at an application start. -/
def State.stageS3 (s : State) (c : S3Check) (z : ColdCheck) : State :=
  if s.inWinter then s.noteS3.holdWinter
  else if s.get F.BOOT_STARTS_CONSEC ≥ 3 then
    (if s.on F.UPD_STAT_PENDING then s.fallBack 3 z else (s.noteS3).enterWinter 1 (if s.boot.resetCause = 2 then 0x0111 else 0x0110) false)
  else if s.on F.UPD_STAT_PENDING ∧ s.get F.UPD_PEND_STARTS ≥ 3 then s.fallBack 1 z
  else
    let s1 := s.beginS3
    if !s1.manifestAgrees c then (s1.logE Page.BOOT 0x0105 0).enterWinter 5 0x0105 false
    else if s.on (suspField s.update.active) then
      if s1.imageTagsOk then s1.scanPassed.passS3
      else
        let s2 := s1.logE Page.BOOT 0x010B 0
        if s2.bankConfirmed (1 - s.update.active) then s2.fallBack 4 z else s2.enterWinter 5 0x010B false
    else s1.passS3

/-- STAGE_S3 (R130): the S3 of a cold start. -/
def execStageS3 (c : S3Check) (z : ColdCheck) (s : State) : Host.Outcome State Fault Refusal :=
  .next (if s.get F.BOOT_STAT_STAGE = 2 then s.stageS3 c z else s)

/-- APPLICATION_START (R120): S3 while the legal domain keeps running. RTC.STAT.HELD is 0 after it (R75). -/
def execApplicationStart (c : S3Check) (z : ColdCheck) (s : State) : Host.Outcome State Fault Refusal :=
  .next (if s.get F.BOOT_STAT_STAGE = 3 ∧ !s.boot.ready ∧ !s.boot.standby then (s.put F.RTC_STAT_HELD 0).stageS3 c z else s)

/-! ### S4 and the confirmation of a start -/

/-- STAGE_S4 (R133, R159). -/
def State.stageS4 (s : State) : State :=
  if s.get F.BOOT_STAT_STAGE = 3 ∧ s.boot.ready then
    let s1 : State := { s with boot := { s.boot with appRuns := true, ready := false } }
    ((s1.put F.BOOT_DEADLINE_MS 120000).toStage 4).commitStart
  else s

def execStageS4 (s : State) : Host.Outcome State Fault Refusal := .next s.stageS4

/-- A write of SYS.START_CONF (R133). -/
def State.confirmStart (s : State) (v : Nat) : State :=
  if !s.boot.appRuns then s
  else if v = 0x5A3C then
    if s.on F.BOOT_STAT_START_OK ∨ s.get F.BOOT_DEADLINE_MS = 0 then s
    else ((s.put F.BOOT_STAT_START_OK 1).put F.BOOT_DEADLINE_MS 0).put F.BOOT_GOODLEFT_S 600
  else if s.boot.wrongConf then s
  else ({ s with boot := { s.boot with wrongConf := true } } : State).logE Page.BOOT 0x0115 v

/-- START_CONFIRMATION (R133). -/
def execStartConfirmation (v : Word) (s : State) : Host.Outcome State Fault Refusal := .next (s.confirmStart v.toNat)

/-- START_DEADLINE_EXPIRY (R134). Once the supply has failed, the power-fail sequence takes precedence (R136). -/
def execStartDeadlineExpiry (z : ColdCheck) (s : State) : Host.Outcome State Fault Refusal :=
  .next (if s.boot.appRuns ∧ s.boot.powered ∧ !s.on F.BOOT_STAT_START_OK then (s.logE Page.BOOT 0x0107 0).failStart 3 0x0107 z else s)

/-- The start becomes good (R135, R137); not once the supply has failed (R136). -/
def State.becomeGood (s : State) : State :=
  if s.boot.appRuns ∧ s.boot.powered ∧ s.on F.BOOT_STAT_START_OK ∧ !s.on F.BOOT_STAT_GOOD then
    let s1 := (((s.put F.BOOT_STAT_GOOD 1).put F.BOOT_GOODLEFT_S 0).put F.BOOT_STARTS_CONSEC 0).commitBoot
    (s1.irq Page.BOOT 4).logE Page.BOOT 0x0113 0
  else s

/-- START_GOOD (R135). -/
def execStartGood (s : State) : Host.Outcome State Fault Refusal := .next s.becomeGood

/-- A read through the execution window meets a line that fails its tag (R131). -/
def State.fetchMismatch (s : State) (ofs : Nat) : State :=
  let s1 := (((s.busErr).put F.BOOT_FAILOFS ofs).markSuspect s.update.active).commitBoot
  (({ s1 with boot := { s1.boot with mismatch := s.boot.appRuns } } : State).logE Page.BOOT 0x0109 ofs)

/-- FETCH_TAG_MISMATCH (R131): `ofs` is an application-area offset. -/
def execFetchTagMismatch (_who : Initiator) (ofs : BitVec 28) (s : State) : Host.Outcome State Fault Refusal :=
  .next (if s.boot.appRuns then s.fetchMismatch ofs.toNat else s.busErr)

/-- MISMATCH_RESET (R131): the reset counts as a failed start, even of a good one. -/
def execMismatchReset (z : ColdCheck) (s : State) : Host.Outcome State Fault Refusal :=
  .next (if s.boot.mismatch then s.failStart 4 0x0109 z else s)

/-! ### Application watchdog (R70) -/

/-- The watchdog expires: the event carries the index of BOOT. -/
def State.expireWatchdog (s : State) (z : ColdCheck) : State :=
  if s.boot.powered ∧ s.on F.TMR_WDG_CTL_EN then (s.logE Page.BOOT (s.angCode 0x8D) 0).failStart 2 (s.angCode 0x8D) z else s

/-- WATCHDOG_EXPIRY (R70). -/
def execWatchdogExpiry (z : ColdCheck) (s : State) : Host.Outcome State Fault Refusal := .next (s.expireWatchdog z)

/-- A write of TMR.WDG_KICK. -/
def State.kickWatchdog (s : State) (v : Nat) (z : ColdCheck) : State :=
  if s.on F.TMR_WDG_CTL_EN ∧ v = 0xA5C3 then
    if s.on F.TMR_WDG_CTL_WIN ∧ 2 * s.get F.TMR_WDG_LEFT_MS > s.get F.TMR_WDG_CTL_TIMEOUT then s.expireWatchdog z
    else s.put F.TMR_WDG_LEFT_MS (s.get F.TMR_WDG_CTL_TIMEOUT)
  else s

/-- WATCHDOG_KICK (R70). -/
def execWatchdogKick (v : Word) (z : ColdCheck) (s : State) : Host.Outcome State Fault Refusal := .next (s.kickWatchdog v.toNat z)

/-! ### Legal restarts (R125, R139, R314) -/

/-- LEGAL_RESET_COMMIT (R314): the accumulators freeze, a mirror slot with LRST = 1 and the pending counted records are
committed. The session stays as it is: its close is deferred (R317). -/
def State.legalResetCommit (s : State) : State :=
  let s0 := ({ s with session := { s.session with legalCond := false, deferred := s.get F.SIG_STAT_SESS == 3 } } : State).settle
  if s0.commitOpen then
    let s1 := s0.freezeEngine.stopPulses
    let s2 := s1.commitMirror s1.cycles s1.utc false true
    { s2.commitCounted (s2.log.counted.length + s2.log.waiting.length) with boot := { s2.boot with legalReset := true } }
  else s0

/-- A legal restart: cause 1 watchdog, 2 lockstep mismatch. It fails the start that it interrupts (R136), and leaves
Production test (R772). -/
def State.legalRestart (s : State) (cause : Nat) (z : ColdCheck) : State :=
  let code := if cause = 2 then 0x0111 else 0x0110
  let fails := (!s.on F.BOOT_STAT_GOOD || s.boot.mismatch) && !s.boot.failCounted && !s.inWinter && !s.boot.standby
  let s1 := s.legalResetCommit
  let s2 := s1.put F.BOOT_STARTS_LCONSEC (min 3 (s1.get F.BOOT_STARTS_LCONSEC + 1))
  let s3 := (s2.when fails (fun t => t.put F.BOOT_STARTS_CONSEC (min 3 (t.get F.BOOT_STARTS_CONSEC + 1)))).commitBoot
  let pre (t : State) : State := (t.logE Page.BOOT code 0).when (fails && s.boot.appRuns) (·.logE Page.BOOT 0x0108 6)
    |>.when s.boot.productionTest (·.logE Page.SYS 0x1002 1)
  (s3.put F.BOOT_APPRST_CAUSE 6).coldStart false cause z pre

/-- LEGAL_WATCHDOG_EXPIRY (R125). -/
def execLegalWatchdogExpiry (z : ColdCheck) (s : State) : Host.Outcome State Fault Refusal :=
  .next (if s.boot.legalRuns ∧ s.boot.powered then s.legalRestart 1 z else s)

/-- LOCKSTEP_MISMATCH (R125). -/
def execLockstepMismatch (z : ColdCheck) (s : State) : Host.Outcome State Fault Refusal :=
  .next (if s.boot.legalRuns ∧ s.boot.powered then s.legalRestart 2 z else s)

/-- LEGAL_RUN_QUALIFIED (R139): the legal domain has run for 600 s after S2. -/
def execLegalRunQualified (s : State) : Host.Outcome State Fault Refusal :=
  .next (if s.boot.legalRuns ∧ s.boot.powered ∧ 2 ≤ s.get F.BOOT_STAT_STAGE ∧ !s.romLevel ∧ s.get F.BOOT_STARTS_LCONSEC ≠ 0 then
    (s.put F.BOOT_STARTS_LCONSEC 0).commitBoot else s)

end Sys2Proof.Machine
end

