-- ==== Sys2Proof/Machine/Modes.lean ====
section
/-!
DEFINITION. Machine/Modes.lean: Standby and the mode requests (chapter 4, sections 8 and 9; R357).
-/

namespace Sys2Proof.Machine

/-- The outcome of a mode request in SYS.MODE.REQRES; REQ reads 0 (Table 4-6). -/
def State.modeAnswer (s : State) (ok : Bool) : State := (s.put F.SYS_MODE_REQ_REQ 0).put F.SYS_MODE_REQRES (if ok then 1 else 2)

/-- A refused mode request (R149, R357). -/
def State.refuseMode (s : State) (req : Nat) : State := (s.modeAnswer false).logE Page.SYS 0x0114 req

/-- The conditions of R149. -/
def State.standbyAdmits (s : State) : Bool :=
  [0, 3].contains (s.get F.SYS_MODE_MODE) && s.get F.SIG_STAT_SESS == 0 && s.noLegs 0xFF && s.get F.VEH_STAT_STATE == 1
    && !s.isMaster && s.on F.UPD_STAT_ENGIDLE

/-- STANDBY_ENTRY (R135, R150, R325): the start becomes good, the queued application lines are written, and the application
domain is reset and loses its power. A tag mismatch that awaits its reset counts as a failed start (R131). -/
def State.enterStandby (s : State) : State :=
  let s1 := (s.modeAnswer true).becomeGood
  let s2 := if s1.commitOpen then s1.commitAll (s1.commit.legalQ.length + s1.commit.appQ.length) else s1
  let s3 := (s2.applicationReset 5 true).when s2.boot.mismatch fun t => (t.put F.BOOT_STARTS_CONSEC (min 3 (t.get F.BOOT_STARTS_CONSEC + 1))).commitBoot
  (({ s3 with boot := { s3.boot with standby := true } } : State).logE Page.BOOT 0x010E 0).noteMode

/-- SYS.MODE_REQ.REQ = 2 (R149). -/
def State.requestStandby (s : State) : State :=
  if !s.boot.appRuns then s else if s.standbyAdmits then s.enterStandby else s.refuseMode 2

/-- STANDBY_REQUEST (R149). -/
def execStandbyRequest (s : State) : Host.Outcome State Fault Refusal := .next s.requestStandby

/-- WAKE (R151): Standby is left, SYS.WAKE records the source, and an application start follows. An alarm wakes by firing, or by
withholding its action, with WAKE = 1 (R67): the clock runs on to its target. -/
def State.wake (s : State) (src : WakeSource) : State :=
  if !s.boot.standby then s
  else match src with
    | .pilot => (s.put F.SYS_WAKE_PILOT 1).leaveStandby 1 0
    | .safety => (s.put F.SYS_WAKE_SAFETY 1).leaveStandby 2 0
    | .alarm n => if s.on (almArm n.val) && s.on (almWake n.val) then s.fireAlarms [n] else s

def execWake (src : WakeSource) (s : State) : Host.Outcome State Fault Refusal := .next (s.wake src)

/-- SYS.MODE_REQ.REQ = 1 (R154, R362): from vehicle role back to Run. -/
def State.requestRun (s : State) : State :=
  if !s.boot.appRuns then s
  else if s.on F.VEH_STAT_VROLE then ((s.leaveVehicleRole 1).modeAnswer true).noteMode
  else if s.get F.SYS_MODE_MODE = 0 then s.modeAnswer true
  else s.refuseMode 1

/-- RUN_REQUEST (R154). -/
def execRunRequest (s : State) : Host.Outcome State Fault Refusal := .next s.requestRun

/-- The conditions of R357. -/
def State.roleAdmits (s : State) : Bool :=
  s.get F.SYS_MODE_MODE == 0 && s.get F.SIG_STAT_SESS == 0 && s.noLegs 0xFF && s.get F.VEH_STAT_STATE == 1
    && [0, 2, 5].contains (s.get F.GPM_STAT_MSTATE) && s.on F.UPD_STAT_ENGIDLE

/-- SYS.MODE_REQ.REQ = 3 (R357, R358). -/
def State.requestVehicle (s : State) : State :=
  if !s.boot.appRuns then s else if s.roleAdmits then (s.modeAnswer true).enterVehicleRole.noteMode else s.refuseMode 3

/-- VEHICLE_ROLE_REQUEST (R357). -/
def execVehicleRoleRequest (s : State) : Host.Outcome State Fault Refusal := .next s.requestVehicle

/-- A write of SYS.MODE_REQ. -/
def State.requestMode (s : State) (req : Nat) : State :=
  match req with
  | 1 => s.requestRun
  | 2 => s.requestStandby
  | 3 => s.requestVehicle
  | _ => s

end Sys2Proof.Machine
end

