-- ==== Sys2Proof/Machine/Rtc.lean ====
section
/-!
DEFINITION. Machine/Rtc.lean: the legal real-time clock (chapter 2, section 6).
-/

namespace Sys2Proof.Machine

/-- UTC_REQUEST (R72, R81): a commit of TMR.UTCREQ with highest word `v`; a reserved SRC keeps its old value (R17). A later
request replaces one that is not yet handled. -/
def State.requestUtc (s : State) (v : Nat) : State :=
  let a := F.TMR_UTCREQ_SRC.addr
  let w := s.commitValue .app a 4 v
  let src := if bits w 0 8 ≤ 4 then bits w 0 8 else s.get F.TMR_UTCREQ_SRC
  let s1 := (((s.put F.TMR_UTCREQ_SRC src).put F.TMR_UTCREQ_SEQ (bits w 8 8)).putW F.TMR_UTCREQ_UTC (bits w 64 64)).unstage .app a 3
  { s1 with utcReq := some ⟨src, bits w 8 8, bits w 64 64, s.utc⟩ }

def execUtcRequest (v : Word) (s : State) : Host.Outcome State Fault Refusal := .next (s.requestUtc v.toNat)

/-- The clock steps to `utc` (R73): any slew ends, LASTSTEP holds both times, and counted event 0x88 is logged. -/
def State.stepClock (s : State) (utc : Nat) : State :=
  let old := s.utc
  let s1 := (((s.putW F.RTC_UTC utc).put F.RTC_SLEWLEFT 0).put F.RTC_STAT_SLEWING 0)
  let s2 := ((s1.putW F.RTC_LASTSTEP_OLD old).putW F.RTC_LASTSTEP_NEW utc).put F.RTC_STAT_VALID 1
  let s3 : State := { s2 with angle := { s2.angle with utcFrac := 0, slewFrac := 0 }
                              session := { s2.session with utcStepped := true } }
  s3.logE Page.RTC (s.angCode 0x88) (old + 2 ^ 64 * utc)

/-- The result of a request: SETSTAT and the UTCDONE interrupt. -/
def State.utcDone (s : State) (result seq : Nat) : State :=
  ((s.put F.RTC_SETSTAT_RESULT result).put F.RTC_SETSTAT_SEQ seq).irq Page.TMR 10

/-- UTC_REQUEST_HANDLE (R73, R74): refused with SRC 0 or a time before the build time of the legal image; stepped while
VALID is 0 or beyond 2000 ms, to the requested time advanced by the elapsed time; else slewed. -/
def State.handleUtc (s : State) (elapsed build : Nat) : State :=
  match s.utcReq with
  | none => s
  | some r =>
    let s0 : State := { s with utcReq := none }
    let delta : Int := (r.utc : Int) - r.at_
    if r.src = 0 ∨ r.utc < build then (s0.logE Page.TMR (s.angCode 0x8B) r.src).utcDone 3 r.seq
    else if !s.on F.RTC_STAT_VALID ∨ delta.natAbs > 2000 then (s0.stepClock (r.utc + elapsed)).utcDone 2 r.seq
    else
      let s1 := (s0.put F.RTC_SLEWLEFT (ofSigned 32 delta)).put F.RTC_STAT_SLEWING (b2n (delta != 0))
      let s2 : State := { s1 with angle := { s1.angle with slewFrac := 0 } }
      (s2.logE Page.RTC (s.angCode 0x89) (ofSigned 64 delta)).utcDone 1 r.seq

def execUtcRequestHandle (elapsed : BitVec 16) (buildTime : BitVec 64) (s : State) : Host.Outcome State Fault Refusal :=
  .next (s.handleUtc elapsed.toNat buildTime.toNat)

/-- SUPERCAP_MEASURE (R71): while the 24 V supply is present. -/
def execSupercapMeasure (mv : BitVec 16) (s : State) : Host.Outcome State Fault Refusal :=
  .next (s.put F.RTC_SUPV_MV mv.toNat)

end Sys2Proof.Machine
end

