-- ==== Sys2Proof/Machine/TwoWire.lean ====
section
/-!
DEFINITION. Machine/TwoWire.lean: the two-wire buses TW0 and TW1 (chapter 18, section 3).
-/

namespace Sys2Proof.Machine

/-- Bytes that each queue holds (section 3.6). -/
def twSize : Nat := 32

/-- Does TW `n` run? After t₀ of the power-fail sequence it has stopped (R714). -/
def State.twOn (s : State) (n : Fin 2) : Bool := s.on (F.TW_CTL_EN.i n) && !s.boot.pfail

/-- The registers that show the block: levels, RXDATA, activity bits, and the trigger levels crossed. -/
def State.noteTw (s : State) (n : Fin 2) : State :=
  let u := s.tw n
  let oldRx := s.get (F.TW_QLEVEL_RX.i n)
  let oldTx := s.get (F.TW_QLEVEL_TX.i n)
  let rt := s.get (F.TW_TRIG_RXTRIG.i n)
  let tt := s.get (F.TW_TRIG_TXTRIG.i n)
  let front := if s.on (F.TW_RINGS_RXR.i n) then 0x8000 else match u.rxq with
    | [] => 0x8000
    | e :: _ => e % 512
  let s1 := ((s.put (F.TW_QLEVEL_RX.i n) u.rxq.length).put (F.TW_QLEVEL_TX.i n) u.txq.length).put (F.TW_RXDATA.i n) front
  let s2 := ((s1.put (F.TW_STAT_CTLACT.i n) (s1.get (F.TW_XFER_GO.i n))).put (F.TW_STAT_TGTACT.i n)
    (b2n (u.target == 3 || u.target == 4 || u.target == 5))).put (F.TW_STAT_TGTREAD.i n) (b2n (u.target == 4))
  let s3 := s2.when (decide (oldRx < rt ∧ rt ≤ u.rxq.length)) (·.irq (Page.TW n) 4)
  s3.when (decide (tt < oldTx ∧ u.txq.length ≤ tt)) (·.irq (Page.TW n) 5)

/-- Set the block and show it; its rings become ready or wait. -/
def State.putTw (s : State) (n : Fin 2) (u : TwoWire) : State :=
  (((s.setTw n u).noteTw n).refreshPort (17 + 2 * n.val)).refreshPort (18 + 2 * n.val)

/-- Does the block hold SCL low? -/
def State.twHold (s : State) (n : Fin 2) : Bool := s.on (F.TW_STAT_HOLD.i n)

def State.setHold (s : State) (n : Fin 2) (b : Bool) : State := s.put (F.TW_STAT_HOLD.i n) (b2n b)

/-- Word 2 of an element in the bits above END (R706): address, ROLE, GC. -/
def State.twInfo (s : State) (n : Fin 2) (target : Bool) : Nat :=
  if target then s.get (F.TW_TGTINFO_ADDR.i n) + 1024 + 2048 * s.get (F.TW_TGTINFO_GC.i n) else s.get (F.TW_XFER_ADDR.i n)

/-- A received byte into the queue. -/
def State.twStore (s : State) (n : Fin 2) (b : Nat) (start target : Bool) : State :=
  let u := s.tw n
  s.putTw n { u with rxq := u.rxq ++ [b % 256 + 256 * b2n start + 65536 * s.twInfo n target] }

/-- The element in progress ends with END `stop` (R706): marked in the queue, or at the ring that has taken its bytes. -/
def State.twEnd (s : State) (n : Fin 2) (stop : Nat) (target : Bool) : State :=
  let u := s.tw n
  match u.rxq.getLast? with
  | some e => if bits e 12 3 = 0 then s.setTw n { u with rxq := u.rxq.dropLast ++ [e + 4096 * stop] } else s
  | none => match s.ringFor (17 + 2 * n.val) with
    | none => s
    | some r =>
      let g := s.ring r
      if g.desc.isSome ∧ g.moved > 0 ∧ g.fin = none then
        (s.setRing r { g with fin := some (1, some (s.twInfo n target + 4096 * stop), none) }).refreshRing r
      else s

/-! ### Controller -/

/-- The bytes that address a transfer (R697); bit 8 marks a repeated START before the byte. -/
def addressBytes (addr : Nat) (ten rd : Bool) : List Nat :=
  if ten then
    let head := 0xF0 + 2 * bits addr 8 2
    if rd then [head, addr % 256, 256 + head + 1] else [head, addr % 256]
  else [2 * (addr % 128) + b2n rd]

/-- A START or repeated START of the block's own: it sends the address. -/
def State.twAddress (s : State) (n : Fin 2) : State :=
  let l := addressBytes (s.get (F.TW_XFER_ADDR.i n)) (s.on (F.TW_XFER_TEN10.i n)) (s.on (F.TW_XFER_READ.i n))
  ((s.put (F.TW_STAT_BUSY.i n) 1).setHold n false).putTw n
    { s.tw n with phase := 2, addrLeft := l.drop 1, cur := l.headD 0 % 256, free := false, count := 0, again := false, target := 0, sent := [] }

/-- A controller transfer ends with RESULT `r` (R698); `stop`: the block sends STOP. -/
def State.twDone (s : State) (n : Fin 2) (r : Nat) (stop : Bool) : State :=
  let u := s.tw n
  let s1 := ((s.put (F.TW_XRES_RESULT.i n) r).put (F.TW_XRES_BYTES.i n) u.count).put (F.TW_XRES_RETRIES.i n) u.retries
  let s2 := (s1.put (F.TW_XFER_GO.i n) 0).irq (Page.TW n) 0
  if stop then
    let s3 := (s2.put (F.TW_STAT_BUSY.i n) 0).setHold n false
    (s3.twEnd n 2 false).putTw n { (s3.twEnd n 2 false).tw n with phase := 0, again := false }
  else s2.putTw n { u with phase := 4, again := false } |>.setHold n true

/-- The transfer went through: STOP as XFER gives. -/
def State.twOk (s : State) (n : Fin 2) : State := s.twDone n 1 (s.on (F.TW_XFER_STOP.i n))

/-- The next byte of a write: from the transmit queue, or SCL is held low until there is one (R697). -/
def State.twNextWrite (s : State) (n : Fin 2) : State :=
  let u := s.tw n
  match u.txq with
  | b :: rest => (s.setHold n false).putTw n { u with txq := rest, cur := b, sent := u.sent ++ [b] }
  | [] => s.setHold n true

/-- The next byte of a read: SCL is held low while the receive queue is full (R697). -/
def State.twNextRead (s : State) (n : Fin 2) : State := s.setHold n (decide (twSize ≤ (s.tw n).rxq.length))

/-- The data phase begins or goes on. -/
def State.twNextData (s : State) (n : Fin 2) : State :=
  if s.on (F.TW_XFER_READ.i n) then s.twNextRead n else s.twNextWrite n

/-- A write of TWn.XFER (R697). READ, LEN and GO form one encoding with LEN = 0 and READ = 1 reserved. -/
def State.writeXfer (s : State) (n : Fin 2) (v : Nat) : State :=
  if s.on (F.TW_XFER_GO.i n) then s
  else
    let s1 := ((s.put (F.TW_XFER_ADDR.i n) (bits v 0 10)).put (F.TW_XFER_TEN10.i n) (bits v 10 1)).put (F.TW_XFER_STOP.i n) (bits v 20 1)
    if bit v 11 ∧ bits v 12 8 = 0 then s1
    else
      let s2 := (s1.put (F.TW_XFER_READ.i n) (bits v 11 1)).put (F.TW_XFER_LEN.i n) (bits v 12 8)
      let u := s2.tw n
      if bit v 21 ∧ s2.twOn n ∧ s2.on (F.TW_CTL_CTLEN.i n) ∧ u.target < 3 ∧ !s2.genOn (Page.TW n) then
        let s3 := s2.put (F.TW_XFER_GO.i n) 1
        let v := { u with retries := 0, lostRun := false, count := 0, sent := [] }
        if u.phase = 4 then (((s3.twEnd n 3 false).setTw n { v with rxq := ((s3.twEnd n 3 false).tw n).rxq })).twAddress n
        else if u.free then (s3.setTw n v).twAddress n
        else s3.putTw n { v with phase := 1 }
      else s2

/-- TW_XFER (R697). -/
def execTwXfer (n : Fin 2) (v : Word) (s : State) : Host.Outcome State Fault Refusal := .next (s.writeXfer n v.toNat)

/-- TW_BUS_FREE (R696): a waiting transfer starts. -/
def execTwBusFree (n : Fin 2) (s : State) : Host.Outcome State Fault Refusal :=
  if s.twOn n then
    let s1 := (((s.put (F.TW_STAT_BUSY.i n) 0).put (F.TW_STAT_SCL.i n) 1).put (F.TW_STAT_SDA.i n) 1).setTw n { s.tw n with free := true }
    .next (if (s.tw n).phase = 1 then s1.twAddress n else s1)
  else .next s

/-- A byte of the block's own transfer and its acknowledge complete (R697, R698). -/
def State.ctlByte (s : State) (n : Fin 2) (data : Nat) (ack : Bool) : State :=
  let u := s.tw n
  let len := s.get (F.TW_XFER_LEN.i n)
  if u.phase = 2 then
    if !ack then s.twDone n 2 true
    else match u.addrLeft with
      | b :: rest => s.putTw n { u with addrLeft := rest, cur := b % 256 }
      | [] => if len = 0 then s.twOk n else (s.setTw n { u with phase := 3 }).twNextData n
  else if s.on (F.TW_XFER_READ.i n) then
    let s1 := (s.twStore n data false false)
    let s2 := s1.setTw n { s1.tw n with count := u.count + 1 }
    if u.count + 1 ≥ len then s2.twOk n else s2.twNextRead n
  else if ack then
    let s1 := s.setTw n { u with count := u.count + 1 }
    if u.count + 1 ≥ len then s1.twOk n else s1.twNextWrite n
  else if u.count + 1 ≥ len then (s.setTw n { u with count := u.count + 1 }).twOk n
  else s.twDone n 3 true

/-! ### Target -/

/-- A byte discarded or substituted (R702): counted, with event 0x0E15 at the first one of a transfer. -/
def State.twSubst (s : State) (n : Fin 2) (rd : Bool) : State :=
  let page := Page.TW n
  let s1 := s.incSat (F.TW_CNT_DISC.i n)
  let u := s1.tw n
  if u.subRun then s1 else (s1.setTw n { u with subRun := true }).logE page 0x0E15 (args [pageIndex page, b2n rd])

/-- The next byte that a target read sends: from the queue; when it is empty, SCL is held low or 0xFF is sent (R702). -/
def State.tgtNext (s : State) (n : Fin 2) : State :=
  let u := s.tw n
  match u.txq with
  | b :: rest => (s.setHold n false).putTw n { u with txq := rest, cur := b }
  | [] => if s.on (F.TW_CFG_STRETCH.i n) then s.setHold n true
    else (s.setTw n { u with cur := 0xFF }).twSubst n true

/-- The address matches (R701, R700): TGTINFO, TGTADDR, and after a loss SWITCH. -/
def State.tgtMatch (s : State) (n : Fin 2) (addr : Nat) (rd gc ten : Bool) : State :=
  let page := Page.TW n
  let u := s.tw n
  let s1 := ((s.put (F.TW_TGTINFO_ADDR.i n) addr).put (F.TW_TGTINFO_READ.i n) (b2n rd)).put (F.TW_TGTINFO_GC.i n) (b2n gc)
  let s2 := (s1.irq page 2).putTw n { u with target := if rd then 4 else 3, fresh := true, subRun := false, match10 := ten, switching := false }
  let s3 := if u.switching then ((s2.incSat (F.TW_CNT_SWITCH.i n)).irq page 7).logE page 0x0E13 (args [pageIndex page, addr]) else s2
  if rd then s3.tgtNext n else s3

/-- An address byte received as target (R701). -/
def State.tgtAddress (s : State) (n : Fin 2) (b : Nat) : State :=
  let u := s.tw n
  let own := s.get (F.TW_OWNADDR_ADDR.i n)
  let ten := s.on (F.TW_OWNADDR_TEN10.i n)
  let no : State := s.putTw n { u with target := 0, switching := false }
  if u.target = 1 then
    if b = 0 ∧ s.on (F.TW_CFG_GCEN.i n) then s.tgtMatch n 0 false true false
    else if !ten then (if b / 2 = own % 128 then s.tgtMatch n own (bit b 0) false false else no)
    else if b / 8 = 0x1E ∧ bits b 1 2 = bits own 8 2 then
      if bit b 0 then (if u.match10 then s.tgtMatch n own true false true else no)
      else s.putTw n { u with target := 2, first := b }
    else no
  else if b = own % 256 then s.tgtMatch n own false false true
  else no

/-- A byte of a target transfer (R702, R764). -/
def State.tgtByte (s : State) (n : Fin 2) (b : Nat) (ack : Bool) : State :=
  let u := s.tw n
  match u.target with
  | 3 =>
    if s.chkOn (Page.TW n) then s.checkBits (Page.TW n) 0 (msbBits 8 b)
    else if u.rxq.length < twSize then
      let s1 := s.twStore n b u.fresh true
      s1.setTw n { s1.tw n with fresh := false }
    else if s.on (F.TW_CFG_STRETCH.i n) then (s.setTw n { u with cur := b }).setHold n true
    else s.twSubst n false
  | 4 => if ack then s.tgtNext n else s.putTw n { u with target := 5 }
  | _ => if u.target = 1 ∨ u.target = 2 then s.tgtAddress n b else s

/-- One byte of a running pattern generator (R765): after the address of PAT.WORD, 32 bytes of the sequence; in LOOP 1 the
block receives them itself. -/
def State.twPattern (s : State) (n : Fin 2) : State :=
  let page := Page.TW n
  let u := s.tw n
  let a := if bit (s.get (F.PAT_WORD.on page)) 10 then 2 else 1
  let s1 := s.setTw n { u with count := (u.count + 1) % (a + 32) }
  if u.count < a then s1
  else
    let g := s1.genBits page 0 8
    if s.loopOf page = 1 ∧ s.chkOn page then g.2.checkBits page 0 g.1 else g.2

/-- TW_BYTE_COMPLETE (R697, R701, R702). -/
def execTwByteComplete (n : Fin 2) (data : BitVec 8) (ack : Bool) (s : State) : Host.Outcome State Fault Refusal :=
  let u := s.tw n
  .next (if !s.twOn n ∨ s.twHold n then s
    else if s.genOn (Page.TW n) then s.twPattern n
    else if u.phase = 2 ∨ u.phase = 3 then s.ctlByte n data.toNat ack
    else s.tgtByte n data.toNat ack)

/-- TW_ARBITRATION_LOST (R699, R700): `sampled` is the byte in which the block lost, as it ended on the bus. -/
def State.twLost (s : State) (n : Fin 2) (sampled : Nat) : State :=
  let page := Page.TW n
  let u := s.tw n
  if u.phase ≠ 2 ∧ u.phase ≠ 3 then s
  else
    let s1 := (s.incSat (F.TW_CNT_LOST.i n)).irq page 1
    let s2 := if u.lostRun then s1 else s1.logE page 0x0E10 (args [pageIndex page, s.get (F.TW_XFER_ADDR.i n)])
    let left := u.addrLeft.length
    -- the first byte after a START, or the second one of a 10-bit address
    let second := s.on (F.TW_XFER_TEN10.i n) && u.phase == 2 && ((addressBytes 0 true (s.on (F.TW_XFER_READ.i n))).length - left == 2)
    let inAddr := u.phase == 2 && s.on (F.TW_CTL_TGTEN.i n)
    let v := { u with lostRun := true, addrLeft := [], txq := u.sent ++ u.txq, sent := [], switching := inAddr,
                      target := if inAddr then (if second then 2 else 1) else 0, match10 := false }
    let s3 := (s2.setHold n false).put (F.TW_STAT_BUSY.i n) 1
    let s4 := if u.retries < s.get (F.TW_CFG_RETRY.i n) then s3.putTw n { v with phase := 1, retries := u.retries + 1, again := true, free := false }
      else
        let t := (s3.setTw n v).twDone n 4 false
        (t.putTw n { t.tw n with phase := 0, free := false }).setHold n false
    -- a first byte of a 10-bit address that agreed so far selects whether the second one can match
    let own := s.get (F.TW_OWNADDR_ADDR.i n)
    let headOk := s.on (F.TW_OWNADDR_TEN10.i n) && bits (s.get (F.TW_XFER_ADDR.i n)) 8 2 == bits own 8 2
    if !inAddr then s4
    else if second ∧ !headOk then s4.putTw n { s4.tw n with target := 0, switching := false }
    else s4.tgtAddress n sampled

def execTwArbitrationLost (n : Fin 2) (sampled : BitVec 8) (s : State) : Host.Outcome State Fault Refusal :=
  .next (s.twLost n sampled.toNat)

/-- TW_START_DETECTED (R701): a START by another controller; while TGTEN is 1 the block receives the address. -/
def execTwStartDetected (n : Fin 2) (s : State) : Host.Outcome State Fault Refusal :=
  let u := s.tw n
  .next (if !s.twOn n ∨ u.phase = 2 ∨ u.phase = 3 ∨ u.phase = 4 then s
    else (s.put (F.TW_STAT_BUSY.i n) 1).putTw n { u with free := false, match10 := false, target := if s.on (F.TW_CTL_TGTEN.i n) then 1 else 0 })

/-- TW_STOP_DETECTED (R701, R706): a STOP, or (`stop` false) a repeated START, of another controller ends a target
transfer. -/
def State.twStop (s : State) (n : Fin 2) (stop : Bool) : State :=
  let u := s.tw n
  if !s.twOn n ∨ u.phase = 2 ∨ u.phase = 3 ∨ u.phase = 4 then s
  else
    let served := decide (3 ≤ u.target)
    let s1 := s.when served fun t => (t.twEnd n (if stop then 2 else 3) true).irq (Page.TW n) 3
    let s2 := (s1.setHold n false).put (F.TW_STAT_BUSY.i n) (b2n (!stop))
    let next := if stop ∨ !s.on (F.TW_CTL_TGTEN.i n) then 0 else 1
    s2.putTw n { s2.tw n with target := next, match10 := u.match10 && served && !stop, fresh := false, switching := false }

def execTwStopDetected (n : Fin 2) (stop : Bool) (s : State) : Host.Outcome State Fault Refusal := .next (s.twStop n stop)

/-- The block ends its part of a transfer and releases both lines (R703, R704, R719): RESULT `r` for its own transfer. -/
def State.twRelease (s : State) (n : Fin 2) (r : Nat) : State :=
  let s1 := s.twEnd n 4 (decide (3 ≤ (s.tw n).target))
  let s2 := if s1.on (F.TW_XFER_GO.i n) then s1.twDone n r false else s1
  (s2.setHold n false).putTw n { s2.tw n with phase := 0, again := false, addrLeft := [], target := 0, free := false, match10 := false, fresh := false,
                                              switching := false, sent := [] }

/-- The block takes part in a transfer. -/
def State.twPart (s : State) (n : Fin 2) : Bool := let u := s.tw n; u.phase == 2 || u.phase == 3 || u.phase == 4 || u.target != 0

/-- 1 for the target role, 0 for the controller. -/
def State.twRole (s : State) (n : Fin 2) : Nat := b2n (decide ((s.tw n).target ≠ 0))

/-- TW_TIMEOUT (R703, R718). -/
def execTwTimeout (n : Fin 2) (s : State) : Host.Outcome State Fault Refusal :=
  let page := Page.TW n
  .next (if s.twOn n && s.twPart n then
    let s1 := ((s.twRelease n 5).irq page 6).incSat (F.TW_CNT_TOUTS.i n)
    (s1.put (F.TW_STAT_BUSY.i n) 1).logE page 0x0E11 (args [pageIndex page, s.twRole n])
  else s)

/-- TW_BUS_ERROR (R704). -/
def execTwBusError (n : Fin 2) (s : State) : Host.Outcome State Fault Refusal :=
  let page := Page.TW n
  .next (if s.twOn n && s.twPart n then ((s.twRelease n 6).irq page 8).logE page 0x0E14 (args [pageIndex page, s.twRole n]) else s)

/-- Pulses of a bus clear (R705): it stops at the first one that frees SDA, and after the ninth. -/
def clearPulses (pulses : Nat) (freed : Bool) : Nat := if freed then max 1 (min 9 pulses) else 9

/-- CMD.BUSCLEAR (R705) while no transfer runs and SDA reads 0. -/
def State.busClear (s : State) (n : Fin 2) (pulses : Nat) (freed : Bool) : State :=
  let page := Page.TW n
  let r := if freed then 1 else 6
  if s.twOn n ∧ !s.on (F.TW_XFER_GO.i n) ∧ (s.tw n).target < 3 then
    ((s.put (F.TW_XRES_RESULT.i n) r).put (F.TW_STAT_SDA.i n) (b2n freed)).logE page 0x0E12 (args [pageIndex page, clearPulses pulses freed, r])
  else s

/-- TW_BUS_CLEAR (R705): CMD.BUSCLEAR while SDA reads 0 has sent `pulses` pulses. -/
def execTwBusClear (n : Fin 2) (pulses : BitVec 4) (freed : Bool) (s : State) : Host.Outcome State Fault Refusal :=
  .next (s.busClear n pulses.toNat freed)

/-- CMD.ABORT (R705): a controller transfer ends with RESULT 7; a pending retry is cancelled; a target transfer goes on. -/
def State.twAbort (s : State) (n : Fin 2) : State :=
  if s.on (F.TW_XFER_GO.i n) then
    let t := s.twDone n 7 false
    (t.setHold n (s.twHold n && decide (3 ≤ (s.tw n).target))).putTw n { t.tw n with phase := 0, addrLeft := [], sent := [], free := t.on (F.TW_STAT_BUSY.i n) == false }
  else s

/-- TW_ABORT (R705). -/
def execTwAbort (n : Fin 2) (s : State) : Host.Outcome State Fault Refusal := .next (s.twAbort n)

/-- CTL.EN cleared (R719). -/
def State.twDisable (s : State) (n : Fin 2) : State :=
  if s.twOn n then ((s.twRelease n 7).put (F.TW_CTL_EN.i n) 0).put (F.TW_STAT_BUSY.i n) 0 else s

/-- TW_DISABLE (R719). -/
def execTwDisable (n : Fin 2) (s : State) : Host.Outcome State Fault Refusal := .next (s.twDisable n)

/-- A held clock goes on where the queues allow it now (R697, R702). -/
def State.twResume (s : State) (n : Fin 2) : State :=
  let u := s.tw n
  if !s.twHold n then s
  else if u.phase = 3 then s.twNextData n
  else if u.target = 4 ∧ u.txq ≠ [] then s.tgtNext n
  else if u.target = 3 ∧ u.rxq.length < twSize then
    let s1 := (s.setHold n false).twStore n u.cur u.fresh true
    s1.setTw n { s1.tw n with fresh := false }
  else s

/-- A read of TWn.RXDATA. -/
def State.readTwData (s : State) (n : Fin 2) : Nat × State :=
  let u := s.tw n
  if s.on (F.TW_RINGS_RXR.i n) then (0x8000, s)
  else match u.rxq with
    | [] => (0x8000, s)
    | e :: rest => (e % 512, (s.putTw n { u with rxq := rest }).twResume n)

/-- TW_RXDATA_READ (R706, R679). -/
def execTwRxdataRead (n : Fin 2) (s : State) : Host.Outcome State Fault Refusal :=
  let r := s.readTwData n
  .next (r.2.busOk r.1)

/-- Queue a byte for transmission. -/
def State.queueTw (s : State) (n : Fin 2) (b : Nat) : State :=
  let u := s.tw n
  (s.putTw n { u with txq := u.txq ++ [b % 256] }).twResume n

/-- TW_TXDATA_WRITE (R697, R679): queued, or discarded and counted. -/
def execTwTxdataWrite (n : Fin 2) (v : Word) (s : State) : Host.Outcome State Fault Refusal :=
  .next (if (s.tw n).txq.length ≥ twSize ∨ s.on (F.TW_RINGS_TXR.i n) ∨ s.genOn (Page.TW n) then s.incSat (F.TW_CNT_DISC.i n)
    else s.queueTw n v.toNat)

/-- Everything that TW `n` was doing is lost (R712, R714). -/
def State.stopTw (s : State) (n : Fin 2) : State :=
  ((s.setTw n {}).setWord (F.TW_STAT_BUSY.i n).addr 0).put (F.TW_XFER_GO.i n) 0 |>.noteTw n

end Sys2Proof.Machine
end

