-- ==== Sys2Proof/Machine/Effects.lean ====
section
/-!
DEFINITION. Machine/Effects.lean: the effects of permitted writes of the registers whose write does more than set its fields,
page by page. Each function answers none where the write only sets fields. A measurement that such a write starts (antenna
tuning, a bus clear, the input levels of a safety reset) is a free value here; the row of the table for that write names it.
-/

namespace Sys2Proof.Machine

/-- What a start looks at, left open by a register write. -/
def freeCheck (v : Nat) : ColdCheck := ⟨BitVec.ofNat 16 v⟩

/-! ### PAT (R761 to R768) -/

/-- The port of a Un page. -/
def uartPage (page : Nat) : Option (Fin 4) := (List.finRange 4).find? fun n => page == Page.U n

/-- A running generator of a Un page sends its first character where the transmitter is free (R763, Table 20-3). -/
def State.sendSequence (s : State) (page : Nat) : State :=
  match uartPage page with
  | some n => s.when (s.genOn page) (·.startTx n)
  | none => s

/-- A write of PAT.CTL, its access apart: the fields, then GEN and CHK. -/
def State.setPatCtl (s : State) (page v : Nat) : State :=
  let s1 := s.patFields page v
  let s2 := if bit v 0 then (s1.startGen page v).sendSequence page else if s1.on (F.PAT_CTL_GEN.on page) then s1.stopGen page else s1
  if bit v 1 then s2.startChk page v else if s2.chkOn page then s2.stopChk page else s2

/-- A write of PAT.CTL of a link page (R761): RWS on the head pages. -/
def State.writePat (s : State) (who : Initiator) (page v : Nat) : State :=
  let a := page + 0xF00
  let old := (s.word a).toNat
  if blockType page = 0x0010 then
    s.rwsWrite who a v (v % 2048) fun t =>
      let t1 := t.setPatCtl page v
      let new := (t1.word a).toNat
      if new = old then t1
      else if t.unsealed then t1.markConfig.logE page 0x0208 (rwsArg a old new)
      else t1.markConfig
  else s.setPatCtl page v

/-- PAT.INJ: the next generated bit is inverted once (R763). -/
def State.injectPat (s : State) (page : Nat) : State := s.setPat page { s.pat page with inj := true }

/-- The initiator that stands for the owner of a page. -/
def State.ownerInit (s : State) (page : Nat) : Initiator := if s.ownerOf page = .legal then .legal else .hart 0

/-- PATTERN_GENERATOR_START (R765): PAT.CTL written by the owner with GEN = 1, the other fields from `v`. -/
def execPatternGeneratorStart (page v : Word) (s : State) : Host.Outcome State Fault Refusal :=
  .next (if linkPage page.toNat then s.writePat (s.ownerInit page.toNat) page.toNat (v.toNat ||| 1) else s)

/-- PATTERN_GENERATOR_STOP (R766): PAT.CTL written with GEN = 0, the other fields as they stand. -/
def execPatternGeneratorStop (page : Word) (s : State) : Host.Outcome State Fault Refusal :=
  .next (if linkPage page.toNat then
    s.writePat (s.ownerInit page.toNat) page.toNat ((s.word (page.toNat + 0xF00)).toNat / 2 * 2) else s)

/-- PATTERN_CHECKER_START (R764): PAT.CTL written by the owner with CHK = 1, the other fields from `v`. -/
def execPatternCheckerStart (page v : Word) (s : State) : Host.Outcome State Fault Refusal :=
  .next (if linkPage page.toNat then s.writePat (s.ownerInit page.toNat) page.toNat (v.toNat ||| 2) else s)

/-- PATTERN_INJECT (R763). -/
def execPatternInject (page : Word) (s : State) : Host.Outcome State Fault Refusal :=
  .next (if linkPage page.toNat then s.injectPat page.toNat else s)

/-! ### SYS -/

/-- A read of a ledger line through SYS.LQ_RIDX (R325). -/
def State.readLq (s : State) (i : Nat) : State :=
  let r := (s.put F.SYS_LQ_RIDX_LINE i).readLine i
  let s1 := (((r.2.put F.SYS_LQ_RST_DONE 1).put F.SYS_LQ_RST_TAGFAIL (b2n (r.1 == .bad))).put F.SYS_LQ_RST_CORR (b2n (r.1 == .corrected))).put
    F.SYS_LQ_RST_POISON (b2n (s.line i).poison)
  s1.putW F.SYS_LQ_RDATA (if r.1 = .bad then 0 else s.lineNat i)

/-- A write of SYS.SESS_REQ (R315, R316, R319): the request is handled at once, except while the update engine is ACTIVATING
(R757). -/
def State.writeSessReq (s : State) (v : Nat) : State :=
  let t := bits v 4 4
  let r := bits v 8 8
  let q := bits v 16 8
  let s1 := ((s.put F.SYS_SESS_REQ_TENANT t).put F.SYS_SESS_REQ_APPREASON r).put F.SYS_SESS_REQ_SEQ q
  if s.get F.SYS_SESS_REQ_OP ≠ 0 then s
  else if s.updState = 6 ∨ s.boot.pfail then s1.put F.SYS_SESS_REQ_OP (bits v 0 2)
  else match bits v 0 2 with
    | 1 => s1.openSession t q
    | 2 => s1.closeRequest r q
    | 3 => s1.readingRequest q
    | _ => s1

def State.effectSys (s : State) (a v : Nat) : Option State :=
  match a - Page.SYS with
  | 0x064 => some (s.requestMode (v % 4))
  | 0x068 => some (s.confirmStart v)
  | 0x080 => some (s.free fun q t => t.safetyReset v (q % 65536))
  | 0x120 => some (s.writeSessReq v)
  | 0x14C => some ((s.unstage .app F.SYS_LQ_DATA.addr 4).queueApp (s.commitValue .app F.SYS_LQ_DATA.addr 4 v))
  | 0x150 => some (s.readLq (v % 2 ^ 18))
  | 0x178 => some (s.sramClear .app v)
  | _ => none

/-! ### ANG, TMR -/

/-- A write of ANG.CTL (R49, R53, R78): NOM, SRC, then EN; in FREERUN the increment follows NOM. -/
def State.writeAngCtl (s : State) (v : Nat) : State :=
  let s1 := s.put F.ANG_CTL_NOM (bits v 2 1)
  let s2 := if bit v 1 = s.on F.ANG_CTL_SRC then s1 else s1.selectSource (bit v 1)
  let s3 := if bit v 0 then s2.enableAngle else s2.disableAngle
  if s3.get F.ANG_STAT_STATE = 0 then s3.put F.ANG_INC s3.nominalInc else s3

def State.effectAng (s : State) (a v : Nat) : Option State :=
  if a = Page.ANG + 8 then some (s.writeAngCtl v)
  else if a = Page.ANG + 0x64 then some (s.commitCycles v)
  else if Page.ANG + 0x400 ≤ a ∧ a < Page.ANG + 0x500 ∧ a % 16 = 12 then some (s.tick.commitAlarm ((a - Page.ANG - 0x400) / 16) v)
  else none

/-- A write of TMR.Tn_CTL: the settings, then EN, whose rise starts the timer (R68). -/
def State.writeTimerCtl (s : State) (who : Initiator) (n : Fin 8) (a v : Nat) : State :=
  let s1 := s.plain who a v
  if bit v 0 && !s.on (F.TMR_T_CTL_EN.i n) then s1.startTimer n else s1

def State.effectTmr (s : State) (who : Initiator) (a v : Nat) : Option State :=
  let o := a - Page.TMR
  if 0x80 ≤ o ∧ o < 0x100 ∧ o % 16 = 0 then some (s.writeTimerCtl who (Fin.ofNat 8 ((o - 0x80) / 16)) a v)
  else if o = 0x100 then some (s.writeWdgCtl v)
  else if o = 0x104 then some (s.free fun q t => t.kickWatchdog v (freeCheck q))
  else if o = 0x11C then some (s.requestUtc v)
  else if 0x400 ≤ o ∧ o < 0x700 ∧ o % 16 = 12 then some (s.tick.commitAlarm (16 + (o - 0x400) / 16) v)
  else none

/-! ### HEAD, FIL, MET, CAL, PLS -/

def State.effectHead (s : State) (p : Fin 8) (a v : Nat) : Option State :=
  match a - Page.HEAD p with
  | 0x008 => some (if bit v 0 then (if s.on (F.HEAD_CTL_EN.i p) then s else s.enablePort p)
      else if s.on (F.HEAD_CTL_EN.i p) then s.disablePort p else s)
  | _ => none

/-- A write of FIL.CHEN: a channel whose bit changes restarts from reset to settle (R202). -/
def State.writeChen (s : State) (who : Initiator) (v : Nat) : State :=
  let a := F.FIL_CHEN_MASK.addr
  s.rwsWrite who a v (v % 2 ^ 24) fun t =>
    (t.putRws a (v % 2 ^ 24)).restartChannels (t.get F.FIL_CHEN_MASK ^^^ (v % 2 ^ 24))

/-- CHANNEL_ENABLE_CHANGE (R202): the legal domain writes FIL.CHEN. -/
def execChannelEnableChange (mask : BitVec 24) (s : State) : Host.Outcome State Fault Refusal := .next (s.writeChen .legal mask.toNat)

def State.effectFil (s : State) (who : Initiator) (a v : Nat) : Option State :=
  match a - Page.FIL with
  | 0x008 => some (if bit v 0 then (if s.on F.FIL_CTL_EN then s else s.enableChain) else (s.put F.FIL_CTL_EN 0).put F.FIL_STAT_RUN 0)
  | 0x040 => some (s.writeChen who v)
  | _ => none

def State.effectMet (s : State) (who : Initiator) (a v : Nat) : Option State :=
  let o := a - Page.MET
  if o = 0x008 then some (s.setEngine (bit v 0))
  else if o = 0x084 then some (s.clearAccs v)
  else if 0x040 ≤ o ∧ o < 0x060 then some (s.writeMeCfg who ((o - 0x040) / 4) v)
  else if 0x200 ≤ o ∧ o < 0x300 then some (s.writeAccCfg who ((o - 0x200) / 4) v)
  else if 0x800 ≤ o ∧ o < 0x820 then some (s.writeBr who ((o - 0x800) / 4) v)
  else none

def State.effectCal (s : State) (a v : Nat) : Option State :=
  if a = Page.CAL + 0x40 then some (if bit v 0 then s.applyCal else s) else none

/-- PLS.CMD.SNAP (R274). -/
def State.requestSnap (s : State) : State := { s with pulses := { s.pulses with snap := true } }

def State.effectPls (s : State) (who : Initiator) (a v : Nat) : Option State :=
  let o := a - Page.PLS
  if o = 0x008 then some (s.setPulses (bit v 0))
  else if o = 0x180 then some (if bit v 0 then s.requestSnap else s)
  else if 0x040 ≤ o ∧ o < 0x140 ∧ o % 64 = 0 then some (s.writePoCfg who (Fin.ofNat 4 ((o - 0x040) / 64)) v)
  else if 0x040 ≤ o ∧ o < 0x140 ∧ o % 64 = 12 then some (s.writePoTest (Fin.ofNat 4 ((o - 0x040) / 64)) v)
  else none

/-! ### LDG, SIG, SEAL -/

/-- A read of a ledger line through LDG.LRD_IDX (R284). -/
def State.readLrd (s : State) (i : Nat) : State :=
  let r := (s.put F.LDG_LRD_IDX_LINE i).readLine i
  let s1 := (((r.2.put F.LDG_LRD_ST_DONE 1).put F.LDG_LRD_ST_TAGFAIL (b2n (r.1 == .bad))).put F.LDG_LRD_ST_CORR (b2n (r.1 == .corrected))).put
    F.LDG_LRD_ST_POISON (b2n (s.line i).poison)
  s1.putW F.LDG_LRD_DATA (if r.1 = .bad then 0 else s.lineNat i)

/-- A commit of LDG.LW_DATA by its highest word queues a legal line write (R285). -/
def State.commitLw (s : State) (v : Nat) : State :=
  (s.unstage .legal F.LDG_LW_DATA.addr 4).queueLegal (s.commitValue .legal F.LDG_LW_DATA.addr 4 v)

/-- LEDGER_WRITE_QUEUE (R285). -/
def execLedgerWriteQueue (v : Word) (s : State) : Host.Outcome State Fault Refusal := .next (s.commitLw v.toNat)

/-- APP_LEDGER_WRITE (R325): a commit of SYS.LQ_DATA by its highest word. -/
def execAppLedgerWrite (v : Word) (s : State) : Host.Outcome State Fault Refusal :=
  .next ((s.unstage .app F.SYS_LQ_DATA.addr 4).queueApp (s.commitValue .app F.SYS_LQ_DATA.addr 4 v.toNat))

/-- A write of LDG.CTL. When EN rises, the events held in the boot event buffer are committed (R308). -/
def State.writeLdgCtl (s : State) (v : Nat) : State :=
  let s1 := (s.put F.LDG_CTL_SCRUB (bits v 1 1)).put F.LDG_CTL_EN (bits v 0 1)
  if bit v 0 && !s.on F.LDG_CTL_EN then s1.flushBootBuffer s.cycles else s1

def State.effectLdg (s : State) (a v : Nat) : Option State :=
  match a - Page.LDG with
  | 0x008 => some (s.writeLdgCtl v)
  | 0x06C => some (if bit v 0 then { s with commit := { s.commit with mirrorReq := true } } else s)
  | 0x070 => some (s.readLrd (v % 2 ^ 18))
  | 0x0AC => some (s.commitLw v)
  | 0x0B8 => some (s.sramClear .legal v)
  | _ => none

def State.effectSig (s : State) (a v : Nat) : Option State :=
  if a = Page.SIG + 0x40 then some (if bit v 0 && !s.on F.SIG_STAT_BUSY && !s.boot.pfail then s.startSign else s) else none

/-! ### VEH, GPM, SW -/

def State.effectVeh (s : State) (a v : Nat) : Option State :=
  match a - Page.VEH with
  | 0x040 => some (if s.forcedGen.isSome then s else s.put F.VEH_GEN_MODE (v % 4))
  | 0x044 => some (s.writeDuty v)
  | 0x058 => some (s.writePpcfg v)
  | 0x100 => some (s.writeVrNet v)
  | 0x104 => some (if bit v 0 then s.runProfile (bits v 8 6)
      else (s.stopProfile).when (decide (1 ≤ bits v 8 6 ∧ bits v 8 6 ≤ 32)) (·.put F.VEH_VR_PROFCTL_STEPS (bits v 8 6)))
  | _ => none

/-- A write of a register that names rings: the fields, and the halt of R660 for a ring that it names or ceases to name. `f`
gives the named rings, 256 for none. -/
def State.writeRings (s : State) (who : Initiator) (a v : Nat) (f : State → List Nat) : State :=
  let s1 := s.plain who a v
  ((f s).zip (f s1)).foldl (fun (t : State) (p : Nat × Nat) => t.portRenamed p.1 p.2) s1

/-- A write of GPM.CTL: EN, SLACEN, VALEN. -/
def State.writeGpmCtl (s : State) (v : Nat) : State :=
  let s1 := s.put F.GPM_CTL_VALEN (bits v 2 1)
  let s2 := if bit v 0 = s.on F.GPM_CTL_EN then s1 else if bit v 0 then s1.enableModem else s1.disableModem
  if bit v 1 = s.on F.GPM_CTL_SLACEN then s2 else if bit v 1 then s2.enableSlac else s2.clearSlac

def State.effectGpm (s : State) (who : Initiator) (a v : Nat) : Option State :=
  match a - Page.GPM with
  | 0x008 => some (s.writeGpmCtl v)
  | 0x068 => some (s.writeRings who a v fun t => [t.get F.GPM_RINGS_RXRING, t.get F.GPM_RINGS_TXRING])
  | _ => none

/-- A mask of page `x` as a mask over all 24 channels. -/
def swMask (x m : Nat) : Nat := m % 4096 * 2 ^ (12 * x)

def State.effectSw (s : State) (x a v : Nat) : Option State :=
  match a - Page.SW x with
  | 0x008 => some ((s.put (F.SW_CTL_EN.i x) (bits v 0 1)).settle)
  | 0x040 => some (s.request (swMask x v) (swMask x (4095 - v % 4096)))
  | 0x044 => some (s.request (swMask x v) 0)
  | 0x048 => some (s.request 0 (swMask x v))
  | 0x050 => some (s.clearLatches (swMask x v))
  | _ => none

/-! ### CLU, PWA, TEN, RDR -/

/-- A write of CLU.CTL: BULKEN, LEAVE, and EN, whose every write clears DUP and whose change starts or stops the link (R504,
R505). -/
def State.writeCluCtl (s : State) (v : Nat) : State :=
  let s1 := (s.put F.CLU_CTL_BULKEN (bits v 1 1)).put F.CLU_STAT_DUP 0
  let s2 := if bit v 0 = s.on F.CLU_CTL_EN then s1 else s1.enableLink (bit v 0)
  if bit v 2 && s2.on F.CLU_CTL_EN then s2.put F.CLU_CTL_LEAVE 1 else s2

def State.effectClu (s : State) (who : Initiator) (a v : Nat) : Option State :=
  match a - Page.CLU with
  | 0x008 => some (s.writeCluCtl v)
  | 0x07C => some (s.commitActtx v)
  | 0x080 => some (if bit v 0 && s.isMaster then { s with cluster := { s.cluster with timeDue := true } } else s)
  | 0x084 => some (s.writeRings who a v fun t => [t.get F.CLU_RINGS_RXRING, t.get F.CLU_RINGS_TXRING])
  | _ => none

/-- A refused master configuration (event 0x0A14 with the offset). -/
def State.refusePwa (s : State) (o : Nat) : State := s.logE Page.PWA 0x0A14 o

def State.effectPwa (s : State) (who : Initiator) (a v : Nat) : Option State :=
  let o := a - Page.PWA
  if 0x80 ≤ o ∧ o < 0x8C then some (if bits v 16 16 > bits v 0 16 then s.refusePwa o else (s.plain who a v).rosterChanged)
  else if o = 0x8C then
    let bad := bits v 0 5 = 0 || bits v 16 8 = 0
    some ((s.plain who a v).rosterChanged.when bad (·.refusePwa o))
  else if 0x100 ≤ o ∧ o < 0x180 then some (s.plain who a v).rosterChanged
  else none

/-- A write of TEN.CMD: ALCHECK and WIPE (R563, R594). -/
def State.writeTenCmd (s : State) (v : Nat) : State :=
  (s.when (bit v 0) (·.allowListCheck)).when (bit v 1) (·.wipePartition)

def State.effectTen (s : State) (a v : Nat) : Option State :=
  let o := a - Page.TEN
  if o = 0x008 then some (s.writeTenCtl v)
  else if o = 0x048 then some (s.writeTenCmd v)
  else if o = 0x04C then some (s.authRequest v)
  else if 0x100 ≤ o ∧ o < 0x200 then some (s.slotWrite ((o - 0x100) / 4) v)
  else none

/-- A write of RDR.CTL (R576, R585, R592). -/
def State.writeRdrCtl (s : State) (v : Nat) : State :=
  let s1 := if bit v 1 || s.on F.RDR_CTL_UHFEN then s.enableUhf (bit v 1) else s
  if bit v 0 then
    if s.hfState = 0 ∨ s.hfState = 6 then s1.free fun q t => (t.put F.RDR_CTL_HFEN 1).tuneHf (bit q 0) (bits q 1 8) else s1.put F.RDR_CTL_HFEN 1
  else if s.on F.RDR_CTL_HFEN then s1.hfOff else s1

def State.effectRdr (s : State) (a v : Nat) : Option State :=
  match a - Page.RDR with
  | 0x008 => some (s.writeRdrCtl v)
  | 0x044 => some (s.writeHfcmd v)
  | 0x0B4 => some (if bit v 0 then s.popTag else s)
  | _ => none

/-! ### EPD, AUD -/

/-- A write of EPD.LnCTL: OPEN, and on layer 0 L0ON; L0ON from 0 to 1 clears RAILHELD (R598). -/
def State.writeLctl (s : State) (who : Initiator) (n a v : Nat) : State :=
  let s1 := s.plain who a v
  if n = 0 && bit v 1 && !s.on F.EPD_LCTL_L0ON then s1.panelEnabled s else s1

def State.effectEpd (s : State) (who : Initiator) (a v : Nat) : Option State :=
  let o := a - Page.EPD
  if o = 0x008 then
    some (if bit v 0 && !s.on F.EPD_CTL_EN then (s.put F.EPD_CTL_EN 1).panelEnabled s else s.put F.EPD_CTL_EN (bits v 0 1))
  else if 0x80 ≤ o ∧ o < 0x8C then some (s.writeLctl who ((o - 0x80) / 4) a v)
  else if 0x90 ≤ o ∧ o < 0xA8 ∧ o % 8 = 4 then some (s.commitPanel ((o - 0x90) / 8) v)
  else none

def State.effectAud (s : State) (who : Initiator) (a v : Nat) : Option State :=
  match a - Page.AUD with
  | 0x008 => some (s.enableAudio (bit v 0))
  | 0x040 => some (s.writeRings who a v fun t => [t.get F.AUD_CFG_RING])
  | _ => none

/-! ### Rings -/

def State.effectRing (s : State) (who : Initiator) (r a v : Nat) : Option State :=
  match a % 64 with
  | 0x00 => some (s.writeRingCtl r v)
  | 0x14 => some (s.writeRingCmd r v)
  | 0x1C => some ((s.plain who a v).noteRings r)
  | 0x20 => some ((s.plain who a v).noteRings r)
  | _ => none

/-! ### U, TW, ETH -/

/-- Does a write of Un.TXDATA only count in DISC (R679, R686, R692, R765)? -/
def State.txRefused (s : State) (n : Fin 4) : Bool :=
  decide ((s.uart n).txq.length ≥ s.uartSize n) || s.on (F.U_RINGS_TXR.i n) || s.on (F.U_STAT_TXHOLD.i n) || s.genOn (Page.U n)

def State.effectU (s : State) (who : Initiator) (n : Fin 4) (a v : Nat) : Option State :=
  match a - Page.U n with
  | 0x008 => some (((s.plain who a v).putUart n (s.uart n)).startTx n)
  | 0x04C => some ((s.plain who a v).noteUart n)
  | 0x054 => some (if s.txRefused n then s.incSat (F.U_CNT2_DISC.i n) else s.queueTx n (v % 256))
  | 0x05C => some (s.writeUartCmd n v)
  | 0x060 => some ((s.writeRings who a v fun t =>
      [if t.on (F.U_RINGS_RXR.i n) then t.get (F.U_RINGS_RXRING.i n) else 256,
       if t.on (F.U_RINGS_TXR.i n) then t.get (F.U_RINGS_TXRING.i n) else 256]).noteUart n)
  | _ => none

/-- A write of TWn.CMD: ABORT, BUSCLEAR, RXFLUSH, TXFLUSH. How many pulses free SDA, and whether they do, the write does not say: a free value. -/
def State.writeTwCmd (s : State) (n : Fin 2) (v : Nat) : State :=
  let s1 := s.when (bit v 0) (·.twAbort n)
  let s2 := s1.when (bit v 1) fun t => t.free fun q u => u.busClear n (q % 16) (bit q 8)
  let s3 := s2.when (bit v 2) fun t => t.putTw n { t.tw n with rxq := [] }
  s3.when (bit v 3) fun t => t.putTw n { t.tw n with txq := [] }

/-- A write of TWn.CTL: EN cleared ends everything (R719); set, the bus is free only after 100 µs (R696). -/
def State.writeTwCtl (s : State) (who : Initiator) (n : Fin 2) (a v : Nat) : State :=
  let on := s.twOn n
  let s1 := if on && !bit v 0 then s.twDisable n else s
  let s2 := s1.plain who a v
  if !on && bit v 0 then s2.putTw n { s2.tw n with free := false } else s2

def State.effectTw (s : State) (who : Initiator) (n : Fin 2) (a v : Nat) : Option State :=
  match a - Page.TW n with
  | 0x008 => some (s.writeTwCtl who n a v)
  | 0x048 => some (s.writeXfer n v)
  | 0x054 => some (if (s.tw n).txq.length ≥ twSize ∨ s.on (F.TW_RINGS_TXR.i n) ∨ s.genOn (Page.TW n) then s.incSat (F.TW_CNT_DISC.i n)
      else s.queueTw n v)
  | 0x05C => some ((s.plain who a v).noteTw n)
  | 0x064 => some (s.writeTwCmd n v)
  | 0x068 => some ((s.writeRings who a v fun t =>
      [if t.on (F.TW_RINGS_RXR.i n) then t.get (F.TW_RINGS_RXRING.i n) else 256,
       if t.on (F.TW_RINGS_TXR.i n) then t.get (F.TW_RINGS_TXRING.i n) else 256]).noteTw n)
  | _ => none

/-- A write of ETH.CTL: TXEN cleared cuts a frame in progress (R720). -/
def State.writeEthCtl (s : State) (who : Initiator) (a v : Nat) : State :=
  ((if bit v 2 && bit v 0 then s else if s.on F.ETH_CTL_TXEN then s.ethTxOff else s).plain who a v)

def State.effectEth (s : State) (who : Initiator) (a v : Nat) : Option State :=
  match a - Page.ETH with
  | 0x008 => some (s.writeEthCtl who a v)
  | 0x054 => some (s.writeEthAddr (domainOf who) v)
  | 0x0E0 => some (s.writeRings who a v fun t =>
      [if t.on F.ETH_RINGS_RXR then t.get F.ETH_RINGS_RXRING else 256, if t.on F.ETH_RINGS_TXR then t.get F.ETH_RINGS_TXRING else 256])
  | _ => none

/-! ### UPD -/

/-- A write of UPD.CMD (R731). -/
def State.writeUpdCmd (s : State) (op : Nat) : State :=
  match op with
  | 1 => s.updOpen
  | 2 => s.updWrite
  | 3 => s.updPrepare
  | 4 => s.updActivate
  | 5 => s.abortUpdate
  | 6 => s.updFwrite
  | _ => s

def State.effectUpd (s : State) (who : Initiator) (a v : Nat) : Option State :=
  match a - Page.UPD with
  | 0x008 => some (s.plain who a v).tryArm
  | 0x040 => some (s.writeUpdCmd (v % 16))
  | 0x068 => some (s.free fun q t => t.writePendcmd v (freeCheck q))
  | _ => none

/-! ### All pages -/

/-- The effect of a permitted write of the word at `a`, where it does more than set fields. -/
def State.effectOf (s : State) (who : Initiator) (a v : Nat) : Option State :=
  match ringPage a with
  | some _ => s.effectRing who ((a - 0x40061000) / 64) a v
  | none =>
    let p := pageBase a
    if linkPage p && a == p + 0xF00 then some (s.writePat who p v)
    else if linkPage p && a == p + 0xF0C then some (if bit v 0 then s.injectPat p else s)
    else match (pageRow a).map (·.type) with
      | some 0x0001 => s.effectSys a v
      | some 0x0002 => s.effectAng a v
      | some 0x0003 => s.effectTmr who a v
      | some 0x0005 => if a = Page.SEAL + 0x40 then some (s.writeSealCmd (v % 4)) else none
      | some 0x0010 => s.effectHead (Fin.ofNat 8 ((p - Page.HEAD 0) / 0x1000)) a v
      | some 0x0011 => s.effectFil who a v
      | some 0x0012 => s.effectMet who a v
      | some 0x0013 => s.effectCal a v
      | some 0x0014 => s.effectPls who a v
      | some 0x0015 => s.effectLdg a v
      | some 0x0016 => s.effectSig a v
      | some 0x0020 => s.effectVeh a v
      | some 0x0021 => s.effectGpm who a v
      | some 0x0024 => s.effectSw ((p - Page.SW 0) / 0x1000) a v
      | some 0x0030 => s.effectClu who a v
      | some 0x0031 => s.effectPwa who a v
      | some 0x0032 => s.effectTen a v
      | some 0x0033 => s.effectRdr a v
      | some 0x0040 => s.effectEpd who a v
      | some 0x0041 => s.effectAud who a v
      | some 0x0060 => s.effectU who (Fin.ofNat 4 ((p - Page.U 0) / 0x1000)) a v
      | some 0x0061 => s.effectTw who (Fin.ofNat 2 ((p - Page.TW 0) / 0x1000)) a v
      | some 0x0062 => s.effectEth who a v
      | some 0x0070 => s.effectUpd who a v
      | _ => none

end Sys2Proof.Machine
end

