-- ==== Sys2Proof/Machine/Access.lean ====
section
/-!
DEFINITION. Machine/Access.lean: register accesses of the cores and the rings (chapter 3): the domains, Table 3-3, wide
registers, the reads that clear, and the accesses that no page answers.
-/

namespace Sys2Proof.Machine

/-- The owner, encoded as OWNER.DOMAIN, of the register at `a`: of its ring, or of its page. -/
def State.ownerCode (s : State) (a : Nat) : Nat :=
  match ringPage a with
  | some _ => (ringDom ((a - 0x40061000) / 64)).code
  | none => s.get (F.OWNER_DOMAIN.on (pageBase a))

/-! ### Reads -/

/-- The level of the interrupt line of page index `i` (R84, R87). -/
def State.lineLevel (s : State) (i : Nat) : Bool :=
  if 33 ≤ i ∧ i ≤ 36 then
    (List.range 64).any fun k =>
      let r := 64 * (i - 33) + k
      (s.word (F.RING_IRQ_DONE.i r).addr).toNat &&& (s.word (F.RING_IRQEN_EN.i r).addr).toNat != 0
  else match pageRows.find? fun p => p.index == i with
    | some p => s.get (F.IRQ_RAW.on p.base) &&& s.get (F.IRQ_EN.on p.base) != 0
    | none => false

/-- The pages whose lines reach the legal core as levels (R97): the legal domain's, SAF and EFM, and ring page 0. -/
def State.toLegalCore (s : State) (i : Nat) : Bool :=
  i == 33 || (pageRows.any fun p => p.index == i && [0, 1].contains (s.get (F.OWNER_DOMAIN.on p.base)))

/-- The pages whose lines reach the application core as levels (R97): the application domain's, SAF and EFM, and the ring pages. -/
def State.toAppCore (s : State) (i : Nat) : Bool :=
  decide (33 ≤ i ∧ i ≤ 36) || (pageRows.any fun p => p.index == i && [1, 2].contains (s.get (F.OWNER_DOMAIN.on p.base)))

/-- The levels at the inputs of the legal core's interrupt controller. -/
def State.legalIrqs (s : State) : Nat := (List.range 45).foldl (fun n i => n + b2n (s.toLegalCore i && s.lineLevel i) * 2 ^ i) 0

/-- The levels at the inputs of the application core's interrupt controller. -/
def State.appIrqs (s : State) : Nat := (List.range 45).foldl (fun n i => n + b2n (s.toAppCore i && s.lineLevel i) * 2 ^ i) 0

/-- Is notification of page index `i` enabled: bit `i` of SYS.NOTE_EN? -/
def State.noteEnabled (s : State) (i : Nat) : Bool := bit (s.getWords F.SYS_NOTE_EN_LO.addr 2) i

/-- From `s` to `t` the application core gets a notification of page index `i` (R97): the page is the legal domain's, its notification is
enabled, and its line has become active. What the core's interrupt controller does with it changes no register (log entry 16). -/
def notified (s t : State) (i : Nat) : Bool :=
  t.noteEnabled i && (pageRows.any fun p => p.index == i && t.get (F.OWNER_DOMAIN.on p.base) == 0) && t.lineLevel i && !s.lineLevel i

/-- SYS.IRQLVL. -/
def State.irqLevels (s : State) : Nat := (List.range 45).foldl (fun n i => n + b2n (s.lineLevel i) * 2 ^ i) 0

/-- The word at `a` as a read shows it: the registers that are computed, else the stored word. -/
def State.shown (s : State) (a : Nat) : Nat :=
  let p := pageBase a
  let w := (s.word a).toNat
  if (ringPage a).isSome then w
  else if a = p + 0x18 then s.get (F.IRQ_RAW.on p) &&& s.get (F.IRQ_EN.on p)
  else if a = p + 0x24 then setBits w 0 1 (b2n s.sealed)
  else if a = F.SYS_IRQLVL.addr then s.irqLevels % 2 ^ 32
  else if a = F.SYS_IRQLVL.addr + 4 then s.irqLevels / 2 ^ 32
  else if a = F.ANG_ANGLE.addr ∨ a = F.ANG_STAMP.addr + 4 then s.angleWord
  else if a = F.ANG_STAMP.addr then s.angle.phase % 2 ^ 32
  else if a = F.ANG_STAMP.addr + 8 then s.cycles % 2 ^ 32
  else if a = F.ANG_STAMP.addr + 12 then s.cycles / 2 ^ 32
  else if a = F.CLU_CCN.addr then s.ccn
  else if F.PLS_PO_BACKLOG_N.addr ≤ a ∧ a < F.PLS_PO_BACKLOG_N.addr + 0x100 ∧ (a - F.PLS_PO_BACKLOG_N.addr) % 0x40 = 0 then
    s.backlog (Fin.ofNat 4 ((a - F.PLS_PO_BACKLOG_N.addr) / 0x40))
  else if a = F.EPD_STAT_RAILST.addr then setBits w 0 2 s.railState
  else if a = Page.TEN + 0xC then setBits (setBits w 2 3 s.tenPeriod.1) 5 1 (b2n s.tenPeriod.2)
  else if Page.TEN + 0x100 ≤ a ∧ a < Page.TEN + 0x200 then s.slotShown ((a - Page.TEN - 0x100) / 4)
  else w

/-- Does a read by this domain have side effects (R90, R94)? -/
def State.ownsRead (s : State) (d : Domain) (a : Nat) : Bool :=
  let o := s.ownerCode a
  if o = 1 then d == .app else d.code == o

/-- The RC fields of the word at `a` take their cleared value (R13). -/
def State.clearRc (s : State) (a : Nat) : State :=
  if a = F.SYS_ENVEXT_VMIN.addr then
    let t := s.setWord a 0x0000FFFF
    { t with boot := { t.boot with tmaxValid := false } }
  else
    let l := (rowsAt a).filter fun r => r.acc == .rc
    if l.isEmpty then s else s.setWord a (BitVec.ofNat 32 (l.foldl (fun w r => setBits w r.lo r.width 0) (s.word a).toNat))

/-- Which receive queue, if any, a read of `a` takes an entry from. -/
def rxDataOf (a : Nat) : Option (Fin 4 ⊕ Fin 2) :=
  if a % 0x1000 ≠ 0x50 then none
  else if Page.U 0 ≤ a ∧ a < Page.U 3 + 0x1000 then some (.inl (Fin.ofNat 4 ((a - Page.U 0) / 0x1000)))
  else if Page.TW 0 ≤ a ∧ a < Page.TW 1 + 0x1000 then some (.inr (Fin.ofNat 2 ((a - Page.TW 0) / 0x1000)))
  else none

/-- A read of a single word, with its side effects for the owning domain. -/
def State.readPlain (s : State) (d : Domain) (a : Nat) : Nat × State :=
  if s.ownsRead d a then
    match rxDataOf a with
    | some (.inl n) => s.readRxData n
    | some (.inr n) => s.readTwData n
    | none => (s.shown a, s.clearRc a)
  else (s.shown a, s)

/-- Load the snapshot buffer of domain `d` with the `n` words from `a` (R98), clearing RC fields for the owner (R14). -/
def State.snapshot (s : State) (d : Domain) (a : Nat) : Nat → State
  | 0 => s
  | n + 1 =>
    let s1 : State := { s with snaps := storeWrite (fun _ => (0 : Word)) s.snaps (bufKey d a) (BitVec.ofNat 32 (s.shown a)) }
    (if s.ownsRead d a then s1.clearRc a else s1).snapshot d (a + 4) n

/-- The word at `a` in the snapshot buffer of domain `d`. -/
def State.snapped (s : State) (d : Domain) (a : Nat) : Nat := (storeRead (fun _ => (0 : Word)) s.snaps (bufKey d a)).toNat

/-- A read of the word at `a` by domain `d`. -/
def State.readWord (s : State) (d : Domain) (a : Nat) : Nat × State :=
  match wideOf a with
  | some (b, n) => if a = b then (s.shown a, s.snapshot d b n) else (s.snapped d a, s)
  | none => s.readPlain d a

/-! ### Accesses that no page answers (R82, R111) -/

/-- The access of `who` is answered by a page: a run of refused accesses has ended. -/
def State.noteMapped (s : State) (who : Initiator) : State :=
  { s with log := { s.log with refusedRuns := s.log.refusedRuns.filter fun e => e.1 != initiatorKey who } }

/-- An access to an address in no page: a bus error, and event 0x0212 at the first of a run of one initiator. -/
def State.refuseAccess (s : State) (who : Initiator) (a : Nat) : State :=
  let k := initiatorKey who
  let s1 := if s.log.refusedRuns.any fun e => e.1 == k then s
    else ({ s with log := { s.log with refusedRuns := (k, true) :: s.log.refusedRuns } } : State).logE Page.SYS 0x0212
      (args [a, (domainOf who).code])
  s1.busErr

/-- A read of `size` bytes at `a` by `who` (R92): 1 and 2 bytes are those of the word, with the side effects of its read; 8 bytes are two
word reads, the lower first (R101: of a wide register, the snapshot and then its second word). A misaligned read is a bus error. -/
def State.readAccess (s : State) (who : Initiator) (a size : Nat) : State :=
  if !mappedReg a then s.refuseAccess who a
  else if (size != 1 && size != 2 && size != 4 && size != 8) || a % size != 0 then (s.noteMapped who).busErr
  else
    let r := (s.noteMapped who).readWord (domainOf who) (a / 4 * 4)
    if size = 8 then
      let r2 := r.2.readWord (domainOf who) (a + 4)
      r2.2.busOk (r.1 + 2 ^ 32 * r2.1)
    else r.2.busOk (bits r.1 (8 * (a % 4)) (8 * size))

/-! ### Writes -/

/-- The first row of Table 3-3: may the domain write the word at `a`? A word with RWL fields is the legal domain's, any other
word the owner's; OWNER of a transferable page is RWL. -/
def State.mayWrite (s : State) (d : Domain) (a : Nat) : Bool :=
  if s.hasRwl a || (a == pageBase a + 0x20 && xferPages.contains (pageBase a)) then d == .legal
  else d.code == s.ownerCode a

/-- A write of the word at `a` that Table 3-3 permits: a common register, a staging write (R99), or the fields and the effect of
the register. -/
def State.permittedWrite (s : State) (who : Initiator) (a v : Nat) : State :=
  match (if (ringPage a).isSome then none else s.writeCommon who a v) with
  | some t => t
  | none => match wideOf a with
    | some (b, n) =>
      if a + 4 < b + 4 * n then s.setStaged (domainOf who) a (some (BitVec.ofNat 32 v))
      else (s.effectOf who a v).getD (s.plainWide who b n v)
    | none => (s.effectOf who a v).getD (s.plain who a v)

/-- A write to a ring register by the other domain: refused, with event 0x0D09 at the first one for each ring. -/
def State.refuseRing (s : State) (d : Domain) (a : Nat) : State :=
  let r := (a - 0x40061000) / 64
  let s1 := if (s.ring r).foreign then s
    else (s.setRing r { s.ring r with foreign := true }).logIdx (pageIndex a) 0x0D09 (args [d.code, a % 64])
  s1.busErr

/-- A write of the word at `a` that the first row of Table 3-3 refuses. A write of OWNER is a write to DOMAIN that breaks R95 as well, and
logs event 0x0211. -/
def State.denyWrite (s : State) (d : Domain) (a v : Nat) : State :=
  let s1 := s.recordDenied a d 0x0209
  (if a = pageBase a + 0x20 then s1.logE (pageBase a) 0x0211 (v % 4) else s1).busErr

/-- A write of the word at `a` by `who`, with the outcome of Table 3-3 and R94. -/
def State.writeWord (s : State) (who : Initiator) (a v : Nat) : State :=
  let d := domainOf who
  let denied : State := s.denyWrite d a v
  match ringPage a with
  | some _ => if d = ringDom ((a - 0x40061000) / 64) then (s.permittedWrite who a v).busOk 0 else s.refuseRing d a
  | none =>
    if s.ownerCode a = 1 then
      if d = .app ∧ [0x10, 0x14, 0x24].contains (a - pageBase a) then (s.permittedWrite who a v).busOk 0 else denied
    else if s.mayWrite d a then (s.permittedWrite who a v).busOk 0
    else denied

/-- A write access of `size` bytes (R92): narrower than a word or misaligned, a bus error; 8 bytes act as two word accesses. Whether the
second is made when the first ends in a bus error or is held back the spec does not say: it is not made (DESIGN CHOICE, log entry 11). -/
def State.writeAccess (s : State) (who : Initiator) (a size v : Nat) : State :=
  if !mappedReg a then s.refuseAccess who a
  else
    let s0 := s.noteMapped who
    if (size ≠ 4 ∧ size ≠ 8) ∨ a % size ≠ 0 then s0.busErr
    else
      let s1 := s0.writeWord who a (v % 2 ^ 32)
      if size = 4 ∨ s1.bus.err ∨ s1.stalled ≠ s0.stalled then s1 else s1.writeWord who (a + 4) (v / 2 ^ 32 % 2 ^ 32)

/-! ### The commands -/

/-- REGISTER_WRITE (R91, R92): a write of `size` bytes. -/
def execRegisterWrite (who : Initiator) (a : Word) (size : Nat) (v : BitVec 64) (s : State) : Host.Outcome State Fault Refusal :=
  .next (s.writeAccess who a.toNat size v.toNat)

/-- The first write of `who` that is held back goes on when more than 16 entries are free (R304); a ring whose write then ends
in a bus error halts (R664). -/
def State.resumeStalled (s : State) (who : Initiator) : State :=
  match s.stalled.find? fun e => e.who == who with
  | some e =>
    if s.rwsStalls then s
    else
      let t := ({ s with stalled := s.stalled.erase e } : State).writeWord who e.addr e.value.toNat
      match who with
      | .ring r => if t.bus.err && [2, 3].contains (t.ringState r) then t.haltRing r 2 true e.addr else t
      | _ => t
  | none => s

/-- STALLED_WRITE_RESUME (R304). -/
def execStalledWriteResume (who : Initiator) (s : State) : Host.Outcome State Fault Refusal := .next (s.resumeStalled who)

/-- UNMAPPED_ACCESS (R82). -/
def execUnmappedAccess (who : Initiator) (a : Word) (_write : Bool) (s : State) : Host.Outcome State Fault Refusal :=
  .next (if 0x40000000 ≤ a.toNat ∧ a.toNat < 0x40100000 ∧ !mappedReg a.toNat then s.refuseAccess who a.toNat else s)

/-- RC_FIELD_READ (R13, R90, R94): a read of the word that holds the field. -/
def execRcFieldRead (who : Initiator) (a : ReadAt) (s : State) : Host.Outcome State Fault Refusal :=
  .next (s.readAccess who a.addr.toNat a.size)

/-- WIDE_SNAPSHOT_READ (R98): a read of a word of a wide register; the lowest loads the buffer. -/
def execWideSnapshotRead (who : Initiator) (a : ReadAt) (s : State) : Host.Outcome State Fault Refusal :=
  .next (s.readAccess who a.addr.toNat a.size)

/-- WIDE_STAGING_WRITE (R99): a word write to a wide register. -/
def execWideStagingWrite (who : Initiator) (a v : Word) (s : State) : Host.Outcome State Fault Refusal :=
  .next (s.writeAccess who a.toNat 4 v.toNat)

/-- FAULT_CLEAR (R88, R94): a write of the FAULT register of a page. -/
def execFaultClear (who : Initiator) (page v : Word) (s : State) : Host.Outcome State Fault Refusal :=
  .next (s.writeAccess who (pageBase page.toNat + 0x1C) 4 v.toNat)

end Sys2Proof.Machine
end

