-- ==== Sys2Proof/Machine/Memory.lean ====
section
/-!
DEFINITION. Machine/Memory.lean: accesses to memory by line, for cores and rings: SRAM (R284 to R287), panel memory (R600,
R601), the execution window (R118, R130, R131) and the flash data window (R722).
-/

namespace Sys2Proof.Machine

/-- The region of panel memory of an address (Table 16-2): 1 written by the owner of EPD, 2 the L0 store, 3 reserved; 0 outside
panel memory. -/
def panelRegion (a : Nat) : Nat :=
  if a < 0x60000000 ∨ 0x60600000 ≤ a then 0
  else if a < 0x60318000 then 1
  else if 0x60320000 ≤ a ∧ a < 0x60480000 then 2
  else 3

/-- Does an address lie in the execution window, or in the flash data window? -/
def inExecWindow (a : Nat) : Bool := decide (0x100000000 ≤ a ∧ a < 0x109600000)
def inFlashWindow (a : Nat) : Bool := decide (0x10A000000 ≤ a ∧ a < 0x111000000)

/-- Die offset of an address of the execution window (R118, Table 4-1). -/
def State.execOffset (s : State) (a : Nat) : Nat := bankBase s.update.active + 0x100000 + (a - 0x100000000)

/-- Die offset of an address of the flash data window (R722). -/
def State.windowOffset (s : State) (a : Nat) : Nat :=
  if a < 0x10B000000 then settingsBase s.update.active + (a - 0x10A000000) else storeBase + (a - 0x10B000000)

/-- An access by `who` to the line of panel memory at `l` (R601). Cause 2 of Table 17-6 for a reserved region or a write that the
domain may not make, 3 for a line that fails its check on a read. -/
def State.panelLine (s : State) (who : Initiator) (l : Nat) (op : MemOp) : Nat × Line × State :=
  let region := panelRegion l
  let t := s.sramTag l
  let stored : TagLine := ⟨BitVec.ofNat 128 (s.memNat l 16), 0, t.flips, t.poison⟩
  let data := lineData stored
  let mayWrite := if region = 1 then (domainOf who).code == s.get (F.OWNER_DOMAIN.on Page.EPD) else domainOf who == .legal
  if region = 3 then (2, 0, s)
  else match op with
    | .read => match checkLine 0 none stored with
      | .good => (0, data, s)
      | .corrected => (0, data, (s.setBytes l (toBytes 16 data.toNat)).setSramTag l ⟨0, false⟩)
      | .bad => (3, 0, s)
    | .write mask new =>
      if !mayWrite then (2, 0, s)
      else (0, new, (s.setBytes l (toBytes 16 (mergeBytes mask data new).toNat)).when (mask == 0xFFFF) (·.setSramTag l ⟨0, false⟩))

/-- The line of the application image of the active bank at offset `a`, the last one padded with zero bytes (R735). -/
def State.imageLine (s : State) (a : Nat) : Line :=
  BitVec.ofNat 128 (ofBytes (padLine (s.flashBytes (s.execOffset (0x100000000 + a)) (min 16 (s.boot.imageSize - a)))))

/-- The fetch verifier (R130): does the line `v` at offset `a` agree with its tag, of which `flips` are disturbed? No line agrees before S3 has
loaded a tag key. -/
def State.fetchTagOk (s : State) (a : Nat) (v : Line) (flips : Nat) : Bool :=
  s.boot.tagKey != [] && (ofBytes (s.flashBytes (tagAt s.update.active a) 4) ^^^ flips) == lineTag s.boot.tagKey a (toBytes 16 v.toNat)

/-- An access by `who` to the memory line at `l`, a multiple of 16: 0 and the line, or the cause of Table 17-6 of a bus error. `upset`:
bits disturbed in a line of the execution window and its tag as it is read. -/
def State.memLine (s : State) (who : Initiator) (l : Nat) (op : MemOp) (upset : BitVec 160) : Nat × Line × State :=
  let ring := match who with
    | .ring _ => true
    | _ => false
  match sramOf l with
  | some d =>
    if !sramAllowed who d (op != .read) then (2, 0, s)
    else if ring && d == .app && s.boot.standby then (1, 0, s)
    else match s.sramLine d l op with
      | (some v, t) => (0, v, t)
      | (none, t) => (3, 0, t)
  | none =>
    if panelRegion l ≠ 0 then s.panelLine who l op
    else if inExecWindow l then
      if op != .read then (2, 0, s)
      else
        let v := s.imageLine (l - 0x100000000) ^^^ upset.truncate 128
        if s.fetchTagOk (l - 0x100000000) v (upset.toNat / 2 ^ 128) then (0, v, s)
        else if s.boot.tagKey = [] then (4, 0, s)
        else (4, 0, ({ s.fetchMismatch (l - 0x100000000) with bus := s.bus } : State))
    else if inFlashWindow l && !ring then
      if op != .read then (2, 0, s) else (0, BitVec.ofNat 128 (ofBytes (s.flashBytes (s.windowOffset l) 16)), s)
    else (1, 0, s)

/-- SRAM_ACCESS (R118, R284 to R286, R601, R722): an access of a core or ring to the memory line that holds `a`. `upset` flips bits
of the line before the access, or of a line of the execution window as it is read: one that fails its tag is handled as R131 says. -/
def execSramAccess (who : Initiator) (a : BitVec 40) (op : MemOp) (upset : BitVec 160) (s : State) : Host.Outcome State Fault Refusal :=
  let l := a.toNat / 16 * 16
  let stored := (sramOf l).isSome || panelRegion l != 0
  let t := s.sramTag l
  let s1 := if upset = 0 ∨ !stored then s else s.setSramTag l { t with flips := t.flips ^^^ upset }
  match s1.memLine who l op upset with
  | (0, v, s2) => .next (s2.busOk v.toNat)
  | (_, _, s2) => .next s2.busErr

end Sys2Proof.Machine
end

