-- ==== Sys2Proof/Machine/Burst.lean ====
section
/-!
DEFINITION. Machine/Burst.lean: arbitration between the rings and the bursts they are granted (chapter 17, sections 2 to 5).
-/

namespace Sys2Proof.Machine

/-! ### Arbitration -/

/-- Is the ring ready for arbitration (R658)? From t₀ of the power-fail sequence only the legal rings are granted (R670); a ring whose
register write is held back (R304) waits for it. -/
def State.ringReady (s : State) (r : Nat) : Bool :=
  s.ringState r == 2 && (s.nextBurst r).isSome && (r < 32 || s.boot.powered) && !s.stalled.any fun e => e.who == .ring (Fin.ofNat 256 r)

def State.readyRings (s : State) : List Nat := (List.range 256).filter s.ringReady

/-- Of the ready rings of a class, the lowest above the one granted last, else the lowest (R661). -/
def pickAfter (last : Option Nat) (l : List Nat) : Option Nat :=
  match last with
  | none => l.head?
  | some k => match l.find? fun r => decide (k < r) with
    | some r => some r
    | none => l.head?

/-- The class granted among C2 and C3, and the position in the round after the grant (R661). -/
def DmaArb.round (a : DmaArb) (w2 w3 : Nat) (has2 has3 : Bool) : Nat × DmaArb :=
  let here := if a.turn3 then has3 else has2
  let other := if a.turn3 then has2 else has3
  let w := if a.turn3 then w3 else w2
  if here && decide (a.turnN < w) then (if a.turn3 then 3 else 2, { a with turnN := a.turnN + 1 })
  else if other then (if a.turn3 then 2 else 3, { a with turn3 := !a.turn3, turnN := 1 })
  else (if a.turn3 then 3 else 2, { a with turnN := 1 })

/-- The ring that is granted the next burst, and the arbitration after it (R661). -/
def State.arbitrate (s : State) (ready : List Nat) : Option (Nat × DmaArb) :=
  let of (c : Nat) : List Nat := ready.filter fun r => s.ringClass r == c
  let share := (s.dma.grants.filter fun c => c == 1).length
  let (c, a) :=
    if of 1 != [] && decide (share < s.get F.DMA_ARB_C1SHARE) then (1, s.dma)
    else if of 0 != [] then (0, s.dma)
    else if of 1 != [] then (1, s.dma)
    else s.dma.round (s.get F.DMA_ARB_W2) (s.get F.DMA_ARB_W3) (of 2 != []) (of 3 != [])
  match pickAfter (a.last.getD c none) (of c) with
  | some r => some (r, { a with grants := (c :: a.grants).take 8, last := a.last.set c (some r) })
  | none => none

/-- The wait of a ready ring that was not granted grows; beyond DEFLIM the ring is deferred (R663). -/
def State.growWait (s : State) (r : Nat) : State :=
  let s1 := s.incSat (F.RING_WAIT_N.i r)
  let w := s1.get (F.RING_WAIT_N.i r)
  let s2 := s1.put (F.RING_WAITMAX_MAX.i r) (max w (s1.get (F.RING_WAITMAX_MAX.i r)))
  if s.get F.DMA_ARB_DEFLIM < w ∧ !(s.ring r).deferred then
    let s3 := (s2.setRing r { s2.ring r with deferred := true }).incSat (F.RING_WAITMAX_DEFERS.i r)
    let s4 := if s3.on (F.RING_IRQ_DEFER.i r) then s3 else (s3.put (F.RING_IRQ_DEFER.i r) 1).logRing r 0x0D04 (args [r, w])
    (s4.dmaIrq r 1).noteRings r
  else s2

/-- The waits after a grant to `g`: counted while a ring is ready, 0 otherwise. -/
def State.countWaits (s : State) (ready : List Nat) (g : Nat) : State :=
  (List.range 256).foldl (fun (t : State) r =>
    if r ≠ g ∧ ready.contains r then t.growWait r
    else if t.get (F.RING_WAIT_N.i r) = 0 then t
    else (t.put (F.RING_WAIT_N.i r) 0).setRing r { t.ring r with deferred := false }) s

/-! ### Taking a descriptor -/

/-- Does an address lie in register space? -/
def inRegisters (a : Nat) : Bool := decide (0x40000000 ≤ a ∧ a < 0x40100000)

/-- Bytes in a group of a transform: LEN is a multiple of it (Table 17-4). -/
def xformGroup (d : Nat) : Nat :=
  match descXform d with
  | 1 => 2
  | 2 => 4
  | 3 => 4
  | 4 => 8
  | 5 => 4
  | 6 => 4
  | 7 => (descXn d + 1) * 2 ^ descXe d
  | 8 => (descXn d + 1) * 2 ^ descXe d
  | _ => 1

/-- Where byte `i` of the destination of transforms 0 to 4 comes from; the map is its own inverse (Table 17-4). -/
def permByte (x i : Nat) : Nat :=
  match x with
  | 1 => i / 2 * 2 + (1 - i % 2)
  | 2 => i / 4 * 4 + (3 - i % 4)
  | 3 => i / 4 * 4 + (i + 2) % 4
  | 4 => i / 8 * 8 + (7 - i % 8)
  | _ => i

/-- Is a transmitted frame VLAN-tagged: bytes 12 and 13 are 0x81 and 0x00 (R710)? -/
def State.vlanFrame (s : State) (d : Nat) : Bool :=
  s.byte (descSrc d + permByte (descXform d) 12) == 0x81 && s.byte (descSrc d + permByte (descXform d) 13) == 0x00

/-- Does LEN keep the rule of the port (Table 17-3, R693, R709, R710)? -/
def State.lenOk (s : State) (p d : Nat) : Bool :=
  let n := descLen d
  match p with
  | 1 => n % 8 == 0
  | 2 => decide (60 ≤ n)
  | 3 => decide (60 ≤ n ∧ n ≤ 1514)
  | 4 => decide (116 ≤ n)
  | 5 => decide (1 ≤ n ∧ n ≤ 116)
  | 6 => decide (4 ≤ n) && n % 4 == 0
  | 7 => decide (60 ≤ n)
  | 8 => decide (14 ≤ n) && (decide (n ≤ 1514) || (decide (n ≤ 1518) && s.vlanFrame d))
  | _ => match uartOf p with
    | some u => !(rxPort p && s.get (F.U_RINGS_WIDE.i u) == 1) || n % 2 == 0
    | none => true

/-- Has the descriptor a descriptor error (R656)? -/
def State.descError (s : State) (r d : Nat) : Bool :=
  let p := s.ringPort r
  let x := descXform d
  let n := descLen d
  let src := descSrc d
  let dst := descDst d
  let regSide := (!rxPort p && inRegisters src) || (!txPort p && inRegisters dst)
  let aligned := n % 4 == 0 && (rxPort p || !inRegisters src || src % 4 == 0) && (txPort p || !inRegisters dst || dst % 4 == 0)
  decide (9 ≤ x) || ((x == 7 || x == 8) && (descXn d == 0 || descXe d == 3)) || n % xformGroup d != 0
    || (regSide && (!aligned || decide (5 ≤ x))) || (p != 0 && (decide (5 ≤ x) || !s.lenOk p d))
    || (p == 0 && decide (src < dst + n ∧ dst < src + n))

/-- Take the descriptor at HEAD: one burst of two lines (R644, R646, R659, R673). -/
def State.takeBurst (s : State) (r : Nat) : State :=
  let k := s.get (F.RING_HEAD_IDX.i r)
  let a := s.descAddr r k
  if sramOf a ≠ some (ringDom r) then s.haltRing r 6 false a
  else match s.sramLine (ringDom r) a .read with
    | (none, t) => t.haltRing r 3 false a
    | (some l0, s1) => match s1.sramLine (ringDom r) (a + 16) .read with
      | (none, t) => t.haltRing r 3 false (a + 16)
      | (some l1, s2) =>
        let d := l0.toNat + 2 ^ 128 * l1.toNat
        let g := s2.ring r
        if descOwn d then
          let s3 := s2.setRing r { g with desc := some (k, d), moved := 0, fin := none, elemOvw := false }
          if s3.descError r d then s3.haltRing r 5 false a else s3.refreshRing r
        else if g.kick then s2.setRing r { g with kick := false }
        else s2.toRing r 1

/-- Write the taken descriptor back: one burst (R645), and HEAD moves on; where the write fails the ring halts (R674). -/
def State.backBurst (s : State) (r : Nat) : State :=
  let g := s.ring r
  match g.desc with
  | none => s
  | some (k, d) =>
    let (result, w2, aux) := g.fin.getD (1, none, none)
    match s.writeBack r k d result (descLen d - g.moved) w2 aux with
    | (none, t) =>
      let s1 := t.put (F.RING_HEAD_IDX.i r) (s.nextDesc r k d)
      (s1.setRing r { s1.ring r with desc := none, moved := 0, fin := none, elemOvw := false }).refreshRing r
    | (some (c, b), t) => t.stopRing r k d c true b false

/-! ### Accesses of a burst -/

/-- Bytes that one access of a burst covers: a word in register space, else a line (R642, R657). -/
def unitOf (a : Nat) : Nat := if inRegisters a then 4 else 16

/-- The accesses that cover a list of byte addresses, in ascending order. -/
def unitsOf (l : List Nat) : List Nat := ((l.map fun a => a / unitOf a * unitOf a).dedup).insertionSort (· ≤ ·)

/-- A read of one unit by ring `r`: the cause of a bus error, or 0, and the bytes as a number. -/
def State.ringRead (s : State) (r a : Nat) (upset : BitVec 160) : Nat × Nat × State :=
  let who : Initiator := .ring (Fin.ofNat 256 r)
  if inRegisters a then
    let t := s.readAccess who a 4
    (if !t.bus.err then 0 else if mappedReg a then 2 else 1, t.bus.data, { t with bus := s.bus })
  else match s.memLine who a .read upset with
    | (c, v, t) => (c, v.toNat, t)

/-- A write of the bytes of one unit that `mask` selects. -/
def State.ringWrite (s : State) (r a mask v : Nat) : Nat × State :=
  let who : Initiator := .ring (Fin.ofNat 256 r)
  if inRegisters a then
    let t := s.writeAccess who a 4 v
    (if !t.bus.err then 0 else if mappedReg a then 2 else 1, { t with bus := s.bus })
  else match s.memLine who a (.write (BitVec.ofNat 16 mask) (BitVec.ofNat 128 v)) 0 with
    | (c, _, t) => (c, t)

/-- Read units in order up to the first error: the bytes by unit, or cause and address. -/
def State.readUnits (s : State) (r : Nat) (upset : BitVec 160) : List Nat → List (Nat × Nat) × Option (Nat × Nat) × State
  | [] => ([], none, s)
  | a :: l => match s.ringRead r a upset with
    | (0, v, t) => let q := t.readUnits r upset l
                   ((a, v) :: q.1, q.2)
    | (c, _, t) => ([], some (c, a), t)

/-- The byte at address `a` of what was read. -/
def byteIn (got : List (Nat × Nat)) (a : Nat) : Byte :=
  let u := a / unitOf a * unitOf a
  match got.find? fun e => e.1 == u with
  | some (_, v) => byteOf v (a - u)
  | none => 0

/-- The mask and the value of one unit's write from the bytes to be written. -/
def unitWrite (u : Nat) (bytes : List (Nat × Byte)) : Nat × Nat :=
  (bytes.filter fun e => e.1 / unitOf e.1 * unitOf e.1 == u).foldl
    (fun (m, v) (a, b) => (setBits m (a - u) 1 1, setBits v (8 * (a - u)) 8 b.toNat)) (0, 0)

/-- Write units in order up to the first error. -/
def State.writeUnits (s : State) (r : Nat) (bytes : List (Nat × Byte)) : List Nat → Option (Nat × Nat) × State
  | [] => (none, s)
  | u :: l =>
    let w := unitWrite u bytes
    match s.ringWrite r u w.1 w.2 with
    | (0, t) => t.writeUnits r bytes l
    | (c, t) => (some (c, u), t)

/-- Write bytes to the addresses given with them. -/
def State.ringPut (s : State) (r : Nat) (bytes : List (Nat × Byte)) : Option (Nat × Nat) × State :=
  s.writeUnits r bytes (unitsOf (bytes.map (·.1)))

/-- The burst ends: `n` more bytes of LEN have moved, or the ring halts. -/
def State.endBurst (s : State) (r n : Nat) (write : Bool) : Option (Nat × Nat) → State
  | some (c, a) => s.haltRing r c write a
  | none => (s.setRing r { s.ring r with moved := (s.ring r).moved + n }).refreshRing r

/-! ### Memory to memory -/

/-- The address of the side whose LEN is counted, or of the destination for transforms 0 to 4 (R657). -/
def countedSide (d : Nat) : Nat := if descXform d = 5 ∨ descXform d = 7 then descSrc d else descDst d

/-- Bytes up to the next 256-byte boundary of the side at `a`, whole groups of `g`, at most the `left` bytes. -/
def burstLen (a left g : Nat) : Nat :=
  let n := min left (256 - a % 256)
  min left (max g (n / g * g))

/-- The group that a burst does not divide: pixels of PSPLIT, and the transform's groups beside a register side, whose words are
read once. -/
def burstGroup (d : Nat) : Nat :=
  if descXform d = 5 then 4 else if inRegisters (descSrc d) ∨ inRegisters (descDst d) then max 4 (xformGroup d) else 1

/-- Offset on the buffer side of byte `i` of the interleaved side (R655). -/
def interleaveOffset (d i : Nat) : Nat :=
  let n := descXn d + 1
  let e := 2 ^ descXe d
  let c := i % (n * e) / e
  c * (descLen d / n) + i / (n * e) * e + i % e

/-- Byte `j` of plane `b` from the packed bytes (R654). -/
def planeByte (src : Nat → Byte) (b j : Nat) : Byte :=
  BitVec.ofNat 8 ((List.range 8).foldl (fun v t => v + 2 ^ t * b2n (bit (src (4 * j + t / 2)).toNat (4 * (t % 2) + b))) 0)

/-- Packed byte `i` from the planes of `p` bytes each (R654). -/
def packedByte (src : Nat → Byte) (p i : Nat) : Byte :=
  let pixel (k : Nat) : Nat := (List.range 4).foldl (fun v b => v + 2 ^ b * b2n (bit (src (b * p + k / 8)).toNat (k % 8))) 0
  BitVec.ofNat 8 (pixel (2 * i) + 16 * pixel (2 * i + 1))

/-- The source offsets that a burst over bytes `m` to `m + n - 1` of the counted side reads. -/
def burstReads (d m n : Nat) : List Nat :=
  let x := descXform d
  let range (a b : Nat) : List Nat := (List.range (b - a)).map (a + ·)
  if x = 6 then (List.range 4).flatMap fun b => (range (m / 4) ((m + n - 1) / 4 + 1)).map (b * (descLen d / 4) + ·)
  else if x = 8 then (range m (m + n)).map (interleaveOffset d)
  else (range m (m + n)).map (permByte x)

/-- The destination offsets and bytes that the burst writes, from the source bytes by offset (Table 17-4). -/
def burstWrites (d m n : Nat) (src : Nat → Byte) : List (Nat × Byte) :=
  let x := descXform d
  let l := (List.range n).map (m + ·)
  match x with
  | 5 => (List.range 4).flatMap fun b => (List.range (n / 4)).map fun j => (b * (descLen d / 4) + (m / 4 + j), planeByte src b (m / 4 + j))
  | 6 => l.map fun i => (i, packedByte src (descLen d / 4) i)
  | 7 => l.map fun i => (interleaveOffset d i, src i)
  | 8 => l.map fun i => (i, src (interleaveOffset d i))
  | _ => l.map fun i => (i, src (permByte x i))

/-- A data burst between two addresses (R653 to R657): its reads, then its writes. -/
def State.memBurst (s : State) (r d : Nat) (upset : BitVec 160) : State :=
  let m := (s.ring r).moved
  let n := burstLen (countedSide d + m) (descLen d - m) (burstGroup d)
  match s.readUnits r upset (unitsOf ((burstReads d m n).map (descSrc d + ·))) with
  | (_, some e, t) => t.endBurst r n false (some e)
  | (got, none, t) =>
    let w := t.ringPut r ((burstWrites d m n fun i => byteIn got (descSrc d + i)).map fun e => (descDst d + e.1, e.2))
    w.2.endBurst r n true w.1

/-! ### Device ports -/

/-- A data burst to a transmit port: the bytes go to the queue of the block, or wait for the device. -/
def State.txBurst (s : State) (r d : Nat) (upset : BitVec 160) : State :=
  let p := s.ringPort r
  let m := (s.ring r).moved
  let room := match uartOf p, twOf p with
    | some u, _ => s.uartSize u - (s.uart u).txq.length
    | none, some w => 32 - (s.tw w).txq.length
    | none, none => 256
  let g := if inRegisters (descSrc d) then max 4 (xformGroup d) else 1
  let n := min (burstLen (descSrc d + m) (descLen d - m) g) room / g * g
  let idx := (List.range n).map fun i => permByte (descXform d) (m + i)
  match s.readUnits r upset (unitsOf (idx.map (descSrc d + ·))) with
  | (_, some e, t) => t.endBurst r n false (some e)
  | (got, none, t) =>
    let bytes := idx.map fun i => byteIn got (descSrc d + i)
    let t1 := t.setRing r { t.ring r with moved := m + n }
    match uartOf p, twOf p with
    | some u, _ => (bytes.foldl (fun (v : State) b => v.queueTx u b.toNat) t1).refreshRing r
    | none, some w => (bytes.foldl (fun (v : State) b => v.queueTw w b.toNat) t1).refreshRing r
    | none, none => (t1.setRing r { t1.ring r with out := (t1.ring r).out ++ bytes }).refreshRing r

/-- Store received bytes at the destination of the descriptor, from byte `m` on. -/
def State.storeRx (s : State) (r d m : Nat) (bytes : List Byte) : Option (Nat × Nat) × State :=
  s.ringPut r (bytes.mapIdx fun i b => (descDst d + permByte (descXform d) (m + i), b))

/-- Bytes that a receive burst may move. -/
def rxLen (d m : Nat) : Nat := burstLen (descDst d + m) (descLen d - m) (if inRegisters (descDst d) then max 4 (xformGroup d) else 1)

/-- The receive burst of ports 1, 2, 4 and 7: whole frames, one a descriptor (R648), or records one after another (R649). -/
def State.elemBurst (s : State) (r d : Nat) : State :=
  let g := s.ring r
  let m := g.moved
  if s.ringPort r = 1 then
    let all := g.inbox.flatMap (·.data)
    let n := min (rxLen d m) all.length
    let rest := all.drop n
    let left := rest.length % 8
    let inbox := (if left = 0 then [] else [⟨rest.take left, none, none⟩]) ++ g.inbox.drop (g.inbox.length - rest.length / 8)
    let w := (s.setRing r { g with inbox := inbox }).storeRx r d m (all.take n)
    w.2.endBurst r n true w.1
  else match g.inbox with
    | [] => s
    | e :: inbox =>
      let n := min (rxLen d m) (e.data.length - m)
      let w := s.storeRx r d m ((e.data.drop m).take n)
      match w.1 with
      | some err => w.2.endBurst r n true (some err)
      | none =>
        let h := w.2.ring r
        let done := decide (m + n ≥ min (descLen d) e.data.length)
        let fin := if done then some (if e.data.length > descLen d then 4 else 1, e.w2, e.aux) else none
        (w.2.setRing r { h with moved := m + n, fin := fin, inbox := if done then inbox else h.inbox }).refreshRing r

/-- END of a UART element after one of its characters (R693): 1 when the descriptor is then full, 3 BRK, 4 FE, 5 PE, 2 for an idle gap
that followed; 0 when it goes on. -/
def uartEnd (full : Bool) (e : Nat) : Nat :=
  if full then 1 else if bit e 10 then 3 else if bit e 8 then 4 else if bit e 9 then 5 else if bit e 12 then 2 else 0

/-- The characters that a burst takes from a receive queue: entries taken, their bytes, END. `per` bytes a character, `room` bytes of
the burst, `left` bytes of the descriptor. -/
def takeChars (per : Nat) : Nat → Nat → List Nat → List Nat × Nat
  | _, _, [] => ([], 0)
  | room, left, e :: q =>
    if room < per then ([], 0)
    else
      let stop := uartEnd (decide (left ≤ per)) e
      if stop ≠ 0 then ([e], stop)
      else
        let t := takeChars per (room - per) (left - per) q
        (e :: t.1, t.2)

/-- The bytes of a character (R693). -/
def charBytes (wide : Bool) (e : Nat) : List Byte :=
  if wide then [BitVec.ofNat 8 e, BitVec.ofNat 8 (e / 256 % 16)] else [BitVec.ofNat 8 e]

/-- The receive burst of a UART (R693, R694, R716). -/
def State.uartBurst (s : State) (r d : Nat) (n : Fin 4) : State :=
  let m := (s.ring r).moved
  let wide := s.get (F.U_RINGS_WIDE.i n) == 1
  let per := if wide then 2 else 1
  let left := descLen d - m
  let took := takeChars per (min left (max per (rxLen d m))) left (s.uart n).rxq
  let bytes := took.1.flatMap (charBytes wide)
  let u := s.uart n
  let s1 := s.putUart n { u with rxq := u.rxq.drop took.1.length }
  let w := s1.storeRx r d m bytes
  match w.1 with
  | some err => w.2.endBurst r bytes.length true (some err)
  | none =>
    let g := w.2.ring r
    let ovw := g.elemOvw || took.1.any fun e => bit e 11
    let fin := if took.2 = 0 then none else some (1, some (s.uartWord2 n took.2 ovw), none)
    (w.2.setRing r { g with moved := m + bytes.length, fin := fin, elemOvw := ovw }).refreshRing r

/-- The bytes that a burst takes from the receive queue of a two-wire block, and END. -/
def takeTwBytes : Nat → Nat → List Nat → List Nat × Nat
  | _, _, [] => ([], 0)
  | 0, _, _ => ([], 0)
  | room + 1, left, e :: q =>
    let stop := if left ≤ 1 then 1 else bits e 12 3
    if stop ≠ 0 then ([e], stop)
    else
      let t := takeTwBytes room (left - 1) q
      (e :: t.1, t.2)

/-- The receive burst of a two-wire block (R706). -/
def State.twBurst (s : State) (r d : Nat) (n : Fin 2) : State :=
  let m := (s.ring r).moved
  let left := descLen d - m
  let took := takeTwBytes (rxLen d m) left (s.tw n).rxq
  let u := s.tw n
  let s1 := (s.putTw n { u with rxq := u.rxq.drop took.1.length }).twResume n
  let w := s1.storeRx r d m (took.1.map (BitVec.ofNat 8 ·))
  match w.1 with
  | some err => w.2.endBurst r took.1.length true (some err)
  | none =>
    let g := w.2.ring r
    let fin := if took.2 = 0 then none else some (1, some (took.1.getLastD 0 / 65536 + 4096 * took.2), none)
    (w.2.setRing r { g with moved := m + took.1.length, fin := fin }).refreshRing r

/-- A data burst of the taken descriptor. -/
def State.dataBurst (s : State) (r d : Nat) (upset : BitVec 160) : State :=
  let p := s.ringPort r
  if p = 0 then s.memBurst r d upset
  else if rxPort p then match uartOf p, twOf p with
    | some n, _ => s.uartBurst r d n
    | none, some n => s.twBurst r d n
    | none, none => s.elemBurst r d
  else s.txBurst r d upset

/-! ### The command -/

/-- The burst of ring `r`. -/
def State.runBurst (s : State) (r : Nat) (upset : BitVec 160) : State :=
  match s.nextBurst r, (s.ring r).desc with
  | some .take, _ => s.takeBurst r
  | some .data, some (_, d) => s.dataBurst r d upset
  | some .back, _ => s.backBurst r
  | _, _ => s

/-- Rings whose device ceased to name them, or that another named, halt at the burst boundary (R660). -/
def State.haltRenamed (s : State) : State :=
  (s.rings.filter fun e => e.2.portChanged).foldl (fun (t : State) e =>
    if t.ringState e.1 = 0 then t else t.haltRing e.1 7 false 0) s

/-- A burst boundary (R661, R663, R657): the pending halts, then one grant. -/
def State.burst (s : State) (upset : BitVec 160) : State :=
  let s1 := s.haltRenamed
  let ready := s1.readyRings
  match s1.arbitrate ready with
  | none => s1
  | some (r, a) =>
    let s2 : State := { s1 with dma := a }
    ((s2.incSat (F.DMA_CLASSGR.i (s1.ringClass r))).countWaits ready r).runBurst r upset

/-- BURST (R657): a burst boundary while the DMA engine runs; `upset`: bits disturbed in a line that the burst reads through the execution window
with its tag (R130, R641). -/
def execBurst (upset : BitVec 160) (s : State) : Host.Outcome State Fault Refusal :=
  .next (if s.boot.legalRuns ∧ (s.boot.powered ∨ s.boot.pfail) then s.burst upset else s)

end Sys2Proof.Machine
end

