-- ==== Sys2Proof/Machine/Power.lean ====
section
/-!
DEFINITION. Machine/Power.lean: the power-fail sequence (chapter 8, section 7; chapter 21, section 2) and the measurements of
the environment (chapter 21, section 6).
-/

namespace Sys2Proof.Machine

/-- Application lines queued at the freeze are discarded (R311). -/
def State.discardApp (s : State) : State :=
  ({ s with commit := { s.commit with appQ := [], discarded := s.commit.appQ.length } } : State).noteQueues

/-- Every port of the heads loses its power (Table 21-4). -/
def State.headsOff (s : State) : State := (List.finRange 8).foldl (fun (t : State) (p : Fin 8) => t.portOff p 0) s

/-- The serial blocks stop (R714). -/
def State.stopSerial (s : State) : State :=
  ((List.finRange 2).foldl State.stopTw ((List.finRange 4).foldl State.stopUart s)).ethTxOff

/-- t₀ of the power-fail sequence (R234, R272, R309, R311, R312, R317, R772, R788): Production test is left, the accumulators freeze, the cycle number and
UTC are taken, and everything that conducts, transmits or counts pulses stops. -/
def State.powerFail (s : State) : State :=
  let s0 := ({ s with boot := { s.boot with productionTest := false } } : State).when s.boot.productionTest (·.noteMode.logE Page.SYS 0x1002 2)
  let s1 := ({ s0 with session := { s.session with legalCond := false, deferred := s.get F.SIG_STAT_SESS == 3, startTaken := false, signing := false, record := 0 } } : State).put
    F.SIG_STAT_BUSY 0
  let s2 := s1.freezeEngine.stopPulses.discardApp
  let s3 : State := { s2 with
    boot := { s2.boot with powered := false, pfail := true, mismatch := false }
    commit := { s2.commit with frozenCycle := s2.cycles, frozenUtc := s2.utc }
    cluster := { s2.cluster with tx := none } }
  let s4 := (s3.holdIsland 2).powerFailSwitches.stopInsulation.stopAllGen.headsOff.disableModem
  (s4.readerFieldsOff.audioOff.stopSerial.panelPowerFail.disarmSeal).settle

/-- SUPPLY_FAILURE (R786): the supply falls below 16.0 V or exceeds 36.0 V. -/
def execSupplyFailure (s : State) : Host.Outcome State Fault Refusal :=
  .next (if s.boot.powered then s.sameCycle s.powerFail else s)

/-- SUPPLY_LOW_TIMEOUT (R786): the supply has lain below 18.0 V for 10 s. -/
def execSupplyLowTimeout (s : State) : Host.Outcome State Fault Refusal :=
  .next (if s.boot.powered then s.sameCycle s.powerFail else s)

/-- POWER_FAIL_COMMIT (R310): a mirror slot with PFAIL = 1, the counted records, a due configuration copy, the ring records, and
event 0x0401 with the time in µs; the ledger is then locked, and the legal domain held in reset (R313). -/
def State.commitPowerFail (s : State) (us : Nat) : State :=
  let s1 := s.commitMirror s.commit.frozenCycle s.commit.frozenUtc true false
  let s2 := s1.commitCounted (s1.log.counted.length + s1.log.waiting.length)
  let s3 := if s2.commit.configDirty then s2.commitConfig else s2
  let s4 := s3.commitEvents s3.pendingRecords
  let s5 := s4.logE Page.LDG 0x0401 us
  let s6 := s5.commitEvents s5.pendingRecords
  let s7 := ((s6.put F.LDG_PFLOG_US us).put F.LDG_PFLOG_LINES s6.commit.discarded).put F.LDG_STAT_LOCKED 1
  (({ s7 with boot := { s7.boot with appRuns := false, legalRuns := false } } : State).put F.BOOT_APPRST_CAUSE 7)

def execPowerFailCommit (us : BitVec 16) (s : State) : Host.Outcome State Fault Refusal :=
  .next (if s.boot.pfail ∧ s.commitOpen then s.commitPowerFail us.toNat else s)

/-- SUPPLY_RETURN_DURING_PFAIL (R313): the sequence runs to its end; the next start logs event 0x040E. -/
def execSupplyReturnDuringPfail (s : State) : Host.Outcome State Fault Refusal :=
  .next (if s.boot.pfail then { s with boot := { s.boot with pfailReturn := true } } else s)

/-- HOLDUP_STORE_FAIL (R810). -/
def execHoldupStoreFail (s : State) : Host.Outcome State Fault Refusal := .next (s.put F.SYS_HOLDUP_HUREADY 0)

/-- ENVIRONMENT_MEASUREMENT (R805): the supply every 1 ms, the interior temperature with it every 1 s; the extremes since the
last read of SYS.ENVEXT. -/
def State.measureEnv (s : State) (vsup : Nat) (tint : Option (BitVec 12)) : State :=
  let lo := s.get F.SYS_ENVEXT_VMIN
  let s1 := (s.put F.SYS_ENV_VSUP vsup).put F.SYS_ENVEXT_VMIN (if lo = 0 then vsup else min lo vsup)
  match tint with
  | none => s1
  | some t =>
    let high := toSigned 12 (s.get F.SYS_ENVEXT_TMAX)
    let m : Int := if s.boot.tmaxValid then max high t.toInt else t.toInt
    let s2 := (s1.put F.SYS_ENV_TINT t.toNat).put F.SYS_ENVEXT_TMAX (ofSigned 12 m)
    { s2 with boot := { s2.boot with tmaxValid := true } }

def execEnvironmentMeasurement (vsup : BitVec 16) (tint : Option (BitVec 12)) (s : State) : Host.Outcome State Fault Refusal :=
  .next (s.measureEnv vsup.toNat tint)

end Sys2Proof.Machine
end

