-- ==== Sys2Proof/Machine/Recovery.lean ====
section
/-!
DEFINITION. Machine/Recovery.lean: the recovery protocol of Winter mode (R751 to R753, Table 19-10). A message comes from U0 or
from Ethernet; its answer goes to BusResult.
-/

namespace Sys2Proof.Machine

/-- Is the recovery service there for a message: in legal Winter from both links, in ROM Winter from U0 (R751)? -/
def State.recovers (s : State) (eth : Bool) : Bool :=
  s.boot.powered && s.inWinter && (if s.romLevel then !eth else s.boot.legalRuns)

/-- Is a message with `n` bytes of PAYLOAD one of the format (R752)? On U0 CMD and PAYLOAD are at most 65 545 bytes; on Ethernet LEN, CMD and PAYLOAD
are the payload of one frame. -/
def messageFits (eth : Bool) (n : Nat) : Bool := if eth then decide (n + 5 ≤ 1500) else decide (n + 1 ≤ 65545)

/-- Run a recovery command that the update engine answers when it completes. -/
def State.recoveryRun (s : State) (cmd : Nat) (k : State → State) : State :=
  (k { s with update := { s.update with asked := cmd } }).answerDone

/-- RECOVERY_HELLO (R752): the answer adds SYS.MODE, BOOT.WINTER, SYS.UID, SYS.REV and UPD.BANKS. -/
def State.recoveryHello (s : State) (eth : Bool) : State :=
  if s.recovers eth then
    s.answerRecovery 0x01 1 (toBytes 4 (s.word F.SYS_MODE_MODE.addr).toNat ++ toBytes 4 (s.word F.BOOT_WINTER_REASON.addr).toNat
      ++ toBytes 16 (s.getW F.SYS_UID) ++ toBytes 4 (s.word 0x40000004).toNat ++ toBytes 4 (s.word F.UPD_BANKS_CONF_SPR.addr).toNat)
  else s

def execRecoveryHello (eth : Bool) (s : State) : Host.Outcome State Fault Refusal := .next (s.recoveryHello eth)

/-- Bytes of the manifest buffer of the service. -/
def manbufSize : Nat := 65536

/-- Put bytes into a buffer at an offset; bytes in between read as 0. -/
def bufPut (buf : List Byte) (ofs : Nat) (l : List Byte) : List Byte :=
  let b := buf ++ List.replicate (ofs - buf.length) 0
  b.take ofs ++ l ++ b.drop (ofs + l.length)

/-- RECOVERY_MANBUF (R752); bytes beyond the buffer are refused with RESULT 10. -/
def State.recoveryManbuf (s : State) (eth : Bool) (ofs : Nat) (l : List Byte) : State :=
  if s.recovers eth && messageFits eth (l.length + 4) then
    if ofs + l.length > manbufSize then s.answerRecovery 0x02 10 []
    else ({ s with update := { s.update with manbuf := bufPut s.update.manbuf ofs l } } : State).answerRecovery 0x02 1 []
  else s

def execRecoveryManbuf (eth : Bool) (ofs : Word) (data : List Byte) (s : State) : Host.Outcome State Fault Refusal :=
  .next (s.recoveryManbuf eth ofs.toNat data)

/-- RECOVERY_OPEN (R732, R751, R752): OPEN on the first TOTAL bytes of the buffer. -/
def State.recoveryOpen (s : State) (eth : Bool) (total : Nat) : State :=
  if s.recovers eth then
    s.recoveryRun 0x03 fun t => t.updCommand 1 fun u => u.openManifest (u.update.manbuf.take total) (u.romLevel)
  else s

def execRecoveryOpen (eth : Bool) (total : Word) (s : State) : Host.Outcome State Fault Refusal := .next (s.recoveryOpen eth total.toNat)

/-- RECOVERY_DATA (R735, R752): WRITE of a part. On Ethernet the payload has at most 1 024 bytes. -/
def State.recoveryData (s : State) (eth : Bool) (part ofs : Nat) (l : List Byte) : State :=
  if s.recovers eth && messageFits eth (l.length + 8) && !(eth && decide (l.length + 8 > 1024)) then
    s.recoveryRun 0x04 fun t => t.updCommand 2 fun u => u.writeBytes part ofs l
  else s

def execRecoveryData (eth : Bool) (part : Byte) (ofs : Word) (data : List Byte) (s : State) : Host.Outcome State Fault Refusal :=
  .next (s.recoveryData eth part.toNat ofs.toNat data)

/-- RECOVERY_PREPARE (R737, R752). -/
def State.recoveryPrepare (s : State) (eth : Bool) : State :=
  if s.recovers eth then s.recoveryRun 0x05 (·.updPrepare) else s

def execRecoveryPrepare (eth : Bool) (s : State) : Host.Outcome State Fault Refusal := .next (s.recoveryPrepare eth)

/-- RECOVERY_ACTIVATE (R740, R752): activation with AMODE = 0; source 1 in legal Winter, 2 from the boot ROM. -/
def State.recoveryActivate (s : State) (eth : Bool) : State :=
  if s.recovers eth then
    s.recoveryRun 0x06 fun t => t.updCommand 4 fun u => u.activate false (if u.romLevel then 2 else 1)
  else s

def execRecoveryActivate (eth : Bool) (s : State) : Host.Outcome State Fault Refusal := .next (s.recoveryActivate eth)

/-- RECOVERY_ABORT (R736, R752). -/
def State.recoveryAbort (s : State) (eth : Bool) : State :=
  if s.recovers eth then s.recoveryRun 0x07 (·.abortUpdate) else s

def execRecoveryAbort (eth : Bool) (s : State) : Host.Outcome State Fault Refusal := .next (s.recoveryAbort eth)

/-- Does a retry request pass the checks of R753? -/
def State.retryOk (s : State) (q : List Byte) : Bool :=
  q.take 8 == [0x53, 0x56, 0x58, 0x51, 0x01, 0x01, 0x00, 0x00] && decide (q.length = 96) && leAt q 8 16 == s.getW F.SYS_UID
    && leAt q 28 4 == 0 && ecdsaVerify s.custSigner (q.take 32) ((q.drop 32).take 64)
    && decide (leAt q 24 4 > s.get F.UPD_RQSEQ) && [1, 5].contains (s.get F.BOOT_WINTER_REASON)

/-- The module proceeds under R148: RQSEQ is recorded, Winter mode is left, the pages go back to the application domain, the
island leaves HELD, CONSEC is 2, and one application start begins at S3. -/
def State.retryStart (s : State) (rqseq : Nat) : State :=
  let s1 := ((s.put F.UPD_RQSEQ rqseq).commitBsel).leaveWinter.returnPages
  let s2 := ((s1.put F.BOOT_STARTS_CONSEC 2).commitBoot)
  let s3 : State := { s2 with boot := { s2.boot with ready := false, failCounted := false } }
  (if s3.get F.SAF_STAT_STATE = 2 then s3.operateIsland else s3).toStage 3

/-- RECOVERY_RETRY (R148, R751, R753). -/
def State.recoveryRetry (s : State) (eth : Bool) (q : List Byte) : State :=
  if !s.recovers eth then s
  else if s.romLevel then s.answerRecovery 0x08 3 []
  else if s.retryOk q then (s.answerRecovery 0x08 1 []).retryStart (leAt q 24 4)
  else (s.answerRecovery 0x08 18 []).logE Page.UPD 0x0F15 (leAt q 24 4)

def execRecoveryRetry (eth : Bool) (request : BitVec 768) (s : State) : Host.Outcome State Fault Refusal :=
  .next (s.recoveryRetry eth (toBytes 96 request.toNat))

/-- RECOVERY_BAD_MESSAGE (R752): a message that fails its CRC or its format is discarded without answer. -/
def execRecoveryBadMessage (_eth : Bool) (s : State) : Host.Outcome State Fault Refusal := .next s

end Sys2Proof.Machine
end

