-- ==== Sys2Proof/Machine/Service.lean ====
section
/-!
DEFINITION. Machine/Service.lean: the service link on X22 (R769, Table 20-4), Production test (R770 to R772) and the programming of
the flash die (R773). An answer goes to BusResult.
-/

namespace Sys2Proof.Machine

/-- Is the service link served: the seal state is FACTORY or UNSEALED and the legal image runs (R769)? -/
def State.serviceOn (s : State) : Bool := s.boot.powered && s.boot.legalRuns && !s.sealed && !s.romLevel

/-- The answer to a service command: CMD + 0x80, RESULT, and what the command adds. A refused command, RESULT 3 or, for a
count or length out of its range, 6, is logged as event 0x1020. -/
def State.answerService (s : State) (cmd result : Nat) (more : List Byte) : State :=
  (s.when (result == 3 || result == 6) (·.logE Page.SYS 0x1020 (args [cmd, result]))).answer ([byteOf (cmd + 0x80) 0, byteOf result 0] ++ more)

/-- SERVICE_SHELLO (R769). -/
def State.serviceShello (s : State) : State :=
  if s.serviceOn then
    s.answerService 0x40 1 (toBytes 16 (s.getW F.SYS_UID) ++ toBytes 4 (s.word 0x40000004).toNat ++ toBytes 4 (s.word F.SEAL_STAT_STATE.addr).toNat
      ++ toBytes 4 (s.word F.SEAL_LEC.addr).toNat ++ toBytes 4 (s.word F.SYS_MODE_MODE.addr).toNat)
  else s

def execServiceShello (s : State) : Host.Outcome State Fault Refusal := .next s.serviceShello

/-- Read `n` words from `a` as the legal core, with the side effects of such reads; none at a bus error. -/
def State.readLegal (s : State) (a : Nat) : Nat → Option (List Byte) × State
  | 0 => (some [], s)
  | n + 1 =>
    let t := s.readAccess .legal a 4
    if t.bus.err then (none, t)
    else match t.readLegal (a + 4) n with
      | (some l, u) => (some (toBytes 4 t.bus.data ++ l), u)
      | (none, u) => (none, u)

/-- SERVICE_RDREG (R769): 1 to 256 words. -/
def State.serviceRdreg (s : State) (a n : Nat) : State :=
  if !s.serviceOn then s
  else if n < 1 ∨ 256 < n then s.answerService 0x41 6 []
  else match s.readLegal a n with
    | (some l, t) => t.answerService 0x41 1 l
    | (none, t) => t.answerService 0x41 3 []

def execServiceRdreg (a : Word) (count : BitVec 16) (s : State) : Host.Outcome State Fault Refusal :=
  .next (s.serviceRdreg a.toNat count.toNat)

/-- A write of SEAL.CMD through X22 is a request that the legal image serves by the step it names (R103, step 3): COMMIT commits the sealing
record first, where PUSHED awaits it. -/
def State.requestSealStep (s : State) (op : Nat) : State :=
  if op = 2 ∧ s.on F.SEAL_STAT_ARMED ∧ s.on F.SEAL_STAT_PUSHED ∧ !s.sealSt.recorded then s.commitSealing.commitSeal else s.writeSealCmd op

/-- A word that the service link writes. -/
def State.writeService (s : State) (a : Nat) (w : Word) : State :=
  if a = F.SEAL_CMD_OP.addr then (s.requestSealStep (w.toNat % 4)).busOk 0 else s.writeAccess .legal a 4 w.toNat

/-- Write words from `a` for the legal domain, up to the first bus error. -/
def State.writeLegal (s : State) (a : Nat) : List Word → Bool × State
  | [] => (true, s)
  | w :: l =>
    let t := s.writeService a w
    if t.bus.err then (false, t) else t.writeLegal (a + 4) l

/-- SERVICE_WRREG (R769): the outcomes of Table 3-3; a step of sealing through SEAL.CMD acts as R103 gives. -/
def State.serviceWrreg (s : State) (a : Nat) (l : List Word) : State :=
  if !s.serviceOn then s
  else if l = [] then s.answerService 0x42 6 []
  else match s.writeLegal a l with
    | (true, t) => t.answerService 0x42 1 []
    | (false, t) => t.answerService 0x42 3 []

def execServiceWrreg (a : Word) (words : List Word) (s : State) : Host.Outcome State Fault Refusal := .next (s.serviceWrreg a.toNat words)

/-- The first condition of R770 that is not met: 1 seal, 2 mode, 3 session, 4 update engine; 0 when all hold. -/
def State.ptCondition (s : State) : Nat :=
  if s.sealed then 1
  else if !([0, 3].contains (s.get F.SYS_MODE_MODE)) then 2
  else if s.get F.SIG_STAT_SESS ≠ 0 then 3
  else if !s.on F.UPD_STAT_ENGIDLE then 4
  else 0

/-- SERVICE_PTENTER (R770). -/
def State.servicePtenter (s : State) : State :=
  if !s.serviceOn then s
  else if s.ptCondition ≠ 0 then (s.logE Page.SYS 0x1003 s.ptCondition).answerService 0x43 3 []
  else
    let s1 := ({ s with boot := { s.boot with productionTest := true } } : State).noteMode
    ((s1.holdIsland 3).logE Page.SYS 0x1001 0).answerService 0x43 1 []

def execServicePtenter (s : State) : Host.Outcome State Fault Refusal := .next s.servicePtenter

/-- SERVICE_PTEXIT (R772): event 0x1002 and a cold start. -/
def State.servicePtexit (s : State) (z : ColdCheck) : State :=
  if !s.serviceOn then s
  else if !s.boot.productionTest then s.answerService 0x44 3 []
  else
    let s1 := s.answerService 0x44 1 []
    let s2 := (({ s1 with boot := { s1.boot with productionTest := false } } : State).noteMode).logE Page.SYS 0x1002 0
    s2.quiesce.coldStart false 3 z id

def execServicePtexit (z : ColdCheck) (s : State) : Host.Outcome State Fault Refusal := .next (s.servicePtexit z)

/-- Bytes of the flash die: two banks and the staging and settings area (Tables 4-1 and 19-1). -/
def dieSize : Nat := 0x20000000

/-- SERVICE_FLPROG (R773): the covered sectors are erased and programmed; `ok`: the read-back agrees. Where it does not, or the supply fails
meanwhile (R780), they hold undefined content. -/
def State.serviceFlprog (s : State) (ofs : Nat) (l : List Byte) (ok : Bool) : State :=
  if !s.serviceOn then s
  else if !s.boot.productionTest then s.answerService 0x45 3 []
  else if l.length < 1 ∨ 65536 < l.length ∨ ofs + l.length > dieSize then s.answerService 0x45 6 []
  else
    let lo := ofs / 4096 * 4096
    let hi := (ofs + l.length + 4095) / 4096 * 4096
    let s1 := if ok then (s.eraseFlash lo hi).setFlashBytes ofs l else s.spoilFlash lo (hi - lo)
    (s1.logE Page.SYS 0x1021 (args [ofs, l.length])).answerService 0x45 (if ok then 1 else 12) []

def execServiceFlprog (ofs : Word) (data : List Byte) (ok : Bool) (s : State) : Host.Outcome State Fault Refusal :=
  .next (s.serviceFlprog ofs.toNat data ok)

/-- SERVICE_FLREAD (R769): raw bytes of the flash die, in Production test only. -/
def State.serviceFlread (s : State) (ofs n : Nat) : State :=
  if !s.serviceOn then s
  else if !s.boot.productionTest then s.answerService 0x46 3 []
  else if n < 1 ∨ 65536 < n ∨ ofs + n > dieSize then s.answerService 0x46 6 []
  else s.answerService 0x46 1 (s.flashBytes ofs n)

def execServiceFlread (ofs len : Word) (s : State) : Host.Outcome State Fault Refusal := .next (s.serviceFlread ofs.toNat len.toNat)

/-- SERVICE_BAD_MESSAGE (R752, R769): a message that fails its CRC or its format is discarded without answer. -/
def execServiceBadMessage (s : State) : Host.Outcome State Fault Refusal := .next s

end Sys2Proof.Machine
end

