-- ==== Sys2Proof/Machine/Dispatch.lean ====
section
/-!
DEFINITION. Machine/Dispatch.lean: one arm per command, each one direct call of its meaning.
-/

namespace Sys2Proof.Machine

def exec (i : Instr) (s : State) : Host.Outcome State Fault Refusal :=
  match i with
  | .registerWrite who a size v => Sys2Proof.Machine.execRegisterWrite who a size v s
  | .stalledWriteResume who => Sys2Proof.Machine.execStalledWriteResume who s
  | .unmappedAccess who a write => Sys2Proof.Machine.execUnmappedAccess who a write s
  | .rcFieldRead who a => Sys2Proof.Machine.execRcFieldRead who a s
  | .wideSnapshotRead who a => Sys2Proof.Machine.execWideSnapshotRead who a s
  | .wideStagingWrite who a v => Sys2Proof.Machine.execWideStagingWrite who a v s
  | .faultClear who page v => Sys2Proof.Machine.execFaultClear who page v s
  | .ownerTransfer page dom => Sys2Proof.Machine.execOwnerTransfer page dom s
  | .sealArm => Sys2Proof.Machine.execSealArm s
  | .sealPushQualified recorded => Sys2Proof.Machine.execSealPushQualified recorded s
  | .sealCommit => Sys2Proof.Machine.execSealCommit s
  | .sealCancel => Sys2Proof.Machine.execSealCancel s
  | .sealArmExpiry => Sys2Proof.Machine.execSealArmExpiry s
  | .sealCommitExpiry => Sys2Proof.Machine.execSealCommitExpiry s
  | .unseal => Sys2Proof.Machine.execUnseal s
  | .pushContactChange pressed => Sys2Proof.Machine.execPushContactChange pressed s
  | .coverOpen => Sys2Proof.Machine.execCoverOpen s
  | .coverClose => Sys2Proof.Machine.execCoverClose s
  | .supplyValid z utc => Sys2Proof.Machine.execSupplyValid z utc s
  | .stageS1 c => Sys2Proof.Machine.execStageS1 c s
  | .stageS2 c => Sys2Proof.Machine.execStageS2 c s
  | .stageS3 c z => Sys2Proof.Machine.execStageS3 c z s
  | .stageS4 => Sys2Proof.Machine.execStageS4 s
  | .applicationStart c z => Sys2Proof.Machine.execApplicationStart c z s
  | .legalWatchdogExpiry z => Sys2Proof.Machine.execLegalWatchdogExpiry z s
  | .lockstepMismatch z => Sys2Proof.Machine.execLockstepMismatch z s
  | .legalRunQualified => Sys2Proof.Machine.execLegalRunQualified s
  | .fetchTagMismatch who ofs => Sys2Proof.Machine.execFetchTagMismatch who ofs s
  | .mismatchReset z => Sys2Proof.Machine.execMismatchReset z s
  | .startConfirmation v => Sys2Proof.Machine.execStartConfirmation v s
  | .startDeadlineExpiry z => Sys2Proof.Machine.execStartDeadlineExpiry z s
  | .startGood => Sys2Proof.Machine.execStartGood s
  | .standbyRequest => Sys2Proof.Machine.execStandbyRequest s
  | .wake src => Sys2Proof.Machine.execWake src s
  | .runRequest => Sys2Proof.Machine.execRunRequest s
  | .vehicleRoleRequest => Sys2Proof.Machine.execVehicleRoleRequest s
  | .cycleEnd => Sys2Proof.Machine.execCycleEnd s
  | .zeroCrossingComparison freq => Sys2Proof.Machine.execZeroCrossingComparison freq s
  | .sourcePresent freq => Sys2Proof.Machine.execSourcePresent freq s
  | .sourceAbsent => Sys2Proof.Machine.execSourceAbsent s
  | .sourceOutOfRange freq => Sys2Proof.Machine.execSourceOutOfRange freq s
  | .holdoverTimeout => Sys2Proof.Machine.execHoldoverTimeout s
  | .angEnable => Sys2Proof.Machine.execAngEnable s
  | .angDisable => Sys2Proof.Machine.execAngDisable s
  | .angSourceSelect freeRun => Sys2Proof.Machine.execAngSourceSelect freeRun s
  | .angCyclesCommit v => Sys2Proof.Machine.execAngCyclesCommit v s
  | .alarmCommit n v => Sys2Proof.Machine.execAlarmCommit n v s
  | .alarmFire ns => Sys2Proof.Machine.execAlarmFire ns s
  | .timerStart n => Sys2Proof.Machine.execTimerStart n s
  | .timerZero n => Sys2Proof.Machine.execTimerZero n s
  | .watchdogEnable v => Sys2Proof.Machine.execWatchdogEnable v s
  | .watchdogKick v z => Sys2Proof.Machine.execWatchdogKick v z s
  | .watchdogWarning => Sys2Proof.Machine.execWatchdogWarning s
  | .watchdogExpiry z => Sys2Proof.Machine.execWatchdogExpiry z s
  | .utcRequest v => Sys2Proof.Machine.execUtcRequest v s
  | .utcRequestHandle elapsed buildTime => Sys2Proof.Machine.execUtcRequestHandle elapsed buildTime s
  | .rtcSlewEnd => Sys2Proof.Machine.execRtcSlewEnd s
  | .referenceDeviation => Sys2Proof.Machine.execReferenceDeviation s
  | .referenceRecovered => Sys2Proof.Machine.execReferenceRecovered s
  | .supercapMeasure mv => Sys2Proof.Machine.execSupercapMeasure mv s
  | .headPortEnable p => Sys2Proof.Machine.execHeadPortEnable p s
  | .headPortDisable p => Sys2Proof.Machine.execHeadPortDisable p s
  | .upstreamActivity p => Sys2Proof.Machine.execUpstreamActivity p s
  | .statusWord p w violation rtd => Sys2Proof.Machine.execStatusWord p w violation rtd s
  | .upstreamSilence p => Sys2Proof.Machine.execUpstreamSilence p s
  | .helloEchoTimeout p => Sys2Proof.Machine.execHelloEchoTimeout p s
  | .helloRetry p => Sys2Proof.Machine.execHelloRetry p s
  | .portPowerFault p => Sys2Proof.Machine.execPortPowerFault p s
  | .pfaultRecovery p => Sys2Proof.Machine.execPfaultRecovery p s
  | .headConnect p => Sys2Proof.Machine.execHeadConnect p s
  | .headDisconnect p => Sys2Proof.Machine.execHeadDisconnect p s
  | .headIdle p w => Sys2Proof.Machine.execHeadIdle p w s
  | .headHello p w => Sys2Proof.Machine.execHeadHello p w s
  | .headRun p w => Sys2Proof.Machine.execHeadRun p w s
  | .headHalt p w => Sys2Proof.Machine.execHeadHalt p w s
  | .headAuxctl p w => Sys2Proof.Machine.execHeadAuxctl p w s
  | .headPattern p w => Sys2Proof.Machine.execHeadPattern p w s
  | .headCommandTimeout p => Sys2Proof.Machine.execHeadCommandTimeout p s
  | .outputSample bits => Sys2Proof.Machine.execOutputSample bits s
  | .chainEnable => Sys2Proof.Machine.execChainEnable s
  | .channelEnableChange mask => Sys2Proof.Machine.execChannelEnableChange mask s
  | .engineCycleClose => Sys2Proof.Machine.execEngineCycleClose s
  | .meCfgWrite n v => Sys2Proof.Machine.execMeCfgWrite n v s
  | .accCfgWrite n v => Sys2Proof.Machine.execAccCfgWrite n v s
  | .brWrite n v => Sys2Proof.Machine.execBrWrite n v s
  | .calApply => Sys2Proof.Machine.execCalApply s
  | .accumulatorClear v => Sys2Proof.Machine.execAccumulatorClear v s
  | .heldRunLimit n => Sys2Proof.Machine.execHeldRunLimit n s
  | .pulseWindowStart len => Sys2Proof.Machine.execPulseWindowStart len s
  | .pulseActiveEdge n => Sys2Proof.Machine.execPulseActiveEdge n s
  | .pulseEnd n => Sys2Proof.Machine.execPulseEnd n s
  | .poCfgWrite n v => Sys2Proof.Machine.execPoCfgWrite n v s
  | .poTestWrite n v => Sys2Proof.Machine.execPoTestWrite n v s
  | .pulseSnapshotRequest => Sys2Proof.Machine.execPulseSnapshotRequest s
  | .sramAccess who a op upset => Sys2Proof.Machine.execSramAccess who a op upset s
  | .sramLineClear who a => Sys2Proof.Machine.execSramLineClear who a s
  | .ledgerReadRequest line upset => Sys2Proof.Machine.execLedgerReadRequest line upset s
  | .appLedgerRead line upset => Sys2Proof.Machine.execAppLedgerRead line upset s
  | .ledgerWriteQueue v => Sys2Proof.Machine.execLedgerWriteQueue v s
  | .appLedgerWrite v => Sys2Proof.Machine.execAppLedgerWrite v s
  | .commitEngineLineWrite upset => Sys2Proof.Machine.execCommitEngineLineWrite upset s
  | .scrubRead upset => Sys2Proof.Machine.execScrubRead upset s
  | .mirrorRequest => Sys2Proof.Machine.execMirrorRequest s
  | .mirrorCommit => Sys2Proof.Machine.execMirrorCommit s
  | .configCopy => Sys2Proof.Machine.execConfigCopy s
  | .eventRecordCommit => Sys2Proof.Machine.execEventRecordCommit s
  | .sessionOpenRequest tenant seq => Sys2Proof.Machine.execSessionOpenRequest tenant seq s
  | .sessionCloseRequest appReason seq => Sys2Proof.Machine.execSessionCloseRequest appReason seq s
  | .readingRequest seq => Sys2Proof.Machine.execReadingRequest seq s
  | .startReading => Sys2Proof.Machine.execStartReading s
  | .startRecordCommit => Sys2Proof.Machine.execStartRecordCommit s
  | .endReading => Sys2Proof.Machine.execEndReading s
  | .interimReading => Sys2Proof.Machine.execInterimReading s
  | .signCommand => Sys2Proof.Machine.execSignCommand s
  | .signatureComplete => Sys2Proof.Machine.execSignatureComplete s
  | .supplyFailure => Sys2Proof.Machine.execSupplyFailure s
  | .supplyLowTimeout => Sys2Proof.Machine.execSupplyLowTimeout s
  | .powerFailCommit us => Sys2Proof.Machine.execPowerFailCommit us s
  | .supplyReturnDuringPfail => Sys2Proof.Machine.execSupplyReturnDuringPfail s
  | .holdupStoreFail => Sys2Proof.Machine.execHoldupStoreFail s
  | .pilotPeriodStart => Sys2Proof.Machine.execPilotPeriodStart s
  | .pilotSample high low obs obsHigh => Sys2Proof.Machine.execPilotSample high low obs obsHigh s
  | .pilotFault stuck => Sys2Proof.Machine.execPilotFault stuck s
  | .dutyWrite v => Sys2Proof.Machine.execDutyWrite v s
  | .ppMeasurement ohms => Sys2Proof.Machine.execPpMeasurement ohms s
  | .modemEnable => Sys2Proof.Machine.execModemEnable s
  | .modemDisable => Sys2Proof.Machine.execModemDisable s
  | .modemReady fw => Sys2Proof.Machine.execModemReady fw s
  | .modemWatchdog silent => Sys2Proof.Machine.execModemWatchdog silent s
  | .slacEnable => Sys2Proof.Machine.execSlacEnable s
  | .slacParmReq mac run sounds att => Sys2Proof.Machine.execSlacParmReq mac run sounds att s
  | .slacMatchReq mac run => Sys2Proof.Machine.execSlacMatchReq mac run s
  | .slacResult ok cause rate => Sys2Proof.Machine.execSlacResult ok cause rate s
  | .validationRequest announced toggles => Sys2Proof.Machine.execValidationRequest announced toggles s
  | .logicalNetworkLeave cause => Sys2Proof.Machine.execLogicalNetworkLeave cause s
  | .modemFrameReceived frame fcsOk => Sys2Proof.Machine.execModemFrameReceived frame fcsOk s
  | .modemFrameTransmit => Sys2Proof.Machine.execModemFrameTransmit s
  | .vrNetWrite v => Sys2Proof.Machine.execVrNetWrite v s
  | .profileRun steps => Sys2Proof.Machine.execProfileRun steps s
  | .profileStepEnd => Sys2Proof.Machine.execProfileStepEnd s
  | .profileStop => Sys2Proof.Machine.execProfileStop s
  | .inputFilterChange input level chatter quiet demandMs => Sys2Proof.Machine.execInputFilterChange input level chatter quiet demandMs s
  | .testPulseStart src => Sys2Proof.Machine.execTestPulseStart src s
  | .testPulseCheck src levels low high => Sys2Proof.Machine.execTestPulseCheck src levels low high s
  | .laneComparison agree => Sys2Proof.Machine.execLaneComparison agree s
  | .oscillatorDeviation dev => Sys2Proof.Machine.execOscillatorDeviation dev s
  | .islandWatchdog => Sys2Proof.Machine.execIslandWatchdog s
  | .parameterCrcCheck w flip => Sys2Proof.Machine.execParameterCrcCheck w flip s
  | .discrepancyFault p => Sys2Proof.Machine.execDiscrepancyFault p s
  | .resetPairFaultClear p => Sys2Proof.Machine.execResetPairFaultClear p s
  | .restartQualify p => Sys2Proof.Machine.execRestartQualify p s
  | .safetyResetRequest v quiet => Sys2Proof.Machine.execSafetyResetRequest v quiet s
  | .closeDeadline n => Sys2Proof.Machine.execCloseDeadline n s
  | .openDeadline n => Sys2Proof.Machine.execOpenDeadline n s
  | .weldWindow => Sys2Proof.Machine.execWeldWindow s
  | .residualEvaluation => Sys2Proof.Machine.execResidualEvaluation s
  | .insulationEvaluation => Sys2Proof.Machine.execInsulationEvaluation s
  | .insulationStepEnd => Sys2Proof.Machine.execInsulationStepEnd s
  | .selfTestDue => Sys2Proof.Machine.execSelfTestDue s
  | .bleederEchoTimeout => Sys2Proof.Machine.execBleederEchoTimeout s
  | .reqsetWrite x mask => Sys2Proof.Machine.execReqsetWrite x mask s
  | .reqclrWrite x mask => Sys2Proof.Machine.execReqclrWrite x mask s
  | .reqWrite x mask => Sys2Proof.Machine.execReqWrite x mask s
  | .turnOnCheck n hsHigh => Sys2Proof.Machine.execTurnOnCheck n hsHigh s
  | .regulationTrip n => Sys2Proof.Machine.execRegulationTrip n s
  | .blankingEnd n => Sys2Proof.Machine.execBlankingEnd n s
  | .hardShort n => Sys2Proof.Machine.execHardShort n s
  | .thermalTrip n temp => Sys2Proof.Machine.execThermalTrip n temp s
  | .retryInstant n => Sys2Proof.Machine.execRetryInstant n s
  | .cleanRunningComplete n => Sys2Proof.Machine.execCleanRunningComplete n s
  | .latchClear x mask => Sys2Proof.Machine.execLatchClear x mask s
  | .legFault n => Sys2Proof.Machine.execLegFault n s
  | .twoLegShort n => Sys2Proof.Machine.execTwoLegShort n s
  | .loadMeasurement n r quiet => Sys2Proof.Machine.execLoadMeasurement n r quiet s
  | .clampEvent n hs ls ms => Sys2Proof.Machine.execClampEvent n hs ls ms s
  | .shedding cur => Sys2Proof.Machine.execShedding cur s
  | .vswOutOfRange mv => Sys2Proof.Machine.execVswOutOfRange mv s
  | .vswInRange mv => Sys2Proof.Machine.execVswInRange mv s
  | .vswRestart n => Sys2Proof.Machine.execVswRestart n s
  | .slotAStart rxBits => Sys2Proof.Machine.execSlotAStart rxBits s
  | .slotBStart rxBits => Sys2Proof.Machine.execSlotBStart rxBits s
  | .slotBEnd => Sys2Proof.Machine.execSlotBEnd s
  | .pollReceived f => Sys2Proof.Machine.execPollReceived f s
  | .grantReceived f => Sys2Proof.Machine.execGrantReceived f s
  | .admitReceived f => Sys2Proof.Machine.execAdmitReceived f s
  | .beaconReceived f => Sys2Proof.Machine.execBeaconReceived f s
  | .timeReceived f => Sys2Proof.Machine.execTimeReceived f s
  | .activateReceived f => Sys2Proof.Machine.execActivateReceived f s
  | .bulkgrantReceived f => Sys2Proof.Machine.execBulkgrantReceived f s
  | .claimReceived f => Sys2Proof.Machine.execClaimReceived f s
  | .bulkReceived f slotB => Sys2Proof.Machine.execBulkReceived f slotB s
  | .statusReceived f => Sys2Proof.Machine.execStatusReceived f s
  | .joinReceived f => Sys2Proof.Machine.execJoinReceived f s
  | .leaveReceived f => Sys2Proof.Machine.execLeaveReceived f s
  | .bulkreqReceived f => Sys2Proof.Machine.execBulkreqReceived f s
  | .bulkackReceived f => Sys2Proof.Machine.execBulkackReceived f s
  | .badFrame cause => Sys2Proof.Machine.execBadFrame cause s
  | .lossOfMaster => Sys2Proof.Machine.execLossOfMaster s
  | .electionWaitEnd => Sys2Proof.Machine.execElectionWaitEnd s
  | .claimRoundEnd => Sys2Proof.Machine.execClaimRoundEnd s
  | .masterSilence => Sys2Proof.Machine.execMasterSilence s
  | .linkEnable en => Sys2Proof.Machine.execLinkEnable en s
  | .leaveRequest => Sys2Proof.Machine.execLeaveRequest s
  | .timeCommand => Sys2Proof.Machine.execTimeCommand s
  | .acttxCommit v => Sys2Proof.Machine.execActtxCommit v s
  | .bulkreqTimeout => Sys2Proof.Machine.execBulkreqTimeout s
  | .grantApply => Sys2Proof.Machine.execGrantApply s
  | .allowanceUpdate => Sys2Proof.Machine.execAllowanceUpdate s
  | .authRequest v => Sys2Proof.Machine.execAuthRequest v s
  | .authComplete => Sys2Proof.Machine.execAuthComplete s
  | .allowListCheck => Sys2Proof.Machine.execAllowListCheck s
  | .allowListCheckDone => Sys2Proof.Machine.execAllowListCheckDone s
  | .partitionWipe => Sys2Proof.Machine.execPartitionWipe s
  | .slotWrite word v => Sys2Proof.Machine.execSlotWrite word v s
  | .tariffBoundary => Sys2Proof.Machine.execTariffBoundary s
  | .tariffRequestDeferred => Sys2Proof.Machine.execTariffRequestDeferred s
  | .hfEnable tuned code => Sys2Proof.Machine.execHfEnable tuned code s
  | .hfDisable => Sys2Proof.Machine.execHfDisable s
  | .antennaRetune tuned code => Sys2Proof.Machine.execAntennaRetune tuned code s
  | .reqaPoll answer => Sys2Proof.Machine.execReqaPoll answer s
  | .cardActivation answered collision atqa sak uid ats rate => Sys2Proof.Machine.execCardActivation answered collision atqa sak uid ats rate s
  | .cardExchange txlen => Sys2Proof.Machine.execCardExchange txlen s
  | .exchangeDone xres answer block => Sys2Proof.Machine.execExchangeDone xres answer block s
  | .cardRelease => Sys2Proof.Machine.execCardRelease s
  | .haltwatchProbe answer => Sys2Proof.Machine.execHaltwatchProbe answer s
  | .activeTimeout => Sys2Proof.Machine.execActiveTimeout s
  | .cardLeftField => Sys2Proof.Machine.execCardLeftField s
  | .inventoryRound channel tags crcErrors => Sys2Proof.Machine.execInventoryRound channel tags crcErrors s
  | .uhfReflectionFault power => Sys2Proof.Machine.execUhfReflectionFault power s
  | .uhfPop => Sys2Proof.Machine.execUhfPop s
  | .frameBoundary retry bad => Sys2Proof.Machine.execFrameBoundary retry bad s
  | .panelRequest n v => Sys2Proof.Machine.execPanelRequest n v s
  | .railsGood bad => Sys2Proof.Machine.execRailsGood bad s
  | .railFault rail prior => Sys2Proof.Machine.execRailFault rail prior s
  | .railHoldExpiry => Sys2Proof.Machine.execRailHoldExpiry s
  | .panelTemperature t => Sys2Proof.Machine.execPanelTemperature t s
  | .panelNeutralFrame => Sys2Proof.Machine.execPanelNeutralFrame s
  | .audioEnable en => Sys2Proof.Machine.execAudioEnable en s
  | .audioSample => Sys2Proof.Machine.execAudioSample s
  | .audioFault cause prior => Sys2Proof.Machine.execAudioFault cause prior s
  | .audioRestart => Sys2Proof.Machine.execAudioRestart s
  | .ringEnable r v => Sys2Proof.Machine.execRingEnable r v s
  | .ringKick r => Sys2Proof.Machine.execRingKick r s
  | .ringAbort r => Sys2Proof.Machine.execRingAbort r s
  | .ringResume r => Sys2Proof.Machine.execRingResume r s
  | .ringReset r => Sys2Proof.Machine.execRingReset r s
  | .burst upset => Sys2Proof.Machine.execBurst upset s
  | .receiveElement r data w2 aux => Sys2Proof.Machine.execReceiveElement r data w2 aux s
  | .lateWriteFailure r a cause => Sys2Proof.Machine.execLateWriteFailure r a cause s
  | .uartCharacterReceived n data fe pe brk => Sys2Proof.Machine.execUartCharacterReceived n data fe pe brk s
  | .uartIdleGap n => Sys2Proof.Machine.execUartIdleGap n s
  | .uartTxdataWrite n v => Sys2Proof.Machine.execUartTxdataWrite n v s
  | .uartCharacterSent n readBack => Sys2Proof.Machine.execUartCharacterSent n readBack s
  | .uartBreakCommand n => Sys2Proof.Machine.execUartBreakCommand n s
  | .uartRxFlush n => Sys2Proof.Machine.execUartRxFlush n s
  | .uartTxFlush n => Sys2Proof.Machine.execUartTxFlush n s
  | .uartTxResume n => Sys2Proof.Machine.execUartTxResume n s
  | .uartRxdataRead n => Sys2Proof.Machine.execUartRxdataRead n s
  | .rs485DriverOff n => Sys2Proof.Machine.execRs485DriverOff n s
  | .rs485DriverFault n thermal => Sys2Proof.Machine.execRs485DriverFault n thermal s
  | .twXfer n v => Sys2Proof.Machine.execTwXfer n v s
  | .twBusFree n => Sys2Proof.Machine.execTwBusFree n s
  | .twByteComplete n data ack => Sys2Proof.Machine.execTwByteComplete n data ack s
  | .twArbitrationLost n sampled => Sys2Proof.Machine.execTwArbitrationLost n sampled s
  | .twStartDetected n => Sys2Proof.Machine.execTwStartDetected n s
  | .twStopDetected n stop => Sys2Proof.Machine.execTwStopDetected n stop s
  | .twTimeout n => Sys2Proof.Machine.execTwTimeout n s
  | .twBusError n => Sys2Proof.Machine.execTwBusError n s
  | .twBusClear n pulses freed => Sys2Proof.Machine.execTwBusClear n pulses freed s
  | .twAbort n => Sys2Proof.Machine.execTwAbort n s
  | .twDisable n => Sys2Proof.Machine.execTwDisable n s
  | .twRxdataRead n => Sys2Proof.Machine.execTwRxdataRead n s
  | .twTxdataWrite n v => Sys2Proof.Machine.execTwTxdataWrite n v s
  | .ethFrameReceived frame fcsOk sfdUs => Sys2Proof.Machine.execEthFrameReceived frame fcsOk sfdUs s
  | .ethFrameSent attempts sent late sfdUs => Sys2Proof.Machine.execEthFrameSent attempts sent late sfdUs s
  | .ethLinkUp speed100 full anDone mdix => Sys2Proof.Machine.execEthLinkUp speed100 full anDone mdix s
  | .ethLinkDown => Sys2Proof.Machine.execEthLinkDown s
  | .ethAddrWrite v => Sys2Proof.Machine.execEthAddrWrite v s
  | .ethTxDisable => Sys2Proof.Machine.execEthTxDisable s
  | .updOpen => Sys2Proof.Machine.execUpdOpen s
  | .openDone err => Sys2Proof.Machine.execOpenDone err s
  | .updWrite => Sys2Proof.Machine.execUpdWrite s
  | .writeDone err => Sys2Proof.Machine.execWriteDone err s
  | .updPrepare => Sys2Proof.Machine.execUpdPrepare s
  | .prepareDone err => Sys2Proof.Machine.execPrepareDone err s
  | .updActivate => Sys2Proof.Machine.execUpdActivate s
  | .bankFlip z => Sys2Proof.Machine.execBankFlip z s
  | .updAbort => Sys2Proof.Machine.execUpdAbort s
  | .updFwrite => Sys2Proof.Machine.execUpdFwrite s
  | .fwriteDone err => Sys2Proof.Machine.execFwriteDone err s
  | .activationDecision => Sys2Proof.Machine.execActivationDecision s
  | .activationTargetCycle => Sys2Proof.Machine.execActivationTargetCycle s
  | .pendingConfirm => Sys2Proof.Machine.execPendingConfirm s
  | .pendingRevert z => Sys2Proof.Machine.execPendingRevert z s
  | .confirmationWindowTick z => Sys2Proof.Machine.execConfirmationWindowTick z s
  | .recoveryHello eth => Sys2Proof.Machine.execRecoveryHello eth s
  | .recoveryManbuf eth ofs data => Sys2Proof.Machine.execRecoveryManbuf eth ofs data s
  | .recoveryOpen eth total => Sys2Proof.Machine.execRecoveryOpen eth total s
  | .recoveryData eth part ofs data => Sys2Proof.Machine.execRecoveryData eth part ofs data s
  | .recoveryPrepare eth => Sys2Proof.Machine.execRecoveryPrepare eth s
  | .recoveryActivate eth => Sys2Proof.Machine.execRecoveryActivate eth s
  | .recoveryAbort eth => Sys2Proof.Machine.execRecoveryAbort eth s
  | .recoveryRetry eth request => Sys2Proof.Machine.execRecoveryRetry eth request s
  | .recoveryBadMessage eth => Sys2Proof.Machine.execRecoveryBadMessage eth s
  | .patternGeneratorStart page v => Sys2Proof.Machine.execPatternGeneratorStart page v s
  | .patternGeneratorStop page => Sys2Proof.Machine.execPatternGeneratorStop page s
  | .patternCheckerStart page v => Sys2Proof.Machine.execPatternCheckerStart page v s
  | .patternInject page => Sys2Proof.Machine.execPatternInject page s
  | .serviceShello => Sys2Proof.Machine.execServiceShello s
  | .serviceRdreg a count => Sys2Proof.Machine.execServiceRdreg a count s
  | .serviceWrreg a words => Sys2Proof.Machine.execServiceWrreg a words s
  | .servicePtenter => Sys2Proof.Machine.execServicePtenter s
  | .servicePtexit z => Sys2Proof.Machine.execServicePtexit z s
  | .serviceFlprog ofs data ok => Sys2Proof.Machine.execServiceFlprog ofs data ok s
  | .serviceFlread ofs len => Sys2Proof.Machine.execServiceFlread ofs len s
  | .junctionCooled n => Sys2Proof.Machine.execJunctionCooled n s
  | .switchArrayHot x temp => Sys2Proof.Machine.execSwitchArrayHot x temp s
  | .ctsChange n ready => Sys2Proof.Machine.execCtsChange n ready s
  | .pauseExpiry => Sys2Proof.Machine.execPauseExpiry s
  | .attenuationProfileReceived mac att => Sys2Proof.Machine.execAttenuationProfileReceived mac att s
  | .matchConfirmationReceived mac nid => Sys2Proof.Machine.execMatchConfirmationReceived mac nid s
  | .serviceBadMessage => Sys2Proof.Machine.execServiceBadMessage s
  | .currentSenseSample n hs ls => Sys2Proof.Machine.execCurrentSenseSample n hs ls s
  | .environmentMeasurement vsup tint => Sys2Proof.Machine.execEnvironmentMeasurement vsup tint s

end Sys2Proof.Machine
end

