-- ==== Sys2Proof/Safety.lean ====
section
/-!
DEFINITION. Safety.lean: the terms in which claims about the module are stated: a command that completes, what it leaves unchanged, the
events it logs, and the canonical form of the stores.
-/

namespace Sys2Proof.Machine

/-- The command completes: the outcome is a next state, with `P`. -/
def Completes (o : Host.Outcome State Fault Refusal) (P : State → Prop) : Prop := ∃ t, o = .next t ∧ P t

/-- The address lies in one of the pages. -/
def InPages (pages : List Nat) (a : Nat) : Prop := ∃ p ∈ pages, p ≤ a ∧ a < p + 0x1000

/-- No register word outside the pages changes. -/
def RegsIn (pages : List Nat) (s t : State) : Prop := ∀ a, ¬ InPages pages a → t.word a = s.word a

/-- The register word at each of the addresses may change, and no other. -/
def WordsIn (words : List Nat) (s t : State) : Prop := ∀ a, a ∉ words → t.word a = s.word a

/-- No byte of SRAM, panel memory or flash die and no ledger line changes. -/
def MemoryKept (s t : State) : Prop :=
  (∀ a, t.byte a = s.byte a) ∧ (∀ a, t.flashByte a = s.flashByte a) ∧ (∀ i, t.line i = s.line i)

/-- The event records that the collector holds. -/
def State.held (s : State) : List EventRec := s.log.bootBuf ++ s.log.counted ++ s.log.waiting ++ s.log.ring

/-- The collector has room for `n` more events without a loss. -/
def LogRoom (n : Nat) (s : State) : Prop := s.log.bootBuf.length + n ≤ 32 ∧ s.log.ring.length + n ≤ 64

/-- From `s` to `t` an event of the page at `page` with this code and argument has been logged and is held. -/
def Logged (page code arg : Nat) (s t : State) : Prop :=
  ∃ e ∈ t.held, s.log.order ≤ e.order ∧ e.code = code ∧ e.page = pageIndex page ∧ e.arg = arg

/-- The words of the page at `page` and of LDG that logging an event of the page may change: FAULT of the page, IRQ_RAW and EVRING of
LDG. -/
def logWords (page : Nat) : List Nat := [page + 0x1C, Page.LDG + 0x10, F.LDG_EVRING_EVLOST.addr]

/-- Every store of the state is in its canonical form: strictly rising keys, and nothing listed that reads the same when it is not. -/
def Canonical (s : State) : Prop :=
  storeWf resetWord s.regs = true ∧ Memory.wf s.mem = true ∧ storeWf sramDefault s.sramTags = true ∧ storeWf flashDefault s.flash = true
    ∧ storeWf ledgerDefault s.ledger = true ∧ storeWf (fun _ => (0 : Word)) s.snaps = true
    ∧ storeWf (fun _ => (none : Option Word)) s.stages = true ∧ storeWf (fun _ => ({} : Ring)) s.rings = true
    ∧ storeWf (fun _ => ({} : PatBlock)) s.pats = true ∧ storeWf (fun _ => (0 : Word)) s.tenants.words = true

end Sys2Proof.Machine
end

