-- ==== Sys2Proof/Certificates/Slice0/Obligations.lean ====
section
/-!
DEFINITION. Certificates/Slice0/Obligations.lean: the statements about the module. A claim `Claims.<command>` says what one command does:
where it completes (the premise is on state and operands alone), what the next state holds, and its frame: every component of State that is
not named in `t = s with …` is as it was, and no register word outside the named pages or words changes.
-/

open Sys2Proof Sys2Proof.Machine

/-! ### Register accesses (chapter 3) -/

namespace Sys2Proof.Claims

/-- R16, R17, R91: a write by the domain that owns the DMA common page to DMA.ARB: every field takes a value that its table lists, and keeps
its own where the table lists the written one as reserved. -/
def registerWrite (s : State) (who : Initiator) (v : Word) : Prop :=
  (domainOf who).code = s.get (F.OWNER_DOMAIN.on Page.DMA) →
    Completes (exec (.registerWrite who (BitVec.ofNat 32 F.DMA_ARB_W2.addr) 4 (v.setWidth 64)) s) fun t =>
      t.get F.DMA_ARB_C1SHARE = (if bits v.toNat 0 3 ≤ 4 then bits v.toNat 0 3 else s.get F.DMA_ARB_C1SHARE)
      ∧ t.get F.DMA_ARB_W2 = (if bits v.toNat 4 4 = 0 then s.get F.DMA_ARB_W2 else bits v.toNat 4 4)
      ∧ t.get F.DMA_ARB_W3 = (if bits v.toNat 8 4 = 0 then s.get F.DMA_ARB_W3 else bits v.toNat 8 4)
      ∧ t.get F.DMA_ARB_DEFLIM = (if bits v.toNat 16 8 < 8 then s.get F.DMA_ARB_DEFLIM else bits v.toNat 16 8)
      ∧ t.bus = ⟨false, 0⟩ ∧ WordsIn [F.DMA_ARB_W2.addr] s t
      ∧ t = { s with regs := t.regs, bus := t.bus, log := { s.log with refusedRuns := t.log.refusedRuns } }

/-- R91 (first row of Table 3-3), R89: a write of a hart to a word of a page that the legal domain owns is refused: a bus error, nothing written,
and LOCKSTAT keeps the domain and the word of the first denied write since DENIED was cleared. -/
def deniedWrite (s : State) (h : Fin 2) (p : PageRow) (k : Fin 1024) (v : Word) : Prop :=
  p ∈ pageRows → s.get (F.OWNER_DOMAIN.on p.base) = 0 → s.on (F.LOCKSTAT_DENIED.on p.base) = false →
    Completes (exec (.registerWrite (.hart h) (BitVec.ofNat 32 (p.base + 4 * k.val)) 4 (v.setWidth 64)) s) fun t =>
      t.bus = ⟨true, 0⟩ ∧ t.on (F.LOCKSTAT_DENIED.on p.base) = true ∧ t.get (F.LOCKSTAT_DDOM.on p.base) = 2
      ∧ t.get (F.LOCKSTAT_DWORD.on p.base) = k.val ∧ t.get (F.LOCKSTAT_DCOUNT.on p.base) = 1
      ∧ WordsIn ((p.base + 0x24) :: logWords p.base) s t
      ∧ t = { s with regs := t.regs, bus := t.bus, log := t.log }

/-- R304: a write of the legal core to a word of CAL.OFS that was held back is made once more than 16 entries of the counted queue are free. -/
def stalledWriteResume (s : State) (k : Fin 24) : Prop :=
  let a := 0x400210E0 + 4 * k.val
  (s.stalled.head?.any fun e => e.who == .legal && e.addr == a) = true →
  s.rwsStalls = false → s.rwsLocked = false → s.get (F.OWNER_DOMAIN.on Page.CAL) = 0 →
    Completes (exec (.stalledWriteResume .legal) s) fun t =>
      some (t.word a) = s.stalled.head?.map (·.value) ∧ t.stalled = s.stalled.tail ∧ t.bus = ⟨false, 0⟩ ∧ WordsIn (a :: logWords Page.CAL) s t
      ∧ t = { s with regs := t.regs, bus := t.bus, stalled := s.stalled.tail, commit := t.commit, log := t.log }

/-- R82: an access to an address of the register space in no page ends in a bus error, and its first one is logged as event 0x0212. -/
def unmappedAccess (s : State) (who : Initiator) (a : Word) (write : Bool) : Prop :=
  0x40000000 ≤ a.toNat → a.toNat < 0x40100000 → mappedReg a.toNat = false → LogRoom 1 s →
    Completes (exec (.unmappedAccess who a write) s) fun t =>
      t.bus = ⟨true, 0⟩ ∧ WordsIn (logWords Page.SYS) s t
      ∧ (s.log.refusedRuns.any (fun e => e.1 == initiatorKey who) = false → Logged Page.SYS 0x0212 (args [a.toNat, (domainOf who).code]) s t)
      ∧ t = { s with regs := t.regs, bus := t.bus, log := t.log }

/-- R13, R90: a read of a word of DMA.CLASSGR by its owning domain returns it and clears it; a read by the other domain only returns it
(R94). -/
def rcFieldRead (s : State) (who : Initiator) (c : Fin 4) : Prop :=
  let a := (F.DMA_CLASSGR.i c).addr
  s.get (F.OWNER_DOMAIN.on Page.DMA) ≠ 1 →
    Completes (exec (.rcFieldRead who ⟨BitVec.ofNat 32 a, 4⟩) s) fun t =>
      t.bus = ⟨false, (s.word a).toNat⟩
      ∧ t.word a = (if (domainOf who).code = s.get (F.OWNER_DOMAIN.on Page.DMA) then 0 else s.word a)
      ∧ WordsIn [a] s t ∧ t = { s with regs := t.regs, bus := t.bus, log := { s.log with refusedRuns := t.log.refusedRuns } }

/-- R98: a read of the lowest word of RTC.UTC returns it and loads the domain's snapshot buffer; a read of the higher word returns what the
buffer holds. R101: a read of 8 bytes returns both words of one moment. -/
def wideSnapshotRead (s : State) (who : Initiator) : Prop :=
  let a := F.RTC_UTC.addr
  Completes (exec (.wideSnapshotRead who ⟨BitVec.ofNat 32 a, 4⟩) s) (fun t =>
      t.bus = ⟨false, (s.word a).toNat⟩ ∧ t.snapped (domainOf who) (a + 4) = (s.word (a + 4)).toNat ∧ WordsIn [] s t
      ∧ t = { s with regs := t.regs, snaps := t.snaps, bus := t.bus, log := { s.log with refusedRuns := t.log.refusedRuns } })
  ∧ Completes (exec (.wideSnapshotRead who ⟨BitVec.ofNat 32 (a + 4), 4⟩) s) (fun t =>
      t.bus = ⟨false, s.snapped (domainOf who) (a + 4)⟩
      ∧ t = { s with bus := t.bus, log := { s.log with refusedRuns := t.log.refusedRuns } })
  ∧ Completes (exec (.wideSnapshotRead who ⟨BitVec.ofNat 32 a, 8⟩) s) (fun t =>
      t.bus = ⟨false, (s.word a).toNat + 2 ^ 32 * (s.word (a + 4)).toNat⟩ ∧ WordsIn [] s t
      ∧ t = { s with regs := t.regs, snaps := t.snaps, bus := t.bus, log := { s.log with refusedRuns := t.log.refusedRuns } })

/-- R99: a write of a word of a wide register below its highest, permitted by Table 3-3, waits in the writer's staging buffer; no register
changes. -/
def wideStagingWrite (s : State) (who : Initiator) (a v : Word) : Prop :=
  ((wideOf a.toNat).any fun w => decide (a.toNat + 4 < w.1 + 4 * w.2)) = true →
  mappedReg a.toNat = true → a.toNat % 4 = 0 → ringPage a.toNat = none →
  0x24 < a.toNat - pageBase a.toNat → s.ownerCode a.toNat ≠ 1 → s.mayWrite (domainOf who) a.toNat = true →
    Completes (exec (.wideStagingWrite who a v) s) fun t =>
      t.staged (domainOf who) a.toNat = some v ∧ t.bus = ⟨false, 0⟩
      ∧ t = { s with stages := t.stages, bus := t.bus, log := { s.log with refusedRuns := t.log.refusedRuns } }

/-- R88: the owner of a page writes back the value read from FAULT.CODE: CODE and COUNT clear. On the pages of the island, SAF and EFM, the
write is denied. -/
def faultClear (s : State) (who : Initiator) (p : PageRow) : Prop :=
  p ∈ pageRows → (domainOf who).code = s.get (F.OWNER_DOMAIN.on p.base) → s.get (F.OWNER_DOMAIN.on p.base) ≠ 1 →
    Completes (exec (.faultClear who (BitVec.ofNat 32 p.base) (BitVec.ofNat 32 (s.get (F.FAULT_CODE.on p.base)))) s) fun t =>
      t.get (F.FAULT_CODE.on p.base) = 0 ∧ t.get (F.FAULT_COUNT.on p.base) = 0 ∧ WordsIn [p.base + 0x1C] s t
      ∧ t = { s with regs := t.regs, bus := t.bus, log := { s.log with refusedRuns := t.log.refusedRuns } }

/-- R95: while the application domain is held, the legal domain gives a transferable page another owner: OWNER.DOMAIN holds it and XCOUNT
counts. -/
def ownerTransfer (s : State) (p : Nat) (d : BitVec 2) : Prop :=
  p ∈ xferPages → s.boot.appRuns = false → d = 0 ∨ d = 2 → s.get (F.OWNER_DOMAIN.on p) ≠ d.toNat →
    Completes (exec (.ownerTransfer (BitVec.ofNat 32 p) d) s) fun t =>
      t.get (F.OWNER_DOMAIN.on p) = d.toNat ∧ t.get (F.OWNER_XCOUNT.on p) = min 255 (s.get (F.OWNER_XCOUNT.on p) + 1)
      ∧ MemoryKept s t ∧ t.pending = s.pending ∧ t.boot = s.boot ∧ t.safety = s.safety ∧ t.energy = s.energy ∧ t.session = s.session

end Sys2Proof.Claims

/-- R16, R17, R91, R89, R304: register writes that Table 3-3 permits, denies or held back.
Choices of the model it rests on: log entries 11, 13, 17, 18. -/
def Obligations.RegisterWritesFollowTheTable : Prop :=
  (∀ s who v, Claims.registerWrite s who v) ∧ (∀ s h p k v, Claims.deniedWrite s h p k v) ∧ (∀ s k, Claims.stalledWriteResume s k)
    ∧ (∀ s who p, Claims.faultClear s who p) ∧ (∀ s p d, Claims.ownerTransfer s p d)

/-- R13, R82, R90, R98, R99: reads that clear, wide registers, and accesses to no page.
Choices of the model it rests on: log entries 12, 15. -/
def Obligations.ReadsAndWideRegisters : Prop :=
  (∀ s who c, Claims.rcFieldRead s who c) ∧ (∀ s who, Claims.wideSnapshotRead s who) ∧ (∀ s who a v, Claims.wideStagingWrite s who a v)
    ∧ (∀ s who a w, Claims.unmappedAccess s who a w)

/-! ### Sealing (chapter 3, section 5) -/

namespace Sys2Proof.Claims

/-- R103: OP = ARM sets ARMED while the seal state is FACTORY or UNSEALED and ARMED is 0; not with a saturated event counter (R110), with a full
counted log (R305), or in Production test (R771). -/
def sealArm (s : State) : Prop :=
  s.sealed = false → s.on F.SEAL_STAT_ARMED = false → s.on F.SEAL_STAT_LECSAT = false → s.on F.LDG_STAT_CLOGFULL = false →
  s.boot.productionTest = false →
    Completes (exec .sealArm s) fun t =>
      t.on F.SEAL_STAT_ARMED = true ∧ WordsIn [F.SEAL_STAT_ARMED.addr] s t ∧ t = { s with regs := t.regs, sealSt := t.sealSt }

/-- R103, step 2: the push contact, pressed after ARM, has been held for 2 s: PUSHED and its interrupt bit; here before the legal domain commits the
record. -/
def sealPushQualified (s : State) : Prop :=
  s.on F.SEAL_STAT_ARMED = true → s.on F.SEAL_STAT_PUSHED = false → s.on F.SEAL_STAT_PUSH = true → s.sealSt.freshPress = true →
    Completes (exec (.sealPushQualified false) s) fun t =>
      t.on F.SEAL_STAT_PUSHED = true ∧ t.getBit (F.IRQ_RAW.on Page.SEAL) 2 = true
      ∧ WordsIn [F.SEAL_STAT_ARMED.addr, Page.SEAL + 0x10] s t ∧ t = { s with regs := t.regs, sealSt := { s.sealSt with stalePress := true } }

/-- R103, step 4: after a committed sealing record, OP = COMMIT writes the seal cell and sets SEALED, disconnects X22, and clears ARMED and
PUSHED. -/
def sealCommit (s : State) : Prop :=
  s.on F.SEAL_STAT_ARMED = true → s.on F.SEAL_STAT_PUSHED = true → s.sealSt.recorded = true → s.on F.SEAL_STAT_LECSAT = false →
    Completes (exec .sealCommit s) fun t =>
      t.sealed = true ∧ t.sealSt.cell = 1 ∧ t.on F.SEAL_STAT_X22ON = false ∧ t.on F.SEAL_STAT_ARMED = false
      ∧ t.on F.SEAL_STAT_PUSHED = false ∧ t.get F.SEAL_TRANS_N = min (s.sealSt.trans + 1) 65535
      ∧ t.ledger = s.ledger ∧ t.mem = s.mem ∧ t.flash = s.flash ∧ t.pending = s.pending ∧ t.energy = s.energy ∧ t.safety = s.safety

/-- R103: OP = CANCEL before COMMIT clears ARMED and PUSHED. -/
def sealCancel (s : State) : Prop :=
  s.on F.SEAL_STAT_ARMED = true →
    Completes (exec .sealCancel s) fun t =>
      t.on F.SEAL_STAT_ARMED = false ∧ t.on F.SEAL_STAT_PUSHED = false ∧ WordsIn [F.SEAL_STAT_ARMED.addr, Page.SEAL + 0x10] s t
      ∧ t = { s with regs := t.regs, sealSt := t.sealSt }

/-- R103: without a qualified push within 60 s of ARM, ARMED clears and event 0x0206 is logged. -/
def sealArmExpiry (s : State) : Prop :=
  s.on F.SEAL_STAT_ARMED = true → s.on F.SEAL_STAT_PUSHED = false → LogRoom 1 s →
    Completes (exec .sealArmExpiry s) fun t =>
      t.on F.SEAL_STAT_ARMED = false ∧ Logged Page.SEAL 0x0206 0 s t
      ∧ WordsIn ([F.SEAL_STAT_ARMED.addr, Page.SEAL + 0x10] ++ logWords Page.SEAL) s t
      ∧ t = { s with regs := t.regs, sealSt := t.sealSt, log := t.log }

/-- R103: without COMMIT within 1 s of PUSHED, ARMED and PUSHED clear and event 0x0207 is logged. -/
def sealCommitExpiry (s : State) : Prop :=
  s.on F.SEAL_STAT_PUSHED = true → LogRoom 1 s →
    Completes (exec .sealCommitExpiry s) fun t =>
      t.on F.SEAL_STAT_ARMED = false ∧ t.on F.SEAL_STAT_PUSHED = false ∧ Logged Page.SEAL 0x0207 0 s t
      ∧ WordsIn ([F.SEAL_STAT_ARMED.addr, Page.SEAL + 0x10] ++ logWords Page.SEAL) s t
      ∧ t = { s with regs := t.regs, sealSt := t.sealSt, log := t.log }

/-- R104: while SEALED, with the cover open and the push contact held for 5 s since the supply became valid, the seal cell is written, the state
becomes UNSEALED and X22 connects. -/
def unsealing (s : State) : Prop :=
  s.sealed = true → s.on F.SEAL_STAT_COVER = true → s.on F.SEAL_STAT_PUSH = true → s.sealSt.stalePress = false → s.boot.powered = true →
    Completes (exec .unseal s) fun t =>
      t.get F.SEAL_STAT_STATE = 2 ∧ t.sealSt.cell = 2 ∧ t.on F.SEAL_STAT_X22ON = true ∧ t.mem = s.mem ∧ t.flash = s.flash
      ∧ t.pending = s.pending

/-- R114: the push contact is pressed or released: STAT.PUSH shows it, and a press counts for sealing only when it begins after ARM. -/
def pushContactChange (s : State) (pressed : Bool) : Prop :=
  Completes (exec (.pushContactChange pressed) s) fun t =>
    t.on F.SEAL_STAT_PUSH = pressed ∧ t.sealSt.freshPress = (pressed && s.on F.SEAL_STAT_ARMED)
    ∧ WordsIn [F.SEAL_STAT_PUSH.addr] s t ∧ t = { s with regs := t.regs, sealSt := t.sealSt }

/-- R45: the verification cover is opened while SEALED: event 0x0204 is logged. -/
def coverOpen (s : State) : Prop :=
  s.boot.powered = true → s.on F.SEAL_STAT_COVER = false → s.sealed = true → LogRoom 1 s →
    Completes (exec .coverOpen s) fun t =>
      t.on F.SEAL_STAT_COVER = true ∧ Logged Page.SEAL 0x0204 0 s t
      ∧ WordsIn ([F.SEAL_STAT_COVER.addr, Page.SEAL + 0x10] ++ logWords Page.SEAL) s t
      ∧ t = { s with regs := t.regs, sealSt := t.sealSt, log := t.log }

/-- R110: the verification cover is closed: event 0x0205. -/
def coverClose (s : State) : Prop :=
  s.boot.powered = true → s.on F.SEAL_STAT_COVER = true → LogRoom 1 s →
    Completes (exec .coverClose s) fun t =>
      t.on F.SEAL_STAT_COVER = false ∧ Logged Page.SEAL 0x0205 0 s t
      ∧ WordsIn ([F.SEAL_STAT_COVER.addr, Page.SEAL + 0x10] ++ logWords Page.SEAL) s t
      ∧ t = { s with regs := t.regs, sealSt := t.sealSt, log := t.log }

end Sys2Proof.Claims

/-- R45, R103, R104, R110, R114: the steps of sealing and unsealing.
Choices of the model it rests on: log entries 3, 40. -/
def Obligations.SealingSteps : Prop :=
  (∀ s, Claims.sealArm s) ∧ (∀ s, Claims.sealPushQualified s) ∧ (∀ s, Claims.sealCommit s) ∧ (∀ s, Claims.sealCancel s)
    ∧ (∀ s, Claims.sealArmExpiry s) ∧ (∀ s, Claims.sealCommitExpiry s) ∧ (∀ s, Claims.unsealing s)
    ∧ (∀ s p, Claims.pushContactChange s p) ∧ (∀ s, Claims.coverOpen s) ∧ (∀ s, Claims.coverClose s)

/-! ### Starts, restarts and modes (chapter 4) -/

namespace Sys2Proof.Claims

/-- R120, R313, R785, R789: with the supply valid, and no power-fail commit still to come, a cold start begins: the legal domain leaves reset, the measured hold-up is shown, and SRAM holds
nothing but the copy of a legal image (R121). -/
def supplyValid (s : State) (z : ColdCheck) (utc : Option (BitVec 64)) : Prop :=
  s.boot.powered = false → s.boot.pfail = false ∨ s.commitOpen = false →
    Completes (exec (.supplyValid z utc) s) fun t =>
      t.boot.powered = true ∧ t.boot.legalRuns = true ∧ t.boot.appRuns = false ∧ t.boot.resetCause = 0 ∧ t.get F.SYS_HOLDUP_PRED = z.pred.toNat
      ∧ (∀ a, a < legalSram ∨ legalSram + 393216 ≤ a → t.byte a = 0) ∧ t.flash = s.flash ∧ t.pending = s.pending

/-- R105, R117, R121, R122, R817: where the copy in legal SRAM verifies and its stepping list holds the stepping of SYS.REV, S1 runs: the commit
engine is enabled, the seal state is that of the seal cell, and the cover contact is as found. A stepping that is not listed leads to Winter
mode with reason 2. -/
def stageS1 (s : State) (c : S1Check) : Prop :=
  let listed := s.steppingListed (s.legalBlock s.update.active)
  s.boot.legalRuns = true → s.get F.BOOT_STAT_STAGE = 0 →
    Completes (exec (.stageS1 c) s) fun t =>
      (s.copyVerifies = true → listed = true →
        t.get F.BOOT_STAT_STAGE = 1 ∧ t.on F.LDG_CTL_EN = true ∧ t.on F.LDG_STAT_RUN = true ∧ t.get F.SEAL_STAT_STATE = s.sealSt.cell % 4
        ∧ t.on F.SEAL_STAT_COVER = c.coverOpen)
      ∧ (s.copyVerifies = true → listed = false → s.inWinter = false →
          t.get F.BOOT_WINTER_REASON = 2 ∧ t.on F.BOOT_STAT_ROMW = true ∧ t.get F.BOOT_STAT_STAGE = 5)
      ∧ t.flash = s.flash ∧ t.pending = s.pending

/-- R117, R121, R126: a copy that does not verify makes the active bank suspect; with a confirmed other bank the start goes on from that one once,
otherwise Winter mode is entered with reason 3. -/
def stageS1Fails (s : State) (c : S1Check) : Prop :=
  let b := s.update.active
  s.boot.legalRuns = true → s.get F.BOOT_STAT_STAGE = 0 → s.copyVerifies = false → s.inWinter = false →
    Completes (exec (.stageS1 c) s) fun t =>
      t.on (suspField b) = true
      ∧ (s.bankConfirmed (1 - b) = false ∨ s.boot.fellBack = true →
          t.get F.BOOT_WINTER_REASON = 3 ∧ t.on F.BOOT_STAT_ROMW = true ∧ t.get F.BOOT_STAT_STAGE = 5 ∧ t.update.active = b)
      ∧ (s.bankConfirmed (1 - b) = true → s.boot.fellBack = false →
          t.update.active = 1 - b ∧ t.get F.BOOT_STAT_BANK = (1 - b) % 2 ∧ t.get F.BOOT_STAT_STAGE = (if s.bankSigned (1 - b) then 0 else 5))
      ∧ t.flash = s.flash ∧ t.pending = s.pending

/-- R123: a good safety parameter block is loaded and S2 passes. -/
def stageS2 (s : State) (c : S2Check) : Prop :=
  s.get F.BOOT_STAT_STAGE = 1 → s.blockError c = none →
    Completes (exec (.stageS2 c) s) fun t =>
      t.get F.BOOT_STAT_STAGE = 2 ∧ t.flash = s.flash ∧ t.mem = s.mem ∧ t.ledger = s.ledger ∧ t.pending = s.pending

/-- R123, R144: without a usable safety parameter block, Winter mode is entered with reason 4. -/
def stageS2Fails (s : State) (c : S2Check) : Prop :=
  s.get F.BOOT_STAT_STAGE = 1 → s.blockPart c = none → s.inWinter = false →
    Completes (exec (.stageS2 c) s) fun t =>
      t.get F.BOOT_WINTER_REASON = 4 ∧ t.get F.BOOT_STAT_STAGE = 5 ∧ t.on F.BOOT_STAT_ROMW = false ∧ t.flash = s.flash ∧ t.pending = s.pending

/-- R130, R138, R726: S3 of a bank that is neither suspect nor pending, with a manifest that agrees with its recorded digest and fewer than three
failed starts: TOTAL counts, the fetch verifier holds the tag key of the application image, and the application start may enter S4. -/
def stageS3 (s : State) (c : S3Check) (z : ColdCheck) : Prop :=
  s.get F.BOOT_STAT_STAGE = 2 → s.inWinter = false → s.get F.BOOT_STARTS_CONSEC < 3 → s.on F.UPD_STAT_PENDING = false →
  s.manifestAgrees c = true → s.on (suspField s.update.active) = false →
    Completes (exec (.stageS3 c z) s) fun t =>
      t.get F.BOOT_STAT_STAGE = 3 ∧ t.boot.ready = true ∧ t.boot.reachedS3 = true
      ∧ t.boot.tagKey = (match s.bankPart s.update.active 3 with | some p => tagKey s.update.active p.digest p.gen | none => [])
      ∧ t.get F.BOOT_STARTS_TOTAL = min 65535 (s.get F.BOOT_STARTS_TOTAL + 1)
      ∧ t.on F.BOOT_STAT_START_OK = false ∧ t.on F.BOOT_STAT_GOOD = false ∧ t.flash = s.flash ∧ t.mem = s.mem ∧ t.pending = s.pending

/-- R133, R159: S4: the application domain leaves reset, and has 120 s to confirm the start. -/
def stageS4 (s : State) : Prop :=
  s.get F.BOOT_STAT_STAGE = 3 → s.boot.ready = true →
    Completes (exec .stageS4 s) fun t =>
      t.get F.BOOT_STAT_STAGE = 4 ∧ t.boot.appRuns = true ∧ t.get F.BOOT_DEADLINE_MS = 120000 ∧ t.flash = s.flash ∧ t.mem = s.mem
      ∧ t.pending = s.pending

/-- R120, R130: an application start passes S3 while the legal domain keeps running. -/
def applicationStart (s : State) (c : S3Check) (z : ColdCheck) : Prop :=
  s.get F.BOOT_STAT_STAGE = 3 → s.boot.ready = false → s.boot.standby = false → s.inWinter = false → s.get F.BOOT_STARTS_CONSEC < 3 →
  s.on F.UPD_STAT_PENDING = false → s.manifestAgrees c = true → s.on (suspField s.update.active) = false →
    Completes (exec (.applicationStart c z) s) fun t =>
      t.get F.BOOT_STAT_STAGE = 3 ∧ t.boot.ready = true ∧ t.boot.legalRuns = s.boot.legalRuns ∧ t.flash = s.flash ∧ t.mem = s.mem
      ∧ t.pending = s.pending

/-- R125: a watchdog expiry of the legal core makes a legal restart: a cold start with cause 1, and BOOT.APPRST tells of it. -/
def legalWatchdogExpiry (s : State) (z : ColdCheck) : Prop :=
  s.boot.legalRuns = true → s.boot.powered = true →
    Completes (exec (.legalWatchdogExpiry z) s) fun t =>
      t.boot.legalRuns = true ∧ t.boot.powered = true ∧ t.boot.appRuns = false ∧ t.boot.resetCause = 1 ∧ t.boot.productionTest = false
      ∧ t.get F.BOOT_APPRST_CAUSE = 6 ∧ t.flash = s.flash ∧ t.pending = s.pending

/-- R125: a lockstep mismatch makes a legal restart with cause 2. -/
def lockstepMismatch (s : State) (z : ColdCheck) : Prop :=
  s.boot.legalRuns = true → s.boot.powered = true →
    Completes (exec (.lockstepMismatch z) s) fun t =>
      t.boot.legalRuns = true ∧ t.boot.powered = true ∧ t.boot.appRuns = false ∧ t.boot.resetCause = 2 ∧ t.boot.productionTest = false
      ∧ t.get F.BOOT_APPRST_CAUSE = 6 ∧ t.flash = s.flash ∧ t.pending = s.pending

/-- R139: after 600 s of the legal domain past S2, LCONSEC is 0. -/
def legalRunQualified (s : State) : Prop :=
  s.boot.legalRuns = true → s.boot.powered = true → 2 ≤ s.get F.BOOT_STAT_STAGE → s.romLevel = false →
    Completes (exec .legalRunQualified s) fun t =>
      t.get F.BOOT_STARTS_LCONSEC = 0 ∧ RegsIn [Page.BOOT] s t ∧ t = { s with regs := t.regs, ledger := t.ledger }

/-- R131: a line that fails its tag on a fetch: the read is refused, the active bank is suspect, BOOT.FAILOFS and event 0x0109 hold the
offset, and a reset of the application domain is due. -/
def fetchTagMismatch (s : State) (who : Initiator) (ofs : BitVec 28) : Prop :=
  s.boot.appRuns = true → LogRoom 1 s →
    Completes (exec (.fetchTagMismatch who ofs) s) fun t =>
      t.bus = ⟨true, 0⟩ ∧ t.on (suspField s.update.active) = true ∧ t.get F.BOOT_FAILOFS = ofs.toNat ∧ t.boot.mismatch = true
      ∧ Logged Page.BOOT 0x0109 ofs.toNat s t ∧ RegsIn [Page.BOOT, Page.LDG] s t
      ∧ t = { s with regs := t.regs, ledger := t.ledger, bus := t.bus, boot := t.boot, log := t.log }

/-- R131, R136: the reset that follows a mismatch: the application domain is held. -/
def mismatchReset (s : State) (z : ColdCheck) : Prop :=
  s.boot.mismatch = true →
    Completes (exec (.mismatchReset z) s) fun t =>
      t.boot.appRuns = false ∧ t.boot.mismatch = false ∧ t.flash = s.flash ∧ t.pending = s.pending

/-- R133: the confirmation value, written before the deadline, sets START_OK and begins the 600 s to a good start. -/
def startConfirmation (s : State) : Prop :=
  s.boot.appRuns = true → s.on F.BOOT_STAT_START_OK = false → s.get F.BOOT_DEADLINE_MS ≠ 0 →
    Completes (exec (.startConfirmation 0x5A3C) s) fun t =>
      t.on F.BOOT_STAT_START_OK = true ∧ t.get F.BOOT_DEADLINE_MS = 0 ∧ t.get F.BOOT_GOODLEFT_S = 600
      ∧ WordsIn [F.BOOT_STAT_START_OK.addr, F.BOOT_DEADLINE_MS.addr, F.BOOT_GOODLEFT_S.addr] s t ∧ t = { s with regs := t.regs }

/-- R134: without confirmation the application domain is reset at the deadline. -/
def startDeadlineExpiry (s : State) (z : ColdCheck) : Prop :=
  s.boot.appRuns = true → s.boot.powered = true → s.on F.BOOT_STAT_START_OK = false →
    Completes (exec (.startDeadlineExpiry z) s) fun t =>
      t.boot.appRuns = false ∧ t.flash = s.flash ∧ t.pending = s.pending

/-- R135, R137: a confirmed start becomes good, and CONSEC is 0. -/
def startGood (s : State) : Prop :=
  s.boot.appRuns = true → s.boot.powered = true → s.on F.BOOT_STAT_START_OK = true → s.on F.BOOT_STAT_GOOD = false → LogRoom 1 s →
    Completes (exec .startGood s) fun t =>
      t.on F.BOOT_STAT_GOOD = true ∧ t.get F.BOOT_STARTS_CONSEC = 0 ∧ Logged Page.BOOT 0x0113 0 s t ∧ RegsIn [Page.BOOT, Page.LDG] s t
      ∧ t = { s with regs := t.regs, ledger := t.ledger, log := t.log }

/-- R149, R150: Standby is entered where its conditions hold: the application domain loses its power and its SRAM. -/
def standbyRequest (s : State) : Prop :=
  s.boot.appRuns = true → s.standbyAdmits = true →
    Completes (exec .standbyRequest s) fun t =>
      t.boot.standby = true ∧ t.boot.appRuns = false ∧ t.get F.SYS_MODE_REQRES = 1
      ∧ (t.mem.all fun e => !(decide (0x20000000 ≤ e.1) && decide (e.1 < 0x20400000))) = true ∧ t.flash = s.flash ∧ t.pending = s.pending

/-- R151: a wake source ends Standby; SYS.WAKE records it and an application start follows. An alarm wakes only with WAKE = 1 (R67). -/
def wake (s : State) (src : WakeSource) : Prop :=
  s.boot.standby = true →
  (match src with
   | .alarm n => decide ((List.range 64).filter s.almDue = [n.val]) && s.on (almWake n.val) && s.get (almAct n.val) == 0 && !s.on (almPer n.val)
   | _ => true) = true →
    Completes (exec (.wake src) s) fun t =>
      t.boot.standby = false ∧ t.get F.BOOT_STAT_STAGE = 3
      ∧ (match src with
         | .pilot => t.on F.SYS_WAKE_PILOT
         | .safety => t.on F.SYS_WAKE_SAFETY
         | .alarm n => t.on F.SYS_WAKE_ALARM && t.get F.SYS_WAKE_ALMNUM == n.val && !t.on (almArm n.val)) = true
      ∧ RegsIn [Page.SYS, Page.BOOT, Page.LDG, Page.CLU, Page.ANG, Page.TMR] s t
      ∧ t = { s with regs := t.regs, boot := t.boot, log := t.log, session := t.session }

/-- R154, R362: a request for Run leaves vehicle role. -/
def runRequest (s : State) : Prop :=
  s.boot.appRuns = true → s.on F.VEH_STAT_VROLE = true →
    Completes (exec .runRequest s) fun t =>
      t.on F.VEH_STAT_VROLE = false ∧ t.get F.SYS_MODE_REQRES = 1 ∧ t.get F.SYS_MODE_REQ_REQ = 0 ∧ t.flash = s.flash ∧ t.mem = s.mem
      ∧ t.ledger = s.ledger ∧ t.pending = s.pending

/-- R357, R358: vehicle role is entered where its conditions hold. -/
def vehicleRoleRequest (s : State) : Prop :=
  s.boot.appRuns = true → s.roleAdmits = true →
    Completes (exec .vehicleRoleRequest s) fun t =>
      t.on F.VEH_STAT_VROLE = true ∧ t.get F.SYS_MODE_REQRES = 1 ∧ t.get F.SYS_MODE_REQ_REQ = 0 ∧ t.flash = s.flash ∧ t.mem = s.mem
      ∧ t.ledger = s.ledger ∧ t.pending = s.pending

end Sys2Proof.Claims

/-- R105, R120 to R123, R130, R133, R138, R144, R159, R785, R817: the stages of a start.
Choices of the model it rests on: log entries 1, 32, 35, 36, 95. -/
def Obligations.StartStages : Prop :=
  (∀ s z u, Claims.supplyValid s z u) ∧ (∀ s c, Claims.stageS1 s c) ∧ (∀ s c, Claims.stageS1Fails s c) ∧ (∀ s c, Claims.stageS2 s c) ∧ (∀ s c, Claims.stageS2Fails s c)
    ∧ (∀ s c z, Claims.stageS3 s c z) ∧ (∀ s, Claims.stageS4 s) ∧ (∀ s c z, Claims.applicationStart s c z)

/-- R125, R131, R133 to R137, R139: restarts of the legal domain, tag mismatches and the confirmation of a start.
Choices of the model it rests on: log entries 33, 41, 42. -/
def Obligations.RestartsAndConfirmation : Prop :=
  (∀ s z, Claims.legalWatchdogExpiry s z) ∧ (∀ s z, Claims.lockstepMismatch s z) ∧ (∀ s, Claims.legalRunQualified s)
    ∧ (∀ s w o, Claims.fetchTagMismatch s w o) ∧ (∀ s z, Claims.mismatchReset s z) ∧ (∀ s, Claims.startConfirmation s)
    ∧ (∀ s z, Claims.startDeadlineExpiry s z) ∧ (∀ s, Claims.startGood s)

/-- R67, R149 to R151, R154, R357, R358, R362: the requests of a mode, and waking.
Choices of the model it rests on: log entries 22, 45. -/
def Obligations.ModeRequests : Prop :=
  (∀ s, Claims.standbyRequest s) ∧ (∀ s w, Claims.wake s w) ∧ (∀ s, Claims.runRequest s) ∧ (∀ s, Claims.vehicleRoleRequest s)

/-! ### The angle clock, alarms, timers, watchdog and real-time clock (chapter 2) -/

namespace Sys2Proof.Claims

/-- R47, R48: the clock runs on to the end of the cycle, before which no alarm fires: ANG.CYCLES counts, and the phase wraps. -/
def cycleEnd (s : State) : Prop :=
  s.on F.ANG_CTL_EN = true → s.get F.ANG_INC ≠ 0 → s.angle.phase < 2 ^ 48 →
  (∀ k : Fin 64, s.on (almArm k.val) = true → (s.cycles + 1) * 2 ^ 48 + s.get F.ANG_INC < s.almAt k.val) →
    Completes (exec .cycleEnd s) fun t =>
      t.cycles = (s.cycles + 1) % 2 ^ 64 ∧ t.angle.phase < s.get F.ANG_INC ∧ t.angle.now = s.angle.now + s.ticksTo (2 ^ 48 - s.angle.phase)
      ∧ RegsIn [Page.ANG, Page.TMR, Page.RTC, Page.BOOT, Page.SW 0, Page.SW 1] s t
      ∧ t = { s with regs := t.regs, angle := t.angle, timers := t.timers }

/-- R51, R54, R816: a zero crossing of the source in use: the phase error and the frequency are shown, and INRANGE follows the frequency; the
eighth comparison in succession within 64 steps locks (Table 2-2), the fourth in range and beyond 512 steps unlocks (log entry 20), and the
second out of range leads to HOLDOVER. -/
def zeroCrossingComparison (s : State) (freq : Word) : Prop :=
  s.on F.ANG_CTL_SRC = false → s.on F.ANG_STAT_PRESENT = true → freq ≠ 0 →
    Completes (exec (.zeroCrossingComparison freq) s) fun t =>
      t.get F.ANG_PHERR_ERR = ofSigned 16 s.phaseError ∧ t.get F.ANG_FREQ = freq.toNat
      ∧ t.on F.ANG_STAT_INRANGE = inRange freq.toNat
      ∧ (s.get F.ANG_STAT_STATE = 1 → t.get F.ANG_STAT_STATE =
          if inRange freq.toNat = false ∧ 1 ≤ s.angle.offRange then 3 else if s.phaseError.natAbs ≤ 64 ∧ 7 ≤ s.angle.inLock then 2 else 1)
      ∧ (s.get F.ANG_STAT_STATE = 2 → t.get F.ANG_STAT_STATE =
          if inRange freq.toNat = false then (if 1 ≤ s.angle.offRange then 3 else 2)
          else if 512 < s.phaseError.natAbs ∧ 3 ≤ s.angle.offLock then 1 else 2)
      ∧ RegsIn [Page.ANG, Page.CLU, Page.LDG] s t ∧ t = { s with regs := t.regs, angle := t.angle, log := t.log, fresh := t.fresh }

/-- R51, R53: the source becomes present; in range and selected, FREERUN and HOLDOVER lead to ACQUIRE. -/
def sourcePresent (s : State) (freq : Word) : Prop :=
  Completes (exec (.sourcePresent freq) s) fun t =>
    t.on F.ANG_STAT_PRESENT = true ∧ t.get F.ANG_FREQ = freq.toNat ∧ (inRange freq.toNat = true → t.on F.ANG_STAT_INRANGE = true)
    ∧ (inRange freq.toNat = true → s.on F.ANG_CTL_SRC = false → s.on F.ANG_CTL_EN = true → s.get F.ANG_STAT_STATE = 0 ∨ s.get F.ANG_STAT_STATE = 3 →
        t.get F.ANG_STAT_STATE = 1)
    ∧ RegsIn [Page.ANG, Page.CLU, Page.LDG] s t ∧ t = { s with regs := t.regs, angle := t.angle, log := t.log, fresh := t.fresh }

/-- R51, R53: the source is absent: INRANGE and FREQ read 0, and ACQUIRE and LOCKED lead to HOLDOVER. -/
def sourceAbsent (s : State) : Prop :=
  Completes (exec .sourceAbsent s) fun t =>
    t.on F.ANG_STAT_PRESENT = false ∧ t.on F.ANG_STAT_INRANGE = false ∧ t.get F.ANG_FREQ = 0
    ∧ (s.get F.ANG_STAT_STATE = 1 ∨ s.get F.ANG_STAT_STATE = 2 → t.get F.ANG_STAT_STATE = 3)
    ∧ RegsIn [Page.ANG, Page.CLU, Page.LDG] s t ∧ t = { s with regs := t.regs, angle := t.angle, log := t.log, fresh := t.fresh }

/-- R51, R53: a cycle of a present source out of range: INRANGE falls, and the second in succession leads to HOLDOVER. -/
def sourceOutOfRange (s : State) (freq : Word) : Prop :=
  s.on F.ANG_STAT_PRESENT = true → inRange freq.toNat = false →
    Completes (exec (.sourceOutOfRange freq) s) fun t =>
      t.get F.ANG_FREQ = freq.toNat ∧ t.on F.ANG_STAT_INRANGE = false
      ∧ (1 ≤ s.angle.offRange → s.get F.ANG_STAT_STATE = 1 ∨ s.get F.ANG_STAT_STATE = 2 → t.get F.ANG_STAT_STATE = 3)
      ∧ RegsIn [Page.ANG, Page.CLU, Page.LDG] s t ∧ t = { s with regs := t.regs, angle := t.angle, log := t.log, fresh := t.fresh }

/-- R53: 10 s in HOLDOVER lead to FREERUN on the nominal increment. -/
def holdoverTimeout (s : State) : Prop :=
  s.get F.ANG_STAT_STATE = 3 →
    Completes (exec .holdoverTimeout s) fun t =>
      t.get F.ANG_STAT_STATE = 0 ∧ t.get F.ANG_INC = (if s.on F.ANG_CTL_NOM then 0x3D70A3D7 else 0x33333333)
      ∧ RegsIn [Page.ANG, Page.CLU, Page.LDG] s t ∧ t = { s with regs := t.regs, angle := t.angle, log := t.log }

/-- R53, R78: ANG.CTL.EN from 0 to 1 enters FREERUN on the nominal increment and raises REFOK. -/
def angEnable (s : State) : Prop :=
  s.on F.ANG_CTL_EN = false →
    Completes (exec .angEnable s) fun t =>
      t.on F.ANG_CTL_EN = true ∧ t.get F.ANG_STAT_STATE = 0 ∧ t.on F.ANG_STAT_REFOK = true
      ∧ t.get F.ANG_INC = (if s.on F.ANG_CTL_NOM then 0x3D70A3D7 else 0x33333333)
      ∧ RegsIn [Page.ANG, Page.CLU, Page.LDG] s t ∧ t = { s with regs := t.regs, angle := t.angle, log := t.log }

/-- R78: ANG.CTL.EN from 1 to 0 holds the accumulator and begins a reference deviation. -/
def angDisable (s : State) : Prop :=
  s.on F.ANG_CTL_EN = true →
    Completes (exec .angDisable s) fun t =>
      t.on F.ANG_CTL_EN = false ∧ t.on F.ANG_STAT_REFOK = false ∧ t.angle = { s.angle with refBad := true }
      ∧ RegsIn [Page.ANG, Page.LDG] s t ∧ t = { s with regs := t.regs, angle := t.angle, log := t.log }

/-- R49, R53: the source is chosen; free run enters FREERUN on the nominal increment. -/
def angSourceSelect (s : State) (freeRun : Bool) : Prop :=
  Completes (exec (.angSourceSelect freeRun) s) fun t =>
    t.on F.ANG_CTL_SRC = freeRun ∧ (freeRun = true → t.get F.ANG_STAT_STATE = 0
      ∧ t.get F.ANG_INC = (if s.on F.ANG_CTL_NOM then 0x3D70A3D7 else 0x33333333))
    ∧ RegsIn [Page.ANG, Page.CLU, Page.LDG] s t ∧ t = { s with regs := t.regs, angle := t.angle, log := t.log }

/-- R56, R99: while EN is 0 a commit of ANG.CYCLES takes the staged low word and the written high word, never downwards. -/
def angCyclesCommit (s : State) (v : Word) : Prop :=
  let w := ((s.staged .legal F.ANG_CYCLES.addr).getD (s.word F.ANG_CYCLES.addr)).toNat + 2 ^ 32 * v.toNat
  s.on F.ANG_CTL_EN = false → s.cycles ≤ w →
    Completes (exec (.angCyclesCommit v) s) fun t =>
      t.cycles = w ∧ t.staged .legal F.ANG_CYCLES.addr = none ∧ WordsIn [F.ANG_CYCLES.addr, F.ANG_CYCLES.addr + 4] s t
      ∧ t = { s with regs := t.regs, stages := t.stages }

/-- R61, R63, R66: the commit of an alarm takes effect at the next reference tick, on the state `u` that the tick leaves: its place takes the
committed value and its marks clear; a target already reached makes it late, and with LATEPOL it is discarded. -/
def alarmCommit (s : State) (n : Fin 64) (v : Word) : Prop :=
  let u := s.tick
  let d : Domain := if n.val < 16 then .legal else .app
  let w := u.commitValue d (almArm n.val).addr 4 v.toNat
  Completes (exec (.alarmCommit n v) s) fun t =>
    t.get (almAngle n.val) = bits w 32 16 ∧ t.getW (almTarget n.val) = bits w 64 64 ∧ t.on (almFired n.val) = false
    ∧ t.on (almLatepol n.val) = bit w 2 ∧ t.on (almWake n.val) = bit w 3 ∧ t.on (almLockreq n.val) = bit w 4
    ∧ t.on (almLate n.val) = (bit w 0 && decide (bits w 64 64 * 2 ^ 48 + bits w 32 16 * 2 ^ 32 ≤ u.phaseNow))
    ∧ t.on (almArm n.val) = (bit w 0 && !(t.on (almLate n.val) && bit w 2))
    ∧ RegsIn [Page.ANG, Page.TMR, Page.LDG] u t ∧ t = { u with regs := t.regs, stages := t.stages, log := t.log }

/-- R66: an old target that is reached on the tick of the commit fires first: before the commit, the tick leaves alarm `n` as fired. -/
def alarmCommitFires (s : State) (n : Fin 64) : Prop :=
  s.boot.powered = true → (List.range 64).filter (s.advance 1).almDue = [n.val] → (s.advance 1).on (almLockreq n.val) = false →
  (s.advance 1).get (almAct n.val) = 0 → (s.advance 1).on (almPer n.val) = false → s.boot.standby = false →
    s.tick.on (almFired n.val) = true ∧ s.tick.on (almArm n.val) = false

/-- R59, R62: a one-shot alarm without an action that has reached its target sets FIRED and clears ARM. -/
def alarmFire (s : State) (n : Fin 64) : Prop :=
  (List.range 64).filter s.almDue = [n.val] → s.on (almLockreq n.val) = false → s.get (almAct n.val) = 0 → s.on (almPer n.val) = false →
  s.boot.standby = false →
    Completes (exec (.alarmFire [n]) s) fun t =>
      t.on (almFired n.val) = true ∧ t.on (almArm n.val) = false ∧ RegsIn [Page.ANG, Page.TMR, Page.LDG] s t
      ∧ t = { s with regs := t.regs, log := t.log }

/-- R68: a timer starts with its LOAD. -/
def timerStart (s : State) (n : Fin 8) : Prop :=
  Completes (exec (.timerStart n) s) fun t =>
    t.on (F.TMR_T_CTL_EN.i n) = true ∧ t.get (F.TMR_T_COUNT.i n) = s.get (F.TMR_T_LOAD.i n)
    ∧ t.timers.get n = ⟨s.get (F.TMR_T_CTL_TICK.i n), 0⟩ ∧ WordsIn [(F.TMR_T_CTL_EN.i n).addr, (F.TMR_T_COUNT.i n).addr] s t
    ∧ t = { s with regs := t.regs, timers := t.timers }

/-- R68: a running timer reaches zero: its interrupt bit, and a periodic timer takes LOAD again, another stops. -/
def timerZero (s : State) (n : Fin 8) : Prop :=
  s.on (F.TMR_T_CTL_EN.i n) = true → s.get (F.TMR_T_COUNT.i n) ≠ 0 →
    Completes (exec (.timerZero n) s) fun t =>
      t.getBit (F.IRQ_RAW.on Page.TMR) n.val = true
      ∧ (s.on (F.TMR_T_CTL_PER.i n) = true → t.get (F.TMR_T_COUNT.i n) = s.get (F.TMR_T_LOAD.i n) ∧ t.on (F.TMR_T_CTL_EN.i n) = true)
      ∧ (s.on (F.TMR_T_CTL_PER.i n) = false → t.get (F.TMR_T_COUNT.i n) = 0 ∧ t.on (F.TMR_T_CTL_EN.i n) = false)
      ∧ WordsIn [(F.TMR_T_CTL_EN.i n).addr, (F.TMR_T_COUNT.i n).addr, Page.TMR + 0x10] s t ∧ t = { s with regs := t.regs, timers := t.timers }

/-- R70: the application watchdog is enabled with a timeout, which its count takes. -/
def watchdogEnable (s : State) (v : Word) : Prop :=
  s.on F.TMR_WDG_CTL_EN = false → bit v.toNat 0 = true → bits v.toNat 16 16 ≠ 0 →
    Completes (exec (.watchdogEnable v) s) fun t =>
      t.on F.TMR_WDG_CTL_EN = true ∧ t.on F.TMR_WDG_CTL_WIN = bit v.toNat 1 ∧ t.get F.TMR_WDG_CTL_TIMEOUT = bits v.toNat 16 16
      ∧ t.get F.TMR_WDG_LEFT_MS = bits v.toNat 16 16 ∧ WordsIn [F.TMR_WDG_CTL_EN.addr, F.TMR_WDG_LEFT_MS.addr] s t ∧ t = { s with regs := t.regs }

/-- R70: a kick with the right value, and in a window not too early, restarts the count. -/
def watchdogKick (s : State) (z : ColdCheck) : Prop :=
  s.on F.TMR_WDG_CTL_EN = true → s.on F.TMR_WDG_CTL_WIN = false ∨ 2 * s.get F.TMR_WDG_LEFT_MS ≤ s.get F.TMR_WDG_CTL_TIMEOUT →
    Completes (exec (.watchdogKick 0xA5C3 z) s) fun t =>
      t.get F.TMR_WDG_LEFT_MS = s.get F.TMR_WDG_CTL_TIMEOUT ∧ WordsIn [F.TMR_WDG_LEFT_MS.addr] s t ∧ t = { s with regs := t.regs }

/-- R70: the warning of a watchdog that runs. -/
def watchdogWarning (s : State) : Prop :=
  s.on F.TMR_WDG_CTL_EN = true →
    Completes (exec .watchdogWarning s) fun t =>
      t.getBit (F.IRQ_RAW.on Page.TMR) 9 = true ∧ WordsIn [Page.TMR + 0x10] s t ∧ t = { s with regs := t.regs }

/-- R70, R136: the watchdog expires: the application domain is held in reset. -/
def watchdogExpiry (s : State) (z : ColdCheck) : Prop :=
  s.boot.powered = true → s.on F.TMR_WDG_CTL_EN = true →
    Completes (exec (.watchdogExpiry z) s) fun t => t.boot.appRuns = false ∧ t.flash = s.flash ∧ t.pending = s.pending

/-- R72, R81: a commit of TMR.UTCREQ is the request in force; a reserved SRC keeps the old one (R17). -/
def utcRequest (s : State) (v : Word) : Prop :=
  let w := s.commitValue .app F.TMR_UTCREQ_SRC.addr 4 v.toNat
  Completes (exec (.utcRequest v) s) fun t =>
    t.utcReq = some ⟨if bits w 0 8 ≤ 4 then bits w 0 8 else s.get F.TMR_UTCREQ_SRC, bits w 8 8, bits w 64 64, s.utc⟩
    ∧ t.get F.TMR_UTCREQ_SEQ = bits w 8 8 ∧ t.getW F.TMR_UTCREQ_UTC = bits w 64 64
    ∧ WordsIn ((List.range 4).map fun k => F.TMR_UTCREQ_SRC.addr + 4 * k) s t ∧ t = { s with regs := t.regs, stages := t.stages, utcReq := t.utcReq }

/-- R73, R74: the request is refused with SRC 0 or a time before the build time (RESULT 3), stepped while VALID is 0 or beyond 2 000 ms
(RESULT 2), and slewed otherwise (RESULT 1). -/
def utcRequestHandle (s : State) (src seq : BitVec 8) (utc at_ : BitVec 64) (elapsed : BitVec 16) (build : BitVec 64) : Prop :=
  let delta : Int := (utc.toNat : Int) - at_.toNat
  let refused : Bool := src == 0 || decide (utc.toNat < build.toNat)
  let stepped : Bool := !s.on F.RTC_STAT_VALID || decide (delta.natAbs > 2000)
  s.utcReq = some ⟨src.toNat, seq.toNat, utc.toNat, at_.toNat⟩ →
    Completes (exec (.utcRequestHandle elapsed build) s) fun t =>
      t.utcReq = none ∧ t.get F.RTC_SETSTAT_RESULT = (if refused then 3 else if stepped then 2 else 1) ∧ t.get F.RTC_SETSTAT_SEQ = seq.toNat
      ∧ (refused = false → stepped = true → t.utc = (utc.toNat + elapsed.toNat) % 2 ^ 64 ∧ t.on F.RTC_STAT_VALID = true
          ∧ t.getW F.RTC_LASTSTEP_OLD = s.utc)
      ∧ (refused = false → stepped = false → t.utc = s.utc ∧ toSigned 32 (t.get F.RTC_SLEWLEFT) = delta)
      ∧ (refused = true → t.utc = s.utc)
      ∧ RegsIn [Page.RTC, Page.TMR, Page.LDG] s t
      ∧ t = { s with regs := t.regs, utcReq := none, angle := t.angle, session := t.session, log := t.log }

/-- R73: a slew ends: the clock runs on, 1 % fast or slow, for 100 ms for each millisecond that was left. -/
def rtcSlewEnd (s : State) : Prop :=
  let left := toSigned 32 (s.get F.RTC_SLEWLEFT)
  s.on F.RTC_STAT_SLEWING = true → left ≠ 0 → s.angle.slewFrac < 1638400 → (∀ k : Fin 64, s.on (almArm k.val) = false) →
    Completes (exec .rtcSlewEnd s) fun t =>
      t.utc = (s.utc + (s.angle.utcFrac + (if left < 0 then 99 else 101) * s.slewTicks) / 1638400) % 2 ^ 64
      ∧ t.get F.RTC_SLEWLEFT = 0 ∧ t.on F.RTC_STAT_SLEWING = false ∧ t.angle.now = s.angle.now + s.slewTicks
      ∧ RegsIn [Page.ANG, Page.TMR, Page.RTC, Page.BOOT, Page.SW 0, Page.SW 1] s t
      ∧ t = { s with regs := t.regs, angle := t.angle, timers := t.timers }

/-- R76: a reference deviation: REFOK falls and every channel is invalid. -/
def referenceDeviation (s : State) : Prop :=
  Completes (exec .referenceDeviation s) fun t =>
    t.on F.ANG_STAT_REFOK = false ∧ t.angle = { s.angle with refBad := true }
    ∧ (s.on F.ANG_STAT_REFOK = true → t.getBit (F.IRQ_RAW.on Page.ANG) 4 = true)
    ∧ RegsIn [Page.ANG, Page.LDG] s t ∧ t = { s with regs := t.regs, angle := t.angle, log := t.log }

/-- R76: the oscillators agree again: REFOK rises and the channels stay invalid; once it has been 1 for 1 s they may settle. -/
def referenceRecovered (s : State) : Prop :=
  s.on F.ANG_CTL_EN = true →
    (s.on F.ANG_STAT_REFOK = false →
      Completes (exec .referenceRecovered s) fun t =>
        t.on F.ANG_STAT_REFOK = true ∧ t.angle = { s.angle with refSince := s.angle.now } ∧ WordsIn [F.ANG_STAT_REFOK.addr] s t
        ∧ t = { s with regs := t.regs, angle := t.angle })
    ∧ (s.on F.ANG_STAT_REFOK = true → s.angle.refBad = true → (∀ k : Fin 64, s.on (almArm k.val) = false) →
      Completes (exec .referenceRecovered s) fun t =>
        t.on F.ANG_STAT_REFOK = true ∧ t.angle.refBad = false ∧ t.angle.refSince + 16384000 ≤ t.angle.now
        ∧ RegsIn [Page.ANG, Page.TMR, Page.RTC, Page.BOOT, Page.SW 0, Page.SW 1] s t
        ∧ t = { s with regs := t.regs, angle := t.angle, timers := t.timers })

/-- R71: the voltage of the clock's capacitor is shown. -/
def supercapMeasure (s : State) (mv : BitVec 16) : Prop :=
  Completes (exec (.supercapMeasure mv) s) fun t =>
    t.get F.RTC_SUPV_MV = mv.toNat ∧ WordsIn [F.RTC_SUPV_MV.addr] s t ∧ t = { s with regs := t.regs }

end Sys2Proof.Claims

/-- R47 to R49, R51, R53, R54, R56, R78: the angle clock, its source and its lock.
Choices of the model it rests on: log entries 5, 19, 20. -/
def Obligations.AngleClockLock : Prop :=
  (∀ s, Claims.cycleEnd s) ∧ (∀ s f, Claims.zeroCrossingComparison s f) ∧ (∀ s f, Claims.sourcePresent s f) ∧ (∀ s, Claims.sourceAbsent s)
    ∧ (∀ s f, Claims.sourceOutOfRange s f) ∧ (∀ s, Claims.holdoverTimeout s) ∧ (∀ s, Claims.angEnable s) ∧ (∀ s, Claims.angDisable s)
    ∧ (∀ s b, Claims.angSourceSelect s b) ∧ (∀ s v, Claims.angCyclesCommit s v)

/-- R59 to R63, R66, R68, R70, R136: alarms, timers and the application watchdog.
Choices of the model it rests on: log entries 5, 21, 23. -/
def Obligations.AlarmsTimersWatchdog : Prop :=
  (∀ s n v, Claims.alarmCommit s n v) ∧ (∀ s n, Claims.alarmCommitFires s n) ∧ (∀ s n, Claims.alarmFire s n) ∧ (∀ s n, Claims.timerStart s n) ∧ (∀ s n, Claims.timerZero s n)
    ∧ (∀ s v, Claims.watchdogEnable s v) ∧ (∀ s z, Claims.watchdogKick s z) ∧ (∀ s, Claims.watchdogWarning s) ∧ (∀ s z, Claims.watchdogExpiry s z)

/-- R71 to R74, R76, R81: the real-time clock and the reference.
Choices of the model it rests on: log entries 5, 24, 25. -/
def Obligations.RealTimeClock : Prop :=
  (∀ s v, Claims.utcRequest s v) ∧ (∀ s src seq utc at_ e b, Claims.utcRequestHandle s src seq utc at_ e b) ∧ (∀ s, Claims.rtcSlewEnd s)
    ∧ (∀ s, Claims.referenceDeviation s) ∧ (∀ s, Claims.referenceRecovered s) ∧ (∀ s m, Claims.supercapMeasure s m)

/-! ### Memory, ledger lines and commits (chapter 8) -/

namespace Sys2Proof.Claims

/-- R284, Table 17-1: a read by a core or ring of a line of an SRAM that it may read, and that nothing has damaged, answers the line and changes
nothing. -/
def sramRead (s : State) (who : Initiator) (d : Domain) (a : BitVec 40) : Prop :=
  let l := a.toNat / 16 * 16
  sramOf l = some d → sramAllowed who d false = true → s.boot.standby = false → s.sramTag l = ⟨0, false⟩ →
    Completes (exec (.sramAccess who a .read 0) s) fun t => t.bus = ⟨false, s.memNat l 16⟩ ∧ t = { s with bus := t.bus }

/-- R285, R286: a write of a full line stores its 16 bytes with a fresh tag, whatever the line held; a partial write of an undamaged line stores
the bytes that the mask selects. Every other byte of memory stays. -/
def sramWrite (s : State) (who : Initiator) (d : Domain) (a : BitVec 40) (mask : BitVec 16) (v : Line) (b : Nat) : Prop :=
  let l := a.toNat / 16 * 16
  sramOf l = some d → sramAllowed who d true = true → s.boot.standby = false → mask = 0xFFFF ∨ s.sramTag l = ⟨0, false⟩ →
    Completes (exec (.sramAccess who a (.write mask v) 0) s) fun t =>
      t.byte b = (if l ≤ b ∧ b < l + 16 ∧ bit mask.toNat (b - l) = true then byteOf v.toNat (b - l) else s.byte b)
      ∧ t.sramTag l = ⟨0, false⟩ ∧ t.bus.err = false ∧ t = { s with mem := t.mem, sramTags := t.sramTags, bus := t.bus }

/-- R286: a read of a poisoned line ends in a bus error. -/
def sramPoisoned (s : State) (who : Initiator) (d : Domain) (a : BitVec 40) : Prop :=
  let l := a.toNat / 16 * 16
  sramOf l = some d → (s.sramTag l).poison = true →
    Completes (exec (.sramAccess who a .read 0) s) fun t => t.bus = ⟨true, 0⟩ ∧ t = { s with bus := t.bus }

/-- R118, R130: a line of the execution window that agrees with its tag under the key in the fetch verifier is delivered. -/
def execWindowRead (s : State) (who : Initiator) (a : BitVec 40) : Prop :=
  let l := a.toNat / 16 * 16
  let v := s.imageLine (l - 0x100000000)
  inExecWindow l = true → s.fetchTagOk (l - 0x100000000) v 0 = true →
    Completes (exec (.sramAccess who a .read 0) s) fun t => t.bus = ⟨false, v.toNat⟩ ∧ t = { s with bus := t.bus }

/-- R130, R131: a line that fails its tag is not delivered; the active bank is suspect, BOOT.FAILOFS and event 0x0109 hold the offset, and a reset of
the application domain is due. -/
def execWindowFails (s : State) (who : Initiator) (a : BitVec 40) : Prop :=
  let l := a.toNat / 16 * 16
  let o := l - 0x100000000
  inExecWindow l = true → s.boot.tagKey ≠ [] → s.fetchTagOk o (s.imageLine o) 0 = false → s.boot.appRuns = true → LogRoom 1 s →
    Completes (exec (.sramAccess who a .read 0) s) fun t =>
      t.bus = ⟨true, 0⟩ ∧ t.on (suspField s.update.active) = true ∧ t.get F.BOOT_FAILOFS = o % 2 ^ 32 ∧ t.boot.mismatch = true
      ∧ Logged Page.BOOT 0x0109 o s t ∧ RegsIn [Page.BOOT, Page.LDG] s t
      ∧ t = { s with regs := t.regs, ledger := t.ledger, bus := t.bus, boot := t.boot, log := t.log }

/-- R287: the owning domain clears a line of its SRAM: its 16 bytes read 0 and its tag is fresh. -/
def sramLineClear (s : State) (who : Initiator) (a : Word) (b : Nat) : Prop :=
  let l := a.toNat / 16 * 16
  sramOf l = some (domainOf who) →
    Completes (exec (.sramLineClear who a) s) fun t =>
      t.byte b = (if l ≤ b ∧ b < l + 16 then 0 else s.byte b) ∧ t.sramTag l = ⟨0, false⟩ ∧ t = { s with mem := t.mem, sramTags := t.sramTags }

/-- R284: a write of LDG.LRD_IDX reads the line: LRD_DATA holds its data, or 0 when it fails, and LRD_ST says which. -/
def ledgerReadRequest (s : State) (i b : BitVec 18) : Prop :=
  Completes (exec (.ledgerReadRequest i 0) s) fun t =>
    let c := checkLine (ledgerOwner i.toNat) (some i.toNat) (s.line i.toNat)
    t.getW F.LDG_LRD_DATA = (if c = .bad then 0 else s.lineNat i.toNat) ∧ t.get F.LDG_LRD_IDX_LINE = i.toNat ∧ t.on F.LDG_LRD_ST_DONE = true
    ∧ t.on F.LDG_LRD_ST_TAGFAIL = (c == .bad) ∧ t.on F.LDG_LRD_ST_CORR = (c == .corrected)
    ∧ (c = .good → t = { s with regs := t.regs }) ∧ RegsIn [Page.LDG, Page.TEN] s t
    ∧ (b ≠ i → t.line b.toNat = s.line b.toNat) ∧ t.mem = s.mem ∧ t.flash = s.flash ∧ t.pending = s.pending ∧ t.energy = s.energy

/-- R325: the application reads a ledger line through SYS.LQ_RIDX: LQ_RDATA holds its data, or 0 when it fails. -/
def appLedgerRead (s : State) (i b : BitVec 18) : Prop :=
  Completes (exec (.appLedgerRead i 0) s) fun t =>
    let c := checkLine (ledgerOwner i.toNat) (some i.toNat) (s.line i.toNat)
    t.getW F.SYS_LQ_RDATA = (if c = .bad then 0 else s.lineNat i.toNat) ∧ t.get F.SYS_LQ_RIDX_LINE = i.toNat ∧ t.on F.SYS_LQ_RST_DONE = true
    ∧ t.on F.SYS_LQ_RST_TAGFAIL = (c == .bad) ∧ t.on F.SYS_LQ_RST_CORR = (c == .corrected)
    ∧ (c = .good → t = { s with regs := t.regs }) ∧ RegsIn [Page.SYS, Page.LDG, Page.TEN] s t
    ∧ (b ≠ i → t.line b.toNat = s.line b.toNat) ∧ t.mem = s.mem ∧ t.flash = s.flash ∧ t.pending = s.pending ∧ t.energy = s.energy

/-- R285: the highest word of LDG.LW_DATA queues a legal line write with the index and the mask as they stand; nothing is written yet. -/
def ledgerWriteQueue (s : State) (v : Word) : Prop :=
  Completes (exec (.ledgerWriteQueue v) s) fun t =>
    t.commit.legalQ = s.commit.legalQ ++
        [⟨s.get F.LDG_LW_IDX_LINE, BitVec.ofNat 16 (s.get F.LDG_LW_MASK_MASK), BitVec.ofNat 128 (s.commitValue .legal F.LDG_LW_DATA.addr 4 v.toNat)⟩]
    ∧ t.get F.LDG_LW_ST_QUEUED = min 31 t.commit.legalQ.length
    ∧ RegsIn [Page.LDG, Page.SYS] s t ∧ t = { s with regs := t.regs, stages := t.stages, commit := { s.commit with legalQ := t.commit.legalQ } }

/-- R325: the highest word of SYS.LQ_DATA queues an application line write; a line of a legal region, a full queue or the power-fail sequence
refuses it with RESULT 2 and event 0x040A. -/
def appLedgerWrite (s : State) (v : Word) : Prop :=
  let i := s.get F.SYS_LQ_IDX_LINE
  Completes (exec (.appLedgerWrite v) s) fun t =>
    (ledgerLegal i = false → s.commit.appQ.length < 16 → s.boot.pfail = false →
      t.commit.appQ = s.commit.appQ ++ [⟨i, BitVec.ofNat 16 (s.get F.SYS_LQ_MASK_MASK), BitVec.ofNat 128 (s.commitValue .app F.SYS_LQ_DATA.addr 4 v.toNat)⟩]
      ∧ t.get F.SYS_LQ_ST_QUEUED = t.commit.appQ.length
      ∧ t = { s with regs := t.regs, stages := t.stages, commit := { s.commit with appQ := t.commit.appQ } })
    ∧ (ledgerLegal i = true ∨ 16 ≤ s.commit.appQ.length ∨ s.boot.pfail = true → LogRoom 1 s →
      t.get F.SYS_LQ_ST_RESULT = 2 ∧ Logged Page.LDG 0x040A i s t ∧ t = { s with regs := t.regs, stages := t.stages, log := t.log })
    ∧ RegsIn [Page.LDG, Page.SYS] s t

/-- R281, R283, R292: the commit engine writes the oldest line of the legal queue before any application line: with a full mask the line holds the
data with its fixed owner and no flipped bit, so that the OWNER and MAC fields of its tag are those of the place and of the data, and LW_ST reports
it as written. Every other line stays. -/
def commitEngineLineWrite (s : State) (w : LineWrite) (q : List LineWrite) (b : BitVec 18) : Prop :=
  s.commit.legalQ = w :: q → w.mask = 0xFFFF → s.on F.LDG_CTL_EN = true → s.on F.LDG_STAT_LOCKED = false → s.boot.pfail = false →
    Completes (exec (.commitEngineLineWrite 0) s) fun t =>
      t.line b.toNat = (if b.toNat = w.line then ⟨w.data, ledgerOwner w.line, 0, false⟩ else s.line b.toNat)
      ∧ bits ((t.line w.line).tag (some w.line)).toNat 9 7 = (ledgerOwner w.line).toNat
      ∧ bits ((t.line w.line).tag (some w.line)).toNat 16 16 = lineMac w.data w.line (ledgerOwner w.line)
      ∧ t.commit.legalQ = q ∧ t.get F.LDG_LW_ST_RESULT = 1 ∧ RegsIn [Page.LDG, Page.SYS] s t
      ∧ t = { s with regs := t.regs, ledger := t.ledger, commit := { s.commit with legalQ := q } }

/-- R294: with no write waiting, scrubbing reads the line at SCRUBPOS, which it advances; a good line changes nothing else. -/
def scrubRead (s : State) : Prop :=
  s.on F.LDG_CTL_SCRUB = true → s.boot.pfail = false →
  s.commit.legalQ = [] → s.commit.appQ = [] → s.log.counted = [] → s.log.ring = [] →
  checkLine (ledgerOwner (s.get F.LDG_SCRUBPOS_LINE)) (some (s.get F.LDG_SCRUBPOS_LINE)) (s.line (s.get F.LDG_SCRUBPOS_LINE)) = .good →
    Completes (exec (.scrubRead 0) s) fun t =>
      t.get F.LDG_SCRUBPOS_LINE = (s.get F.LDG_SCRUBPOS_LINE + 1) % 2 ^ 18 ∧ WordsIn [F.LDG_SCRUBPOS_LINE.addr] s t ∧ t = { s with regs := t.regs }

/-- R297: LDG.CMD.MIRROR requests a mirror commit. -/
def mirrorRequest (s : State) : Prop :=
  Completes (exec .mirrorRequest s) fun t => t = { s with commit := { s.commit with mirrorReq := true } }

/-- R296, R297: at a close 250 ms or more after the last mirror commit, with a request or MIRPER gone by, a mirror commit writes slot MSEQ mod 64 with
the next MSEQ, whose last line holds it; MSEQ and MSLOT follow. Within 250 ms none is made. -/
def mirrorCommit (s : State) : Prop :=
  let since := s.angle.now - s.commit.lastMirror
  s.on F.LDG_CTL_EN = true → s.on F.LDG_STAT_LOCKED = false → s.boot.pfail = false →
  (since < 250 * tickMs → Completes (exec .mirrorCommit s) fun t => t = s)
  ∧ (250 * tickMs ≤ since → s.commit.mirrorReq = true ∨ s.get F.LDG_MIRPER_MS * tickMs ≤ since →
    Completes (exec .mirrorCommit s) fun t =>
      let m := s.getW F.LDG_MSEQ + 1
      t.getW F.LDG_MSEQ = m % 2 ^ 64 ∧ t.get F.LDG_MSLOT_N = m % 64 ∧ t.lineNat (mirrorLine (m % 64) + 76) = m % 2 ^ 64
      ∧ t.lineNat (mirrorLine (m % 64)) = m % 2 ^ 64 + 2 ^ 64 * (s.getW F.MET_LASTCYC % 2 ^ 64)
      ∧ t.commit.mirrorReq = false ∧ t.commit.lastMirror = s.angle.now
      ∧ RegsIn [Page.LDG] s t ∧ t = { s with regs := t.regs, ledger := t.ledger, commit := t.commit })

/-- R300: at a close 1 s or more after the last change, a configuration copy is written into the older copy, whose first line, written last, holds the next GEN and the number of
words. -/
def configCopy (s : State) : Prop :=
  s.on F.LDG_CTL_EN = true → s.on F.LDG_STAT_LOCKED = false → s.boot.pfail = false → s.commit.configDirty = true →
  s.commit.configAt + 1000 * tickMs ≤ s.angle.now →
    Completes (exec .configCopy s) fun t =>
      t.lineNat (configLine (!s.commit.configNewB)) = (s.commit.configGen + 1) % 2 ^ 64 + 2 ^ 64 * rwsWords.length
      ∧ t.commit.configDirty = false ∧ t.commit.configNewB = !s.commit.configNewB ∧ t.commit.configGen = s.commit.configGen + 1
      ∧ t = { s with ledger := t.ledger, commit := t.commit }

/-- R302, R303: with no counted event waiting, the collector writes the oldest event of its ring queue as the next record of the event
ring. -/
def eventRecordCommit (s : State) (e : EventRec) (r : List EventRec) : Prop :=
  s.on F.LDG_CTL_EN = true → s.on F.LDG_STAT_LOCKED = false → s.boot.pfail = false → s.log.counted = [] → s.log.ring = e :: r → s.log.dropped = 0 →
    Completes (exec .eventRecordCommit s) fun t =>
      let p := s.log.ringSeq % 8192
      t.linesNat (0x13400 + 4 * p) 4 = recordNat e (s.log.ringSeq + 1) (s.get F.SEAL_LEC) % 2 ^ 512
      ∧ t.log = { s.log with ring := r, ringSeq := s.log.ringSeq + 1 } ∧ t.get F.LDG_EVRING_NEXT = (p + 1) % 8192
      ∧ WordsIn [F.LDG_EVRING_NEXT.addr] s t ∧ t = { s with regs := t.regs, ledger := t.ledger, log := t.log }

end Sys2Proof.Claims

/-- R118, R130, R131, R284 to R287, Table 17-1: accesses to SRAM and to the execution window by line.
Choices of the model it rests on: log entries 27, 28. -/
def Obligations.SramAccesses : Prop :=
  (∀ s who d a, Claims.sramRead s who d a) ∧ (∀ s who d a m v b, Claims.sramWrite s who d a m v b) ∧ (∀ s who d a, Claims.sramPoisoned s who d a)
    ∧ (∀ s who a b, Claims.sramLineClear s who a b) ∧ (∀ s who a, Claims.execWindowRead s who a) ∧ (∀ s who a, Claims.execWindowFails s who a)

/-- R281, R283 to R285, R292, R294, R325: reads and writes of ledger lines.
Choices of the model it rests on: log entries 28, 29, 39, 64. -/
def Obligations.LedgerLines : Prop :=
  (∀ s i b, Claims.ledgerReadRequest s i b) ∧ (∀ s i b, Claims.appLedgerRead s i b) ∧ (∀ s v, Claims.ledgerWriteQueue s v)
    ∧ (∀ s v, Claims.appLedgerWrite s v) ∧ (∀ s w q b, Claims.commitEngineLineWrite s w q b) ∧ (∀ s, Claims.scrubRead s)

/-- R296, R297, R300, R302, R303: the commits of mirror slots, configuration copies and event records.
Choices of the model it rests on: log entries 30, 31, 54. -/
def Obligations.MirrorConfigEventCommits : Prop :=
  (∀ s, Claims.mirrorRequest s) ∧ (∀ s, Claims.mirrorCommit s) ∧ (∀ s, Claims.configCopy s) ∧ (∀ s e r, Claims.eventRecordCommit s e r)

/-! ### Sessions and signed readings (chapter 8, section 8) -/

namespace Sys2Proof.Claims

/-- Do the 40 lines of the session slot at SESSRING.NEXT pass their check as they stand? -/
def slotGood (s : State) : Prop :=
  ∀ k : Fin 40, let i := sessionLineOf (s.get F.LDG_SESSRING_NEXT) + k.val; checkLine (ledgerOwner i) (some i) (s.line i) = .good

/-- R315: an open request with none of the refusals of Table 8-9 advances the tenant's session counter, commits it, and enters OPENING with the
slot at SESSRING.NEXT; refused, it changes no counter, and RESULT says why. Nothing is logged or corrected where the slot's lines are good (R284). -/
def sessionOpenRequest (s : State) (tenant : BitVec 4) (seq : BitVec 8) : Prop :=
  s.get F.UPD_STAT_STATE ≠ 6 → s.boot.pfail = false →
    Completes (exec (.sessionOpenRequest tenant seq) s) fun t =>
      t.get F.SIG_SESSST_RESULT = s.openResult ∧ t.get F.SIG_SESSST_SEQ = seq.toNat ∧ t.get F.SYS_SESS_REQ_OP = 0
      ∧ (s.openResult = 1 → t.get F.SIG_STAT_SESS = 1 ∧ t.get (F.SIG_TCNT.i tenant.toNat) = (s.get (F.SIG_TCNT.i tenant.toNat) + 1) % 2 ^ 32
          ∧ t.session.tenant = tenant.toNat ∧ t.session.counter = t.get (F.SIG_TCNT.i tenant.toNat) ∧ t.session.slot = s.get F.LDG_SESSRING_NEXT
          ∧ t.session.auth = s.getW F.SYS_SESS_AUTH ∧ t.session.legalCond = false ∧ (slotGood s → t.log = s.log))
      ∧ (s.openResult ≠ 1 → t.get F.SIG_STAT_SESS = s.get F.SIG_STAT_SESS ∧ t.session = s.session ∧ (slotGood s → t.ledger = s.ledger))
      ∧ RegsIn [Page.SYS, Page.SIG, Page.LDG] s t
      ∧ t = { s with regs := t.regs, ledger := t.ledger, session := t.session, log := t.log }

/-- R316: the application closes the open session: REASON 0x01 with its APPREASON, the legal condition is withdrawn, and SESS reads CLOSING. -/
def sessionCloseRequest (s : State) (appReason seq : BitVec 8) : Prop :=
  s.boot.pfail = false →
  (s.get F.SIG_STAT_SESS = 2 →
    Completes (exec (.sessionCloseRequest appReason seq) s) fun t =>
      t.get F.SIG_STAT_SESS = 3 ∧ t.get F.SIG_SESSST_RESULT = 1 ∧ t.session.legalCond = false ∧ t.session.reason = 1
      ∧ t.session.appReason = appReason.toNat ∧ t.session.withdrawnAt = s.angle.now ∧ t.ledger = s.ledger ∧ t.mem = s.mem
      ∧ t.pending = s.pending ∧ t.energy = s.energy)
  ∧ (s.get F.SIG_STAT_SESS = 0 →
    Completes (exec (.sessionCloseRequest appReason seq) s) fun t =>
      t.get F.SIG_SESSST_RESULT = 3 ∧ t.session = s.session ∧ RegsIn [Page.SYS, Page.SIG, Page.LDG] s t
      ∧ t = { s with regs := t.regs, log := t.log })

/-- R319: a reading request is granted, for the next close, except while a session is closing (RESULT 3) or the signing engine has failed its
self-test (RESULT 6). -/
def readingRequest (s : State) (seq : BitVec 8) : Prop :=
  s.boot.pfail = false →
  Completes (exec (.readingRequest seq) s) fun t =>
    t.get F.SIG_SESSST_RESULT = (if s.get F.SIG_STAT_SESS = 3 then 3 else if s.on F.SIG_STAT_KEYOK then 1 else 6)
    ∧ t.session = { s.session with readReq := t.session.readReq }
    ∧ (s.get F.SIG_STAT_SESS ≠ 3 → s.on F.SIG_STAT_KEYOK = true → t.session.readReq = true)
    ∧ RegsIn [Page.SYS, Page.SIG, Page.LDG] s t ∧ t = { s with regs := t.regs, session := t.session, log := t.log }

/-- R315: the start reading of an opening session is taken into SIG.IN and the signing engine starts. -/
def startReading (s : State) : Prop :=
  s.get F.SIG_STAT_SESS = 1 → s.session.startTaken = false → s.get F.SIG_STAT_BUSY = 0 → s.boot.pfail = false →
    Completes (exec .startReading s) fun t =>
      t.sigIn = s.recordBody .start (s.getW F.MET_LASTCYC) s.utc false false % 2 ^ 2048 ∧ t.on F.SIG_STAT_BUSY = true
      ∧ t.session = { s.session with startTaken := true, signing := true, startRseq := s.get F.SIG_SEQ + 1, startCycle := s.getW F.MET_LASTCYC }
      ∧ RegsIn [Page.SIG] s t ∧ t = { s with regs := t.regs, session := t.session }

/-- R315, R320: the signed start record goes to the first half of the session's slot, SESS reads OPEN, SESSRING.NEXT advances, and the legal
domain gives its condition while it may bill. -/
def startRecordCommit (s : State) : Prop :=
  s.get F.SIG_STAT_SESS = 1 → s.session.startTaken = true → s.session.signing = false → s.boot.pfail = false → s.session.closeHeld = none →
    Completes (exec .startRecordCommit s) fun t =>
      t.get F.SIG_STAT_SESS = 2 ∧ t.session.legalCond = s.mayBill ∧ t.get F.LDG_SESSRING_NEXT = (s.session.slot + 1) % 2048
      ∧ t.linesNat (sessionLineOf s.session.slot) 20 = s.session.record % 2 ^ 2560
      ∧ t.mem = s.mem ∧ t.flash = s.flash ∧ t.pending = s.pending ∧ t.energy = s.energy

/-- R316, R318, R320: at a close 200 ms or more after the withdrawal, the end reading of a closing session is signed, stored in the second half of its slot and shown in SIG.OUT; SESS reads
NONE, and ENDRSN holds the reasons. -/
def endReading (s : State) : Prop :=
  s.get F.SIG_STAT_SESS = 3 → s.session.deferred = false → s.boot.pfail = false → s.session.withdrawnAt + 200 * tickMs ≤ s.angle.now →
  s.get F.SIG_STAT_BUSY = 0 → LogRoom 1 s →
    Completes (exec .endReading s) fun t =>
      t.get F.SIG_STAT_SESS = 0 ∧ t.get F.SIG_ENDRSN_REASON = s.session.reason % 256 ∧ t.get F.SIG_ENDRSN_APPREASON = s.session.appReason % 256
      ∧ t.linesNat (sessionLineOf s.session.slot + 20) 20 = s.signBody (s.recordBody .finish (s.getW F.MET_LASTCYC) s.utc false false) % 2 ^ 2560
      ∧ t.get F.SIG_SEQ = s.signBody (s.recordBody .finish (s.getW F.MET_LASTCYC) s.utc false false) / 2 ^ 384 % 2 ^ 32
      ∧ Logged Page.SIG 0x0412 s.session.reason s t ∧ t.session.legalCond = false
      ∧ RegsIn [Page.SIG, Page.LDG] s t
      ∧ t = { s with regs := t.regs, ledger := t.ledger, session := t.session, log := t.log }

/-- R319, R322: a requested reading is taken and signed into SIG.OUT, as an interim reading of an open session or, with none open, as a reading on
demand. -/
def interimReading (s : State) : Prop :=
  s.session.readReq = true → s.get F.SIG_STAT_BUSY = 0 → s.boot.pfail = false →
    Completes (exec .interimReading s) fun t =>
      let k := if s.get F.SIG_STAT_SESS ≤ 1 then ReadingKind.onDemand else ReadingKind.interim
      t.getWords F.SIG_OUT.addr 80 = s.signBody (s.recordBody k (s.getW F.MET_LASTCYC) s.utc false false) % 2 ^ 2560
      ∧ t.session = { s.session with readReq := false } ∧ RegsIn [Page.SIG] s t ∧ t = { s with regs := t.regs, session := t.session }

/-- R323: SIG.CMD.SIGN starts the signing engine on SIG.IN, unless it is busy. -/
def signCommand (s : State) : Prop :=
  s.boot.pfail = false →
  Completes (exec .signCommand s) fun t => t.on F.SIG_STAT_BUSY = true ∧ t.sigIn = s.sigIn ∧ RegsIn [Page.SIG] s t ∧ t = { s with regs := t.regs }

/-- R323: the signing engine has finished: SIG.OUT holds the body of SIG.IN with its signature, BUSY and CMD.SIGN read 0. -/
def signatureComplete (s : State) : Prop :=
  s.on F.SIG_STAT_BUSY = true → s.boot.pfail = false → s.session.signing = false →
    Completes (exec .signatureComplete s) fun t =>
      t.getWords F.SIG_OUT.addr 80 = s.signBody s.sigIn % 2 ^ 2560 ∧ t.on F.SIG_STAT_BUSY = false ∧ t.get F.SIG_CMD_SIGN = 0
      ∧ t.getBit (F.IRQ_RAW.on Page.SIG) 0 = true ∧ RegsIn [Page.SIG] s t ∧ t = { s with regs := t.regs }

/-- R320, R330: with the signature of a start record complete, line 20 of the slot is zeroed before the record is committed, so that a slot may hold
neither; an overwritten slot is logged (R321). -/
def startSigned (s : State) : Prop :=
  let l := sessionLineOf s.session.slot
  s.on F.SIG_STAT_BUSY = true → s.boot.pfail = false → s.session.signing = true → LogRoom 1 s →
    Completes (exec .signatureComplete s) fun t =>
      t.session = { s.session with signing := false, record := s.signBody s.sigIn % 2 ^ 2560 } ∧ t.slotBlank l = true
      ∧ t.on F.SIG_STAT_BUSY = false
      ∧ (s.recordExists l = true ∨ s.recordExists (l + 20) = true → Logged Page.LDG 0x0414 s.session.slot s t)
      ∧ RegsIn [Page.SIG, Page.LDG] s t ∧ t = { s with regs := t.regs, ledger := t.ledger, session := t.session, log := t.log }

/-! ### The power-fail sequence and the environment (chapter 8, section 7; chapter 21) -/

/-- R234, R309, R311, R312, R786: the supply fails: the accumulators freeze, queued application lines are discarded, every switched output and
every pilot generator stops, and the cycle number is kept for the commit. -/
def powerFailEntry (s : State) (timeout : Bool) : Prop :=
  s.boot.powered = true →
    Completes (exec (if timeout then .supplyLowTimeout else .supplyFailure) s) fun t =>
      t.boot.powered = false ∧ t.boot.pfail = true ∧ t.on F.MET_STAT_FROZEN = true ∧ t.commit.appQ = [] ∧ t.commit.discarded = s.commit.appQ.length
      ∧ t.commit.frozenCycle = s.cycles ∧ t.session.legalCond = false ∧ t.on F.SIG_STAT_BUSY = false
      ∧ (∀ n : Fin 24, (t.sw n).legs = false) ∧ t.mem = s.mem ∧ t.flash = s.flash ∧ t.ledger = s.ledger ∧ t.pending = s.pending

/-- R310: the power-fail commit locks the ledger, after a mirror slot, the counted records and event 0x0401 with its time; PFLOG keeps the time
and the number of discarded application lines. -/
def powerFailCommit (s : State) (us : BitVec 16) : Prop :=
  s.boot.pfail = true → s.on F.LDG_CTL_EN = true → s.on F.LDG_STAT_LOCKED = false →
    Completes (exec (.powerFailCommit us) s) fun t =>
      t.on F.LDG_STAT_LOCKED = true ∧ t.get F.LDG_PFLOG_US = us.toNat ∧ t.get F.LDG_PFLOG_LINES = s.commit.discarded % 2 ^ F.LDG_PFLOG_LINES.width
      ∧ t.getW F.LDG_MSEQ = (s.getW F.LDG_MSEQ + 1) % 2 ^ 64 ∧ t.boot.appRuns = false ∧ t.boot.legalRuns = false ∧ t.get F.BOOT_APPRST_CAUSE = 7
      ∧ t.mem = s.mem ∧ t.flash = s.flash ∧ t.pending = s.pending

/-- R313: the supply returns during the power-fail sequence: the sequence runs to its end, and the start that follows will log it. -/
def supplyReturn (s : State) : Prop :=
  s.boot.pfail = true →
    Completes (exec .supplyReturnDuringPfail s) fun t => t = { s with boot := { s.boot with pfailReturn := true } }

/-- R810: the hold-up store fails its test: HUREADY reads 0. -/
def holdupStoreFail (s : State) : Prop :=
  Completes (exec .holdupStoreFail s) fun t =>
    t.on F.SYS_HOLDUP_HUREADY = false ∧ WordsIn [F.SYS_HOLDUP_HUREADY.addr] s t ∧ t = { s with regs := t.regs }

/-- R805: a measurement of the supply, and with `tint` of the interior temperature: SYS.ENV shows them, and ENVEXT keeps the extremes. -/
def environmentMeasurement (s : State) (vsup : BitVec 16) (tint : Option (BitVec 12)) : Prop :=
  Completes (exec (.environmentMeasurement vsup tint) s) fun t =>
    t.get F.SYS_ENV_VSUP = vsup.toNat
    ∧ (s.get F.SYS_ENVEXT_VMIN ≠ 0 → t.get F.SYS_ENVEXT_VMIN = min (s.get F.SYS_ENVEXT_VMIN) vsup.toNat)
    ∧ (∀ x, x ∈ tint → t.get F.SYS_ENV_TINT = x.toNat
        ∧ (s.boot.tmaxValid = true → toSigned 12 (t.get F.SYS_ENVEXT_TMAX) = max (toSigned 12 (s.get F.SYS_ENVEXT_TMAX)) x.toInt))
    ∧ WordsIn [F.SYS_ENV_VSUP.addr, F.SYS_ENVEXT_VMIN.addr, F.SYS_ENV_TINT.addr, F.SYS_ENVEXT_TMAX.addr] s t
    ∧ t = { s with regs := t.regs, boot := { s.boot with tmaxValid := t.boot.tmaxValid } }

end Sys2Proof.Claims

/-- R315 to R323: sessions, signed readings and the signing engine.
Choices of the model it rests on: log entries 37, 38, 55. -/
def Obligations.SessionsAndReadings : Prop :=
  (∀ s n q, Claims.sessionOpenRequest s n q) ∧ (∀ s a q, Claims.sessionCloseRequest s a q) ∧ (∀ s q, Claims.readingRequest s q)
    ∧ (∀ s, Claims.startReading s) ∧ (∀ s, Claims.startRecordCommit s) ∧ (∀ s, Claims.endReading s) ∧ (∀ s, Claims.interimReading s)
    ∧ (∀ s, Claims.signCommand s) ∧ (∀ s, Claims.signatureComplete s) ∧ (∀ s, Claims.startSigned s)

/-- R234, R309 to R313, R786, R805, R810: the power-fail sequence, and the measurements of the environment.
Choices of the model it rests on: log entries 43, 44. -/
def Obligations.PowerFailAndEnvironment : Prop :=
  (∀ s b, Claims.powerFailEntry s b) ∧ (∀ s u, Claims.powerFailCommit s u) ∧ (∀ s, Claims.supplyReturn s) ∧ (∀ s, Claims.holdupStoreFail s)
    ∧ (∀ s v x, Claims.environmentMeasurement s v x)

/-! ### Head ports and heads (chapter 5) -/

namespace Sys2Proof.Claims

/-- The pages that a change of port state may write: that of the port, with its pattern block, and LDG for its events. -/
def portPages (p : Fin 8) : List Nat := [Page.HEAD p, Page.LDG]

/-- R169, R174: HEAD.CTL.EN set powers a port that is OFF: POWER, PRESENT as a cable is plugged in, and IDLE is sent. -/
def headPortEnable (s : State) (p : Fin 8) : Prop :=
  s.portState p = 0 →
    Completes (exec (.headPortEnable p) s) fun t =>
      t.on (F.HEAD_CTL_EN.i p) = true ∧ t.portState p = 1 ∧ t.on (F.HEAD_STAT_PRESENT.i p) = (s.port p).plugged
      ∧ t.wordSent p = some (commandWord 0 0) ∧ RegsIn [Page.HEAD p] s t ∧ t = { s with regs := t.regs, heads := t.heads, fresh := t.fresh }

/-- R174, R201: HEAD.CTL.EN cleared: OFF, no lock and no head present, and every channel of the port has a link error. -/
def headPortDisable (s : State) (p : Fin 8) : Prop :=
  Completes (exec (.headPortDisable p) s) fun t =>
    t.on (F.HEAD_CTL_EN.i p) = false ∧ t.portState p = 0 ∧ t.on (F.HEAD_STAT_LOCK.i p) = false ∧ t.on (F.HEAD_STAT_PRESENT.i p) = false
    ∧ (∀ c : Fin 24, c.val / 3 = p.val → (t.chans.get c).linkAge = 0) ∧ (∀ c : Fin 24, c.val / 3 ≠ p.val → t.chans.get c = s.chans.get c)
    ∧ RegsIn (portPages p) s t
    ∧ t = { s with regs := t.regs, heads := t.heads, headDevs := t.headDevs, chans := t.chans, pats := t.pats, log := t.log }

/-- R174: transitions for 1 µs on the link of a port in POWER: SYNC. -/
def upstreamActivity (s : State) (p : Fin 8) : Prop :=
  s.portState p = 1 →
    Completes (exec (.upstreamActivity p) s) fun t =>
      t.portState p = 2 ∧ t.on (F.HEAD_STAT_LOCK.i p) = false ∧ RegsIn [Page.HEAD p] s t ∧ t = { s with regs := t.regs, heads := t.heads }

/-- R175: the fourth consecutive good status word of a port in SYNC: LOCK and IDENT; the first three are counted. -/
def statusWordSync (s : State) (p : Fin 8) (w : Word) (rtd : BitVec 16) : Prop :=
  s.portState p = 2 → goodWord w.toNat false (s.port p).lastSlot = true →
    Completes (exec (.statusWord p w false rtd) s) fun t =>
      t.portState p = (if 3 ≤ (s.port p).goodRun then 3 else 2) ∧ (3 ≤ (s.port p).goodRun → t.on (F.HEAD_STAT_LOCK.i p) = true)
      ∧ (t.port p).goodRun = (s.port p).goodRun + 1 ∧ RegsIn [Page.HEAD p] s t ∧ t = { s with regs := t.regs, heads := t.heads }

/-- R179, R180: a word with a coding violation in RUN is a link error of the port's channels, counted in LERR.ERRS; the eighth bad word in
succession loses the lock. -/
def statusWordBad (s : State) (p : Fin 8) (w : Word) (rtd : BitVec 16) : Prop :=
  s.portState p = 4 →
    Completes (exec (.statusWord p w true rtd) s) fun t =>
      t.get (F.HEAD_LERR_ERRS.i p) = min (2 ^ F.HEAD_LERR_ERRS.width - 1) (s.get (F.HEAD_LERR_ERRS.i p) + 1)
      ∧ t.portState p = (if 7 ≤ (s.port p).badRun then 2 else 4) ∧ (∀ c : Fin 24, c.val / 3 = p.val → (t.chans.get c).linkAge = 0)
      ∧ RegsIn (portPages p) s t ∧ t = { s with regs := t.regs, heads := t.heads, chans := t.chans, pats := t.pats, log := t.log }

/-- R172, R204: a good word of slot 11 in RUN, with the RUN flag: HEALTH.SUPPLY and the round-trip delay, and its overload flags are
counted. -/
def statusWordRun (s : State) (p : Fin 8) (w : Word) (rtd : BitVec 16) : Prop :=
  s.portState p = 4 → goodWord w.toNat false (s.port p).lastSlot = true → bit w.toNat 4 = true → bits w.toNat 20 4 = 11 →
    Completes (exec (.statusWord p w false rtd) s) fun t =>
      t.get (F.HEAD_HEALTH_SUPPLY.i p) = bits w.toNat 8 12 % 2 ^ F.HEAD_HEALTH_SUPPLY.width ∧ t.get (F.HEAD_RTD_DELAY.i p) = rtd.toNat
      ∧ t.get (F.HEAD_OVL_V.i p) = min (2 ^ F.HEAD_OVL_V.width - 1) (s.get (F.HEAD_OVL_V.i p) + b2n (bit w.toNat 7)) ∧ t.portState p = 4
      ∧ RegsIn [Page.HEAD p] s t ∧ t = { s with regs := t.regs, heads := t.heads, chans := t.chans }

/-- R179: silence on the link of a port in SYNC, IDENT, RUN or HOLD loses the lock: counted, and SYNC. -/
def upstreamSilence (s : State) (p : Fin 8) : Prop :=
  s.portState p ∈ [2, 3, 4, 6] →
    Completes (exec (.upstreamSilence p) s) fun t =>
      t.portState p = 2 ∧ t.get (F.HEAD_LERR_LOSSES.i p) = min (2 ^ F.HEAD_LERR_LOSSES.width - 1) (s.get (F.HEAD_LERR_LOSSES.i p) + 1)
      ∧ RegsIn (portPages p) s t ∧ t = { s with regs := t.regs, heads := t.heads, chans := t.chans, pats := t.pats, log := t.log }

/-- R177: no echo of the nonce within 2 ms: event 0x034B, and HELLO waits to be retried. -/
def helloEchoTimeout (s : State) (p : Fin 8) : Prop :=
  s.portState p = 3 → (s.port p).checked = true → (s.port p).nonce.isSome = true → (s.port p).runSent = false → LogRoom 1 s →
    Completes (exec (.helloEchoTimeout p) s) fun t =>
      (t.port p).nonce = none ∧ Logged (Page.HEAD p) 0x034B p s t ∧ WordsIn (logWords (Page.HEAD p)) s t
      ∧ t = { s with regs := t.regs, heads := t.heads, log := t.log }

/-- R177: HELLO is sent again with a new 12-bit nonce, whose value is free. -/
def helloRetry (s : State) (p : Fin 8) : Prop :=
  s.portState p = 3 → (s.port p).checked = true → (s.port p).nonce = none →
    Completes (exec (.helloRetry p) s) fun t =>
      (∃ n, n < 4096 ∧ (t.port p).nonce = some n ∧ ((s.port p).due = [] → t.wordSent p = some (commandWord 1 n)))
      ∧ t = { s with heads := t.heads, fresh := t.fresh }

/-- R169, R177: the echo of the nonce in slot 15 of a good word: the module sends RUN in its next 4 command words. -/
def helloEcho (s : State) (p : Fin 8) (w : Word) (rtd : BitVec 16) : Prop :=
  s.portState p = 3 → (s.port p).checked = true → (s.port p).runSent = false → (s.port p).due = [] →
    goodWord w.toNat false (s.port p).lastSlot = true → bits w.toNat 20 4 = 15 → (s.port p).nonce = some (bits w.toNat 8 12) →
    Completes (exec (.statusWord p w false rtd) s) fun t =>
      t.portState p = 3 ∧ (t.port p).runSent = true ∧ (t.port p).due = [(2, 0), (2, 0), (2, 0), (2, 0)]
      ∧ t.wordSent p = some (commandWord 2 0) ∧ t = { s with heads := t.heads }

/-- R183: a power fault of a powered port: its power is removed, PFAULT, the interrupt bit and event 0x0345. -/
def portPowerFault (s : State) (p : Fin 8) : Prop :=
  s.portPowered p = true → LogRoom 4 s →
    Completes (exec (.portPowerFault p) s) fun t =>
      t.portState p = 5 ∧ t.getBit (F.IRQ_RAW.on (Page.HEAD p)) 4 = true ∧ Logged (Page.HEAD p) 0x0345 p s t
      ∧ t.on (F.HEAD_STAT_PRESENT.i p) = false ∧ (∀ c : Fin 24, c.val / 3 = p.val → (t.chans.get c).linkAge = 0)
      ∧ RegsIn (portPages p) s t
      ∧ t = { s with regs := t.regs, heads := t.heads, headDevs := t.headDevs, chans := t.chans, pats := t.pats, log := t.log }

/-- R174: 1 s after a power fault the port is powered again: POWER. -/
def pfaultRecovery (s : State) (p : Fin 8) : Prop :=
  s.portState p = 5 →
    Completes (exec (.pfaultRecovery p) s) fun t =>
      t.portState p = 1 ∧ t.on (F.HEAD_STAT_PRESENT.i p) = (s.port p).plugged ∧ RegsIn [Page.HEAD p] s t
      ∧ t = { s with regs := t.regs, heads := t.heads, fresh := t.fresh }

/-- R26, R184: a head is plugged in: PRESENT on a powered port; the head begins at rest. -/
def headConnect (s : State) (p : Fin 8) : Prop :=
  Completes (exec (.headConnect p) s) fun t =>
    (t.port p).plugged = true ∧ t.on (F.HEAD_STAT_PRESENT.i p) = s.portPowered p ∧ t.dev p = {}
    ∧ WordsIn [(F.HEAD_STAT_PRESENT.i p).addr] s t ∧ t = { s with regs := t.regs, heads := t.heads, headDevs := t.headDevs }

/-- R40: a head is unplugged: PRESENT clears and its channels have a link error. -/
def headDisconnect (s : State) (p : Fin 8) : Prop :=
  Completes (exec (.headDisconnect p) s) fun t =>
    (t.port p).plugged = false ∧ t.on (F.HEAD_STAT_PRESENT.i p) = false ∧ (∀ c : Fin 24, c.val / 3 = p.val → (t.chans.get c).linkAge = 0)
    ∧ (∀ c : Fin 24, c.val / 3 ≠ p.val → t.chans.get c = s.chans.get c)
    ∧ WordsIn [(F.HEAD_STAT_PRESENT.i p).addr] s t ∧ t = { s with regs := t.regs, heads := t.heads, headDevs := t.headDevs, chans := t.chans }

/-- R170, R429, R766: what a plugged head does on a good command word: HELLO echoes its nonce in slot 15, RUN and HALT start and stop its
modulators, AUXCTL sets its auxiliary circuit, PATTERN sends a sequence, and IDLE does nothing. -/
def headCommand (s : State) (p : Fin 8) (w : Word) (c : Fin 6) : Prop :=
  let a := bits w.toNat 4 12
  let i : Instr := if c = 0 then .headIdle p w else if c = 1 then .headHello p w else if c = 2 then .headRun p w else if c = 3 then .headHalt p w
    else if c = 4 then .headAuxctl p w else .headPattern p w
  (s.port p).plugged = true → goodCommand w.toNat c = true → (c = 5 → a % 16 ≤ 6) →
    Completes (exec i s) fun t =>
      t.dev p = (if c = 0 then s.dev p else if c = 1 then { s.dev p with slot15 := a } else if c = 2 then { s.dev p with run := true }
        else if c = 3 then { s.dev p with run := false, pattern := 0 } else if c = 4 then { s.dev p with slot10 := a, aux := a }
        else { s.dev p with pattern := if a % 16 = 0 then 0 else a % 32 })
      ∧ (∀ q, q ≠ p → t.dev q = s.dev q) ∧ t = { s with headDevs := t.headDevs }

/-- R181: no good command word for 125 µs: the modulators of the head stop. -/
def headCommandTimeout (s : State) (p : Fin 8) : Prop :=
  Completes (exec (.headCommandTimeout p) s) fun t =>
    t.dev p = { s.dev p with run := false, pattern := 0 } ∧ (∀ q, q ≠ p → t.dev q = s.dev q) ∧ t = { s with headDevs := t.headDevs }

end Sys2Proof.Claims

/-- R26, R40, R174, R177, R179, R183, R184, R201: enabling, losing and recovering a head port.
Choices of the model it rests on: log entries 3, 46, 47. -/
def Obligations.HeadPortLife : Prop :=
  (∀ s p, Claims.headPortEnable s p) ∧ (∀ s p, Claims.headPortDisable s p) ∧ (∀ s p, Claims.upstreamActivity s p)
    ∧ (∀ s p, Claims.upstreamSilence s p) ∧ (∀ s p w r, Claims.helloEcho s p w r) ∧ (∀ s p, Claims.helloEchoTimeout s p) ∧ (∀ s p, Claims.helloRetry s p)
    ∧ (∀ s p, Claims.portPowerFault s p) ∧ (∀ s p, Claims.pfaultRecovery s p) ∧ (∀ s p, Claims.headConnect s p) ∧ (∀ s p, Claims.headDisconnect s p)

/-- R170, R172, R175, R179 to R181, R204, R429, R766: status words from a head and command words to it.
Choices of the model it rests on: log entries 46, 88. -/
def Obligations.HeadWords : Prop :=
  (∀ s p w r, Claims.statusWordSync s p w r) ∧ (∀ s p w r, Claims.statusWordBad s p w r) ∧ (∀ s p w r, Claims.statusWordRun s p w r)
    ∧ (∀ s p w c, Claims.headCommand s p w c) ∧ (∀ s p, Claims.headCommandTimeout s p)

/-! ### The sample chain and the energy engine (chapters 5 and 6) -/

namespace Sys2Proof.Claims

/-- R186, R193: while the chain runs, the output sample after `count` samples since the chain epoch has the index `count`, which FIL.SIDX and, with the
angle, FIL.SAMPANG show; a channel that is not enabled delivers 0x8000_0000 with no flag. -/
def outputSample (s : State) (bits : List (BitVec 2048)) (c : Fin 24) : Prop :=
  s.on F.FIL_STAT_RUN = true →
    Completes (exec (.outputSample bits) s) fun t =>
      t.getW F.FIL_SIDX = (s.chans.get 0).count % 2 ^ 64 ∧ (t.chans.get c).count = (s.chans.get c).count + 1 ∧ t.getW F.FIL_SAMPANG_IDX = t.getW F.FIL_SIDX
      ∧ t.get F.FIL_SAMPANG_ANGLE = s.angleWord % 2 ^ F.FIL_SAMPANG_ANGLE.width
      ∧ (s.getBit F.FIL_CHEN_MASK c = false → t.get (F.FIL_CH_OUT.i c) = 0x80000000 ∧ t.get (F.FIL_CH_ST_FLAGS.i c) = 0)
      ∧ t.mem = s.mem ∧ t.flash = s.flash ∧ t.ledger = s.ledger ∧ t.pending = s.pending

/-- R186: FIL.CTL.EN set defines the chain epoch: the chain runs, every register of the chain but FIL.CHEN reads its reset value, every channel starts
from reset and the next sample has index 0. -/
def chainEnable (s : State) : Prop :=
  Completes (exec .chainEnable s) fun t =>
    t.on F.FIL_CTL_EN = true ∧ t.on F.FIL_STAT_RUN = true ∧ t.get F.FIL_CHEN_MASK = s.get F.FIL_CHEN_MASK
    ∧ t.getW F.FIL_SIDX = 0 ∧ t.getW F.FIL_SAMPANG_IDX = 0 ∧ t.get F.FIL_VALID_MASK = 0 ∧ t.get F.FIL_SATNOW_MASK = 0 ∧ t.get F.FIL_SETTLE_MASK = 0
    ∧ (∀ c : Fin 24, t.get (F.FIL_CH_OUT.i c) = 0x80000000 ∧ t.get (F.FIL_CH_CNT_SAT.i c) = 0
        ∧ t.chans.get c = { satNow := (s.chans.get c).satNow })
    ∧ RegsIn [Page.FIL] s t ∧ t = { s with regs := t.regs, chans := t.chans }

/-- R202: a change of FIL.CHEN restarts exactly the channels whose bit changes; their saturation ends at a sample (R194) and their link errors stay in
the input span (log entry 48). -/
def channelEnableChange (s : State) (mask : BitVec 24) : Prop :=
  s.rwsLocked = false → s.rwsStalls = false →
    Completes (exec (.channelEnableChange mask) s) fun t =>
      t.get F.FIL_CHEN_MASK = mask.toNat
      ∧ (∀ c : Fin 24, t.chans.get c = if bit (s.get F.FIL_CHEN_MASK ^^^ mask.toNat) c then
          { satNow := (s.chans.get c).satNow, linkAge := (s.chans.get c).linkAge, count := (s.chans.get c).count } else s.chans.get c)
      ∧ WordsIn ([F.FIL_CHEN_MASK.addr] ++ logWords Page.FIL) s t
      ∧ t = { s with regs := t.regs, chans := t.chans, commit := t.commit, log := t.log }

/-- R216, R227, R228, R258: at the close of an engine cycle MET.LASTCYC takes the cycle and the interrupt bit is set; an accumulator whose
configuration in force is not enabled keeps its value, and a clear asked for in FACTORY clears every one. The window of the cycle will begin 1024 ticks
after its carry while the pulse engine runs. -/
def engineCycleClose (s : State) (n : Fin 64) : Prop :=
  s.engineRuns = true →
    Completes (exec .engineCycleClose s) fun t =>
      t.getW F.MET_LASTCYC = s.cycles ∧ t.getBit (F.IRQ_RAW.on Page.MET) 0 = true
      ∧ ((s.energy.clear && s.get F.SEAL_STAT_STATE == 0) = true → t.getW (F.MET_ACC.i n) = 0)
      ∧ (s.energy.clear = false → bit (s.energy.accCfg.getD n 0) 14 = false → t.getW (F.MET_ACC.i n) = s.getW (F.MET_ACC.i n))
      ∧ t.energy.clear = false ∧ RegsIn [Page.MET, Page.CAL, Page.LDG] s t
      ∧ (s.on F.PLS_CTL_EN = true → t.pulses = { s.pulses with next := some (s.angle.carry.getD s.angle.now + 1024, s.angle.cycleLen) })
      ∧ t = { s with regs := t.regs, energy := t.energy, session := t.session, pulses := t.pulses, commit := t.commit, log := t.log, fresh := t.fresh }

/-- R206, R242: a permitted write of MEn_CFG of an element that is not billable, with EN 0 or a permitted pairing, is stored with KIND from the
head of VCH; an enabled element with a pairing that R206 does not permit is refused with event 0x0302. -/
def meCfgWrite (s : State) (n : Fin 8) (v : Word) : Prop :=
  let w := s.meCfgWord n v.toNat
  s.rwsLocked = false → s.rwsStalls = false →
    Completes (exec (.meCfgWrite n v) s) fun t =>
      (s.on (F.MET_ME_CFG_BILLABLE.i n) = false → (cfgEn w && !(s.pairingOk w && s.istartOk n w)) = false →
        t.word (F.MET_ME_CFG_EN.i n).addr = BitVec.ofNat 32 w ∧ WordsIn ([(F.MET_ME_CFG_EN.i n).addr] ++ logWords Page.MET) s t)
      ∧ ((cfgEn w && !(s.pairingOk w && s.istartOk n w)) = true → LogRoom 1 s →
        Logged Page.MET 0x0302 n s t ∧ WordsIn ((Page.MET + 0x10) :: logWords Page.MET) s t)
      ∧ t = { s with regs := t.regs, commit := t.commit, log := t.log }

/-- R230: a permitted write of ACCn_CFG is stored when it is not enabled or sums elements of one kind and distinct current channels; else it is
refused with event 0x030B. -/
def accCfgWrite (s : State) (n : Fin 64) (v : Word) : Prop :=
  s.rwsLocked = false → s.rwsStalls = false → bits v.toNat 8 4 ≤ 10 →
    Completes (exec (.accCfgWrite n v) s) fun t =>
      (bit v.toNat 14 = false ∨ s.elemsOk (bits v.toNat 0 8) = true →
        t.word (F.MET_ACC_CFG_EN.i n).addr = v &&& 0x7FFF ∧ WordsIn ([(F.MET_ACC_CFG_EN.i n).addr] ++ logWords Page.MET) s t)
      ∧ (bit v.toNat 14 = true → s.elemsOk (bits v.toNat 0 8) = false → LogRoom 1 s →
        Logged Page.MET 0x030B n s t ∧ WordsIn ((Page.MET + 0x10) :: logWords Page.MET) s t)
      ∧ t = { s with regs := t.regs, commit := t.commit, log := t.log }

/-- R242, Table 8-10: with no session, a permitted write of BRn is stored when it is not enabled or selects an accumulator that may be billed; else
it is refused with event 0x0301. -/
def brWrite (s : State) (n : Fin 8) (v : Word) : Prop :=
  s.rwsLocked = false → s.rwsStalls = false → s.get F.SIG_STAT_SESS = 0 → bits v.toNat 8 3 ≤ 6 →
    Completes (exec (.brWrite n v) s) fun t =>
      (bit v.toNat 6 = false ∨ s.mayBillAcc (bits v.toNat 0 6) = true → t.word (F.MET_BR_EN.i n).addr = v &&& 0x77F)
      ∧ (bit v.toNat 6 = true → s.mayBillAcc (bits v.toNat 0 6) = false → LogRoom 1 s →
        Logged Page.MET 0x0301 n s t ∧ t.word (F.MET_BR_EN.i n).addr = s.word (F.MET_BR_EN.i n).addr)
      ∧ t.mem = s.mem ∧ t.flash = s.flash ∧ t.ledger = s.ledger ∧ t.pending = s.pending ∧ t.energy = s.energy

/-- R224: CAL.APPLY outside SEALED takes the tables, which replace the working copy at the next close, when every table is valid; else REF and
the first element whose table is not, with event 0x0309. -/
def calApply (s : State) : Prop :=
  let bad := (List.range 8).find? fun e => !s.tableOk s.calTables e
  s.sealed = false →
    Completes (exec .calApply s) fun t =>
      (bad = none → t.energy = { s.energy with calNext := some s.calTables } ∧ t.on F.CAL_APPLYST_REF = false ∧ t.log = s.log)
      ∧ (bad.isSome = true → t.energy = s.energy ∧ t.on F.CAL_APPLYST_REF = true ∧ some (t.get F.CAL_APPLYST_ELEM) = bad)
      ∧ WordsIn ([F.CAL_APPLYST_REF.addr, Page.CAL + 0x10] ++ logWords Page.CAL) s t
      ∧ t = { s with regs := t.regs, energy := t.energy, log := t.log }

/-- R227: 0x0000_C1EA written to MET.ACCCLR in FACTORY asks for a clear at the next close; in any other state, or with another value, it has no
effect. -/
def accumulatorClear (s : State) (v : Word) : Prop :=
  Completes (exec (.accumulatorClear v) s) fun t =>
    t.energy.clear = (s.energy.clear || (v == 0xC1EA && s.get F.SEAL_STAT_STATE == 0)) ∧ t = { s with energy := { s.energy with clear := t.energy.clear } }

/-- R244: the legal value of a billing register in force is its accumulator in 10^-9 of its unit, with DEC decimals truncated towards zero. -/
def legalValue (s : State) (n : Fin 8) : Prop :=
  let acc := s.getW (F.MET_ACC.i (s.energy.br.getD n 0 % 64))
  let dec := bits (s.energy.br.getD n 0) 8 3
  s.legalValue n * (2 ^ 64 * 10 ^ 9) ≤ acc * 10 ^ dec ∧ acc * 10 ^ dec < (s.legalValue n + 1) * (2 ^ 64 * 10 ^ 9)

/-- R239: a held run has lasted longer than HOLDMAX: HOLDEXP and event 0x0305; with the element billed, the session closes with reason 0x07. -/
def heldRunLimit (s : State) (n : Fin 8) : Prop :=
  s.on (F.MET_ME_STAT_HELD.i n) = true → s.on (F.MET_ME_STAT_HOLDEXP.i n) = false → s.boot.pfail = false → LogRoom 1 s →
    Completes (exec (.heldRunLimit n) s) fun t =>
      t.on (F.MET_ME_STAT_HOLDEXP.i n) = true ∧ (s.billedElem n = false → Logged Page.MET 0x0305 n s t ∧ t.session = s.session)
      ∧ (s.billedElem n = true → t.session.holdExp = true ∧ t.session.legalCond = false
          ∧ (s.get F.SIG_STAT_SESS = 2 → t.get F.SIG_STAT_SESS = 3 ∧ t.session.reason = 7))
      ∧ t.mem = s.mem ∧ t.flash = s.flash ∧ t.ledger = s.ledger ∧ t.pending = s.pending ∧ t.energy = s.energy

/-! ### Pulse outputs (chapter 7) -/

/-- No alarm is armed, so that nothing but the clocks and the counters moves while the clock runs on. -/
def noAlarm (s : State) : Prop := ∀ k : Fin 64, s.on (almArm k.val) = false

/-- What the pulse engine may change while the clock runs on to an instant of its own with no alarm armed: the registers that show time, and those
of PLS and LDG. -/
def pulseFrame (s t : State) : Prop :=
  RegsIn [Page.ANG, Page.RTC, Page.TMR, Page.BOOT, Page.SW 0, Page.SW 1, Page.PLS, Page.LDG] s t
  ∧ t = { s with regs := t.regs, pulses := t.pulses, commit := t.commit, angle := t.angle, timers := t.timers, log := t.log }

/-- R258, R260, R270, R277, R279: the window of the last closed cycle starts at its tick, with the length of that cycle where its carries are known, and
every output begins it with no pulse emitted; the energy of an enabled output is that of its accumulator since the last window. Without a closed
cycle no window begins. -/
def pulseWindowStart (s : State) (start : Nat) (len : Option Nat) (l : Word) (n : Fin 4) : Prop :=
  (s.pulses.next = none → Completes (exec (.pulseWindowStart l) s) fun t => t = s)
  ∧ (s.pulsesRun = true → s.pulses.next = some (start, len) → noAlarm s →
    Completes (exec (.pulseWindowStart l) s) fun t =>
      t.pulses.start = start ∧ start ≤ t.angle.now ∧ t.angle.now = max s.angle.now start ∧ t.pulses.len = len.getD l.toNat
      ∧ t.pulses.snap = false ∧ t.pulses.windowOn = true ∧ t.pulses.next = none ∧ (t.po n).emitted = 0
      ∧ ((t.po n).en = true → (t.po n).d = (s.acc (t.po n).acc - s.pulses.seen.getD (t.po n).acc 0) * (t.po n).const)
      ∧ ((t.po n).en = false → (t.po n).d = 0) ∧ pulseFrame s t)

/-- R253, R260, R264, R265, R280: the next pulse that the window holds is emitted: COUNT counts, the output is active (INV inverts the switch of PO1 to
PO3) and its interrupt bit is set, at its placement or later, twice the width after the previous edge at least, and before the next window starts. -/
def pulseActiveEdge (s : State) (n : Fin 4) (at_ : Nat) : Prop :=
  (s.nextPulse n = none → Completes (exec (.pulseActiveEdge n) s) fun t => t = s)
  ∧ (s.nextPulse n = some at_ → noAlarm s →
    Completes (exec (.pulseActiveEdge n) s) fun t =>
      t.getW (F.PLS_PO_COUNT.i n) = (s.getW (F.PLS_PO_COUNT.i n) + 1) % 2 ^ 64 ∧ t.getBit F.PLS_STAT_ACTIVE n = true
      ∧ t.pulseOut n = !(n != 0 && s.on (F.PLS_PO_CFG_INV.i n))
      ∧ t.getBit (F.IRQ_RAW.on Page.PLS) n = true ∧ (t.po n).emitted = (s.po n).emitted + 1 ∧ (t.po n).lastEdge = some at_
      ∧ s.pulses.start + (s.po n).place s.pulses.len ((s.po n).emitted + 1) ≤ at_
      ∧ (∀ e ∈ (s.po n).lastEdge, 2 * s.get (F.PLS_PO_WIDTH_W.i n) * 16384 ≤ 10 * (at_ - e)) ∧ (∀ w ∈ s.windowEnd, at_ < w)
      ∧ t.angle.now = at_ ∧ (∀ m, m ≠ n → t.po m = s.po m) ∧ pulseFrame s t)

/-- R264: at the end of its width an active pulse output is no longer active; an output that is not active stays so. -/
def pulseEnd (s : State) (n : Fin 4) : Prop :=
  (s.getBit F.PLS_STAT_ACTIVE n = false → Completes (exec (.pulseEnd n) s) fun t => t = s)
  ∧ (s.getBit F.PLS_STAT_ACTIVE n = true → noAlarm s →
    Completes (exec (.pulseEnd n) s) fun t =>
      t.getBit F.PLS_STAT_ACTIVE n = false ∧ (∀ m : Fin 4, m ≠ n → t.getBit F.PLS_STAT_ACTIVE m = s.getBit F.PLS_STAT_ACTIVE m)
      ∧ t.angle.now = max s.angle.now ((s.po n).lastEdge.getD 0 + (s.po n).width) ∧ t.pulses = s.pulses ∧ pulseFrame s t)

/-- R256: a permitted write of PO_CFG is stored; on PO0, EN with an accumulator that no enabled billing register selects stores nothing and logs
event 0x0355, and INV is reserved. The billing registers are those in force (R245). -/
def poCfgWrite (s : State) (n : Fin 4) (v : Word) : Prop :=
  let bad := decide (n = 0) && bit v.toNat 6 && !billedBy s.energy.br (bits v.toNat 0 6)
  s.rwsLocked = false → s.rwsStalls = false →
    Completes (exec (.poCfgWrite n v) s) fun t =>
      t.word (F.PLS_PO_CFG_EN.i n).addr = (if bad then s.word (F.PLS_PO_CFG_EN.i n).addr else if n = 0 then v &&& 0x7F else v &&& 0xFF)
      ∧ (bad = true → LogRoom 1 s → Logged Page.PLS 0x0355 n s t)
      ∧ WordsIn ([(F.PLS_PO_CFG_EN.i n).addr] ++ logWords Page.PLS) s t ∧ t = { s with regs := t.regs, commit := t.commit, log := t.log }

/-- R267: a write of PO_TEST stores a test constant from 1 to 10 000 000 and TEN; while SEALED it has no effect. -/
def poTestWrite (s : State) (n : Fin 4) (v : Word) : Prop :=
  Completes (exec (.poTestWrite n v) s) fun t =>
    (s.sealed = true → t = s)
    ∧ (s.sealed = false → t.on (F.PLS_PO_TEST_TEN.i n) = bit v.toNat 24 ∧
        t.get (F.PLS_PO_TEST_TCONST.i n) = if 1 ≤ bits v.toNat 0 24 ∧ bits v.toNat 0 24 ≤ 10000000 then bits v.toNat 0 24 else s.get (F.PLS_PO_TEST_TCONST.i n))
    ∧ WordsIn [(F.PLS_PO_TEST_TEN.i n).addr] s t ∧ t = { s with regs := t.regs }

/-- R274: a request for the pulse snapshot is kept until the next window start. -/
def pulseSnapshotRequest (s : State) : Prop :=
  Completes (exec .pulseSnapshotRequest s) fun t => t = { s with pulses := { s.pulses with snap := true } }

/-- R190: the taps of each half-band stage sum to exactly 1: a constant input gives that constant. -/
def stageDc (k : Fin 4) (x : Int) : Prop := hbOut (k.val + 1) (List.replicate (hbTaps (k.val + 1)) x) = x

/-- R192: the chain of the die at 200 `i` Hz, power against that at DC: within ±0.05 dB up to 3 kHz; at least 100 dB down from there to 64 kHz where the
frequency aliases into that band. -/
def chainResponse (i : Fin 321) : Prop :=
  let f := 200 * i.val
  let p := chainPower Config.halfBand.coef (chainGrid.getD i.val (0, 0)).1
  (f ≤ 3000 → 988553 * 2 ^ 96 ≤ p * 1000000 ∧ p * 1000000 ≤ 1011580 * 2 ^ 96)
  ∧ (3000 < f → f % 8000 ≤ 3000 ∨ 5000 ≤ f % 8000 → p * 10 ^ 10 ≤ 2 ^ 96)

/-- R208, R213: shift90 of the die at 45 + 25 `i` Hz has a gain within 1 ± 0.2 %, and with the opposite sign of its window the opposite result. -/
def shiftResponse (i : Fin 99) (x : List Int) (inc : Nat) : Prop :=
  let g := shiftGain Config.shift90.taps (shiftGrid.getD i.val (0, 0))
  998 * 2 ^ 256 ≤ g * 1000 ∧ g * 1000 ≤ 1002 * 2 ^ 256
  ∧ (x.length = 255 → shift90 (x.map fun v => some (-v)) inc = -shift90 (x.map some) inc)

/-- R213: fracdelay of the die at each eighth of a sample from 7 to 9 samples: at 200 `i` Hz a gain within ±0.01 dB of unity. -/
def delayResponse (k : Fin 17) (i : Fin 16) : Prop :=
  let p := delayPower (Config.fracDelay.taps (458752 + 8192 * k.val)) (delayGrid.getD i.val (0, 0))
  997700 * 2 ^ 64 ≤ p * 1000000 ∧ p * 1000000 ≤ 1002306 * 2 ^ 64

end Sys2Proof.Claims

/-- R186, R190, R192, R193, R202: the sample chain.
Choices of the model it rests on: log entry 48. -/
def Obligations.SampleChain : Prop :=
  (∀ s b c, Claims.outputSample s b c) ∧ (∀ s, Claims.chainEnable s) ∧ (∀ s m, Claims.channelEnableChange s m)
    ∧ (∀ k x, Claims.stageDc k x) ∧ (∀ i, Claims.chainResponse i)

/-- R206, R208, R213, R216, R224, R227, R228, R230, R239, R242: the energy engine and its configuration.
Choices of the model it rests on: log entries 49, 50, 51, 52. -/
def Obligations.EnergyEngine : Prop :=
  (∀ s n, Claims.engineCycleClose s n) ∧ (∀ s n v, Claims.meCfgWrite s n v) ∧ (∀ s n v, Claims.accCfgWrite s n v) ∧ (∀ s n v, Claims.brWrite s n v)
    ∧ (∀ s, Claims.calApply s) ∧ (∀ s v, Claims.accumulatorClear s v) ∧ (∀ s n, Claims.heldRunLimit s n) ∧ (∀ s n, Claims.legalValue s n)
    ∧ (∀ i x c, Claims.shiftResponse i x c) ∧ (∀ k i, Claims.delayResponse k i)

/-- R253, R256, R258, R260, R264, R265, R267, R270, R274, R277, R279, R280: the pulse outputs.
Choices of the model it rests on: log entries 5, 53. -/
def Obligations.PulseOutputs : Prop :=
  (∀ s b c l n, Claims.pulseWindowStart s b c l n) ∧ (∀ s n a, Claims.pulseActiveEdge s n a) ∧ (∀ s n, Claims.pulseEnd s n) ∧ (∀ s n v, Claims.poCfgWrite s n v)
    ∧ (∀ s n v, Claims.poTestWrite s n v) ∧ (∀ s, Claims.pulseSnapshotRequest s)

/-! ### The safety island (chapter 10) -/

namespace Sys2Proof.Claims

/-- What a command of the safety island or of the switch channels may change beside the queue: registers of the pages SAF, SW0, SW1 and LDG, what
the island and the channels remember, and the event collector. -/
def safetyFrame (s t : State) : Prop :=
  RegsIn [Page.SAF, Page.SW 0, Page.SW 1, Page.LDG] s t ∧ t = { s with regs := t.regs, safety := t.safety, log := t.log, fresh := t.fresh }

/-- The same with the pages of the insulation measurement, which a lockout or an earth-fault reset ends. -/
def earthFrame (s t : State) : Prop :=
  RegsIn ([Page.SAF, Page.EFM, Page.SW 0, Page.SW 1, Page.LDG] ++ (List.range 8).map Page.HEAD) s t
  ∧ t = { s with regs := t.regs, safety := t.safety, heads := t.heads, log := t.log, fresh := t.fresh }

/-- R390, R449: no leg conducts in a channel that any condition holds back. -/
def heldAreOff (t : State) : Prop := ∀ n : Fin 24, t.holdReason n ≠ 0 → (t.sw n).legs = false

/-- R380, R384, R387, Table 10-7: channel A of a stop pair not yet in demand goes high: DEMAND, counted, event 0x0601; no channel in the mask of the
pair then conducts. -/
def pairDemand (s : State) (p : Fin 16) (chatter : Bool) (quiet ms : BitVec 16) : Prop :=
  s.pairType p = 1 → s.on (pairField p 0) = false → s.on (pairField p 2) = false → LogRoom 2 s →
    Completes (exec (.inputFilterChange (.pairA p) true chatter quiet ms) s) fun t =>
      t.on (pairField p 0) = true ∧ t.on (pairField p 2) = true ∧ Logged Page.SAF 0x0601 p s t
      ∧ t.get F.SAF_CNT_DEMANDS = min (2 ^ F.SAF_CNT_DEMANDS.width - 1) (s.get F.SAF_CNT_DEMANDS + 1)
      ∧ (∀ n : Fin 8, s.chUsed n = true → bit (s.pairMask p) n = true → (t.sw (swOf n)).legs = false) ∧ heldAreOff t ∧ safetyFrame s t

/-- R380: an input whose filtered level does not change has no effect. -/
def inputUnchanged (s : State) (i : SafetyInput) (chatter : Bool) (quiet ms : BitVec 16) : Prop :=
  Completes (exec (.inputFilterChange i (s.inputLevel i) chatter quiet ms) s) fun t => t = s

/-- R381: the output of a test-pulse source falls to 0 V. -/
def testPulseStart (s : State) (src : Fin 2) : Prop :=
  Completes (exec (.testPulseStart src) s) fun t =>
    t.safety.island.pulse.get src = true ∧ t = { s with safety := { s.safety with island := { s.safety.island with pulse := t.safety.island.pulse } } }

/-- R383: the third bad period of a test-pulse source in succession makes TPnOK 0, and the third good one makes it 1 again. -/
def testPulseCheck (s : State) (src : Fin 2) (levels : BitVec 40) (low high : Bool) : Prop :=
  Completes (exec (.testPulseCheck src levels low high) s) fun t =>
    let f := if src = 0 then F.SAF_STAT_TP0OK else F.SAF_STAT_TP1OK
    t.safety.island.pulse.get src = false
    ∧ ((low && high) = false → 2 ≤ s.safety.island.srcBad.get src → s.safety.island.srcFault.get src = false →
        t.safety.island.srcFault.get src = true ∧ t.on f = false)
    ∧ ((low && high) = true → s.safety.island.srcGood.get src = 2 → s.safety.island.srcFault.get src = true →
        t.safety.island.srcFault.get src = false ∧ t.on f = true)
    ∧ heldAreOff t ∧ safetyFrame s t

/-- R373, R397: the lanes are compared: LANEOK; the third disagreement in succession locks the island out, and nothing conducts in a safety
channel. -/
def laneComparison (s : State) (agree : Bool) : Prop :=
  Completes (exec (.laneComparison agree) s) fun t =>
    t.on F.SAF_STAT_LANEOK = agree ∧ t.safety.island.laneBad = (if agree then 0 else min 3 (s.safety.island.laneBad + 1))
    ∧ (agree = false → s.safety.island.laneBad = 2 → t.get F.SAF_STAT_STATE = 3 ∧ (s.get F.SAF_STAT_STATE ≠ 3 → ∀ n : Fin 8, (t.sw (swOf n)).legs = false))
    ∧ (agree = true → t.get F.SAF_STAT_STATE = s.get F.SAF_STAT_STATE) ∧ earthFrame s t

/-- R374: the oscillator deviation is shown; beyond 3 % OSCOK reads 0 and the island is locked out. -/
def oscillatorDeviation (s : State) (dev : BitVec 16) : Prop :=
  Completes (exec (.oscillatorDeviation dev) s) fun t =>
    t.get F.SAF_OSCDEV_DEV = dev.toNat ∧ t.on F.SAF_STAT_OSCOK = decide (dev.toInt.natAbs ≤ 300)
    ∧ t.safety.island.oscBad = decide (300 < dev.toInt.natAbs)
    ∧ (300 < dev.toInt.natAbs → s.safety.island.oscBad = false → t.get F.SAF_STAT_STATE = 3)
    ∧ (dev.toInt.natAbs ≤ 300 ∨ s.safety.island.oscBad = true → t.get F.SAF_STAT_STATE = s.get F.SAF_STAT_STATE) ∧ earthFrame s t

/-- R374, R397, Table 10-5: the island watchdog locks the island out: event 0x0635, and no safety channel conducts. -/
def islandWatchdog (s : State) : Prop :=
  s.get F.SAF_STAT_STATE ≠ 3 → LogRoom 9 s →
    Completes (exec .islandWatchdog s) fun t =>
      t.get F.SAF_STAT_STATE = 3 ∧ Logged Page.SAF 0x0635 0 s t ∧ (∀ n : Fin 8, (t.sw (swOf n)).legs = false) ∧ heldAreOff t ∧ earthFrame s t

/-- R378: a check of the loaded parameters that finds them wrong for the first time locks the island out; with no block loaded there is nothing to
check. -/
def parameterCrcCheck (s : State) (w : Fin 128) (flip : Word) : Prop :=
  let a := if w.val < 64 then F.SAF_PAR.addr + 4 * w.val else F.EFM_PAR.addr + 4 * (w.val - 64)
  Completes (exec (.parameterCrcCheck w flip) s) fun t =>
    (s.get F.SAF_STAT_STATE = 0 → t = s)
    ∧ (s.get F.SAF_STAT_STATE ≠ 0 → t.word a = s.word a ^^^ flip
        ∧ t.safety.island.crcBad = !(s.setWord a (s.word a ^^^ flip)).loadedCrcOk
        ∧ (t.safety.island.crcBad = true → s.safety.island.crcBad = false → t.get F.SAF_STAT_STATE = 3))
    ∧ earthFrame s t

/-- R385: the channels of a used pair have disagreed for too long: the class 1 latch 1 with event 0x0603. -/
def discrepancyFault (s : State) (p : Fin 16) : Prop :=
  s.on (pairField p 0) = s.on (pairField p 1) → s.pairType p ≠ 0 →
    Completes (exec (.discrepancyFault p) s) fun t =>
      (t.sp p).causes = (if (s.sp p).causes.contains 1 then (s.sp p).causes else (s.sp p).causes ++ [1])
      ∧ ((s.sp p).causes.contains 1 = false → t.on (pairField p 4) = true ∧ (LogRoom 2 s → Logged Page.SAF 0x0603 p s t))
      ∧ heldAreOff t ∧ safetyFrame s t

/-- R388: the fault latches of a reset pair clear when its channels are in the released state. -/
def resetPairFaultClear (s : State) (p : Fin 16) : Prop :=
  s.pairType p = 2 → s.on (pairField p 0) = false → s.on (pairField p 1) = true →
    Completes (exec (.resetPairFaultClear p) s) fun t =>
      (t.sp p).causes = [] ∧ t.on (pairField p 4) = false ∧ t.get (pairFltField p) = 0 ∧ RegsIn [Page.SAF] s t
      ∧ t = { s with regs := t.regs, safety := t.safety }

/-- R404: the demand that the island assumes at S2 ends once a stop pair without a latch has been released for one period. -/
def restartQualify (s : State) (p : Fin 16) : Prop :=
  (s.sp p).assumed = true → s.on (pairField p 0) = false → s.on (pairField p 1) = true → (s.sp p).causes = [] → s.pairType p = 1 →
    Completes (exec (.restartQualify p) s) fun t =>
      (t.sp p).assumed = false ∧ t.on (pairField p 2) = false ∧ heldAreOff t ∧ safetyFrame s t

/-- R389, R435: a safety reset request with a value other than 0x5AF1, or with neither APPRST1 nor EFAPPRST set, has no effect; otherwise it acts
on the class 1 latches and the earth-fault latches only. -/
def safetyResetRequest (s : State) (v : Word) (quiet : BitVec 16) : Prop :=
  let ok := v.toNat = 0x5AF1 ∧ (bit (s.par 3) 0 = true ∨ bit (s.efPar 2) 8 = true)
  Completes (exec (.safetyResetRequest v quiet) s) fun t =>
    (¬ ok → t = s) ∧ (ok → ∀ n : Fin 8, (t.sc n).causes = (s.sc n).causes)
    ∧ (ok → ∀ p : Fin 16, s.pairType p = 1 → bit (s.par 3) 0 = true →
        (t.sp p).causes = (s.sp p).causes.filter fun c => !s.pairCauseGone p (bit quiet.toNat p) c)
    ∧ earthFrame s t

/-- R393: the close deadline of a channel ends. In a used channel with FBEN whose legs conduct and whose feedback has not fallen, the class 2 latch 1
with event 0x0610, and the channel stops; every other channel keeps its latches. Where the feedback has fallen, or is not checked, it has no effect. -/
def closeDeadline (s : State) (n : Fin 8) : Prop :=
  let missed := s.chUsed n && s.chFben n && s.on (chField n 3) && !(s.sc n).seen0
  Completes (exec (.closeDeadline n) s) fun t =>
    (missed = false → t = s)
    ∧ (missed = true → (t.sc n).causes = (if (s.sc n).causes.contains 1 then (s.sc n).causes else (s.sc n).causes ++ [1])
        ∧ (t.sw (swOf n)).legs = false ∧ t.on (chField n 7) = true ∧ heldAreOff t
        ∧ ((s.sc n).causes.contains 1 = false → LogRoom 9 s → Logged Page.SAF 0x0610 n s t))
    ∧ (∀ m : Fin 8, m ≠ n → (t.sc m).causes = (s.sc m).causes) ∧ safetyFrame s t

/-- R393, R396: the open deadline of a channel ends. With FBEN and a feedback that has not become 1 since the opening, the class 2 latch 2 with event
0x0611; a post-open check that still lacked its reference counts from now. Where no opening is watched, it has no effect. -/
def openDeadline (s : State) (n : Fin 8) : Prop :=
  let c := s.sc n
  let missed := s.chFben n && !c.opened
  Completes (exec (.openDeadline n) s) fun t =>
    (c.opening = false → t = s)
    ∧ (c.opening = true →
        (t.sc n).causes = (if missed && !c.causes.contains 2 then c.causes ++ [2] else c.causes)
        ∧ ((s.sw (swOf n)).legs = false → (t.sc n).opening = false ∧ (t.sc n).seen1 = c.fb ∧ (t.sc n).postDue = false
            ∧ (t.sc n).post = if c.postDue then some (s.chWeldT n) else c.post)
        ∧ (missed = true → c.causes.contains 2 = false → LogRoom 9 s → Logged Page.SAF 0x0611 n s t) ∧ heldAreOff t)
    ∧ (∀ m : Fin 8, m ≠ n → (t.sc m).causes = (s.sc m).causes) ∧ safetyFrame s t

/-- R394, R395: a weld window with a block loaded: WELDVOLT of a port shows the r.m.s. value or the magnitude of the mean of the last 160 samples of its
voltage channel, 0xFFFF where a sample is not valid, and 0 for a port in no WPORTS. With no block loaded there is no window. -/
def weldWindow (s : State) (q : Fin 8) : Prop :=
  Completes (exec .weldWindow s) fun t =>
    (s.get F.SAF_STAT_STATE = 0 → t = s)
    ∧ (s.get F.SAF_STAT_STATE ≠ 0 →
        (s.weldChans q = [] → t.get (weldField q) = 0)
        ∧ (∀ n : Fin 8, (s.weldChans q).head? = some n →
            t.safety.island.weld.getD q none = s.weldWindow q (s.chDcWeld n)
            ∧ t.get (weldField q) = match s.weldWindow q (s.chDcWeld n) with
              | none => 0xFFFF
              | some mv => min 0xFFFE ((mv + 500) / 1000))
        ∧ heldAreOff t)
    ∧ safetyFrame s t

/-- R396: the window that decides the post-open check of a channel, or one after it. A valid window below WELDV at every port passes; a valid one at
or above WELDV latches the weld fault of an AC channel, or suspects a DC channel; an indeterminate one holds the permission. -/
def postOpenCheck (s : State) (n : Fin 8) : Prop :=
  s.get F.SAF_STAT_STATE ≠ 0 → s.chUsed n = true → s.chPorts n ≠ 0 → (s.sc n).post = some 0 → (s.sw (swOf n)).legs = false →
    Completes (exec .weldWindow s) fun t =>
      let bad := t.weldValid n && !t.weldClear n
      (t.weldValid n = false → (t.sc n).post = some 0 ∧ (t.sc n).postHold = true ∧ t.on (chField n 1) = false)
      ∧ (t.weldValid n = true → (t.sc n).post = none ∧ (t.sc n).postHold = false)
      ∧ (t.sc n).causes = (if bad && !s.chDcWeld n && !(s.sc n).causes.contains 5 then (s.sc n).causes ++ [5] else (s.sc n).causes)
      ∧ (t.weldClear n = true → t.on (chField n 5) = false)
      ∧ (bad = true → s.chDcWeld n = true → t.on (chField n 5) = true ∧ t.on (chField n 1) = false)
      ∧ (bad = true → s.chDcWeld n = false → t.on (chField n 7) = true ∧ t.on (chField n 1) = false)
      ∧ (t.weldValid n = false → t.on (chField n 5) = s.on (chField n 5)) ∧ safetyFrame s t

end Sys2Proof.Claims

/-- R373 to R378, R397: supervision of the island, and its lockout.
Choices of the model it rests on: log entries 60, 62. -/
def Obligations.IslandSupervision : Prop :=
  (∀ s b, Claims.laneComparison s b) ∧ (∀ s d, Claims.oscillatorDeviation s d) ∧ (∀ s, Claims.islandWatchdog s)
    ∧ (∀ s w f, Claims.parameterCrcCheck s w f) ∧ (∀ s c, Claims.testPulseStart s c) ∧ (∀ s c l a b, Claims.testPulseCheck s c l a b)

/-- R380, R384 to R389, R404, R435: pairs, their demands, latches and resets.
Choices of the model it rests on: log entries 60, 61. -/
def Obligations.IslandPairs : Prop :=
  (∀ s p c q m, Claims.pairDemand s p c q m) ∧ (∀ s i c q m, Claims.inputUnchanged s i c q m) ∧ (∀ s p, Claims.discrepancyFault s p)
    ∧ (∀ s p, Claims.resetPairFaultClear s p) ∧ (∀ s p, Claims.restartQualify s p) ∧ (∀ s v q, Claims.safetyResetRequest s v q)

/-- R393 to R396: the feedback deadlines and the weld check.
Choices of the model it rests on: log entry 63. -/
def Obligations.IslandFeedbackAndWeld : Prop :=
  (∀ s n, Claims.closeDeadline s n) ∧ (∀ s n, Claims.openDeadline s n) ∧ (∀ s q, Claims.weldWindow s q) ∧ (∀ s n, Claims.postOpenCheck s n)

/-! ### Protected switch channels (chapter 12) -/

namespace Sys2Proof.Claims

/-- What a request may change: also the pilot page, where the interlock refuses it. -/
def requestFrame (s t : State) : Prop :=
  RegsIn [Page.SAF, Page.SW 0, Page.SW 1, Page.LDG, Page.VEH] s t ∧ t = { s with regs := t.regs, safety := t.safety, log := t.log, fresh := t.fresh }

/-- R448, R449: REQSET sets the request bits of its mask outside the pilot interlock, REQCLR clears those of its mask, and REQ does both; no
channel that a condition then holds back conducts, and one that no condition holds back does. -/
def requests (s : State) (x : Fin 2) (mask : BitVec 12) (k : Fin 3) (n : Fin 24) : Prop :=
  let i : Instr := if k = 0 then .reqsetWrite x mask else if k = 1 then .reqclrWrite x mask else .reqWrite x mask
  let mine := bit mask.toNat (swI n)
  swX n = x.val → s.on F.VEH_CTL_AUTOOFF = false ∨ 8 ≤ n.val →
    Completes (exec i s) fun t =>
      t.reqOn n = (if k = 0 then s.reqOn n || mine else if k = 1 then s.reqOn n && !mine else mine)
      ∧ (t.holdReason n ≠ 0 → (t.sw n).legs = false) ∧ (t.holdReason n = 0 → (t.sw n).legs = true) ∧ requestFrame s t

/-- R450, R463: 50 µs after the low-side leg of a safety channel turned on: with its high-side terminal above 4.0 V, the class 2 latch 7 and the
channel stops; else both legs conduct, unless a condition has come in between. -/
def turnOnCheck (s : State) (n : Fin 8) (hsHigh : Bool) : Prop :=
  (s.sw (swOf n)).ls = true → (s.sw (swOf n)).hs = false → (s.sc n).causes.contains 7 = false →
    Completes (exec (.turnOnCheck n hsHigh) s) fun t =>
      (hsHigh = true → (t.sc n).causes.contains 7 = true ∧ (t.reqOn (swOf n) = true → (t.sw (swOf n)).legs = false))
      ∧ (hsHigh = false → t.holdReason (swOf n) = 0 → t.conducts (swOf n) = true) ∧ heldAreOff t ∧ safetyFrame s t

/-- R452 to R456: a trip of a conducting channel is counted and stops it at once; with RETRY below NRETRY a pause begins, else LATCH is set, its
request is withdrawn and it is counted. A hard short and a thermal trip say so in CH_ST. -/
def trips (s : State) (n : Fin 24) (k : Fin 3) (temp : BitVec 12) : Prop :=
  let x := swX n
  let j := swI n
  let i : Instr := if k = 0 then .regulationTrip n else if k = 1 then .hardShort n else .thermalTrip n temp
  s.conducts n = true → (k = 0 → s.chState n = 2) →
    Completes (exec i s) fun t =>
      t.get (F.SW_CH_CNT_TRIPS.ij x j) = min (2 ^ (F.SW_CH_CNT_TRIPS.ij x j).width - 1) (s.get (F.SW_CH_CNT_TRIPS.ij x j) + 1)
      ∧ (t.sw n).legs = false ∧ t.get (F.SW_CH_ST_HARD.ij x j) = b2n (k == 1) ∧ t.get (F.SW_CH_ST_THERM.ij x j) = b2n (k == 2)
      ∧ (s.get (F.SW_CH_ST_RETRY.ij x j) < s.get (F.SW_CH_CFG_NRETRY.ij x j) →
          (t.sw n).pausing = true ∧ (t.sw n).retryAt = s.retryTick n (s.get (F.SW_CH_ST_RETRY.ij x j))
          ∧ t.get (F.SW_CH_ST_PAUSELEFT.ij x j) = pauseMs n (s.get (F.SW_CH_ST_RETRY.ij x j)) % 2 ^ (F.SW_CH_ST_PAUSELEFT.ij x j).width)
      ∧ (s.get (F.SW_CH_CFG_NRETRY.ij x j) ≤ s.get (F.SW_CH_ST_RETRY.ij x j) → t.latched n = true ∧ t.reqOn n = false)
      ∧ heldAreOff t ∧ safetyFrame s t

/-- R453: the blanking window of a channel that conducts has passed: the channel is ON. Before that, or in another state, nothing changes. -/
def blankingEnd (s : State) (n : Fin 24) : Prop :=
  Completes (exec (.blankingEnd n) s) fun t =>
    t.chState n = (if s.chState n = 1 ∧ (s.sw n).blankEnd ≤ s.angle.now then 2 else s.chState n)
    ∧ WordsIn [(F.SW_CH_ST_STATE.ij (swX n) (swI n)).addr] s t ∧ t = { s with regs := t.regs }

/-- R455, R456, R458: the pause and its stagger have passed: RETRY counts, and the channel starts again unless a condition holds it back; a junction that has not cooled
makes it wait. -/
def retryInstant (s : State) (n : Fin 24) : Prop :=
  (s.sw n).pausing = true → (s.sw n).waitCool = false → (s.sw n).retryAt ≤ s.angle.now →
    Completes (exec (.retryInstant n) s) fun t =>
      t.get (F.SW_CH_ST_RETRY.ij (swX n) (swI n)) = min (2 ^ (F.SW_CH_ST_RETRY.ij (swX n) (swI n)).width - 1) (s.get (F.SW_CH_ST_RETRY.ij (swX n) (swI n)) + 1)
      ∧ t.get (F.SW_CH_ST_PAUSELEFT.ij (swX n) (swI n)) = 0
      ∧ (((s.sw n).hot && s.reqOn n) = true → (t.sw n).waitCool = true ∧ (t.sw n).pausing = true)
      ∧ (((s.sw n).hot && s.reqOn n) = false → (t.sw n).pausing = false ∧ heldAreOff t ∧ (t.holdReason n = 0 → (t.sw n).legs = true))
      ∧ safetyFrame s t

/-- R455: the junction of a channel has cooled below 160 °C: a start that waited for it takes place. -/
def junctionCooled (s : State) (n : Fin 24) : Prop :=
  (s.sw n).pausing = true → (s.sw n).waitCool = true →
    Completes (exec (.junctionCooled n) s) fun t =>
      (t.sw n).hot = false ∧ (t.sw n).pausing = false ∧ (t.sw n).waitCool = false ∧ heldAreOff t
      ∧ (t.holdReason n = 0 → (t.sw n).legs = true) ∧ safetyFrame s t

/-- R459: 10 s of clean running clear RETRY; before that nothing changes. -/
def cleanRunning (s : State) (n : Fin 24) : Prop :=
  Completes (exec (.cleanRunningComplete n) s) fun t =>
    t.get (F.SW_CH_ST_RETRY.ij (swX n) (swI n)) =
      (if 10000 ≤ s.get (F.SW_CH_CLEAN_MS.ij (swX n) (swI n)) then 0 else s.get (F.SW_CH_ST_RETRY.ij (swX n) (swI n)))
    ∧ WordsIn [(F.SW_CH_ST_RETRY.ij (swX n) (swI n)).addr] s t ∧ t = { s with regs := t.regs }

/-- R460: a write of LATCH clears the latches of its mask, with RETRY and the request of each, so that the channel is off. -/
def latchClear (s : State) (x : Fin 2) (mask : BitVec 12) (n : Fin 24) : Prop :=
  swX n = x.val → s.latched n = true →
    Completes (exec (.latchClear x mask) s) fun t =>
      t.latched n = !bit mask.toNat (swI n)
      ∧ (bit mask.toNat (swI n) = true → t.get (F.SW_CH_ST_RETRY.ij (swX n) (swI n)) = 0 ∧ t.reqOn n = false ∧ (t.sw n).legs = false)
      ∧ heldAreOff t ∧ safetyFrame s t

/-- R463, R464: a leg fault or a short of both legs of a safety channel: its class 2 latch, and the channel stops. -/
def legFaults (s : State) (n : Fin 8) (two : Bool) : Prop :=
  Completes (exec (if two then .twoLegShort n else .legFault n) s) fun t =>
    (t.sc n).causes.contains (if two then 8 else 7) = true ∧ (t.sw (swOf n)).legs = false ∧ heldAreOff t ∧ safetyFrame s t

/-- R462, R465: a load measurement of a safety channel with both legs off is shown, and whether its terminals have been quiet is kept. -/
def loadMeasurement (s : State) (n : Fin 8) (r : BitVec 16) (quiet : Bool) : Prop :=
  (s.sw (swOf n)).legs = false →
    Completes (exec (.loadMeasurement n r quiet) s) fun t =>
      t.get (F.SW_SC_LOAD_R.i n) = r.toNat ∧ t.sc n = { s.sc n with quiet := quiet } ∧ WordsIn [(F.SW_SC_LOAD_R.i n).addr] s t
      ∧ t = { s with regs := t.regs, safety := t.safety }

/-- R467, R469: a clamp event: CLAMP keeps the energy of the larger leg and the largest of all, and an event beyond the figure that applies to a leg is
counted and logged. -/
def clampEvent (s : State) (n : Fin 24) (hs ls : BitVec 24) (ms : BitVec 16) : Prop :=
  let l := if n.val < 8 then ls.toNat else 0
  let e := max hs.toNat l
  let big := s.clampBeyond n hs.toNat l ms.toNat
  LogRoom 1 s →
    Completes (exec (.clampEvent n hs ls ms) s) fun t =>
      t.get (F.SW_CH_CLAMP_LAST.ij (swX n) (swI n)) = min 65535 e
      ∧ t.get (F.SW_CH_CLAMP_MAX.ij (swX n) (swI n)) = max (s.get (F.SW_CH_CLAMP_MAX.ij (swX n) (swI n))) (min 65535 e)
      ∧ t.get (F.SW_CH_CNT_CLAMPS.ij (swX n) (swI n)) =
          min (2 ^ (F.SW_CH_CNT_CLAMPS.ij (swX n) (swI n)).width - 1) (s.get (F.SW_CH_CNT_CLAMPS.ij (swX n) (swI n)) + b2n big)
      ∧ (t.sw n).clampH = s.noteClamp (s.sw n).clampH hs.toNat ∧ (t.sw n).clampL = s.noteClamp (s.sw n).clampL l
      ∧ (big = true → Logged (Page.SW (swX n)) 0x0809 (chanArg n e) s t) ∧ (big = false → t.log = s.log)
      ∧ (∀ m : Fin 24, m ≠ n → t.sw m = s.sw m)
      ∧ RegsIn [Page.SW (swX n), Page.LDG] s t ∧ t = { s with regs := t.regs, log := t.log, safety := { s.safety with sw := t.safety.sw } }

/-- R470, R483: above 44 A shedding begins, and one channel, the highest of SW23 to SW08 that conducts, is shed; at 40 A or less shedding ends. -/
def shedding (s : State) (cur : BitVec 16) : Prop :=
  Completes (exec (.shedding cur) s) fun t =>
    (∀ x : Fin 2, t.get (F.SW_VSWMON_CURR.i x) = cur.toNat % 2 ^ (F.SW_VSWMON_CURR.i x).width)
    ∧ (4400 < cur.toNat → t.on (F.SW_STAT_SHEDACT.i 0) = true ∧
        ((s.shedNext.all fun n => t.shed n && !(t.sw n).legs) = true) ∧ (s.shedNext.isSome = true → heldAreOff t))
    ∧ (cur.toNat ≤ 4000 → t.on (F.SW_STAT_SHEDACT.i 0) = false ∧ t.on (F.SW_STAT_SHEDACT.i 1) = false ∧ (∀ n : Fin 24, t.sw n = s.sw n))
    ∧ safetyFrame s t

/-- R446, R476: VSW leaves its range: VSWOK reads 0, no channel conducts, and event 0x0806. -/
def vswOutOfRange (s : State) (mv : BitVec 16) : Prop :=
  s.safety.vswOk = true → mv.toNat < 8500 ∨ 33000 < mv.toNat → LogRoom 9 s →
    Completes (exec (.vswOutOfRange mv) s) fun t =>
      t.safety.vswOk = false ∧ (∀ x : Fin 2, t.on (F.SW_STAT_VSWOK.i x) = false) ∧ (∀ n : Fin 24, (t.sw n).legs = false)
      ∧ Logged (Page.SW 0) 0x0806 mv.toNat s t ∧ safetyFrame s t

/-- R446, R477: VSW is in range again: VSWOK reads 1, a channel that no condition holds back waits for its own instant, and a return is logged as
0x0807. -/
def vswInRange (s : State) (mv : BitVec 16) : Prop :=
  s.safety.vswOk = false → 9000 ≤ mv.toNat → mv.toNat ≤ 32000 → LogRoom 9 s →
    Completes (exec (.vswInRange mv) s) fun t =>
      t.safety.vswOk = true ∧ (∀ x : Fin 2, t.on (F.SW_STAT_VSWOK.i x) = true) ∧ heldAreOff t
      ∧ (∀ n : Fin 24, (s.sw n).legs = false → (t.sw n).hs = false) ∧ t.safety.vswBackAt = s.angle.now
      ∧ (s.safety.vswLeft = true → Logged (Page.SW 0) 0x0807 mv.toNat s t) ∧ safetyFrame s t

/-- R477: the instant of a channel, n × 1.25 ms after the return of VSW: it starts unless a condition holds it back. -/
def vswRestart (s : State) (n : Fin 24) : Prop :=
  (s.sw n).vswWait = true → s.safety.vswBackAt + staggerTicks n ≤ s.angle.now →
    Completes (exec (.vswRestart n) s) fun t =>
      (t.sw n).vswWait = false ∧ heldAreOff t ∧ (t.holdReason n = 0 → (t.sw n).legs = true) ∧ safetyFrame s t

/-- R478: the hottest junction of a switch page: TEMP, and HOT above 125 °C, with event 0x080A as it rises. -/
def switchArrayHot (s : State) (x : Fin 2) (temp : BitVec 12) : Prop :=
  LogRoom 1 s →
    Completes (exec (.switchArrayHot x temp) s) fun t =>
      t.get (F.SW_TEMP_T.i x) = temp.toNat ∧ t.on (F.SW_STAT_HOT.i x) = decide (2000 < temp.toInt)
      ∧ (2000 < temp.toInt → s.on (F.SW_STAT_HOT.i x) = false → Logged (Page.SW x) 0x080A x s t) ∧ RegsIn [Page.SW x, Page.LDG] s t
      ∧ t = { s with regs := t.regs, log := t.log }

/-- R451: a sample of the leg currents: CHn_SENSE reads them up to 0xFFF, and 0x3FFF while the channel is in PAUSE, LATCHED or LEGFLT. -/
def currentSense (s : State) (n : Fin 24) (hs ls : BitVec 16) : Prop :=
  Completes (exec (.currentSenseSample n hs ls) s) fun t =>
    t.get (F.SW_CH_SENSE_SENSE.ij (swX n) (swI n)) = (if faultedState (s.chState n) then 0x3FFF else min hs.toNat 0xFFF)
    ∧ (n.val < 8 → t.get (F.SW_CH_SENSE_LSENSE.ij (swX n) (swI n)) = if faultedState (s.chState n) then 0x3FFF else min ls.toNat 0xFFF)
    ∧ WordsIn [(F.SW_CH_SENSE_SENSE.ij (swX n) (swI n)).addr] s t ∧ t = { s with regs := t.regs }

end Sys2Proof.Claims

/-- R448 to R450, R463, R464: requests, starts and leg faults of switch channels.
Choices of the model it rests on: log entries 3, 67. -/
def Obligations.SwitchRequests : Prop :=
  (∀ s x m k n, Claims.requests s x m k n) ∧ (∀ s n h, Claims.turnOnCheck s n h) ∧ (∀ s n b, Claims.legFaults s n b)

/-- R452 to R460: trips, pauses, retries and latches of switch channels.
Choices of the model it rests on: log entries 68, 70. -/
def Obligations.SwitchTrips : Prop :=
  (∀ s n k m, Claims.trips s n k m) ∧ (∀ s n, Claims.blankingEnd s n) ∧ (∀ s n, Claims.retryInstant s n) ∧ (∀ s n, Claims.junctionCooled s n)
    ∧ (∀ s n, Claims.cleanRunning s n) ∧ (∀ s x m n, Claims.latchClear s x m n)

/-- R451, R462, R465, R467, R469, R470, R476 to R478, R483: measurements, shedding and the VSW supply.
Choices of the model it rests on: log entries 67, 69, 103. -/
def Obligations.SwitchSupply : Prop :=
  (∀ s n r q, Claims.loadMeasurement s n r q) ∧ (∀ s n h l m, Claims.clampEvent s n h l m) ∧ (∀ s c, Claims.shedding s c)
    ∧ (∀ s v, Claims.vswOutOfRange s v) ∧ (∀ s v, Claims.vswInRange s v) ∧ (∀ s n, Claims.vswRestart s n) ∧ (∀ s x v, Claims.switchArrayHot s x v)
    ∧ (∀ s n a b, Claims.currentSense s n a b)

/-! ### Earth fault and insulation (chapter 11) -/

namespace Sys2Proof.Claims

/-- R423, R424, R426 to R428, R440: an evaluation of the residual current. Estimates over wholly valid windows; a level that has held for its number of
qualifying evaluations latches the trip with its tier and estimate, unless one is latched; RFMON.LOST gives the first cause of a loss; and no leg
conducts in a used channel of RCMASK while a trip is latched or monitoring is lost. -/
def residualEvaluation (s : State) : Prop :=
  let r := s.residual
  let cause := (s.setEarth { s.safety.earth with excBad := s.nextExc r }).lossCause r
  Completes (exec .residualEvaluation s) fun t =>
    ((s.earthRuns && s.rcOn) = false → t = s)
    ∧ ((s.earthRuns && s.rcOn) = true →
        (r.ok800 = true → t.get F.EFM_RESDC_IDC = ofSigned 16 (max (-0x7FFF) (min 0x7FFF r.idc)) ∧ t.get F.EFM_RESAC_IAC = sat 16 r.iac)
        ∧ (r.ok160 = true → t.get F.EFM_RESDC_IDCF = ofSigned 16 (max (-0x7FFF) (min 0x7FFF r.idcf)))
        ∧ t.get F.EFM_RFMON_LOST = cause ∧ t.on F.EFM_STAT_RCOK = (cause == 0)
        ∧ t.on F.EFM_RCLATCH_LATCHED = (s.on F.EFM_RCLATCH_LATCHED || (s.tripOf r).isSome)
        ∧ (s.on F.EFM_RCLATCH_LATCHED = true ∨ s.tripOf r = none → t.get F.EFM_RCLATCH_TIER = s.get F.EFM_RCLATCH_TIER)
        ∧ (∀ tier est, s.on F.EFM_RCLATCH_LATCHED = false → s.tripOf r = some (tier, est) →
            t.get F.EFM_RCLATCH_TIER = tier ∧ t.get F.EFM_RCLATCH_EST = sat 16 est ∧ t.on F.EFM_STAT_RCTRIP = true)
        ∧ (cause = 0 → (s.on F.EFM_RCLATCH_LATCHED = true ∨ s.tripOf r = none) → t.safety.earth.tiers = s.nextTiers r)
        ∧ (∀ n : Fin 8, s.chUsed n = true → bit s.rcMask n = true → (t.on F.EFM_RCLATCH_LATCHED = true ∨ cause ≠ 0) →
            (t.sw (swOf n)).legs = false)
        ∧ heldAreOff t)
    ∧ earthFrame s t

/-- R430: an evaluation of U. Over a wholly valid window INSU shows the mean; while no cycle runs, the twenty-first evaluation in succession at 50 V or
more begins a test cycle, and any other begins the count anew; during a cycle, the twentieth in succession below 50 V ends it: the bleeder is opened,
INSSTATE is UNKNOWN unless a fault is latched, FRESH reads 0. -/
def insulationEvaluation (s : State) : Prop :=
  let l := s.samplesOf (3 * s.insPort) 160
  let valid := decide (l.length = 160) && l.all (fun x => x.2.1)
  let high := decide (sumOf l * s.get (F.HEAD_RATING_VFS.i s.insPort) ≥ 50 * 160 * 2 ^ 30)
  let idle := decide (s.get F.EFM_INSCYC_STEP = 0)
  Completes (exec .insulationEvaluation s) fun t =>
    ((s.earthRuns && s.insOn) = false → t = s)
    ∧ ((s.earthRuns && s.insOn) = true →
        (valid = true → t.get F.EFM_INSU_U = ofSigned 16 (roundDiv (sumOf l * s.get (F.HEAD_RATING_VFS.i s.insPort)) (160 * 2 ^ 30)))
        ∧ (idle = true → t.safety.earth.above = (if valid && high then min 21 (s.safety.earth.above + 1) else 0))
        ∧ (idle = true → (valid && high) = true → 20 ≤ s.safety.earth.above →
            t.get F.EFM_INSCYC_STEP = 1 ∧ t.on F.EFM_STAT_MEASURING = true ∧ t.on F.EFM_STAT_TESTING = true)
        ∧ (idle = true → ((valid && high) = false ∨ s.safety.earth.above < 20) → t.get F.EFM_INSCYC_STEP = 0)
        ∧ (idle = false → valid = true → high = false → 19 ≤ s.safety.earth.below →
            t.get F.EFM_INSCYC_STEP = 0 ∧ t.on F.EFM_STAT_MEASURING = false ∧ t.on F.EFM_STAT_FRESH = false ∧ t.get (F.HEAD_AUXST_ARG.i s.insPort) = 0
            ∧ t.get F.EFM_STAT_INSSTATE = if s.safety.earth.insFault then 3 else 0)
        ∧ (idle = false → (valid = false ∨ high = true ∨ s.safety.earth.below < 19) → t.get F.EFM_INSCYC_STEP = s.get F.EFM_INSCYC_STEP)
        ∧ heldAreOff t)
    ∧ earthFrame s t

/-- R430, R441: the end of a step in which a sample of its last quarter was not valid, or the port left RUN, discards its cycle: counted, event 0x0715,
and step 1 begins again. With no cycle running the command has no effect. -/
def insulationStepEnd (s : State) : Prop :=
  Completes (exec .insulationStepEnd s) fun t =>
    ((s.earthRuns && s.insOn) = false → t = s)
    ∧ ((s.earthRuns && s.insOn) = true → s.get F.EFM_INSCYC_STEP ≠ 0 → s.safety.earth.bad = true →
        t.get F.EFM_INSCYC_STEP = 1 ∧ t.get F.EFM_INSCYC_DISC = min (2 ^ F.EFM_INSCYC_DISC.width - 1) (s.get F.EFM_INSCYC_DISC + 1)
        ∧ (LogRoom 9 s → Logged Page.EFM 0x0715 (s.get F.EFM_INSCYC_STEP + 2 ^ 64) s t)
        ∧ t.safety.earth.samples = 0 ∧ t.safety.earth.bad = false ∧ t.on F.EFM_STAT_MEASURING = true
        ∧ t.on F.EFM_STAT_TESTING = s.on F.EFM_STAT_TESTING ∧ heldAreOff t)
    ∧ earthFrame s t

/-- R430: step 1 ends with every sample of its last quarter valid: INSI.I1 shows its mean bleeder current in 0.1 µA, and step 2 of the same cycle
begins. -/
def insulationStepGood (s : State) : Prop :=
  let n := s.safety.earth.samples - 6 * bits (s.efPar 5) 0 14
  (s.earthRuns && s.insOn) = true → s.get F.EFM_INSCYC_STEP = 1 → s.safety.earth.bad = false → n ≠ 0 →
    Completes (exec .insulationStepEnd s) fun t =>
      t.get F.EFM_INSI_I1 = min 65535 (roundDiv (s.safety.earth.sumI.natAbs * s.get (F.HEAD_XRATING_XFS.i s.insPort) * 10) (n * 2 ^ 30)).toNat
      ∧ t.get F.EFM_INSCYC_STEP = 2 ∧ t.safety.earth.i1 = s.safety.earth.sumI ∧ t.safety.earth.u1 = s.safety.earth.sumU ∧ t.safety.earth.samples = 0
      ∧ t.on F.EFM_STAT_TESTING = s.on F.EFM_STAT_TESTING ∧ heldAreOff t ∧ earthFrame s t

/-- R430 to R432: step 2 of a normal cycle ends with valid samples and voltages that agree within 5 %, no test cycle awaiting it: INSRP, INSRN and INSR
show the resistances of R431, FRESH reads 1, and the next cycle begins. An insulation resistance below 100 Ω/V latches the insulation fault, and no leg
conducts in a used channel of IMASK. -/
def insulationCycle (s : State) : Prop :=
  let e := s.safety.earth
  let n := e.samples - 6 * bits (s.efPar 5) 0 14
  let a := s.stepRatio e.i1 e.u1
  let b := s.stepRatio e.sumI e.sumU
  let c := max 0 (1 - a - b)
  (s.earthRuns && s.insOn) = true → s.get F.EFM_INSCYC_STEP = 2 → s.on F.EFM_STAT_TESTING = false → e.testDone = false → e.bad = false → n ≠ 0 →
  differ5 ((e.u1 : Rat) / (e.n1 : Rat)) ((e.sumU : Rat) / (n : Rat)) = false → e.u1 ≠ 0 → e.sumU ≠ 0 →
    Completes (exec .insulationStepEnd s) fun t =>
      t.get F.EFM_INSRP_R = kOhm (insQuot c b) ∧ t.get F.EFM_INSRN_R = kOhm (insQuot c a) ∧ t.get F.EFM_INSR_R = kOhm (insQuot c (a + b))
      ∧ t.on F.EFM_STAT_FRESH = true ∧ t.get F.EFM_INSCYC_STEP = 1 ∧ t.on F.EFM_STAT_TESTING = e.testDue
      ∧ t.get F.EFM_INSCYC_NORMAL = min (2 ^ F.EFM_INSCYC_NORMAL.width - 1) (s.get F.EFM_INSCYC_NORMAL + 1)
      ∧ (e.insFault = false → (∃ q : Rat, insQuot c (a + b) = some q ∧ 1000 * q < ((100 * bits (s.efPar 4) 4 12 : Nat) : Rat)) →
          t.safety.earth.insFault = true ∧ t.get F.EFM_STAT_INSSTATE = 3
          ∧ ∀ k : Fin 8, s.chUsed k = true → bit s.insMask k = true → (t.sw (swOf k)).legs = false)
      ∧ heldAreOff t ∧ earthFrame s t

/-- R430: a self-test is due: the next cycle will be a test cycle. Without insulation measurement the command has no effect. -/
def selfTestDue (s : State) : Prop :=
  Completes (exec .selfTestDue s) fun t =>
    t.safety.earth = { s.safety.earth with testDue := s.safety.earth.testDue || s.insOn } ∧ t = { s with safety := { s.safety with earth := t.safety.earth } }

/-- R429, R434: the head of the insulation measurement has not echoed the bleeder command: the insulation monitor fault INSMF is latched with event
0x0714, and no leg conducts in a used channel of IMASK. Where slot 10 has echoed it, or nothing is measured, the command has no effect. -/
def bleederEchoTimeout (s : State) : Prop :=
  let missed := s.insOn && !s.on (F.HEAD_AUXST_ECHO.i s.insPort)
  Completes (exec .bleederEchoTimeout s) fun t =>
    (missed = false → t = s)
    ∧ (missed = true → t.on F.EFM_STAT_INSMF = true
        ∧ (s.on F.EFM_STAT_INSMF = false → LogRoom 9 s → Logged Page.EFM 0x0714 (s.get (F.HEAD_AUXST_ARG.i s.insPort)) s t)
        ∧ (∀ k : Fin 8, s.chUsed k = true → bit s.insMask k = true → (t.sw (swOf k)).legs = false) ∧ heldAreOff t)
    ∧ earthFrame s t

/-! ### The control pilot, proximity and the vehicle role (chapter 9) -/

/-- What the pilot and proximity may change: registers of VEH, and through an automatic off the channels. -/
def vehicleFrame (s t : State) : Prop :=
  RegsIn [Page.VEH, Page.SAF, Page.SW 0, Page.SW 1, Page.LDG] s t
  ∧ t = { s with regs := t.regs, vehicle := t.vehicle, safety := t.safety, log := t.log, fresh := t.fresh }

/-- R332, R339, R341, R342: a pilot period begins in the mode of VEH.GEN while the module is in Run: in PWM mode with the duty written last and
the current that it signifies, unless a cable rating lowers it. -/
def pilotPeriodStart (s : State) : Prop :=
  s.forcedGen = none →
    Completes (exec .pilotPeriodStart s) fun t =>
      t.vehicle.gen = s.get F.VEH_GEN_MODE ∧ t.on F.VEH_STAT_PWMON = (s.get F.VEH_GEN_MODE == 2)
      ∧ (s.get F.VEH_GEN_MODE = 2 → s.cableLimit = none →
          t.get F.VEH_DUTYNOW_DUTY = dutyOf s.vehicle.want.1 s.vehicle.want.2 % 2 ^ F.VEH_DUTYNOW_DUTY.width ∧ t.on F.VEH_STAT_LIMITED = false)
      ∧ (s.get F.VEH_GEN_MODE ≠ 2 → t.get F.VEH_DUTYNOW_DUTY = 0)
      ∧ RegsIn [Page.VEH, Page.LDG] s t ∧ t = { s with regs := t.regs, vehicle := t.vehicle, log := t.log }

/-- R335: a sample of the pilot shows both levels and the window of its high level; in a period that a change of duty skips, and outside vehicle
role, it does nothing else. -/
def pilotSample (s : State) (high low : BitVec 16) (obs : BitVec 2) (obsHigh : BitVec 15) : Prop :=
  s.vehicle.skip = true → s.on F.VEH_STAT_VROLE = false →
    Completes (exec (.pilotSample high low obs obsHigh) s) fun t =>
      t.get F.VEH_LEVEL_HIGH = high.toNat ∧ t.get F.VEH_LEVEL_LOW = low.toNat
      ∧ t.get F.VEH_STAT_RAW = pilotWindow (s.get F.VEH_STAT_STATE) high.toInt
      ∧ WordsIn [F.VEH_LEVEL_HIGH.addr, F.VEH_STAT_RAW.addr] s t ∧ t = { s with regs := t.regs }

/-- R336: after DEB samples in one window other than that of the present state, that state is qualified, with the angle and both states in
STAMP. -/
def pilotQualified (s : State) (high low : BitVec 16) (obs : BitVec 2) (obsHigh : BitVec 15) : Prop :=
  let w := pilotWindow (s.get F.VEH_STAT_STATE) high.toInt
  s.vehicle.skip = false → s.on F.VEH_STAT_VROLE = false → w ≠ s.get F.VEH_STAT_STATE → s.vehicle.cand = w →
  s.get F.VEH_TIMING_DEB ≤ s.vehicle.candN + 1 → s.get F.VEH_TIMING_DEB ≤ 20 →
    Completes (exec (.pilotSample high low obs obsHigh) s) fun t =>
      t.get F.VEH_STAT_STATE = w ∧ t.get F.VEH_STAMP_NEW = w ∧ t.get F.VEH_STAMP_OLD = s.get F.VEH_STAT_STATE
      ∧ t.getW F.VEH_STAMP_CYCLES = s.cycles ∧ t.getBit (F.IRQ_RAW.on Page.VEH) 0 = true ∧ vehicleFrame s t

/-- R338: the condition of a pilot fault has held for INVT periods of 1 ms: STUCK or INVAL, its interrupt bit and its count. -/
def pilotFault (s : State) (stuck : Bool) : Prop :=
  let f := if stuck then F.VEH_STAT_STUCK else F.VEH_STAT_INVAL
  let c := if stuck then F.VEH_FLTCNT_STUCK else F.VEH_FLTCNT_INVAL
  s.get F.VEH_TIMING_INVT ≤ (if stuck then s.vehicle.stuckFor else s.vehicle.invalFor) → s.on f = false →
    Completes (exec (.pilotFault stuck) s) fun t =>
      t.on f = true ∧ t.getBit (F.IRQ_RAW.on Page.VEH) 1 = true ∧ t.get c = min (2 ^ c.width - 1) (s.get c + 1) ∧ vehicleFrame s t

/-- R340, R341: a permitted duty or current written to VEH.DUTY is taken at the next period, or with TRIG kept for an alarm; another VALUE leaves
VALUE and the duty unchanged, with CURSEL and TRIG written, and logs event 0x0507. -/
def dutyWrite (s : State) (v : Word) : Prop :=
  let ok := dutyOk (bits v.toNat 0 13) (bit v.toNat 13)
  Completes (exec (.dutyWrite v) s) fun t =>
    (ok = true → t.get F.VEH_DUTY_VALUE = bits v.toNat 0 13 ∧ t.log = s.log
      ∧ (bit v.toNat 14 = false → t.vehicle.want = (bits v.toNat 0 13, bit v.toNat 13) ∧ t.vehicle.staged = none)
      ∧ (bit v.toNat 14 = true → t.vehicle.want = s.vehicle.want ∧ t.vehicle.staged = some (bits v.toNat 0 13, bit v.toNat 13)))
    ∧ (ok = false → LogRoom 1 s → Logged Page.VEH 0x0507 (bits v.toNat 0 13 + 2 ^ 64 * b2n (bit v.toNat 13)) s t ∧ t.vehicle = s.vehicle
      ∧ t.get F.VEH_DUTY_VALUE = s.get F.VEH_DUTY_VALUE)
    ∧ t.get F.VEH_DUTY_CURSEL = b2n (bit v.toNat 13) ∧ t.get F.VEH_DUTY_TRIG = b2n (bit v.toNat 14)
    ∧ WordsIn (F.VEH_DUTY_VALUE.addr :: logWords Page.VEH) s t ∧ t = { s with regs := t.regs, vehicle := t.vehicle, log := t.log }

/-- R346: with a mode set, the tenth measurement in succession with one code qualifies it, with the cable rating; OHMS shows the resistance, 0xFFFF
above 5 000 Ω. -/
def ppMeasurement (s : State) (ohms : BitVec 24) : Prop :=
  let c := ppCode (s.get F.VEH_PPCFG_MODE) (s.get F.VEH_PPCFG_THR) ohms.toNat
  s.get F.VEH_PPCFG_MODE ≠ 0 → s.vehicle.ppCand = c → 9 ≤ s.vehicle.ppN →
    Completes (exec (.ppMeasurement ohms) s) fun t =>
      t.get F.VEH_PPSTAT_CODE = c ∧ t.get F.VEH_PPSTAT_OHMS = (if 5000 < ohms.toNat then 0xFFFF else ohms.toNat)
      ∧ (s.get F.VEH_PPSTAT_CODE ≠ c → t.get F.VEH_PPSTAT_RATING = ppRating (s.on F.VEH_PPCFG_SINGLE) c ∧ t.getBit (F.IRQ_RAW.on Page.VEH) 2 = true)
      ∧ vehicleFrame s t

/-- R359: a write of VR_NET stores the codes that its table lists, in vehicle role; outside it, nothing. -/
def vrNetWrite (s : State) (v : Word) : Prop :=
  Completes (exec (.vrNetWrite v) s) fun t =>
    (s.on F.VEH_STAT_VROLE = false → t = s)
    ∧ (s.on F.VEH_STAT_VROLE = true → t.get F.VEH_VR_NET_EMU = (if bits v.toNat 0 3 ≤ 5 then bits v.toNat 0 3 else s.get F.VEH_VR_NET_EMU)
        ∧ t.get F.VEH_VR_NET_PPR = if bits v.toNat 4 3 ≤ 6 then bits v.toNat 4 3 else s.get F.VEH_VR_NET_PPR)
    ∧ WordsIn [F.VEH_VR_NET_EMU.addr] s t ∧ t = { s with regs := t.regs }

/-- R361: VR_PROFCTL with RUN set in vehicle role starts the load profile at step 0, whose duration counts from now unless it waits for PWM. -/
def profileRun (s : State) (steps : BitVec 6) : Prop :=
  s.on F.VEH_STAT_VROLE = true →
    Completes (exec (.profileRun steps) s) fun t =>
      t.on F.VEH_VR_PROFCTL_RUN = true ∧ t.get F.VEH_VR_STAT_STEP = 0 ∧ t.on F.VEH_VR_STAT_DONE = false
      ∧ t.get F.VEH_VR_PROFCTL_STEPS = (if 1 ≤ steps.toNat ∧ steps.toNat ≤ 32 then steps.toNat else s.get F.VEH_VR_PROFCTL_STEPS)
      ∧ t.vehicle = { s.vehicle with stepFrom := if s.on (F.VEH_VR_STEP_WAITPWM.i 0) then none else some s.angle.now }
      ∧ RegsIn [Page.VEH] s t ∧ t = { s with regs := t.regs, vehicle := t.vehicle }

/-- R361: the end of a step of the load profile, whose duration has passed: the next step begins, or after the last one DONE and event 0x0512.
Before that the step goes on. -/
def profileStepEnd (s : State) : Prop :=
  let k := s.get F.VEH_VR_STAT_STEP
  let n := s.get F.VEH_VR_PROFCTL_STEPS
  (s.stepOver = false → Completes (exec .profileStepEnd s) fun t => t = s)
  ∧ (s.on F.VEH_STAT_VROLE = true → s.on F.VEH_VR_PROFCTL_RUN = true → s.on F.VEH_VR_STAT_DONE = false → s.stepOver = true → LogRoom 1 s →
    Completes (exec .profileStepEnd s) fun t =>
      (k + 1 < n → k < 31 → t.get F.VEH_VR_STAT_STEP = k + 1 ∧ t.on F.VEH_VR_STAT_DONE = false)
      ∧ (n ≤ k + 1 → t.on F.VEH_VR_STAT_DONE = true ∧ Logged Page.VEH 0x0512 n s t) ∧ t.getBit (F.IRQ_RAW.on Page.VEH) 6 = true
      ∧ RegsIn [Page.VEH, Page.LDG] s t ∧ t = { s with regs := t.regs, vehicle := t.vehicle, log := t.log })

/-- R361: VR_PROFCTL with RUN cleared stops the load profile. -/
def profileStop (s : State) : Prop :=
  Completes (exec .profileStop s) fun t =>
    t.on F.VEH_VR_PROFCTL_RUN = false ∧ WordsIn [F.VEH_VR_PROFCTL_RUN.addr] s t ∧ t = { s with regs := t.regs }

/-! ### The pilot-line modem (chapter 9, section 6) -/

/-- What a command of the modem may change. -/
def modemFrame (s t : State) : Prop := RegsIn [Page.GPM, Page.LDG] s t ∧ t = { s with regs := t.regs, modem := t.modem, log := t.log, fresh := t.fresh }

/-- R350: CTL.EN of the modem from 0 to 1 leads to STARTING; EN cleared leads to OFF, with LINK 0. -/
def modemEnable (s : State) (en : Bool) : Prop :=
  Completes (exec (if en then .modemEnable else .modemDisable) s) fun t =>
    t.on F.GPM_CTL_EN = en ∧ (en = true → t.get F.GPM_STAT_MSTATE = if s.on F.GPM_CTL_EN then s.get F.GPM_STAT_MSTATE else 1)
    ∧ (en = false → t.get F.GPM_STAT_MSTATE = 0 ∧ t.on F.GPM_STAT_LINK = false ∧ t.modem = {}) ∧ modemFrame s t

/-- R350: the firmware of the modem has started: READY, the version of its manifest entry, and event 0x0520. -/
def modemReady (s : State) (fw : Word) : Prop :=
  s.get F.GPM_STAT_MSTATE = 1 → LogRoom 1 s →
    Completes (exec (.modemReady fw) s) fun t =>
      t.get F.GPM_STAT_MSTATE = 2 ∧ t.word F.GPM_FWVER.addr = s.modemVersion fw
      ∧ Logged Page.GPM 0x0520 (s.modemVersion fw).toNat s t ∧ modemFrame s t

/-- R350: the modem has not answered for 1 s: it restarts, with event 0x0521; after the third restart within 60 s it is held in FAULT with event
0x0522. -/
def modemWatchdog (s : State) (silent : BitVec 16) : Prop :=
  let n := s.modemRestarts.length
  1 ≤ s.get F.GPM_STAT_MSTATE → s.get F.GPM_STAT_MSTATE ≤ 5 → 1000 ≤ silent.toNat → LogRoom 1 s →
    Completes (exec (.modemWatchdog silent) s) fun t =>
      t.get F.GPM_STAT_MSTATE = (if 3 ≤ n then 6 else 1) ∧ t.on F.GPM_STAT_LINK = false ∧ t.modem = {}
      ∧ Logged Page.GPM (if 3 ≤ n then 0x0522 else 0x0521) (if 3 ≤ n then 0 else n + 1) s t
      ∧ t.vehicle = { s.vehicle with restarts := if 3 ≤ n then s.vehicle.restarts else s.angle.now :: s.modemRestarts }
      ∧ RegsIn [Page.GPM, Page.LDG] s t ∧ t = { s with regs := t.regs, vehicle := t.vehicle, modem := {}, log := t.log }

/-- R351, R352: SLACEN set while the modem is ready starts a SLAC run, counted. -/
def slacEnable (s : State) : Prop :=
  s.get F.GPM_STAT_MSTATE = 2 →
    Completes (exec .slacEnable s) fun t =>
      t.on F.GPM_CTL_SLACEN = true ∧ t.get F.GPM_STAT_MSTATE = 3 ∧ t.modem = { since := s.angle.now }
      ∧ t.get F.GPM_RESULT_RUNS = min (2 ^ F.GPM_RESULT_RUNS.width - 1) (s.get F.GPM_RESULT_RUNS + 1) ∧ modemFrame s t

/-- R351: in a run in EVSE role the first SLAC request within INIT seconds is answered: its vehicle and run are kept, with its sounds and their attenuation. -/
def slacParmReq (s : State) (mac : BitVec 48) (r : BitVec 64) (sounds att : BitVec 8) : Prop :=
  s.slacRun 0 = true → s.modem.parm = false → s.parmInTime = true →
    Completes (exec (.slacParmReq mac r sounds att) s) fun t =>
      t.modem = { s.modem with parm := true, peer := mac.toNat, run := r.toNat } ∧ t.get F.GPM_RESULT_SOUNDS = sounds.toNat
      ∧ t.get F.GPM_RESULT_ATT = att.toNat ∧ modemFrame s t

/-- R351: the match request of the vehicle of the run is answered with a network identifier of 56 bits and a key of 128 bits, whose values are
free. -/
def slacMatchReq (s : State) (mac : BitVec 48) (r : BitVec 64) : Prop :=
  s.slacRun 0 = true → s.modem.parm = true → s.modem.peer = mac.toNat → s.modem.run = r.toNat →
    Completes (exec (.slacMatchReq mac r) s) fun t =>
      t.modem.matched = true ∧ t.modem.nid < 2 ^ 56 ∧ t.modem.key < 2 ^ 128 ∧ WordsIn [] s t ∧ t = { s with modem := t.modem, fresh := t.fresh }

/-- R351, R352: the run ends: matched, with LINK, the peer and the network in their registers and event 0x0523; or failed with its cause and event
0x0524. -/
def slacResult (s : State) (ok : Bool) (cause : BitVec 4) (rate : BitVec 8) : Prop :=
  s.get F.GPM_STAT_MSTATE = 3 → s.modem.matched = true → LogRoom 1 s →
    Completes (exec (.slacResult ok cause rate) s) fun t =>
      (ok = true → t.get F.GPM_STAT_MSTATE = 4 ∧ t.on F.GPM_STAT_LINK = true ∧ t.getW F.GPM_NID_ID = s.modem.nid % 2 ^ 56
        ∧ t.getW F.GPM_PEER_MAC = s.modem.peer % 2 ^ 48 ∧ t.getW F.GPM_PEER_RUN = s.modem.run % 2 ^ 64 ∧ Logged Page.GPM 0x0523 (s.get F.GPM_RESULT_ATT) s t)
      ∧ (ok = false → t.get F.GPM_STAT_MSTATE = 5 ∧ t.get F.GPM_RESULT_CAUSE = s.slacCause cause.toNat
          ∧ Logged Page.GPM 0x0524 (s.slacCause cause.toNat) s t)
      ∧ modemFrame s t

/-- R353: with VALEN, a validation in which another number of toggles was qualified than announced fails the run; else the run goes on. -/
def validationRequest (s : State) (announced toggles : BitVec 8) : Prop :=
  s.slacRun 0 = true →
    Completes (exec (.validationRequest announced toggles) s) fun t =>
      (s.on F.GPM_CTL_VALEN = true → announced ≠ toggles → t.get F.GPM_STAT_MSTATE = 5)
      ∧ (s.on F.GPM_CTL_VALEN = false ∨ announced = toggles → t = s) ∧ modemFrame s t

/-- R352: in a run in vehicle role the attenuation profile of an EVSE is kept, in place of an earlier one of the same EVSE. -/
def attenuationProfile (s : State) (mac : BitVec 48) (att : BitVec 8) : Prop :=
  s.slacRun 1 = true →
    Completes (exec (.attenuationProfileReceived mac att) s) fun t =>
      t.modem.profiles.getLast? = some (mac.toNat, att.toNat) ∧ (t.modem.profiles.filter fun p => p.1 == mac.toNat) = [(mac.toNat, att.toNat)]
      ∧ t = { s with modem := { s.modem with profiles := t.modem.profiles } }

/-- R352: a match confirmation from the EVSE with the lowest attenuation, at most ATTMAX, is taken: the modem joins its network. -/
def matchConfirmation (s : State) (mac : BitVec 48) (nid : BitVec 56) (att : BitVec 8) : Prop :=
  s.slacRun 1 = true → bestProfile s.modem.profiles = some (mac.toNat, att.toNat) → att.toNat ≤ s.get F.GPM_SLACCFG_ATTMAX →
    Completes (exec (.matchConfirmationReceived mac nid) s) fun t =>
      t.modem = { s.modem with matched := true, peer := mac.toNat, nid := nid.toNat } ∧ t.get F.GPM_RESULT_ATT = att.toNat ∧ modemFrame s t

/-- R354: the logical network is left when SLACEN is cleared, and in pilot state A, E or F: READY, LINK 0, event 0x0525 with the cause. -/
def networkLeave (s : State) : Prop :=
  s.get F.GPM_STAT_MSTATE = 4 → LogRoom 1 s →
    Completes (exec (.logicalNetworkLeave 2) s) (fun t =>
      t.get F.GPM_STAT_MSTATE = 2 ∧ t.on F.GPM_STAT_LINK = false ∧ t.on F.GPM_CTL_SLACEN = false ∧ t.modem = {} ∧ Logged Page.GPM 0x0525 2 s t
      ∧ modemFrame s t)
    ∧ (s.get F.VEH_STAT_STATE ∈ [1, 5, 6] →
      Completes (exec (.logicalNetworkLeave 0) s) fun t =>
        t.get F.GPM_STAT_MSTATE = 2 ∧ t.on F.GPM_STAT_LINK = false ∧ t.modem = {} ∧ Logged Page.GPM 0x0525 0 s t ∧ modemFrame s t)

/-- R355, R356: a frame with a wrong check sequence is counted and discarded; SLAC management stays with the modem while SLACEN is 1. -/
def modemFrameReceived (s : State) (frame : List Byte) (fcsOk : Bool) : Prop :=
  s.modemRuns = true → s.loopOf Page.GPM = 0 → fcsOk = false ∨ (s.chkOn Page.GPM = false ∧ s.on F.GPM_CTL_SLACEN = true ∧ etherType frame = 0x88E1) →
    Completes (exec (.modemFrameReceived frame fcsOk) s) fun t =>
      t.get F.GPM_CNT_BAD = min (2 ^ F.GPM_CNT_BAD.width - 1) (s.get F.GPM_CNT_BAD + b2n !fcsOk) ∧ WordsIn [F.GPM_CNT_BAD.addr] s t
      ∧ t = { s with regs := t.regs }

/-- R355, R650: a good frame goes whole to the receive ring of the modem, which has room for it; it waits there for its bursts. -/
def modemFrameToRing (s : State) (frame : List Byte) (r : Fin 256) : Prop :=
  s.modemRuns = true → s.loopOf Page.GPM = 0 → s.chkOn Page.GPM = false → s.on F.GPM_CTL_SLACEN = false → s.ringFor 2 = some r.val →
  s.elemRoom r = true →
    Completes (exec (.modemFrameReceived frame true) s) fun t =>
      (t.ring r).inbox = (s.ring r).inbox ++ [⟨frame, none, none⟩] ∧ t.get F.GPM_CNT_BAD = s.get F.GPM_CNT_BAD ∧ t.mem = s.mem
      ∧ t = { s with regs := t.regs, rings := t.rings }

/-- R355, R356: the frame of the transmit ring is sent, and its descriptor completes; while LINK is 0 it is consumed unsent and counted in DROP,
but for SLAC management of the firmware's own run. -/
def modemFrameTransmit (s : State) (frame : List Byte) (r : Fin 256) (aux : Nat) : Prop :=
  s.modemRuns = true → s.genOn Page.GPM = false → s.txFrame 3 = some (r.val, frame, aux) →
    Completes (exec .modemFrameTransmit s) fun t =>
      (t.ring r).fin = some (1, none, none) ∧ (t.ring r).out = []
      ∧ t.get F.GPM_CNT_DROP = min (2 ^ F.GPM_CNT_DROP.width - 1) (s.get F.GPM_CNT_DROP + b2n (s.modemDrops frame))
      ∧ t = { s with regs := t.regs, rings := t.rings }

end Sys2Proof.Claims

/-- R423 to R433: residual-current monitoring and the insulation measurement.
Choices of the model it rests on: log entries 65, 66. -/
def Obligations.EarthFaultAndInsulation : Prop :=
  (∀ s, Claims.residualEvaluation s) ∧ (∀ s, Claims.insulationEvaluation s) ∧ (∀ s, Claims.insulationStepEnd s) ∧ (∀ s, Claims.insulationStepGood s)
    ∧ (∀ s, Claims.insulationCycle s) ∧ (∀ s, Claims.selfTestDue s)
    ∧ (∀ s, Claims.bleederEchoTimeout s)

/-- R332 to R346, R359, R361: the control pilot, proximity and the vehicle role.
Choices of the model it rests on: log entries 56, 57, 59. -/
def Obligations.PilotAndProximity : Prop :=
  (∀ s, Claims.pilotPeriodStart s) ∧ (∀ s h l o q, Claims.pilotSample s h l o q) ∧ (∀ s h l o q, Claims.pilotQualified s h l o q)
    ∧ (∀ s b, Claims.pilotFault s b) ∧ (∀ s v, Claims.dutyWrite s v) ∧ (∀ s r, Claims.ppMeasurement s r) ∧ (∀ s v, Claims.vrNetWrite s v)
    ∧ (∀ s n, Claims.profileRun s n) ∧ (∀ s, Claims.profileStepEnd s) ∧ (∀ s, Claims.profileStop s)

/-- R350 to R356: the pilot-line modem.
Choices of the model it rests on: log entry 58. -/
def Obligations.PilotLineModem : Prop :=
  (∀ s b, Claims.modemEnable s b) ∧ (∀ s w, Claims.modemReady s w) ∧ (∀ s p, Claims.modemWatchdog s p) ∧ (∀ s, Claims.slacEnable s)
    ∧ (∀ s m r n a, Claims.slacParmReq s m r n a) ∧ (∀ s m r, Claims.slacMatchReq s m r) ∧ (∀ s b c r, Claims.slacResult s b c r)
    ∧ (∀ s a b, Claims.validationRequest s a b) ∧ (∀ s m a, Claims.attenuationProfile s m a) ∧ (∀ s m n a, Claims.matchConfirmation s m n a)
    ∧ (∀ s, Claims.networkLeave s) ∧ (∀ s f b, Claims.modemFrameReceived s f b) ∧ (∀ s f r, Claims.modemFrameToRing s f r)
    ∧ (∀ s f r a, Claims.modemFrameTransmit s f r a)

/-! ### The DMA rings (chapter 17) -/

namespace Sys2Proof.Claims

/-- The pages of the DMA common registers and of the ring registers, and LDG for events. -/
def dmaPages : List Nat := [Page.DMA, 0x40061000, 0x40062000, 0x40063000, 0x40064000, Page.LDG]

/-- Every other ring is as it was. -/
def otherRing (s t : State) (r q : Fin 256) : Prop := q ≠ r → t.ring q = s.ring q ∧ t.ringState q = s.ringState q

/-- R660: EN written 1 in OFF with a permitted SIZE, BASE and port: RUN, with the port in force. -/
def ringEnable (s : State) (r q : Fin 256) (v : Word) : Prop :=
  let u := ((s.put (F.RING_CTL_STREAM.i r) (bits v.toNat 1 1)).when (decide (64 ≤ r.val)) fun t => t.put (F.RING_CTL_C3.i r) (bits v.toNat 2 1)).when
    (decide (2 ≤ bits v.toNat 8 4 ∧ bits v.toNat 8 4 ≤ 12)) fun t => t.put (F.RING_CTL_SIZE.i r) (bits v.toNat 8 4)
  s.on (F.RING_CTL_EN.i r) = false → (u.enableCheck r).1 = 0 →
    Completes (exec (.ringEnable r v) s) fun t =>
      t.on (F.RING_CTL_EN.i r) = true ∧ t.ringState r = 2 ∧ t.ringPort r = (u.enableCheck r).2 % 2 ^ (F.RING_STAT_PORT.i r).width
      ∧ (2 ≤ bits v.toNat 8 4 → bits v.toNat 8 4 ≤ 12 → t.get (F.RING_CTL_SIZE.i r) = bits v.toNat 8 4) ∧ otherRing s t r q
      ∧ RegsIn dmaPages s t ∧ t = { s with regs := t.regs, rings := t.rings }

/-- R660: a refused enable leaves EN 0 and logs event 0x0D07; EN written 1 while it is 1 has no effect. -/
def ringRefused (s : State) (r : Fin 256) (v : Word) : Prop :=
  let u := ((s.put (F.RING_CTL_STREAM.i r) (bits v.toNat 1 1)).when (decide (64 ≤ r.val)) fun t => t.put (F.RING_CTL_C3.i r) (bits v.toNat 2 1)).when
    (decide (2 ≤ bits v.toNat 8 4 ∧ bits v.toNat 8 4 ≤ 12)) fun t => t.put (F.RING_CTL_SIZE.i r) (bits v.toNat 8 4)
  (s.on (F.RING_CTL_EN.i r) = true → Completes (exec (.ringEnable r v) s) fun t => t = s)
  ∧ (s.on (F.RING_CTL_EN.i r) = false → (u.enableCheck r).1 ≠ 0 → LogRoom 1 s → Completes (exec (.ringEnable r v) s) fun t =>
      t.on (F.RING_CTL_EN.i r) = false ∧ t.ringState r = s.ringState r
      ∧ (t.held.any fun e => e.code == 0x0D07 && e.order == s.log.order) = true ∧ t.rings = s.rings ∧ RegsIn dmaPages s t
      ∧ t = { s with regs := t.regs, log := t.log })

/-- R659: a kick makes an idle ring run, and is remembered by one that runs or waits; in OFF and HALTED it has no effect. -/
def ringKick (s : State) (r q : Fin 256) : Prop :=
  (s.ringState r ∉ [1, 2, 3] → Completes (exec (.ringKick r) s) fun t => t = s)
  ∧ (s.ringState r ∈ [1, 2, 3] →
    Completes (exec (.ringKick r) s) fun t =>
      t.ringState r = (if s.ringState r = 1 then 2 else s.ringState r) ∧ (s.ringState r ≠ 1 → t.ring r = { s.ring r with kick := true })
      ∧ otherRing s t r q ∧ RegsIn dmaPages s t ∧ t = { s with regs := t.regs, rings := t.rings })

/-- R665, R666: an abort of a ring without a taken descriptor or waiting element ends it at once: OFF, EN 0, its interrupt bit, event 0x0D03; an
abort of a halted ring only leads to OFF; one that is OFF stays as it is. -/
def ringAbort (s : State) (r q : Fin 256) : Prop :=
  (s.ringState r = 0 → Completes (exec (.ringAbort r) s) fun t => t = s)
  ∧ (s.ringState r ∈ [1, 2, 3] → (s.ring r).desc = none → (s.ring r).inbox = [] → LogRoom 1 s →
    Completes (exec (.ringAbort r) s) fun t =>
      t.ringState r = 0 ∧ t.on (F.RING_CTL_EN.i r) = false ∧ t.on (F.RING_IRQ_ABORT.i r) = true
      ∧ (t.held.any fun e => e.code == 0x0D03 && e.order == s.log.order) = true ∧ otherRing s t r q
      ∧ RegsIn dmaPages s t ∧ t = { s with regs := t.regs, rings := t.rings, log := t.log })
  ∧ (s.ringState r = 4 →
    Completes (exec (.ringAbort r) s) fun t =>
      t.ringState r = 0 ∧ t.on (F.RING_CTL_EN.i r) = false ∧ otherRing s t r q ∧ RegsIn dmaPages s t ∧ t = { s with regs := t.regs })

/-- R645, R666: an abort between bursts of an application ring writes its taken descriptor back: word 0 with OWN cleared, RESULT 2 and the bytes
of LEN not moved as RESIDUE; HEAD moves past it. -/
def ringAbortTaken (s : State) (r : Fin 256) (k d : Nat) : Prop :=
  let a := s.descAddr r k
  32 ≤ r.val → s.ringState r ∈ [1, 2, 3] → (s.ring r).desc = some (k, d) → (s.ring r).inbox = [] → a % 32 = 0 → sramOf a = some .app →
  s.boot.standby = false →
    Completes (exec (.ringAbort r) s) fun t =>
      t.ringState r = 0 ∧ t.memNat a 4 = setBits (bits d 0 32) 0 1 0
      ∧ bits (t.memNat (a + 24) 4) 0 4 = 2 ∧ bits (t.memNat (a + 24) 4) 8 24 = (descLen d - (s.ring r).moved) % 2 ^ 24
      ∧ t.get (F.RING_HEAD_IDX.i r) = s.nextDesc r k d % 2 ^ (F.RING_HEAD_IDX.i r).width ∧ (t.ring r).desc = none
      ∧ t = { s with regs := t.regs, rings := t.rings, mem := t.mem, sramTags := t.sramTags, log := t.log }

/-- R665: RESUME of a halted ring: HEAD moves to the next descriptor, and the ring runs; outside HALTED it has no effect. -/
def ringResume (s : State) (r q : Fin 256) : Prop :=
  let k := s.get (F.RING_HEAD_IDX.i r)
  (s.ringState r ≠ 4 → Completes (exec (.ringResume r) s) fun t => t = s)
  ∧ (s.ringState r = 4 →
    Completes (exec (.ringResume r) s) fun t =>
      t.ringState r = 2 ∧ t.get (F.RING_HEAD_IDX.i r) = s.nextDesc r k (s.peekDesc r k) % 2 ^ (F.RING_HEAD_IDX.i r).width
      ∧ t.get (F.RING_STAT_HALTC.i r) = 0 ∧ otherRing s t r q ∧ RegsIn dmaPages s t ∧ t = { s with regs := t.regs })

/-- R665: RESET of a ring that is OFF or halted: OFF, HEAD 0 and no error; in another state it has no effect. -/
def ringReset (s : State) (r q : Fin 256) : Prop :=
  (s.ringState r ∉ [0, 4] → Completes (exec (.ringReset r) s) fun t => t = s)
  ∧ (s.ringState r ∈ [0, 4] →
    Completes (exec (.ringReset r) s) fun t =>
      t.ringState r = 0 ∧ t.get (F.RING_HEAD_IDX.i r) = 0 ∧ t.getW (F.RING_ERRADDR_A.i r) = 0 ∧ t.get (F.RING_ERRST_CAUSE.i r) = 0
      ∧ t.on (F.RING_CTL_EN.i r) = false ∧ otherRing s t r q ∧ RegsIn dmaPages s t ∧ t = { s with regs := t.regs })

/-- R657, R670: no burst takes place while the engine has no power, nor with no ring ready and none to halt. -/
def burstNone (s : State) (u : BitVec 160) : Prop :=
  s.boot.legalRuns = false ∨ (s.boot.powered = false ∧ s.boot.pfail = false) ∨ ((s.rings.all fun e => !e.2.portChanged) = true ∧ s.readyRings = []) →
    Completes (exec (.burst u) s) fun t => t = s

/-- R674: the burst that writes a taken descriptor back fails at a line outside every SRAM: the ring halts with the cause of the failed write, DIR 1 and its
address, HEAD at the descriptor; no byte of memory changes. -/
def writeBackFails (s : State) (r : Fin 256) (b : DmaArb) (k d : Nat) : Prop :=
  let a := s.descAddr r k + 16
  s.boot.legalRuns = true → s.boot.powered = true → (s.rings.all fun e => !e.2.portChanged) = true → s.arbitrate s.readyRings = some (r.val, b) →
  (s.ring r).desc = some (k, d) → s.nextBurst r = some .back → (s.ring r).inbox = [] → sramOf a = none → LogRoom 1 s → s.get (F.RING_WAIT_N.i r) = 0 →
    Completes (exec (.burst 0) s) fun t =>
      t.ringState r = 4 ∧ t.get (F.RING_STAT_HALTC.i r) = 1 ∧ t.on (F.RING_ERRST_DIR.i r) = true ∧ t.get (F.RING_ERRST_CAUSE.i r) = 1
      ∧ t.getW (F.RING_ERRADDR_A.i r) = a % 2 ^ 64 ∧ t.get (F.RING_ERRST_IDX.i r) = k % 4096 ∧ t.get (F.RING_HEAD_IDX.i r) = k % 4096
      ∧ t.get (F.RING_HEAD_WBS.i r) = s.get (F.RING_HEAD_WBS.i r) ∧ t.on (F.RING_IRQ_HALT.i r) = true ∧ (t.ring r).desc = none ∧ t.mem = s.mem
      ∧ t = { s with regs := t.regs, rings := t.rings, dma := b, log := t.log }

/-- R644, R659, R661: the burst granted to a ring without a taken descriptor reads the one at HEAD; with OWN 0, and no kick remembered, the ring is
idle. -/
def burstIdle (s : State) (r : Fin 256) (b : DmaArb) : Prop :=
  let a := s.descAddr r (s.get (F.RING_HEAD_IDX.i r))
  s.boot.legalRuns = true → s.boot.powered = true → (s.rings.all fun e => !e.2.portChanged) = true → s.arbitrate s.readyRings = some (r.val, b) →
  (s.ring r).desc = none → (s.ring r).kick = false → sramOf a = some (ringDom r) → sramOf (a + 16) = some (ringDom r) →
  s.sramTag a = ⟨0, false⟩ → s.sramTag (a + 16) = ⟨0, false⟩ → bit (s.memNat a 16) 0 = false →
    Completes (exec (.burst 0) s) fun t =>
      t.ringState r = 1 ∧ (t.ring r).desc = none ∧ t.dma = b ∧ t.mem = s.mem
      ∧ t.get (F.DMA_CLASSGR.i (s.ringClass r)) = min (2 ^ (F.DMA_CLASSGR.i (s.ringClass r)).width - 1) (s.get (F.DMA_CLASSGR.i (s.ringClass r)) + 1)
      ∧ t.get (F.RING_WAIT_N.i r) = 0 ∧ t = { s with regs := t.regs, rings := t.rings, dma := b, log := t.log }

/-- R653, R657: a memory-to-memory burst of an application ring without a transform, of up to 16 bytes from one line of application SRAM to
another: every byte of LEN is copied, and no other byte changes. -/
def burstCopy (s : State) (r : Fin 256) (a : DmaArb) (k d n src dst x : Nat) : Prop :=
  s.boot.legalRuns = true → s.boot.powered = true → s.boot.standby = false → (s.rings.all fun e => !e.2.portChanged) = true →
  s.arbitrate s.readyRings = some (r.val, a) → 32 ≤ r.val → s.ringPort r = 0 → (s.ring r).desc = some (k, d) → (s.ring r).fin = none →
  (s.ring r).moved = 0 → descLen d = n → descSrc d = src → descDst d = dst → descXform d = 0 → 1 ≤ n → n ≤ 16 → src % 16 = 0 → dst % 16 = 0 → src ≠ dst →
  sramOf src = some .app → sramOf dst = some .app → s.sramTag src = ⟨0, false⟩ → s.sramTag dst = ⟨0, false⟩ →
    Completes (exec (.burst 0) s) fun t =>
      t.byte x = (if dst ≤ x ∧ x < dst + n then s.byte (src + (x - dst)) else s.byte x) ∧ (t.ring r).moved = n ∧ (t.ring r).desc = some (k, d)
      ∧ t = { s with regs := t.regs, rings := t.rings, mem := t.mem, sramTags := t.sramTags, dma := a, log := t.log }

/-- R648, R650: an element of a device arrives at its ring: with room it waits for its bursts; without, it is discarded and counted. -/
def receiveElement (s : State) (r q : Fin 256) (data : List Byte) (w2 aux : Option Word) : Prop :=
  s.on (F.RING_CTL_EN.i r) = true → rxPort (s.ringPort r) = true → s.ringPort r < 9 →
    Completes (exec (.receiveElement r data w2 aux) s) fun t =>
      (s.elemRoom r = true → (t.ring r).inbox = (s.ring r).inbox ++ [⟨data, w2.map (·.toNat), aux.map (·.toNat)⟩] ∧ t.log = s.log)
      ∧ (s.elemRoom r = false → (t.ring r).inbox = (s.ring r).inbox ∧ t.on (F.RING_IRQ_OVFL.i r) = true
          ∧ t.get (F.RING_DROP_N.i r) = min (2 ^ (F.RING_DROP_N.i r).width - 1) (s.get (F.RING_DROP_N.i r) + 1))
      ∧ otherRing s t r q ∧ RegsIn dmaPages s t ∧ t = { s with regs := t.regs, rings := t.rings, log := t.log }

/-- R652, R664: a data write fails after the write-back of its descriptor: the ring halts with LATE, the address and the index of the descriptor
written back last, at which HEAD stands, and event 0x0D06. A ring whose last descriptor had BAR = 1, or no data write left, has no such failure. -/
def lateWriteFailure (s : State) (r q : Fin 256) (a : BitVec 40) (cause : BitVec 3) : Prop :=
  ((s.ring r).posted = false ∨ s.ringState r ∉ [1, 2, 3] ∨ cause ∉ [1#3, 2#3, 3#3] → Completes (exec (.lateWriteFailure r a cause) s) fun t => t = s)
  ∧ ((s.ring r).posted = true → s.ringState r ∈ [1, 2, 3] → (s.ring r).inbox = [] → cause ∈ [1#3, 2#3, 3#3] → LogRoom 1 s →
    Completes (exec (.lateWriteFailure r a cause) s) fun t =>
      t.ringState r = 4 ∧ t.get (F.RING_STAT_HALTC.i r) = cause.toNat ∧ t.on (F.RING_ERRST_LATE.i r) = true ∧ t.getW (F.RING_ERRADDR_A.i r) = a.toNat
      ∧ t.get (F.RING_ERRST_IDX.i r) = (s.ring r).lastDone % 4096 ∧ t.get (F.RING_HEAD_IDX.i r) = (s.ring r).lastDone % 4096
      ∧ t.on (F.RING_IRQ_HALT.i r) = true ∧ t.get F.DMA_LASTHALT_RING = r.val ∧ (t.ring r).desc = none
      ∧ (t.held.any fun e => e.code == 0x0D06 && e.order == s.log.order) = true ∧ otherRing s t r q
      ∧ RegsIn dmaPages s t ∧ t = { s with regs := t.regs, rings := t.rings, log := t.log })

/-! ### Link patterns (chapter 20) -/

/-- The page has a pattern block, and PAT.CTL of it is written by its owner with a sequence of Table 20-2 and a LOOP of Table 20-3. -/
def patWrite (page v : Nat) : Prop := linkPage page = true ∧ 1 ≤ bits v 2 4 ∧ bits v 2 4 ≤ 8 ∧ bits v 7 2 ≤ loopMax page

/-- A write of PAT.CTL is not refused or held back: on the pages of the heads it is sealed configuration (R761). -/
def patOpen (s : State) (page : Nat) : Prop := blockType page = 0x0010 → s.rwsLocked = false ∧ s.rwsStalls = false

/-- R763, R765: GEN from 0 to 1 with every condition of Table 20-3 met: GENON, the registers of the generator at their start value, and event
0x1010; with a condition not met, event 0x1011 with the first one, and no generator runs. -/
def patternStart (s : State) (page v : Word) : Prop :=
  let p := page.toNat
  let u := s.patFields p v.toNat
  patWrite p v.toNat → patOpen s p → s.on (F.PAT_CTL_GEN.on p) = false → bit v.toNat 1 = s.chkOn p → LogRoom 2 s →
    Completes (exec (.patternGeneratorStart page v) s) fun t =>
      t.get (F.PAT_CTL_PATTERN.on p) = bits v.toNat 2 4 ∧ t.get (F.PAT_CTL_LOOP.on p) = bits v.toNat 7 2
      ∧ ((u.genBlocked p (bits v.toNat 7 2)).isNone = true → t.genOn p = true ∧ t.on (F.PAT_CTL_GEN.on p) = true
          ∧ t.on (F.PAT_STAT_LOOPON.on p) = (bits v.toNat 7 2 != 0)
          ∧ (uartPage p = none → (t.pat p).gen = List.replicate 3 (t.patStart p (bits v.toNat 2 4)))
          ∧ Logged p 0x1010 (args [pageIndex p, bits v.toNat 2 4, bits v.toNat 7 2]) s t)
      ∧ (∀ c, c ∈ u.genBlocked p (bits v.toNat 7 2) → t.genOn p = s.genOn p ∧ t.on (F.PAT_CTL_GEN.on p) = false
          ∧ Logged p 0x1011 (args [pageIndex p, c]) s t)
      ∧ (uartPage p = none → t.uarts = s.uarts)
      ∧ RegsIn [p, Page.LDG] s t ∧ t = { s with regs := t.regs, pats := t.pats, heads := t.heads, uarts := t.uarts, commit := t.commit, log := t.log }

/-- R763, R765: a generator started on the page of a serial port whose transmitter is free sends its first character: the first bits of the sequence
from the register all ones. -/
def patternUart (s : State) (n : Fin 4) (v : Word) : Prop :=
  let p := Page.U n
  let u := s.patFields p v.toNat
  let c := u.setPat p { s.pat p with gen := List.replicate 3 (u.patStart p (bits v.toNat 2 4)), frame := 0 }
  patWrite p v.toNat → s.on (F.PAT_CTL_GEN.on p) = false → bit v.toNat 1 = s.chkOn p → s.on (F.U_CTL_EN.i n) = true → LogRoom 2 s →
  (s.uart n).cur = none → (s.uart n).brkNow = false → s.txMay n = true →
    Completes (exec (.patternGeneratorStart (BitVec.ofNat 32 p) v) s) fun t =>
      t.genOn p = true ∧ (t.uart n).cur = some (ofLsb (c.genBits p 0 (s.charBits n)).1) ∧ t.on (F.U_STAT_TXBUSY.i n) = true
      ∧ t.pat p = (c.genBits p 0 (s.charBits n)).2.pat p ∧ (t.uart n).txq = (s.uart n).txq

/-- R766: GEN cleared stops the generator; a head that runs the sequence (LOOP 0) is told to end it, in four command words. -/
def patternStop (s : State) (page : Word) : Prop :=
  linkPage page.toNat = true → patOpen s page.toNat → s.on (F.PAT_CTL_GEN.on page.toNat) = true →
    Completes (exec (.patternGeneratorStop page) s) fun t =>
      t.genOn page.toNat = false ∧ t.on (F.PAT_CTL_GEN.on page.toNat) = false ∧ t.on (F.PAT_STAT_LOOPON.on page.toNat) = false
      ∧ (s.genOn page.toNat = true → s.on (F.PAT_STAT_LOOPON.on page.toNat) = false → ∀ p, p ∈ headOf page.toNat →
          (t.port p).patternSent = 0 ∧ (t.port p).due = (s.port p).due ++ List.replicate 4 (5, 0))
      ∧ (s.genOn page.toNat = false ∨ s.on (F.PAT_STAT_LOOPON.on page.toNat) = true ∨ headOf page.toNat = none → t.heads = s.heads)
      ∧ RegsIn [page.toNat, Page.LDG] s t
      ∧ t = { s with regs := t.regs, heads := t.heads, commit := t.commit, log := t.log }

/-- R761, R764: CHK from 0 to 1 clears the counters of the checker, and every lane loads anew without synchronisation. -/
def checkerStart (s : State) (page v : Word) : Prop :=
  let p := page.toNat
  patWrite p v.toNat → patOpen s p → s.chkOn p = false → bit v.toNat 0 = s.on (F.PAT_CTL_GEN.on p) →
    Completes (exec (.patternCheckerStart page v) s) fun t =>
      t.chkOn p = true ∧ t.get (F.PAT_STAT_SYNC.on p) = 0 ∧ t.getW (F.PAT_BITS.on p) = 0 ∧ t.getW ((F.PAT_ERR.on p).i 0) = 0
      ∧ (t.pat p).lanes = List.replicate 3 {} ∧ (t.pat p).expect = none ∧ RegsIn [p, Page.LDG] s t
      ∧ t = { s with regs := t.regs, pats := t.pats, commit := t.commit, log := t.log }

/-- R763: PAT.INJ: the next generated bit is inverted once. -/
def patternInject (s : State) (page : Word) : Prop :=
  linkPage page.toNat = true →
    Completes (exec (.patternInject page) s) fun t => t.pat page.toNat = { s.pat page.toNat with inj := true } ∧ t = { s with pats := t.pats }

/-- R764: the 64th correct prediction in succession sets SYNC of the lane; that bit is not counted yet. -/
def checkerGains (s : State) (page : Nat) (lane : Fin 3) (rx : Bool) : Prop :=
  let l := (s.pat page).lanes.getD lane.val {}
  let t := s.checkBit page lane.val rx
  ∀ n k i, patInfo (s.get (F.PAT_CTL_PATTERN.on page)) = some (n, k, i) → linkPage page = true → (s.pat page).lanes.length = 3 →
  n ≤ l.load → l.sync = false → l.good = 63 → patNext n k l.reg = (rx != s.patInv page) →
    t.getBit (F.PAT_STAT_SYNC.on page) lane.val = true ∧ ((t.pat page).lanes.getD lane.val {}).sync = true
    ∧ t.getW (F.PAT_BITS.on page) = s.getW (F.PAT_BITS.on page) ∧ RegsIn [page] s t ∧ t = { s with regs := t.regs, pats := t.pats }

/-- R764: a wrong bit in SYNC is counted; the one that makes 16 wrong ones of the last 64 clears SYNC, counts a loss in SLIP and loads the lane
again, with event 0x1012 unless the last one of the page is less than a second ago. -/
def checkerLoses (s : State) (page : Nat) (lane : Fin 3) (rx : Bool) : Prop :=
  let l := (s.pat page).lanes.getD lane.val {}
  let t := s.checkBit page lane.val rx
  ∀ n k i, patInfo (s.get (F.PAT_CTL_PATTERN.on page)) = some (n, k, i) → linkPage page = true → (s.pat page).lanes.length = 3 →
  n ≤ l.load → l.sync = true → 15 ≤ (l.wrong.take 63).count true → patNext n k l.reg ≠ (rx != s.patInv page) → LogRoom 1 s →
    t.getBit (F.PAT_STAT_SYNC.on page) lane.val = false ∧ (t.pat page).lanes.getD lane.val {} = {}
    ∧ t.getW (F.PAT_BITS.on page) = (s.getW (F.PAT_BITS.on page) + 1) % 2 ^ 64
    ∧ t.getW ((F.PAT_ERR.on page).i lane.val) = (s.getW ((F.PAT_ERR.on page).i lane.val) + 1) % 2 ^ 64
    ∧ t.get (F.PAT_SLIP_LOSSES.on page) = min 65535 (s.get (F.PAT_SLIP_LOSSES.on page) + 1)
    ∧ (s.lossDue page = true → Logged page 0x1012 (args [pageIndex page, lane.val]) s t) ∧ (s.lossDue page = false → t.log = s.log)
    ∧ RegsIn [page, Page.LDG] s t ∧ t = { s with regs := t.regs, pats := t.pats, log := t.log }

end Sys2Proof.Claims

/-- R659, R660, R665, R666: enabling, kicking, aborting, resuming and resetting a ring.
Choices of the model it rests on: log entry 85. -/
def Obligations.RingCommands : Prop :=
  (∀ s r q v, Claims.ringEnable s r q v) ∧ (∀ s r v, Claims.ringRefused s r v) ∧ (∀ s r q, Claims.ringKick s r q) ∧ (∀ s r q, Claims.ringAbort s r q)
    ∧ (∀ s r k d, Claims.ringAbortTaken s r k d) ∧ (∀ s r q, Claims.ringResume s r q) ∧ (∀ s r q, Claims.ringReset s r q)

/-- R644, R648, R650, R652, R653, R657, R659, R661, R664: bursts, receive elements and late write failures.
Choices of the model it rests on: log entries 82, 83, 84, 85. -/
def Obligations.RingData : Prop :=
  (∀ s r a, Claims.burstIdle s r a) ∧ (∀ s u, Claims.burstNone s u) ∧ (∀ s r b k d, Claims.writeBackFails s r b k d) ∧ (∀ s r a k d n x y z, Claims.burstCopy s r a k d n x y z) ∧ (∀ s r q d w a, Claims.receiveElement s r q d w a)
    ∧ (∀ s r q a c, Claims.lateWriteFailure s r q a c)

/-- R761, R763 to R766: pattern generators and checkers.
Choices of the model it rests on: log entry 88. -/
def Obligations.LinkPatterns : Prop :=
  (∀ s p v, Claims.patternStart s p v) ∧ (∀ s n v, Claims.patternUart s n v) ∧ (∀ s p, Claims.patternStop s p) ∧ (∀ s p v, Claims.checkerStart s p v)
    ∧ (∀ s p, Claims.patternInject s p) ∧ (∀ s p l b, Claims.checkerGains s p l b) ∧ (∀ s p l b, Claims.checkerLoses s p l b)

/-! ### UARTs (chapter 18, section 2) -/

namespace Sys2Proof.Claims

/-- What a command of UART `n` may change: its page, the status bits of the ring registers, and LDG. -/
def uartFrame (s t : State) (n : Fin 4) : Prop :=
  RegsIn (Page.U n :: dmaPages) s t ∧ (∀ m, m ≠ n → t.uart m = s.uart m)
  ∧ t = { s with regs := t.regs, uarts := t.uarts, rings := t.rings, pats := t.pats, log := t.log }

/-- The entry of a received character: the data bits of FMT, then FE, PE and BRK; a break reads as a zero with FE. -/
def uartEntry (s : State) (n : Fin 4) (data : Nat) (fe pe brk : Bool) : Nat :=
  (if brk then 0 else data) % 2 ^ s.charBits n + 256 * b2n (fe || brk) + 512 * b2n pe + 1024 * b2n brk

/-- R683 to R685: a character of the line, while the receiver is enabled and no pattern or own transmission takes it, enters the receive queue with
its errors; on a full queue it overwrites the newest entry, which is marked OVW and counted. -/
def uartReceived (s : State) (n : Fin 4) (data : BitVec 8) (fe pe brk : Bool) : Prop :=
  let e := uartEntry s n data.toNat fe pe brk
  s.uartOn n = true → s.on (F.U_CTL_RXEN.i n) = true → s.loopOf (Page.U n) ≠ 1 → s.chkOn (Page.U n) = false →
  rs485 n = false ∨ s.on (F.U_STAT_DE.i n) = false ∨ s.on (F.U_RS485_ECHO.i n) = true → LogRoom 2 s →
    Completes (exec (.uartCharacterReceived n data fe pe brk) s) fun t =>
      (t.uart n).rxq = (if (s.uart n).rxq.length < s.uartSize n then (s.uart n).rxq ++ [e] else (s.uart n).rxq.dropLast ++ [e + 2048])
      ∧ (s.uartSize n ≤ (s.uart n).rxq.length → t.get (F.U_CNT_OVW.i n) = min (2 ^ (F.U_CNT_OVW.i n).width - 1) (s.get (F.U_CNT_OVW.i n) + 1))
      ∧ (s.uartSize n ≤ (s.uart n).rxq.length → t.getBit (F.IRQ_RAW.on (Page.U n)) 3 = true
          ∧ ((s.uart n).ovwRun = false → (t.held.any fun e => e.code == 0x0E01 && s.log.order ≤ e.order) = true))
      ∧ (fe = true ∨ pe = true ∨ brk = true → t.getBit (F.IRQ_RAW.on (Page.U n)) 4 = true)
      ∧ (brk = true → t.getBit (F.IRQ_RAW.on (Page.U n)) 5 = true ∧ (t.held.any fun e => e.code == 0x0E02 && s.log.order ≤ e.order) = true)
      ∧ ((t.uart n).ovwRun = decide (s.uartSize n ≤ (s.uart n).rxq.length)) ∧ (t.uart n).rxAt = some (192 * s.angle.now)
      ∧ t.get (F.U_QLEVEL_RX.i n) = (t.uart n).rxq.length % 2 ^ (F.U_QLEVEL_RX.i n).width ∧ (t.uart n).txq = (s.uart n).txq ∧ uartFrame s t n

/-- A character time in 1/192 of a tick: start bit, data, parity and stop bits, each of BRD / 16 serial-clock periods (R680, R681, R683). -/
def charLen (s : State) (n : Fin 4) : Nat :=
  (1 + s.charBits n + b2n (s.get (F.U_FMT_PARITY.i n) != 0) + 1 + s.get (F.U_FMT_STOP2.i n)) * s.get (F.U_BAUD_BRD.i n)

/-- The instant of the idle gap after a character that ended at `at_`: IDLEG character times later (R683). -/
def gapAt (s : State) (n : Fin 4) (at_ : Nat) : Nat := at_ + s.get (F.U_TRIG_IDLEG.i n) * charLen s n

/-- R683, R693: an idle gap with IDLEG set raises RXIDLE, once for a character, and marks the newest entry of the receive queue as the end of an
element. -/
def uartIdleGap (s : State) (n : Fin 4) (at_ : Nat) : Prop :=
  s.uartOn n = true → s.get (F.U_TRIG_IDLEG.i n) ≠ 0 → (s.uart n).rxAt = some at_ → gapAt s n at_ ≤ 192 * s.angle.now →
    Completes (exec (.uartIdleGap n) s) fun t =>
      t.getBit (F.IRQ_RAW.on (Page.U n)) 2 = true
      ∧ (∀ e, e ∈ (s.uart n).rxq.getLast? → (t.uart n).rxq = (s.uart n).rxq.dropLast ++ [e % 4096 + 4096]) ∧ (t.uart n).rxAt = none ∧ uartFrame s t n

/-- R681, R683, R686, R690: a command of an instant that is still to come runs the clock on to it, and is then as at that instant: the end of the
character on the line, IDLEG character times after the last character stored, DEPOST bit times after the last stop bit. Without a character on the
line, a stored character without its gap, or an idle enabled driver, nothing happens. -/
def uartInstants (s : State) (n : Fin 4) (back : BitVec 8) (at_ : Nat) : Prop :=
  let off := (s.uart n).lineEnd + s.get (F.U_RS485_DEPOST.i n) * s.get (F.U_BAUD_BRD.i n)
  ((s.uart n).cur = none → (s.uart n).brkNow = false → Completes (exec (.uartCharacterSent n back) s) fun t => t = s)
  ∧ ((s.uart n).cur.isSome = true ∨ (s.uart n).brkNow = true → 192 * s.angle.now < (s.uart n).lineEnd →
      Completes (exec (.uartCharacterSent n back) s) fun t => t = (s.run (tickAt (s.uart n).lineEnd - s.angle.now)).charSent n back.toNat)
  ∧ ((s.uart n).rxAt = none ∨ s.uartOn n = false ∨ s.get (F.U_TRIG_IDLEG.i n) = 0 → Completes (exec (.uartIdleGap n) s) fun t => t = s)
  ∧ ((s.uart n).rxAt = some at_ → s.uartOn n = true → s.get (F.U_TRIG_IDLEG.i n) ≠ 0 → 192 * s.angle.now < gapAt s n at_ →
      Completes (exec (.uartIdleGap n) s) fun t => t = (s.run (tickAt (gapAt s n at_) - s.angle.now)).idleGap n)
  ∧ (s.driverIdle n = false → Completes (exec (.rs485DriverOff n) s) fun t => t = s)
  ∧ (s.driverIdle n = true → 192 * s.angle.now < off → Completes (exec (.rs485DriverOff n) s) fun t =>
      let r := s.run (tickAt off - s.angle.now)
      t = if r.driverIdle n then r.driverOff n else r)

/-- R679, R686, R692: a character written to TXDATA is queued, and sent at once when the transmitter is idle and may send; on a full queue, while a
ring serves the direction, and while TXHOLD holds it is discarded and counted. -/
def uartTxdataWrite (s : State) (n : Fin 4) (v : Word) : Prop :=
  let no := decide (s.uartSize n ≤ (s.uart n).txq.length) || s.on (F.U_RINGS_TXR.i n) || s.on (F.U_STAT_TXHOLD.i n) || s.genOn (Page.U n)
  Completes (exec (.uartTxdataWrite n v) s) fun t =>
    (no = true → t.get (F.U_CNT2_DISC.i n) = min (2 ^ (F.U_CNT2_DISC.i n).width - 1) (s.get (F.U_CNT2_DISC.i n) + 1) ∧ t.uarts = s.uarts)
    ∧ (no = false → (s.uart n).cur.isSome = true ∨ (s.uart n).brkNow = true ∨ s.txMay n = false →
        (t.uart n).txq = (s.uart n).txq ++ [bits v.toNat 0 8 % 2 ^ s.charBits n])
    ∧ (no = false → (s.uart n).cur = none → (s.uart n).brkNow = false → s.txMay n = true → (s.uart n).txq = [] → s.on (F.U_FLOW_CTSEN.i n) = false →
        (t.uart n).cur = some (bits v.toNat 0 8 % 2 ^ s.charBits n) ∧ (t.uart n).txq = [] ∧ t.on (F.U_STAT_TXBUSY.i n) = true
        ∧ (t.on (F.U_STAT_DE.i n) = (s.on (F.U_STAT_DE.i n) || (rs485 n && s.loopOf (Page.U n) != 1)))
        ∧ ((s.uart n).lineEnd ≤ 192 * s.angle.now → (t.uart n).lineEnd = charLen s n
              + (if rs485 n && s.loopOf (Page.U n) != 1 && !s.on (F.U_STAT_DE.i n) then s.get (F.U_RS485_DEPRE.i n) * s.get (F.U_BAUD_BRD.i n) else 0)
              + (if 192 * s.angle.now < (s.uart n).lineEnd + 192 then (s.uart n).lineEnd else 192 * s.angle.now)))
    ∧ uartFrame s t n

/-- R686: the character on the line has ended, and the line agreed with it on U2 and U3: the next of the queue follows without a gap; with the queue
empty and no break due the transmitter is idle, and TXDONE is raised. -/
def uartCharacterSent (s : State) (n : Fin 4) (back : BitVec 8) : Prop :=
  (s.uart n).cur.isSome = true → (s.uart n).lineEnd ≤ 192 * s.angle.now → s.genOn (Page.U n) = false → s.loopOf (Page.U n) ≠ 1 →
  s.on (F.U_STAT_DE.i n) = false ∨ rs485 n = false ∨ (s.uart n).cur = some (back.toNat % 2 ^ s.charBits n) →
    Completes (exec (.uartCharacterSent n back) s) fun t =>
      ((s.uart n).txq = [] → (s.uart n).brkDue = false → (t.uart n).cur = none ∧ t.on (F.U_STAT_TXBUSY.i n) = false
          ∧ t.getBit (F.IRQ_RAW.on (Page.U n)) 6 = true)
      ∧ (s.txMay n = true → s.on (F.U_FLOW_CTSEN.i n) = false →
          ((s.uart n).txq.head?.all fun c => decide ((t.uart n).cur = some c ∧ (t.uart n).txq = (s.uart n).txq.tail)) = true)
      ∧ (t.uart n).rxq = (s.uart n).rxq ∧ uartFrame s t n

/-- R691: a character of U2 or U3 that reads back otherwise than it was sent is a collision: counted, interrupt 7, and event 0x0E03 once for a period
of driver enable; with CDSTOP the queue is flushed, the driver disabled and TXHOLD set. -/
def uartCollision (s : State) (n : Fin 4) (back : BitVec 8) : Prop :=
  rs485 n = true → (s.uart n).cur.isSome = true → (s.uart n).cur ≠ some (back.toNat % 2 ^ s.charBits n) → s.on (F.U_STAT_DE.i n) = true →
  (s.uart n).lineEnd ≤ 192 * s.angle.now → s.genOn (Page.U n) = false → s.loopOf (Page.U n) ≠ 1 → LogRoom 1 s →
    Completes (exec (.uartCharacterSent n back) s) fun t =>
      t.get (F.U_CNT2_COLL.i n) = min (2 ^ (F.U_CNT2_COLL.i n).width - 1) (s.get (F.U_CNT2_COLL.i n) + 1)
      ∧ t.getBit (F.IRQ_RAW.on (Page.U n)) 7 = true
      ∧ ((s.uart n).collRun = false → (t.held.any fun e => e.code == 0x0E03 && s.log.order ≤ e.order) = true)
      ∧ (s.on (F.U_RS485_CDSTOP.i n) = true → t.on (F.U_STAT_TXHOLD.i n) = true ∧ t.on (F.U_STAT_DE.i n) = false ∧ (t.uart n).txq = []
          ∧ (t.uart n).cur = none ∧ t.on (F.U_STAT_TXBUSY.i n) = false)
      ∧ (s.on (F.U_RS485_CDSTOP.i n) = false → t.on (F.U_STAT_TXHOLD.i n) = s.on (F.U_STAT_TXHOLD.i n) ∧ t.on (F.U_STAT_DE.i n) = true
          ∧ (t.uart n).collRun = true)
      ∧ uartFrame s t n

/-- R686: a break command: the break is sent once the queue is empty. -/
def uartBreak (s : State) (n : Fin 4) : Prop :=
  Completes (exec (.uartBreakCommand n) s) fun t =>
    ((s.uart n).cur = none → (s.uart n).brkNow = false → s.txMay n = true → s.genOn (Page.U n) = false → (s.uart n).txq = [] →
        (t.uart n).brkNow = true ∧ (t.uart n).brkDue = false ∧ t.on (F.U_STAT_TXBUSY.i n) = true)
    ∧ ((s.uart n).cur.isSome = true ∨ s.txMay n = false → t.uart n = { s.uart n with brkDue := true }) ∧ (t.uart n).rxq = (s.uart n).rxq ∧ uartFrame s t n

/-- R683, R686: a flush empties the receive queue, or the transmit queue; the other queue stays. -/
def uartFlush (s : State) (n : Fin 4) (tx : Bool) : Prop :=
  Completes (exec (if tx then .uartTxFlush n else .uartRxFlush n) s) fun t =>
    (t.uart n).rxq = (if tx then (s.uart n).rxq else []) ∧ (t.uart n).txq = (if tx then [] else (s.uart n).txq)
    ∧ (tx = false → t.get (F.U_QLEVEL_RX.i n) = 0) ∧ (tx = true → t.get (F.U_QLEVEL_TX.i n) = 0) ∧ uartFrame s t n

/-- R692: TXRESUME clears TXHOLD, and the transmitter goes on. -/
def uartTxResume (s : State) (n : Fin 4) : Prop :=
  Completes (exec (.uartTxResume n) s) fun t => t.on (F.U_STAT_TXHOLD.i n) = false ∧ (t.uart n).rxq = (s.uart n).rxq ∧ uartFrame s t n

/-- R679, R683: a read of RXDATA answers the oldest entry and removes it; EMPTY with the queue empty or a ring serving the direction. -/
def uartRxdataRead (s : State) (n : Fin 4) : Prop :=
  let none_ := s.on (F.U_RINGS_RXR.i n) || (s.uart n).rxq.isEmpty
  Completes (exec (.uartRxdataRead n) s) fun t =>
    t.bus = ⟨false, if none_ then 0x8000 else (s.uart n).rxq.headD 0 % 4096⟩
    ∧ (t.uart n).rxq = (if none_ then (s.uart n).rxq else (s.uart n).rxq.tail) ∧ uartFrame { s with bus := t.bus } t n

/-- R690: DEPOST after the last stop bit with nothing queued the RS-485 driver of U2 or U3 is disabled. -/
def rs485DriverOff (s : State) (n : Fin 4) : Prop :=
  rs485 n = true → s.on (F.U_STAT_DE.i n) = true → (s.uart n).txq = [] → (s.uart n).cur = none → (s.uart n).brkNow = false →
  s.genOn (Page.U n) = false → (s.uart n).lineEnd + s.get (F.U_RS485_DEPOST.i n) * s.get (F.U_BAUD_BRD.i n) ≤ 192 * s.angle.now →
    Completes (exec (.rs485DriverOff n) s) fun t =>
      t.on (F.U_STAT_DE.i n) = false ∧ WordsIn [(F.U_STAT_DE.i n).addr] s t ∧ t = { s with regs := t.regs, uarts := t.uarts }

/-- R692: a driver fault of an enabled RS-485 driver: the driver is off, TXHOLD, the transmit queue empty, counted, and event 0x0E04. Without an
enabled driver there is none. -/
def rs485DriverFault (s : State) (n : Fin 4) (thermal : Bool) : Prop :=
  (rs485 n = false ∨ s.on (F.U_STAT_DE.i n) = false → Completes (exec (.rs485DriverFault n thermal) s) fun t => t = s)
  ∧ (rs485 n = true → s.on (F.U_STAT_DE.i n) = true → LogRoom 1 s →
    Completes (exec (.rs485DriverFault n thermal) s) fun t =>
      t.on (F.U_STAT_DE.i n) = false ∧ t.on (F.U_STAT_TXHOLD.i n) = true ∧ (t.uart n).txq = [] ∧ (t.uart n).cur = none ∧ t.on (F.U_STAT_TXBUSY.i n) = false
      ∧ t.get (F.U_CNT2_DRVF.i n) = min (2 ^ (F.U_CNT2_DRVF.i n).width - 1) (s.get (F.U_CNT2_DRVF.i n) + 1)
      ∧ Logged (Page.U n) 0x0E04 (args [pageIndex (Page.U n), if thermal then 2 else 1]) s t ∧ uartFrame s t n)

/-- R688: STAT.CTS of U0 and U1 follows its input, and a transmitter that CTS held back sends its next character. -/
def ctsChange (s : State) (n : Fin 4) (ready : Bool) : Prop :=
  rs485 n = false →
    Completes (exec (.ctsChange n ready) s) fun t =>
      t.on (F.U_STAT_CTS.i n) = ready
      ∧ (ready = true → s.txMay n = true → (s.uart n).cur = none → (s.uart n).brkNow = false → s.genOn (Page.U n) = false →
          ((s.uart n).txq.head?.all fun c => decide ((t.uart n).cur = some c ∧ (t.uart n).txq = (s.uart n).txq.tail)) = true)
      ∧ (t.uart n).rxq = (s.uart n).rxq ∧ uartFrame s t n

/-! ### Two-wire buses (chapter 18, section 3) -/

/-- What a command of two-wire block `n` may change. -/
def twFrame (s t : State) (n : Fin 2) : Prop :=
  RegsIn (Page.TW n :: dmaPages) s t ∧ (∀ m, m ≠ n → t.tw m = s.tw m)
  ∧ t = { s with regs := t.regs, tws := t.tws, rings := t.rings, pats := t.pats, log := t.log }

/-- R696, R697: a transfer with GO written while the controller is enabled and idle: on a free bus it begins with its address, else it waits for
the bus. -/
def twXfer (s : State) (n : Fin 2) (v : Word) : Prop :=
  s.on (F.TW_XFER_GO.i n) = false → bit v.toNat 21 = true → ¬ (bit v.toNat 11 = true ∧ bits v.toNat 12 8 = 0) → s.twOn n = true →
  s.on (F.TW_CTL_CTLEN.i n) = true → (s.tw n).target = 0 → (s.tw n).phase = 0 → s.genOn (Page.TW n) = false →
    Completes (exec (.twXfer n v) s) fun t =>
      t.on (F.TW_XFER_GO.i n) = true ∧ t.get (F.TW_XFER_ADDR.i n) = bits v.toNat 0 10 ∧ t.get (F.TW_XFER_LEN.i n) = bits v.toNat 12 8
      ∧ (t.tw n).phase = (if (s.tw n).free then 2 else 1) ∧ (t.tw n).retries = 0
      ∧ ((s.tw n).free = true → t.on (F.TW_STAT_BUSY.i n) = true
          ∧ (t.tw n).cur :: (t.tw n).addrLeft = (addressBytes (bits v.toNat 0 10) (bit v.toNat 10) (bit v.toNat 11)))
      ∧ twFrame s t n

/-- R696: the bus has become free: BUSY reads 0, and a transfer that waits begins with its address. -/
def twBusFree (s : State) (n : Fin 2) : Prop :=
  s.twOn n = true →
    Completes (exec (.twBusFree n) s) fun t =>
      ((s.tw n).phase ≠ 1 → t.on (F.TW_STAT_BUSY.i n) = false ∧ t.tw n = { s.tw n with free := true })
      ∧ ((s.tw n).phase = 1 → t.on (F.TW_STAT_BUSY.i n) = true ∧ (t.tw n).phase = 2) ∧ twFrame s t n

/-- R697: a byte of a controller read enters the receive queue; before the last one of LEN the transfer goes on, and it holds the bus low while the
queue is full. -/
def twByteRead (s : State) (n : Fin 2) (data : BitVec 8) (ack : Bool) : Prop :=
  s.twOn n = true → s.twHold n = false → s.genOn (Page.TW n) = false → (s.tw n).phase = 3 → s.on (F.TW_XFER_READ.i n) = true →
  (s.tw n).count + 1 < s.get (F.TW_XFER_LEN.i n) →
    Completes (exec (.twByteComplete n data ack) s) fun t =>
      (t.tw n).rxq.length = (s.tw n).rxq.length + 1 ∧ ((t.tw n).rxq.getLast?.map fun e => e % 512) = some data.toNat
      ∧ (t.tw n).count = (s.tw n).count + 1 ∧ (t.tw n).phase = 3 ∧ t.twHold n = decide (32 ≤ (s.tw n).rxq.length + 1) ∧ twFrame s t n

/-- R697, R698: an address byte that no device acknowledges ends the transfer with RESULT 2, GO 0 and a STOP. -/
def twByteNack (s : State) (n : Fin 2) (data : BitVec 8) : Prop :=
  s.twOn n = true → s.twHold n = false → s.genOn (Page.TW n) = false → (s.tw n).phase = 2 →
    Completes (exec (.twByteComplete n data false) s) fun t =>
      t.get (F.TW_XRES_RESULT.i n) = 2 ∧ t.on (F.TW_XFER_GO.i n) = false ∧ (t.tw n).phase = 0 ∧ t.on (F.TW_STAT_BUSY.i n) = false
      ∧ t.getBit (F.IRQ_RAW.on (Page.TW n)) 0 = true ∧ twFrame s t n

/-- R697, R698: a byte of a controller write with its acknowledge: the last one, acknowledged or not, completes the transfer with RESULT 1 and the
STOP that XFER gives; before it, an acknowledged one is followed by the next byte of the queue, or holds SCL low for want of one, and one that is not
acknowledged ends the transfer with RESULT 3. -/
def twByteWrite (s : State) (n : Fin 2) (data : BitVec 8) (ack : Bool) : Prop :=
  let last := decide (s.get (F.TW_XFER_LEN.i n) ≤ (s.tw n).count + 1)
  s.twOn n = true → s.twHold n = false → s.genOn (Page.TW n) = false → (s.tw n).phase = 3 → s.on (F.TW_XFER_READ.i n) = false →
    Completes (exec (.twByteComplete n data ack) s) fun t =>
      ((last || !ack) = true → t.get (F.TW_XRES_RESULT.i n) = (if last then 1 else 3) ∧ t.on (F.TW_XFER_GO.i n) = false
        ∧ t.getBit (F.IRQ_RAW.on (Page.TW n)) 0 = true
        ∧ (t.tw n).phase = (if last && !s.on (F.TW_XFER_STOP.i n) then 4 else 0))
      ∧ ((last || !ack) = false → (t.tw n).count = (s.tw n).count + 1 ∧ (t.tw n).phase = 3 ∧ t.twHold n = (s.tw n).txq.isEmpty
          ∧ (t.tw n).txq = (s.tw n).txq.tail ∧ ((s.tw n).txq ≠ [] → (t.tw n).cur = (s.tw n).txq.headD 0))
      ∧ (t.tw n).rxq.length = (s.tw n).rxq.length ∧ twFrame s t n

/-- R699: a transfer that loses the arbitration is counted: with retries left it waits for the bus with its data bytes still to send, else it ends
with RESULT 4. -/
def twArbitrationLost (s : State) (n : Fin 2) (sampled : BitVec 8) : Prop :=
  (s.tw n).phase = 2 ∨ (s.tw n).phase = 3 → s.on (F.TW_CTL_TGTEN.i n) = false →
    Completes (exec (.twArbitrationLost n sampled) s) fun t =>
      t.get (F.TW_CNT_LOST.i n) = min (2 ^ (F.TW_CNT_LOST.i n).width - 1) (s.get (F.TW_CNT_LOST.i n) + 1)
      ∧ ((s.tw n).retries < s.get (F.TW_CFG_RETRY.i n) → (t.tw n).phase = 1 ∧ (t.tw n).retries = (s.tw n).retries + 1
          ∧ t.on (F.TW_XFER_GO.i n) = s.on (F.TW_XFER_GO.i n) ∧ (t.tw n).txq = (s.tw n).sent ++ (s.tw n).txq)
      ∧ (s.get (F.TW_CFG_RETRY.i n) ≤ (s.tw n).retries → t.get (F.TW_XRES_RESULT.i n) = 4 ∧ t.on (F.TW_XFER_GO.i n) = false ∧ (t.tw n).phase = 0)
      ∧ t.twHold n = false ∧ twFrame s t n

/-- R701: a START of another controller: BUSY, and while TGTEN is 1 the block receives the address. -/
def twStartDetected (s : State) (n : Fin 2) : Prop :=
  s.twOn n = true → (s.tw n).phase ∉ [2, 3, 4] →
    Completes (exec (.twStartDetected n) s) fun t =>
      t.on (F.TW_STAT_BUSY.i n) = true ∧ (t.tw n).target = b2n (s.on (F.TW_CTL_TGTEN.i n)) ∧ (t.tw n).free = false ∧ twFrame s t n

/-- R701: the 7-bit own address with the write bit: the block is the target of a write, TGTINFO shows the address, and TGTADDR is raised. -/
def twTargetAddress (s : State) (n : Fin 2) (data : BitVec 8) (ack : Bool) : Prop :=
  s.twOn n = true → s.twHold n = false → s.genOn (Page.TW n) = false → (s.tw n).phase = 0 → (s.tw n).target = 1 →
  s.on (F.TW_OWNADDR_TEN10.i n) = false → data ≠ 0 → bit data.toNat 0 = false → data.toNat / 2 = s.get (F.TW_OWNADDR_ADDR.i n) % 128 →
    Completes (exec (.twByteComplete n data ack) s) fun t =>
      (t.tw n).target = 3 ∧ t.get (F.TW_TGTINFO_ADDR.i n) = s.get (F.TW_OWNADDR_ADDR.i n) ∧ t.on (F.TW_TGTINFO_READ.i n) = false
      ∧ t.getBit (F.IRQ_RAW.on (Page.TW n)) 2 = true ∧ twFrame s t n

/-- R702: a byte of a target write enters the receive queue, the first after the address with START; with the queue full SCL is held low while STRETCH
is 1, else the byte is discarded and counted, with event 0x0E15 at the first one of a transfer. -/
def twTargetByte (s : State) (n : Fin 2) (data : BitVec 8) (ack : Bool) : Prop :=
  let room := decide ((s.tw n).rxq.length < 32)
  s.twOn n = true → s.twHold n = false → s.genOn (Page.TW n) = false → s.chkOn (Page.TW n) = false → (s.tw n).phase = 0 → (s.tw n).target = 3 →
  LogRoom 1 s →
    Completes (exec (.twByteComplete n data ack) s) fun t =>
      (room = true → ((t.tw n).rxq.getLast?.map fun e => e % 512) = some (data.toNat + 256 * b2n (s.tw n).fresh) ∧ (t.tw n).fresh = false
        ∧ (t.tw n).rxq.length = (s.tw n).rxq.length + 1)
      ∧ (room = false → (t.tw n).rxq = (s.tw n).rxq ∧ t.twHold n = s.on (F.TW_CFG_STRETCH.i n))
      ∧ (room = false → s.on (F.TW_CFG_STRETCH.i n) = true → (t.tw n).cur = data.toNat ∧ t.get (F.TW_CNT_DISC.i n) = s.get (F.TW_CNT_DISC.i n))
      ∧ (room = false → s.on (F.TW_CFG_STRETCH.i n) = false →
          t.get (F.TW_CNT_DISC.i n) = min (2 ^ (F.TW_CNT_DISC.i n).width - 1) (s.get (F.TW_CNT_DISC.i n) + 1)
          ∧ ((s.tw n).subRun = false → Logged (Page.TW n) 0x0E15 (args [pageIndex (Page.TW n), 0]) s t))
      ∧ (t.tw n).target = 3 ∧ twFrame s t n

/-- R702: a byte of a target read: acknowledged, the next one of the transmit queue is sent; with the queue empty SCL is held low while STRETCH is 1,
else 0xFF is sent and counted; not acknowledged, the sending ends. -/
def twTargetRead (s : State) (n : Fin 2) (data : BitVec 8) (ack : Bool) : Prop :=
  s.twOn n = true → s.twHold n = false → s.genOn (Page.TW n) = false → (s.tw n).phase = 0 → (s.tw n).target = 4 → LogRoom 1 s →
    Completes (exec (.twByteComplete n data ack) s) fun t =>
      (ack = false → (t.tw n).target = 5 ∧ (t.tw n).txq = (s.tw n).txq)
      ∧ (ack = true → (t.tw n).target = 4 ∧ (t.tw n).txq = (s.tw n).txq.tail
          ∧ t.twHold n = ((s.tw n).txq.isEmpty && s.on (F.TW_CFG_STRETCH.i n))
          ∧ ((s.tw n).txq ≠ [] → (t.tw n).cur = (s.tw n).txq.headD 0)
          ∧ ((s.tw n).txq = [] → s.on (F.TW_CFG_STRETCH.i n) = false → (t.tw n).cur = 0xFF
              ∧ t.get (F.TW_CNT_DISC.i n) = min (2 ^ (F.TW_CNT_DISC.i n).width - 1) (s.get (F.TW_CNT_DISC.i n) + 1)))
      ∧ (t.tw n).rxq = (s.tw n).rxq ∧ twFrame s t n

/-- R700: a loss within a 7-bit address that turns out to be the block's own: it becomes the target of the transfer, counted as a switch, with interrupt
7 and event 0x0E13, and its own transfer waits to be repeated. -/
def twSwitch (s : State) (n : Fin 2) (sampled : BitVec 8) : Prop :=
  (s.tw n).phase = 2 → s.on (F.TW_CTL_TGTEN.i n) = true → s.on (F.TW_XFER_TEN10.i n) = false → s.on (F.TW_OWNADDR_TEN10.i n) = false →
  sampled ≠ 0 → sampled.toNat / 2 = s.get (F.TW_OWNADDR_ADDR.i n) % 128 → (s.tw n).retries < s.get (F.TW_CFG_RETRY.i n) → LogRoom 3 s →
    Completes (exec (.twArbitrationLost n sampled) s) fun t =>
      (t.tw n).target = (if bit sampled.toNat 0 then 4 else 3) ∧ (t.tw n).phase = 1 ∧ (t.tw n).retries = (s.tw n).retries + 1
      ∧ t.get (F.TW_CNT_SWITCH.i n) = min (2 ^ (F.TW_CNT_SWITCH.i n).width - 1) (s.get (F.TW_CNT_SWITCH.i n) + 1)
      ∧ t.getBit (F.IRQ_RAW.on (Page.TW n)) 7 = true ∧ t.getBit (F.IRQ_RAW.on (Page.TW n)) 2 = true
      ∧ t.get (F.TW_TGTINFO_ADDR.i n) = s.get (F.TW_OWNADDR_ADDR.i n)
      ∧ (t.held.any fun e => e.code == 0x0E13 && s.log.order ≤ e.order) = true ∧ twFrame s t n

/-- R701, R706: a STOP or repeated START of another controller ends a target transfer, with TGTEND; after a STOP the bus is no longer busy. -/
def twStopDetected (s : State) (n : Fin 2) (stop : Bool) : Prop :=
  s.twOn n = true → (s.tw n).phase ∉ [2, 3, 4] →
    Completes (exec (.twStopDetected n stop) s) fun t =>
      t.on (F.TW_STAT_BUSY.i n) = !stop ∧ t.twHold n = false ∧ (t.tw n).target = (if stop then 0 else b2n (s.on (F.TW_CTL_TGTEN.i n)))
      ∧ (3 ≤ (s.tw n).target → t.getBit (F.IRQ_RAW.on (Page.TW n)) 3 = true) ∧ twFrame s t n

/-- R703, R704: a time-out, or a bus error, of a block that takes part in a transfer: it leaves the bus; its own transfer ends with RESULT 5, or
6. -/
def twGiveUp (s : State) (n : Fin 2) (busError : Bool) : Prop :=
  s.twOn n = true → s.twPart n = true → LogRoom 1 s →
    Completes (exec (if busError then .twBusError n else .twTimeout n) s) fun t =>
      t.on (F.TW_XFER_GO.i n) = false ∧ (s.on (F.TW_XFER_GO.i n) = true → t.get (F.TW_XRES_RESULT.i n) = if busError then 6 else 5)
      ∧ (t.tw n).phase = 0 ∧ (t.tw n).target = 0 ∧ t.twHold n = false
      ∧ (busError = false → t.get (F.TW_CNT_TOUTS.i n) = min (2 ^ (F.TW_CNT_TOUTS.i n).width - 1) (s.get (F.TW_CNT_TOUTS.i n) + 1))
      ∧ Logged (Page.TW n) (if busError then 0x0E14 else 0x0E11) (args [pageIndex (Page.TW n), s.twRole n]) s t ∧ twFrame s t n

/-- R705: a bus clear of 1 to 9 pulses, all 9 when SDA was not freed: RESULT 1 when it freed SDA, else 6, and event 0x0E12 with the number of pulses.
While a transfer of the block runs nothing happens. -/
def twBusClear (s : State) (n : Fin 2) (pulses : BitVec 4) (freed : Bool) : Prop :=
  (s.twOn n = false ∨ s.on (F.TW_XFER_GO.i n) = true → Completes (exec (.twBusClear n pulses freed) s) fun t => t = s)
  ∧ (s.twOn n = true → s.on (F.TW_XFER_GO.i n) = false → (s.tw n).target < 3 → LogRoom 1 s →
    Completes (exec (.twBusClear n pulses freed) s) fun t =>
      t.get (F.TW_XRES_RESULT.i n) = (if freed then 1 else 6) ∧ t.on (F.TW_STAT_SDA.i n) = freed
      ∧ Logged (Page.TW n) 0x0E12 (args [pageIndex (Page.TW n), if freed then max 1 (min 9 pulses.toNat) else 9, if freed then 1 else 6]) s t
      ∧ RegsIn [Page.TW n, Page.LDG] s t ∧ t = { s with regs := t.regs, log := t.log })

/-- R705: CMD.ABORT ends the controller transfer with RESULT 7. -/
def twAbort (s : State) (n : Fin 2) : Prop :=
  s.on (F.TW_XFER_GO.i n) = true →
    Completes (exec (.twAbort n) s) fun t =>
      t.on (F.TW_XFER_GO.i n) = false ∧ t.get (F.TW_XRES_RESULT.i n) = 7 ∧ (t.tw n).phase = 0 ∧ (t.tw n).target = (s.tw n).target ∧ twFrame s t n

/-- R719: CTL.EN cleared: the block leaves the bus, and its own transfer ends with RESULT 7. -/
def twDisable (s : State) (n : Fin 2) : Prop :=
  s.twOn n = true →
    Completes (exec (.twDisable n) s) fun t =>
      t.twOn n = false ∧ t.on (F.TW_STAT_BUSY.i n) = false ∧ t.on (F.TW_XFER_GO.i n) = false ∧ (t.tw n).phase = 0 ∧ (t.tw n).target = 0
      ∧ (s.on (F.TW_XFER_GO.i n) = true → t.get (F.TW_XRES_RESULT.i n) = 7) ∧ twFrame s t n

/-- R679, R706: a read of RXDATA answers the oldest byte with its START mark, and removes it; EMPTY with the queue empty or a ring serving the
direction. -/
def twRxdataRead (s : State) (n : Fin 2) : Prop :=
  let none_ := s.on (F.TW_RINGS_RXR.i n) || (s.tw n).rxq.isEmpty
  Completes (exec (.twRxdataRead n) s) fun t =>
    t.bus = ⟨false, if none_ then 0x8000 else (s.tw n).rxq.headD 0 % 512⟩
    ∧ (none_ = true → t = { s with bus := t.bus }) ∧ (none_ = false → s.twHold n = false → (t.tw n).rxq = (s.tw n).rxq.tail)
    ∧ twFrame { s with bus := t.bus } t n

/-- R679, R697: a byte written to TXDATA is queued; on a full queue of 32, while a ring serves the direction or a pattern generator runs it is
discarded and counted. -/
def twTxdataWrite (s : State) (n : Fin 2) (v : Word) : Prop :=
  let no := decide (32 ≤ (s.tw n).txq.length) || s.on (F.TW_RINGS_TXR.i n) || s.genOn (Page.TW n)
  Completes (exec (.twTxdataWrite n v) s) fun t =>
    (no = true → t.get (F.TW_CNT_DISC.i n) = min (2 ^ (F.TW_CNT_DISC.i n).width - 1) (s.get (F.TW_CNT_DISC.i n) + 1) ∧ t.tws = s.tws)
    ∧ (no = false → s.twHold n = false → (t.tw n).txq = (s.tw n).txq ++ [v.toNat % 256]) ∧ twFrame s t n

end Sys2Proof.Claims

/-- R679, R683 to R693: the UARTs.
Choices of the model it rests on: log entries 5, 86, 89. -/
def Obligations.Uarts : Prop :=
  (∀ s n d a b c, Claims.uartReceived s n d a b c) ∧ (∀ s n u, Claims.uartIdleGap s n u)
    ∧ (∀ s n b u, Claims.uartInstants s n b u) ∧ (∀ s n b, Claims.uartCollision s n b) ∧ (∀ s n v, Claims.uartTxdataWrite s n v)
    ∧ (∀ s n b, Claims.uartCharacterSent s n b) ∧ (∀ s n, Claims.uartBreak s n) ∧ (∀ s n b, Claims.uartFlush s n b) ∧ (∀ s n, Claims.uartTxResume s n)
    ∧ (∀ s n, Claims.uartRxdataRead s n) ∧ (∀ s n, Claims.rs485DriverOff s n) ∧ (∀ s n b, Claims.rs485DriverFault s n b)
    ∧ (∀ s n b, Claims.ctsChange s n b)

/-- R679, R696 to R699, R705, R719: the controller role of the two-wire blocks.
Choices of the model it rests on: log entries 86, 89, 90. -/
def Obligations.TwoWireController : Prop :=
  (∀ s n v, Claims.twXfer s n v) ∧ (∀ s n, Claims.twBusFree s n) ∧ (∀ s n d a, Claims.twByteRead s n d a) ∧ (∀ s n d, Claims.twByteNack s n d)
    ∧ (∀ s n d a, Claims.twByteWrite s n d a)
    ∧ (∀ s n d, Claims.twArbitrationLost s n d) ∧ (∀ s n p f, Claims.twBusClear s n p f) ∧ (∀ s n, Claims.twAbort s n) ∧ (∀ s n, Claims.twDisable s n)
    ∧ (∀ s n, Claims.twRxdataRead s n) ∧ (∀ s n v, Claims.twTxdataWrite s n v)

/-- R701, R703, R704, R706: the target role of the two-wire blocks, time-outs and bus errors.
Choices of the model it rests on: log entry 90. -/
def Obligations.TwoWireTarget : Prop :=
  (∀ s n, Claims.twStartDetected s n) ∧ (∀ s n d a, Claims.twTargetAddress s n d a) ∧ (∀ s n d a, Claims.twTargetByte s n d a)
    ∧ (∀ s n d a, Claims.twTargetRead s n d a) ∧ (∀ s n d, Claims.twSwitch s n d) ∧ (∀ s n b, Claims.twStopDetected s n b)
    ∧ (∀ s n b, Claims.twGiveUp s n b)

/-! ### The Ethernet port (chapter 18, section 4) -/

namespace Sys2Proof.Claims

/-- What a command of the Ethernet port may change: its page, the status bits of the ring registers, and LDG. -/
def ethFrame (s t : State) : Prop :=
  RegsIn (Page.ETH :: dmaPages) s t
  ∧ t = { s with regs := t.regs, ether := t.ether, rings := t.rings, mem := t.mem, sramTags := t.sramTags, pats := t.pats, log := t.log }

/-- R708, R709, R711: a frame that the filter accepts: counted as FCS or LENERR when its check sequence or its length is wrong; without a running
ring of port 7 it is dropped and counted as NODESC; each dropped one raises interrupt 1, and the first of a run event 0x0E22. -/
def ethReceived (s : State) (frame : List Byte) (fcsOk : Bool) (sfdUs : Word) : Prop :=
  let long := frame.length + 4 < 64 ∨ (if vlanTagged frame then 1522 else 1518) < frame.length + 4
  s.ethOn = true → s.on F.ETH_CTL_RXEN = true → s.on F.ETH_STAT_LINK = true → s.loopOf Page.ETH = 0 → s.chkOn Page.ETH = false →
  s.pauses frame fcsOk = false → s.ethAccepts (frameDest frame) = true → s.ringFor 7 = none → LogRoom 1 s →
    Completes (exec (.ethFrameReceived frame fcsOk sfdUs) s) fun t =>
      t.get F.ETH_CNT_FCS = (if fcsOk then s.get F.ETH_CNT_FCS else min (2 ^ F.ETH_CNT_FCS.width - 1) (s.get F.ETH_CNT_FCS + 1))
      ∧ t.get F.ETH_CNT_LENERR = (if fcsOk = true ∧ long then min (2 ^ F.ETH_CNT_LENERR.width - 1) (s.get F.ETH_CNT_LENERR + 1) else s.get F.ETH_CNT_LENERR)
      ∧ t.get F.ETH_CNT_NODESC
          = (if fcsOk = true ∧ ¬ long then min (2 ^ F.ETH_CNT_NODESC.width - 1) (s.get F.ETH_CNT_NODESC + 1) else s.get F.ETH_CNT_NODESC)
      ∧ (fcsOk = false ∨ long ∨ s.ringFor 7 = none → t.getBit (F.IRQ_RAW.on Page.ETH) 1 = true ∧ t.ether.dropRun = true
          ∧ (s.ether.dropRun = false → (t.held.any fun e => e.code == 0x0E22 && e.order == s.log.order) = true))
      ∧ t.mem = s.mem ∧ ethFrame s t

/-- R708: a frame that the address filter does not accept, and no PAUSE frame that is honoured, has no effect; nor has any while the receiver is not enabled. -/
def ethNotForUs (s : State) (frame : List Byte) (fcsOk : Bool) (sfdUs : Word) : Prop :=
  (s.ethOn && s.on F.ETH_CTL_RXEN && s.on F.ETH_STAT_LINK) = false ∨ (s.ethAccepts (frameDest frame) = false ∧ s.pauses frame fcsOk = false) →
    Completes (exec (.ethFrameReceived frame fcsOk sfdUs) s) fun t => t = s

/-- R707: a PAUSE frame in full duplex with PAUSEEN pauses the transmitter for its time, of 512 bit times a unit, and is counted; a time of 0 lets it
resume. -/
def ethPause (s : State) (frame : List Byte) (sfdUs : Word) : Prop :=
  let rate := if s.on F.ETH_STAT_SPEED100 then 100000 else 10000
  64 ≤ frame.length + 4 → frame.length + 4 ≤ 1518 → frameDest frame = 0x010000C28001 ∨ frameDest frame = s.getW F.ETH_ADDR_ADDR →
  s.ethOn = true → s.on F.ETH_CTL_RXEN = true → s.on F.ETH_STAT_LINK = true → s.loopOf Page.ETH = 0 → pauseFrame frame = true →
  s.on F.ETH_CTL_PAUSEEN = true → s.on F.ETH_STAT_FULL = true →
    Completes (exec (.ethFrameReceived frame true sfdUs) s) fun t =>
      t.on F.ETH_STAT_PAUSED = (pauseTime frame != 0) ∧ t.get F.ETH_CNT2_PAUSES = min (2 ^ F.ETH_CNT2_PAUSES.width - 1) (s.get F.ETH_CNT2_PAUSES + 1)
      ∧ pauseTime frame * 512 * 16384 ≤ rate * (t.ether.pausedTo - s.angle.now) ∧ rate * (t.ether.pausedTo - s.angle.now) < pauseTime frame * 512 * 16384 + rate
      ∧ WordsIn [F.ETH_STAT_PAUSED.addr, F.ETH_CNT2_PAUSES.addr] s t ∧ t = { s with regs := t.regs, ether := { s.ether with pausedTo := t.ether.pausedTo } }

/-- R710: a frame end with nothing taken for transmission, or while paused or disabled, changes nothing. -/
def ethSentIdle (s : State) (attempts : BitVec 5) (sent late : Bool) (sfdUs : Word) : Prop :=
  s.genOn Page.ETH = false → s.ethOn = false ∨ s.on F.ETH_CTL_TXEN = false ∨ s.on F.ETH_STAT_PAUSED = true ∨ s.txFrame 8 = none →
    Completes (exec (.ethFrameSent attempts sent late sfdUs) s) fun t => t = s

/-- R710, R711: the frame that a ring of port 8 has given is sent or discarded: its descriptor is done, with the time of its delimiter, or 0 when it was
not sent, and its attempts, DISC and late collision. In full duplex it is sent at the first attempt; in half duplex it is sent after at most 16, or
discarded after the sixteenth; with the link down it is discarded. A discarded frame is counted, with interrupt 2; each attempt but a successful one
counts as a collision. -/
def ethSent (s : State) (r : Fin 256) (k d : Nat) (attempts : BitVec 5) (sent late : Bool) (sfdUs : Word) : Prop :=
  let f := s.txFrame 8
  let full := s.on F.ETH_STAT_FULL
  let went := full || sent
  let tries := if full then 1 else if sent then max 1 (min 16 attempts.toNat) else 16
  s.ethOn = true → s.on F.ETH_CTL_TXEN = true → s.on F.ETH_STAT_PAUSED = false → s.genOn Page.ETH = false →
  f.isSome = true → f.map (·.1) = some r.val → (s.ring r).desc = some (k, d) → LogRoom 2 s →
    Completes (exec (.ethFrameSent attempts sent late sfdUs) s) fun t =>
      (s.on F.ETH_STAT_LINK = true → t.get F.ETH_CNT2_COLL
          = min (2 ^ F.ETH_CNT2_COLL.width - 1) (s.get F.ETH_CNT2_COLL + (if went then tries - 1 else tries)))
      ∧ (t.ring r).fin = (if s.on F.ETH_STAT_LINK then
          some (1, some (if went then sfdUs.toNat else 0), some (tries % 32 + 32 * b2n (!went) + 64 * b2n (late && !full)))
          else some (1, some 0, some 32))
      ∧ ((went && s.on F.ETH_STAT_LINK) = true → t.get F.ETH_CNT_TXDISC = s.get F.ETH_CNT_TXDISC ∧ t.ether.discRun = false)
      ∧ ((went && s.on F.ETH_STAT_LINK) = false → t.get F.ETH_CNT_TXDISC = min (2 ^ F.ETH_CNT_TXDISC.width - 1) (s.get F.ETH_CNT_TXDISC + 1)
          ∧ t.getBit (F.IRQ_RAW.on Page.ETH) 2 = true ∧ t.ether.discRun = true
          ∧ (s.ether.discRun = false → (t.held.any fun e => e.code == 0x0E23 && e.order == s.log.order) = true))
      ∧ ethFrame s t

/-- R711: the link comes up: LINK with the speed, duplex, auto-negotiation and crossing found, interrupt 0 and event 0x0E20. -/
def ethLinkUp (s : State) (speed100 full anDone mdix : Bool) : Prop :=
  s.ethOn = true → s.on F.ETH_STAT_LINK = false → LogRoom 1 s →
    Completes (exec (.ethLinkUp speed100 full anDone mdix) s) fun t =>
      t.on F.ETH_STAT_LINK = true ∧ t.on F.ETH_STAT_SPEED100 = speed100 ∧ t.on F.ETH_STAT_FULL = full ∧ t.on F.ETH_STAT_ANDONE = anDone
      ∧ t.on F.ETH_STAT_MDIX = mdix ∧ t.getBit (F.IRQ_RAW.on Page.ETH) 0 = true
      ∧ Logged Page.ETH 0x0E20 (args [pageIndex Page.ETH, b2n speed100, b2n full]) s t
      ∧ WordsIn (F.ETH_STAT_LINK.addr :: (F.IRQ_RAW.on Page.ETH).addr :: logWords Page.ETH) s t ∧ t = { s with regs := t.regs, log := t.log }

/-- R711: the link is lost: STAT reads 0, interrupt 0, and event 0x0E21, which is a fault of the page. -/
def ethLinkDown (s : State) : Prop :=
  s.on F.ETH_STAT_LINK = true → LogRoom 1 s →
    Completes (exec .ethLinkDown s) fun t =>
      t.word F.ETH_STAT_LINK.addr = 0 ∧ t.getBit (F.IRQ_RAW.on Page.ETH) 0 = true ∧ Logged Page.ETH 0x0E21 (args [pageIndex Page.ETH]) s t
      ∧ (s.get (F.FAULT_CODE.on Page.ETH) = 0 → t.get (F.FAULT_CODE.on Page.ETH) = 0x0E21)
      ∧ WordsIn (F.ETH_STAT_LINK.addr :: (F.IRQ_RAW.on Page.ETH).addr :: logWords Page.ETH) s t ∧ t = { s with regs := t.regs, log := t.log }

/-- R708: a write of the highest word of ETH.ADDR commits the address that the owner has staged while EN is 0, with event 0x0E24; while EN is 1 the
address stays. -/
def ethAddrWrite (s : State) (v : Word) : Prop :=
  let new := s.commitValue (s.ownerOf Page.ETH) F.ETH_ADDR_ADDR.addr 2 v.toNat % 2 ^ 48
  LogRoom 1 s →
    Completes (exec (.ethAddrWrite v) s) fun t =>
      t.getW F.ETH_ADDR_ADDR = (if s.on F.ETH_CTL_EN then s.getW F.ETH_ADDR_ADDR else new)
      ∧ (s.on F.ETH_CTL_EN = false → new ≠ s.getW F.ETH_ADDR_ADDR → Logged Page.ETH 0x0E24 (args [pageIndex Page.ETH, new]) s t)
      ∧ (∀ k < 2, t.staged (s.ownerOf Page.ETH) (F.ETH_ADDR_ADDR.addr + 4 * k) = none)
      ∧ WordsIn (F.ETH_ADDR_ADDR.addr :: (F.ETH_ADDR_ADDR.addr + 4) :: logWords Page.ETH) s t ∧ t = { s with regs := t.regs, stages := t.stages, log := t.log }

/-- R720: TXEN cleared: the transmitter is off; a frame in progress is cut and counted as discarded. -/
def ethTxDisable (s : State) : Prop :=
  Completes (exec .ethTxDisable s) fun t =>
    t.on F.ETH_CTL_TXEN = false ∧ ((s.put F.ETH_CTL_TXEN 0).txFrame 8 = none → t = s.put F.ETH_CTL_TXEN 0)
    ∧ (s.on F.ETH_CTL_EN = true → s.on F.ETH_CTL_TXEN = true → ((s.put F.ETH_CTL_TXEN 0).txFrame 8).isSome = true →
        t.get F.ETH_CNT_TXDISC = min (2 ^ F.ETH_CNT_TXDISC.width - 1) (s.get F.ETH_CNT_TXDISC + 1))
    ∧ ethFrame s t

/-- R707: the pause time has passed, to whose end the clock runs on: the transmitter goes on. Without a pause nothing happens. -/
def pauseExpiry (s : State) : Prop :=
  (s.on F.ETH_STAT_PAUSED = false → Completes (exec .pauseExpiry s) fun t => t = s)
  ∧ (s.on F.ETH_STAT_PAUSED = true → Completes (exec .pauseExpiry s) fun t =>
      let r := s.run (s.ether.pausedTo - s.angle.now)
      t.on F.ETH_STAT_PAUSED = false ∧ WordsIn [F.ETH_STAT_PAUSED.addr] r t ∧ t = { r with regs := t.regs })

/-! ### Update (chapter 19) -/

/-- What a command of the update engine may change, memories apart: UPD, ALM15 in ANG, and LDG; the bank-select record in the ledger. -/
def updFrame (s t : State) : Prop :=
  RegsIn [Page.UPD, Page.ANG, Page.LDG] s t
  ∧ t = { s with regs := t.regs, flash := t.flash, ledger := t.ledger, update := t.update, log := t.log, fresh := t.fresh }

/-- The active bank is as it was: no byte of the die outside the other bank and its settings changes. -/
def updBankFrame (s t : State) (b : Nat) (a : Nat) : Prop :=
  ¬ (bankBase b ≤ a ∧ a < bankBase b + 0xC000000) → ¬ (settingsBase b ≤ a ∧ a < settingsBase b + 0x1000000) → t.flashByte a = s.flashByte a

/-- R731: OPEN, WRITE, PREPARE, ACTIVATE and FWRITE written while a command runs are refused with RESULT 2, and nothing else changes. -/
def updBusy (s : State) (c : Fin 5) : Prop :=
  let i : Instr := [Instr.updOpen, .updWrite, .updPrepare, .updActivate, .updFwrite].getD c.val .updOpen
  s.on F.UPD_STAT_BUSY = true →
    Completes (exec i s) fun t =>
      t.get F.UPD_RES_RESULT = 2 ∧ t.get F.UPD_RES_OP = [1, 2, 3, 4, 6].getD c.val 1 ∧ WordsIn [F.UPD_RES_RESULT.addr] s t ∧ t = { s with regs := t.regs }

/-- R731 to R734, R751: OPEN on a manifest at SRC: refused outside IDLE (RESULT 3), while a bank is pending (14), and with the RESULT of the first check
that fails, which logs 0x0F02. A manifest that passes all checks clears CONF and COMPL of the other bank; the engine then prepares at once where that bank
was complete with the same manifest, and is else OPENING. The running bank keeps its bytes. -/
def updOpen (s : State) (m : List Byte) (a : Nat) : Prop :=
  let b := 1 - s.update.active
  let r := s.openCheck m false
  s.on F.UPD_STAT_BUSY = false → s.updSource s.updSrc (s.get F.UPD_LEN_N) false = some m → LogRoom 2 s →
    Completes (exec .updOpen s) fun t =>
      (s.updState ≠ 0 → t.get F.UPD_RES_RESULT = 3 ∧ t.updState = s.updState)
      ∧ (s.updState = 0 → s.on F.UPD_STAT_PENDING = true → t.get F.UPD_RES_RESULT = 14 ∧ t.updState = 0)
      ∧ (s.updState = 0 → s.on F.UPD_STAT_PENDING = false → r ≠ 1 → t.get F.UPD_RES_RESULT = r ∧ t.updState = 0
          ∧ Logged Page.UPD 0x0F02 r s t)
      ∧ (s.updState = 0 → s.on F.UPD_STAT_PENDING = false → r = 1 → t.on F.UPD_STAT_BUSY = true ∧ t.targetBank = b % 2
          ∧ t.get (confField b) = 0 ∧ t.get (complField b) = 0
          ∧ t.updState = (if s.bankDigest b = manDigest m ∧ s.on (complField b) = true then 3 else 1))
      ∧ (s.update.active ≤ 1 → updBankFrame s t b a) ∧ updFrame s t

/-- R732, R734: OPEN ends: with a flash error RESULT 12, event 0x0F17 and IDLE; else in STAGING, with event 0x0F01; with no part kept RESULT 1, and no
byte of the die changes. The running bank keeps its bytes, as the manifest was checked. While no OPEN is erasing nothing happens. -/
def openDone (s : State) (err : Option Word) (a : Nat) : Prop :=
  let m := s.bankManifest s.targetBank
  let kept := !(manParts m).all fun p => !p.keep
  (s.update.asked = 0 → s.update.op ≠ 1 ∨ s.updState ≠ 1 → Completes (exec (.openDone err) s) fun t => t = s)
  ∧ (s.update.op = 1 → s.updState = 1 → s.update.asked = 0 → LogRoom 2 s →
    Completes (exec (.openDone err) s) fun t =>
      t.get F.UPD_RES_OP = 1 ∧ t.on F.UPD_STAT_BUSY = false ∧ t.update.op = 0
      ∧ t.updState = (if err.isSome then 0 else 2) ∧ t.getBit (F.IRQ_RAW.on Page.UPD) 0 = true
      ∧ (err.isSome = true → t.get F.UPD_RES_RESULT = 12 ∧ Logged Page.UPD 0x0F17 (err.getD 0).toNat s t
          ∧ (a / 4096 ≠ (err.getD 0).toNat / 4096 → t.flashByte a = s.flashByte a))
      ∧ (err = none → kept = false → t.get F.UPD_RES_RESULT = 1 ∧ Logged Page.UPD 0x0F01 (args [s.targetBank, manSeq m]) s t ∧ t.flash = s.flash)
      ∧ (manifestOk m = true → updBankFrame s t s.targetBank a) ∧ updFrame s t)

/-- R731, R735: WRITE: refused outside STAGING (RESULT 3), and with RESULT 10 for a part that the manifest does not hold, for a length of 0 or above
65 536, for an offset other than BYTES, past the end of the part, and for an application image of whole lines only; else the bytes go to the part's
place in the target bank, BUSY until done. The running bank keeps its bytes. -/
def updWrite (s : State) (l : List Byte) (a : Nat) : Prop :=
  let i := s.get F.UPD_ARG_PART
  let ofs := s.get F.UPD_OFS
  let p? := (manParts (s.bankManifest s.targetBank))[i]?
  let good := p?.any fun p => decide (l.length ≠ 0) && decide (l.length ≤ 65536) && decide (ofs = s.get (F.UPD_PART_BYTES.i i)) && decide (ofs + l.length ≤ p.size)
    && (p.type != 3 || l.length % 16 == 0 || ofs + l.length == p.size)
  s.on F.UPD_STAT_BUSY = false → s.updSource s.updSrc (s.get F.UPD_LEN_N) true = some l →
    Completes (exec .updWrite s) fun t =>
      (s.updState ≠ 2 → t.get F.UPD_RES_RESULT = 3 ∧ t.flash = s.flash)
      ∧ (s.updState = 2 → good = false → t.get F.UPD_RES_RESULT = 10 ∧ t.flash = s.flash ∧ t.on F.UPD_STAT_BUSY = false)
      ∧ (s.updState = 2 → good = true → t.on F.UPD_STAT_BUSY = true ∧ t.update = { s.update with op := 2, part := i, ofs := ofs, len := l.length }
          ∧ (∀ p ∈ p?, p.type ≠ 3 → bankBase s.targetBank + p.target + ofs ≤ a → a < bankBase s.targetBank + p.target + ofs + l.length →
              t.flashByte a = l.getD (a - (bankBase s.targetBank + p.target + ofs)) 0)
          ∧ (∀ p ∈ p?, p.type ≠ 3 → ¬ (bankBase s.targetBank + p.target + ofs ≤ a ∧ a < bankBase s.targetBank + p.target + ofs + l.length) →
              t.flashByte a = s.flashByte a))
      ∧ updFrame s t

/-- R735: WRITE ends: with a flash error RESULT 12 and event 0x0F17, the bytes not counted and of no known content; else BYTES counts them, and a part that is not complete yet
answers RESULT 1. -/
def writeDone (s : State) (err : Option Word) (a : Nat) : Prop :=
  let i := s.update.part
  let dst := bankBase s.targetBank + ((manParts (s.bankManifest s.targetBank))[i]?.elim 0 (·.target)) + s.update.ofs
  s.update.op = 2 → s.updState = 2 → s.update.asked = 0 → i < 64 → s.update.ofs + s.update.len < 2 ^ 28 → LogRoom 2 s →
  ((manParts (s.bankManifest s.targetBank))[i]?.any fun p => p.size == s.update.ofs + s.update.len) = false →
    Completes (exec (.writeDone err) s) fun t =>
      t.get F.UPD_RES_RESULT = (if err.isSome then 12 else 1) ∧ t.get F.UPD_RES_OP = 2 ∧ t.on F.UPD_STAT_BUSY = false ∧ t.update.op = 0 ∧ t.updState = 2
      ∧ (err = none → t.get (F.UPD_PART_BYTES.i i) = s.update.ofs + s.update.len)
      ∧ (err.isSome = true → t.get (F.UPD_PART_BYTES.i i) = s.get (F.UPD_PART_BYTES.i i))
      ∧ (err.isSome = true → Logged Page.UPD 0x0F17 (err.getD 0).toNat s t) ∧ (err = none → t.flash = s.flash)
      ∧ (¬ (dst ≤ a ∧ a < dst + s.update.len) → t.flashByte a = s.flashByte a) ∧ updFrame s t

/-- R735: the WRITE that completes a part ends: with its digest right RESULT 1, the part verified and event 0x0F03; else RESULT 11, the part failed,
with no bytes received, and event 0x0F04, which is a fault of the page. -/
def writeComplete (s : State) (p : PartEntry) : Prop :=
  let i := s.update.part
  let ok := s.partDigestOk s.targetBank p
  s.update.op = 2 → s.updState = 2 → s.update.asked = 0 → (manParts (s.bankManifest s.targetBank))[i]? = some p → i < 64 →
  s.update.ofs + s.update.len = p.size → LogRoom 1 s →
    Completes (exec (.writeDone none) s) fun t =>
      t.get F.UPD_RES_RESULT = (if ok then 1 else 11) ∧ t.get F.UPD_RES_PART = i ∧ t.on F.UPD_STAT_BUSY = false ∧ t.update.op = 0 ∧ t.updState = 2
      ∧ t.get (F.UPD_PART_ST.i i) = (if ok then 2 else 3) ∧ t.get (F.UPD_PART_BYTES.i i) = (if ok then p.size else 0)
      ∧ Logged Page.UPD (if ok then 0x0F03 else 0x0F04) i s t
      ∧ (ok = false → s.get (F.FAULT_CODE.on Page.UPD) = 0 → t.get (F.FAULT_CODE.on Page.UPD) = 0x0F04) ∧ t.flash = s.flash ∧ updFrame s t

/-- R737: PREPARE in STAGING with every part verified: PREPARING with the settings blocked; else RESULT 3. -/
def updPrepare (s : State) : Prop :=
  let ok := decide (s.updState = 2) && (List.range (manParts (s.bankManifest s.targetBank)).length).all (fun i => s.get (F.UPD_PART_ST.i i) == 2)
  s.on F.UPD_STAT_BUSY = false →
    Completes (exec .updPrepare s) fun t =>
      (ok = true → t.updState = 3 ∧ t.on F.UPD_STAT_SETBLK = true ∧ t.on F.UPD_STAT_BUSY = true ∧ t.update.op = 3)
      ∧ (ok = false → t.get F.UPD_RES_RESULT = 3 ∧ t.updState = s.updState ∧ t.on F.UPD_STAT_BUSY = false)
      ∧ t.flash = s.flash ∧ updFrame s t

/-- R737: a preparation ends: with a flash error or a part that fails its digest or its tags RESULT 12, event 0x0F17 and IDLE; else PREPARED, the
recorded digest and COMPL of the target bank, and the settings of the running bank copied. -/
def prepareDone (s : State) (err : Option Word) (a : Nat) : Prop :=
  s.updState = 3 → s.update.asked = 0 → LogRoom 2 s → (s.isMaster || s.isAdmitted) = false →
    Completes (exec (.prepareDone err) s) fun t =>
      ((err.or s.badPart).isSome = true → t.get F.UPD_RES_RESULT = 12 ∧ t.updState = 0
          ∧ (err.all (fun o => a / 4096 != o.toNat / 4096) = true → t.flashByte a = s.flashByte a))
      ∧ ((err.or s.badPart).isSome = true → Logged Page.UPD 0x0F17 ((err.or s.badPart).getD 0).toNat s t)
      ∧ (err.or s.badPart = none → t.get F.UPD_RES_RESULT = 1 ∧ t.updState = 4 ∧ t.on (complField s.targetBank) = true
          ∧ t.bankDigest s.targetBank = manDigest (s.bankManifest s.targetBank)
          ∧ (storeWf flashDefault s.flash = true → a < 0x1000000 → t.flashByte (settingsBase s.targetBank + a) = s.flashByte (settingsBase s.update.active + a)))
      ∧ t.update.op = 0 ∧ t.on F.UPD_STAT_BUSY = false ∧ updFrame s t

/-- R740: ACTIVATE: refused outside PREPARED; with AMODE 1 armed by ALM15 for the cycle of ACTCYC, which must lie at least two cycles ahead
(RESULT 16); else the activation begins at once. -/
def updActivate (s : State) : Prop :=
  s.on F.UPD_STAT_BUSY = false → s.get F.SIG_STAT_SESS = 0 →
    Completes (exec .updActivate s) fun t =>
      (s.updState ≠ 4 → t.get F.UPD_RES_RESULT = 3 ∧ t.updState = s.updState)
      ∧ (s.updState = 4 → s.on F.UPD_ARG_AMODE = false → t.get F.UPD_RES_RESULT = 1 ∧ t.updState = 6)
      ∧ (s.updState = 4 → s.on F.UPD_ARG_AMODE = true → s.getW F.UPD_ACTCYC ≤ s.cycles + 1 → t.get F.UPD_RES_RESULT = 16 ∧ t.updState = 4)
      ∧ (s.updState = 4 → s.on F.UPD_ARG_AMODE = true → s.cycles + 1 < s.getW F.UPD_ACTCYC →
          t.get F.UPD_RES_RESULT = 1 ∧ t.updState = 5 ∧ t.getW (F.ANG_ALM_TARGET.i 15) = s.getW F.UPD_ACTCYC ∧ t.on (F.ANG_ALM_ARM.i 15) = true)
      ∧ t.flash = s.flash ∧ RegsIn [Page.UPD, Page.ANG, Page.LDG, Page.SAF, Page.SW 0, Page.SW 1] s t
      ∧ t = { s with regs := t.regs, update := t.update, safety := t.safety, log := t.log, fresh := t.fresh, session := { s.session with legalCond := t.session.legalCond } }

/-- R736: ABORT in any state from OPENING to ARMED, also while a command runs: IDLE, the staging discarded and event 0x0F06; else RESULT 3. -/
def updAbort (s : State) : Prop :=
  let ok := decide (1 ≤ s.updState ∧ s.updState ≤ 5)
  s.isMaster = false → LogRoom 1 s →
    Completes (exec .updAbort s) fun t =>
      t.get F.UPD_RES_RESULT = (if ok then 1 else 3) ∧ t.get F.UPD_RES_OP = 5 ∧ t.updState = (if ok then 0 else s.updState)
      ∧ t.on F.UPD_STAT_BUSY = false ∧ (ok = true → Logged Page.UPD 0x0F06 1 s t) ∧ (s.updState = 5 → t.on (F.ANG_ALM_ARM.i 15) = false)
      ∧ t.flash = s.flash ∧ updFrame s t

/-- R738, R754: FWRITE writes the 4 KiB at SRC into sector OFS of the flash data window; a sector of the settings is refused with RESULT 13 and event
0x0F16 while they are blocked. No other byte of the die changes. -/
def updFwrite (s : State) (a : Nat) : Prop :=
  let k := s.get F.UPD_OFS % 32768
  let dst := s.sectorAt k
  let l := s.bytes s.updSrc 4096
  s.on F.UPD_STAT_BUSY = false → k < 28672 → s.updSource s.updSrc 4096 false = some l → LogRoom 1 s →
    Completes (exec .updFwrite s) fun t =>
      (k < 4096 → s.on F.UPD_STAT_SETBLK = true → t.get F.UPD_RES_RESULT = 13 ∧ t.flash = s.flash ∧ Logged Page.UPD 0x0F16 k s t)
      ∧ (4096 ≤ k ∨ s.on F.UPD_STAT_SETBLK = false → t.on F.UPD_STAT_BUSY = true ∧ t.update.op = 6
          ∧ (dst ≤ a → a < dst + 4096 → t.flashByte a = l.getD (a - dst) 0))
      ∧ (¬ (dst ≤ a ∧ a < dst + 4096) → t.flashByte a = s.flashByte a) ∧ updFrame s t

/-- R754: FWRITE ends with RESULT 1, or with a flash error RESULT 12 and event 0x0F17. -/
def fwriteDone (s : State) (err : Option Word) (a : Nat) : Prop :=
  let dst := s.sectorAt s.update.ofs
  s.update.op = 6 → LogRoom 1 s →
    Completes (exec (.fwriteDone err) s) fun t =>
      t.get F.UPD_RES_RESULT = (if err.isSome then 12 else 1) ∧ t.get F.UPD_RES_OP = 6 ∧ t.on F.UPD_STAT_BUSY = false ∧ t.update.op = 0
      ∧ (err.isSome = true → Logged Page.UPD 0x0F17 (err.getD 0).toNat s t) ∧ (err = none → t.flash = s.flash)
      ∧ (¬ (dst ≤ a ∧ a < dst + 4096) → t.flashByte a = s.flashByte a) ∧ updFrame s t

/-- R746: from the cycle TARGET - 256 the master compares ARMMAP with REQMAP, once: with every required member armed only interrupt 4 is raised; else the
activation is aborted, with event 0x0F09. Before that cycle the clock runs on to the crossing that begins it. -/
def activationDecision (s : State) : Prop :=
  let req := s.get F.UPD_REQMAP
  let arm := s.get F.UPD_ARMMAP
  let due := (s.get F.CLU_ACTTX_TARGET + 2 ^ 32 - 256) % 2 ^ 32
  let ahead := (due + 2 ^ 32 - s.ccn) % 2 ^ 32
  ((s.isMaster && s.on F.CLU_ACTTX_SEND) = false ∨ (ahead = 0 ∧ s.cluster.decided = true) → Completes (exec .activationDecision s) fun t => t = s)
  ∧ (s.isMaster = true → s.on F.CLU_ACTTX_SEND = true → 0 < ahead → ahead < 2 ^ 31 → Completes (exec .activationDecision s) fun t =>
      t = if s.angleRuns then (s.toCycle (s.cycles + ahead)).decideActivation else s)
  ∧ (s.isMaster = true → s.on F.CLU_ACTTX_SEND = true → ahead = 0 ∨ 2 ^ 31 ≤ ahead → s.cluster.decided = false → LogRoom 2 s →
    Completes (exec .activationDecision s) fun t =>
      t.getBit (F.IRQ_RAW.on Page.UPD) 4 = true
      ∧ (req &&& arm = req → t.on F.CLU_ACTTX_ABORT = s.on F.CLU_ACTTX_ABORT ∧ t.updState = s.updState ∧ t.log = s.log)
      ∧ (req &&& arm ≠ req → t.on F.CLU_ACTTX_ABORT = true ∧ Logged Page.UPD 0x0F09 (args [req, arm]) s t
          ∧ (s.updState = 5 → s.update.cluster = true → s.update.armId = s.get F.CLU_ACTTX_ACTID → s.update.armTarget = s.get F.CLU_ACTTX_TARGET →
              t.updState = 4 ∧ t.on (F.ANG_ALM_ARM.i 15) = false))
      ∧ t.cluster = { s.cluster with decided := true }
      ∧ RegsIn [Page.UPD, Page.ANG, Page.LDG, Page.CLU] s t ∧ t = { s with regs := t.regs, update := t.update, cluster := t.cluster, log := t.log })

/-- R746: at the target cycle, to which the clock runs on, the master clears ACTTX.SEND. -/
def activationTarget (s : State) : Prop :=
  let ahead := (s.get F.CLU_ACTTX_TARGET + 2 ^ 32 - s.ccn) % 2 ^ 32
  ((s.isMaster && s.on F.CLU_ACTTX_SEND) = false → Completes (exec .activationTargetCycle s) fun t => t = s)
  ∧ (s.isMaster = true → s.on F.CLU_ACTTX_SEND = true → ahead = 0 ∨ 2 ^ 31 ≤ ahead → Completes (exec .activationTargetCycle s) fun t =>
      t.on F.CLU_ACTTX_SEND = false ∧ WordsIn [F.CLU_ACTTX_SEND.addr] s t ∧ t = { s with regs := t.regs })
  ∧ (s.isMaster = true → s.on F.CLU_ACTTX_SEND = true → 0 < ahead → ahead < 2 ^ 31 → Completes (exec .activationTargetCycle s) fun t =>
      let r := s.toCycle (s.cycles + ahead)
      t = if s.angleRuns then (if r.isMaster then r.put F.CLU_ACTTX_SEND 0 else r) else s)

/-- R728, R748: a confirmation while a bank is pending and the start is good: PENDING 0, CONF of the active bank, the record committed, interrupt 3 and
counted event 0x0F11; else RESULT 17. -/
def pendingConfirm (s : State) : Prop :=
  let ok := s.on F.UPD_STAT_PENDING && s.on F.BOOT_STAT_START_OK
  s.boot.pfail = false → LogRoom 1 s →
    Completes (exec .pendingConfirm s) fun t =>
      (ok = true → t.on F.UPD_STAT_PENDING = false ∧ t.on (confField s.update.active) = true ∧ t.getBit (F.IRQ_RAW.on Page.UPD) 3 = true
          ∧ Logged Page.UPD 0x0F11 s.update.active s t ∧ (∀ k < 7, s.get (F.UPD_FLOOR.i k) ≤ t.get (F.UPD_FLOOR.i k)))
      ∧ (ok = false → t.get F.UPD_RES_RESULT = 17 ∧ t.get F.UPD_RES_OP = 7 ∧ t.ledger = s.ledger)
      ∧ t.flash = s.flash ∧ updFrame s t

/-- R748: every 60 s of powered time go off the confirmation window of a pending bank and the record is committed; before their end the clock runs on to
it. Without a pending bank, or a running legal domain, nothing happens. -/
def windowTick (s : State) (z : ColdCheck) : Prop :=
  let due := s.update.windowAt + 60 * 16384000
  (s.windowOpen = false → Completes (exec (.confirmationWindowTick z) s) fun t => t = s)
  ∧ (s.windowOpen = true → s.angle.now < due → Completes (exec (.confirmationWindowTick z) s) fun t =>
      let r := s.run (due - s.angle.now)
      t = if r.windowOpen then r.windowTick z else r)
  ∧ (s.boot.legalRuns = true → s.boot.pfail = false → s.on F.UPD_STAT_PENDING = true → due ≤ s.angle.now → 60 < s.get F.UPD_PEND_SLEFT →
    Completes (exec (.confirmationWindowTick z) s) fun t =>
      t.get F.UPD_PEND_SLEFT = s.get F.UPD_PEND_SLEFT - 60 ∧ t.on F.UPD_STAT_PENDING = true ∧ t.update.windowAt = due ∧ WordsIn [F.UPD_PEND_SLEFT.addr] s t
      ∧ t = { s with regs := t.regs, ledger := t.ledger, update := { s.update with windowAt := due } })

/-- The generation numbers of both copies of the bank-select record have not reached their last value. -/
def genRoom (s : State) : Prop := s.copyGen 0x10 8 + 1 < 2 ^ 64 ∧ s.copyGen 0x18 8 + 1 < 2 ^ 64

/-- R750: a revert without a pending bank is refused with RESULT 17. -/
def pendingRevertRefused (s : State) (z : ColdCheck) : Prop :=
  s.boot.pfail = false → s.on F.UPD_STAT_PENDING = false →
    Completes (exec (.pendingRevert z) s) fun t =>
      t.get F.UPD_RES_RESULT = 17 ∧ t.get F.UPD_RES_OP = 8 ∧ WordsIn [F.UPD_RES_RESULT.addr] s t ∧ t = { s with regs := t.regs }

/-- R750: a revert makes the previous bank active, where its manifest signature verifies at S0, with PENDING 0, and a cold start follows: the application is in reset and the island's outputs are
off. -/
def pendingRevert (s : State) (z : ColdCheck) : Prop :=
  s.boot.pfail = false → s.on F.UPD_STAT_PENDING = true → s.update.active ≤ 1 → genRoom s →
    Completes (exec (.pendingRevert z) s) fun t =>
      (s.bankSigned (1 - s.update.active) = true → t.update.active = 1 - s.update.active) ∧ t.on F.UPD_STAT_PENDING = false ∧ t.boot.appRuns = false ∧ t.pending = s.pending ∧ t.flash = s.flash

/-- R741: the flip waits for an open session; then ACTIVE selects the target bank, from which the cold start runs where its manifest signature
verifies at S0, and the engine is idle. -/
def bankFlip (s : State) (z : ColdCheck) : Prop :=
  genRoom s →
    Completes (exec (.bankFlip z) s) fun t =>
      (s.updState ≠ 6 ∨ s.get F.SIG_STAT_SESS ≠ 0 ∨ s.boot.pfail = true → t = s)
      ∧ (s.updState = 6 → s.get F.SIG_STAT_SESS = 0 → s.boot.pfail = false → (s.bankSigned s.targetBank = true → t.update.active = s.targetBank) ∧ t.updState = 0 ∧ t.boot.appRuns = false ∧ t.flash = s.flash ∧ t.pending = s.pending)

end Sys2Proof.Claims

/-- R707 to R711, R720: the Ethernet port.
Choices of the model it rests on: log entries 5, 91. -/
def Obligations.EthernetPort : Prop :=
  (∀ s f c v, Claims.ethReceived s f c v) ∧ (∀ s f c v, Claims.ethNotForUs s f c v) ∧ (∀ s f v, Claims.ethPause s f v)
    ∧ (∀ s a b l v, Claims.ethSentIdle s a b l v) ∧ (∀ s r k d a b l v, Claims.ethSent s r k d a b l v) ∧ (∀ s a b c d, Claims.ethLinkUp s a b c d)
    ∧ (∀ s, Claims.ethLinkDown s) ∧ (∀ s v, Claims.ethAddrWrite s v) ∧ (∀ s, Claims.ethTxDisable s) ∧ (∀ s, Claims.pauseExpiry s)

/-- R731 to R738, R754: the commands of the update engine.
Choices of the model it rests on: log entries 92, 94. -/
def Obligations.UpdateEngine : Prop :=
  (∀ s c, Claims.updBusy s c) ∧ (∀ s m a, Claims.updOpen s m a) ∧ (∀ s e a, Claims.openDone s e a) ∧ (∀ s l a, Claims.updWrite s l a)
    ∧ (∀ s e a, Claims.writeDone s e a) ∧ (∀ s p, Claims.writeComplete s p) ∧ (∀ s, Claims.updPrepare s) ∧ (∀ s e a, Claims.prepareDone s e a) ∧ (∀ s, Claims.updAbort s)
    ∧ (∀ s a, Claims.updFwrite s a) ∧ (∀ s e a, Claims.fwriteDone s e a)

/-- R740, R741, R746, R748, R750: activation, the flip, and what follows it.
Choices of the model it rests on: log entries 5, 93. -/
def Obligations.Activation : Prop :=
  (∀ s, Claims.updActivate s) ∧ (∀ s, Claims.activationDecision s) ∧ (∀ s, Claims.activationTarget s) ∧ (∀ s, Claims.pendingConfirm s)
    ∧ (∀ s z, Claims.windowTick s z) ∧ (∀ s z, Claims.pendingRevertRefused s z)

/-- R741, R750: the flip of an activation and a revert make another bank active, through a cold start.
Choices of the model it rests on: log entries 36, 41. -/
def Obligations.BankSwitches : Prop := (∀ s z, Claims.pendingRevert s z) ∧ (∀ s z, Claims.bankFlip s z)

/-! ### The Llyn link: frames a member receives (chapter 13) -/

namespace Sys2Proof.Claims

/-- The link is enabled and the angle clock is locked, so that a frame counts (R490); `master`: this module holds the role. -/
def listening (s : State) (master : Bool) : Prop := s.on F.CLU_CTL_EN = true ∧ s.locked = true ∧ s.isMaster = master

/-- What a command of the link may change, the rings apart. -/
def cluFrame (s t : State) : Prop :=
  RegsIn [Page.CLU, Page.UPD, Page.PWA, Page.ANG, Page.LDG] s t
  ∧ t = { s with regs := t.regs, cluster := t.cluster, alloc := t.alloc, update := t.update, log := t.log }

/-- R490: while the link is not enabled a frame has no effect; while the angle clock is not locked it only counts as misplaced. -/
def linkOff (s : State) (f : LlynFrame) (c : Fin 15) (b : Bool) : Prop :=
  let i : Instr := [Instr.pollReceived f, .grantReceived f, .admitReceived f, .beaconReceived f, .timeReceived f, .activateReceived f, .bulkgrantReceived f,
    .claimReceived f, .bulkReceived f b, .statusReceived f, .joinReceived f, .leaveReceived f, .bulkreqReceived f, .bulkackReceived f,
    .badFrame 1].getD c.val (.badFrame 1)
  (s.on F.CLU_CTL_EN = false → Completes (exec i s) fun t => t = s)
  ∧ (s.on F.CLU_CTL_EN = true → s.locked = false →
    Completes (exec i s) fun t =>
      t.get F.CLU_CNT_MISPL = min (2 ^ F.CLU_CNT_MISPL.width - 1) (s.get F.CLU_CNT_MISPL + 1) ∧ WordsIn [F.CLU_CNT_MISPL.addr] s t ∧ t = { s with regs := t.regs })

/-- R489, R502, R504, R505: a POLL gives the cluster cycle number; to the own address it ends an admission, clears DUP and is answered by JOIN in
state 2. -/
def pollReceived (s : State) (f : LlynFrame) : Prop :=
  listening s false → toMember f = true →
    Completes (exec (.pollReceived f) s) fun t =>
      t.ccn = f.pay.toNat % 2 ^ 32 ∧ t.on F.CLU_STAT_CCNOK = true ∧ t.cluster.lost = false ∧ t.get F.CLU_LINKQ_LEVEL = f.level.toNat
      ∧ t.get F.CLU_LINKQ_SNR = f.snr.toNat
      ∧ (f.dst.toNat = s.ownAddr → t.lstate = 2 ∧ t.cluster.answer = some (0xA, f.seq.toNat) ∧ t.on F.CLU_STAT_DUP = false ∧ t.cluster.held = none)
      ∧ (f.dst.toNat ≠ s.ownAddr → t.cluster.answer = s.cluster.answer ∧ t.on F.CLU_STAT_DUP = s.on F.CLU_STAT_DUP)
      ∧ cluFrame s t

/-- R502, R506, R515: a GRANT to this admitted module is held for its EFF cycle and shown in GRANTRX; STATUS answers it, or LEAVE where it is
requested. -/
def grantReceived (s : State) (f : LlynFrame) : Prop :=
  listening s false → toMember f = true → f.dst.toNat = s.ownAddr → s.on F.CLU_STAT_DUP = false → s.isAdmitted = true → s.on F.CLU_STAT_CCNOK = true →
  s.bulkWaiting = none →
    Completes (exec (.grantReceived f) s) fun t =>
      let at_ := s.cycles + ((grantEff f.pay.toNat + 8192 - s.ccn % 8192 - 1) % 8192 + 1)
      t.cluster.held = some (f.pay.toNat, at_) ∧ t.getW F.CLU_GRANTRX_PAY = f.pay.toNat ∧ t.getW F.CLU_GRANTRX_CYC = at_ % 2 ^ F.CLU_GRANTRX_CYC.width
      ∧ t.get F.CLU_GRANTRX_SEQ = f.seq.toNat ∧ t.getBit (F.IRQ_RAW.on Page.CLU) 1 = true
      ∧ t.cluster.answer = some (if s.on F.CLU_CTL_LEAVE then 0xB else 9, f.seq.toNat) ∧ t.cluster.granted = s.cluster.granted
      ∧ t.get F.PWA_ALLOW_ALLOW = s.get F.PWA_ALLOW_ALLOW ∧ cluFrame s t

/-- R502, R504: an ADMIT to this joining module with its own EKEY admits it: state 3, event 0x0901, and STATUS answers; with another EKEY the address
is a duplicate: DUP, event 0x0905, and nothing is answered. -/
def admitReceived (s : State) (f : LlynFrame) : Prop :=
  let key := f.pay.toNat % 2 ^ 32
  listening s false → toMember f = true → f.dst.toNat = s.ownAddr → s.on F.CLU_ACTRX_VALID = false → LogRoom 2 s →
    Completes (exec (.admitReceived f) s) fun t =>
      (key ≠ s.ownKey → t.on F.CLU_STAT_DUP = true ∧ t.cluster.answer = none ∧ Logged Page.CLU 0x0905 key s t)
      ∧ (key = s.ownKey → s.lstate = 2 → s.on F.CLU_STAT_DUP = false →
          t.isAdmitted = true ∧ t.cluster.answer = some (9, f.seq.toNat) ∧ t.cluster.granted = none ∧ Logged Page.CLU 0x0901 s.ownAddr s t)
      ∧ cluFrame s t

/-- R489, R508, R511, R512: a BEACON gives a member the cluster cycle number and ends a loss of the master; a candidate that waits or claims stops. A
master acts on it in its listen cycle only: it keeps its role before a worse PRIO, else it gives it up, with event 0x0907. -/
def beaconReceived (s : State) (f : LlynFrame) : Prop :=
  s.on F.CLU_CTL_EN = true → s.locked = true → toAll f = true → LogRoom 2 s →
    Completes (exec (.beaconReceived f) s) fun t =>
      (s.isMaster = false → t.ccn = f.pay.toNat % 2 ^ 32 ∧ t.on F.CLU_STAT_CCNOK = true ∧ t.cluster.lost = false
          ∧ t.lstate = (if [1, 4, 5].contains s.lstate then 7 else s.lstate)
          ∧ (s.cluster.lost = true → Logged Page.CLU 0x0904 (bits f.pay.toNat 32 4) s t))
      ∧ (s.isMaster = true → s.listens = true → bits f.pay.toNat 32 4 ≤ s.get F.CLU_CFG_PRIO →
          t.isMaster = false ∧ t.on F.PWA_STAT_MASTER = false ∧ Logged Page.CLU 0x0907 (bits f.pay.toNat 32 4) s t)
      ∧ (s.isMaster = true → s.listens = false ∨ s.get F.CLU_CFG_PRIO < bits f.pay.toNat 32 4 → t.isMaster = true ∧ t.cluster = s.cluster)
      ∧ cluFrame s t

/-- R516: TIME gives CLU.TIMERX the UTC nearest to RTC.UTC with its low 32 bits, and the cycle; interrupt 2 and event 0x090F. RTC.UTC itself stays. -/
def timeReceived (s : State) (f : LlynFrame) : Prop :=
  listening s false → toAll f = true → LogRoom 2 s →
    Completes (exec (.timeReceived f) s) fun t =>
      let v := extendUtc (f.pay.toNat % 2 ^ 32) s.utc
      t.getW F.CLU_TIMERX_UTC = v % 2 ^ 64 ∧ t.getW F.CLU_TIMERX_CYC = s.cycles ∧ t.utc = s.utc ∧ t.getBit (F.IRQ_RAW.on Page.CLU) 2 = true
      ∧ Logged Page.CLU 0x090F v s t ∧ cluFrame s t

/-- R517, R747: ACTIVATE is kept in ACTRX, with interrupt 3 and event 0x0910 at a new one; an ABORT disarms the activation it names. -/
def activateReceived (s : State) (f : LlynFrame) : Prop :=
  let target := f.pay.toNat % 2 ^ 32
  let id := bits f.pay.toNat 32 3
  listening s false → toAll f = true → LogRoom 3 s →
    Completes (exec (.activateReceived f) s) fun t =>
      t.on F.CLU_ACTRX_VALID = true ∧ t.get F.CLU_ACTRX_TARGET = target ∧ t.get F.CLU_ACTRX_ACTID = id
      ∧ t.on F.CLU_ACTRX_ABORT = bit f.pay.toNat 35
      ∧ (s.on F.CLU_ACTRX_VALID = false → t.getBit (F.IRQ_RAW.on Page.CLU) 3 = true ∧ Logged Page.CLU 0x0910 (args [id, bits f.pay.toNat 35 1, target]) s t)
      ∧ (bit f.pay.toNat 35 = true → s.updState = 5 → s.update.cluster = true → s.update.armId = id → s.update.armTarget = target → t.updState = 4)
      ∧ cluFrame s t

/-- R513: BULKGRANT opens a transfer of NCYC cycles; a receiver shows it in STAT.BULK. An NCYC of 0 is reserved and opens none. -/
def bulkgrantReceived (s : State) (f : LlynFrame) : Prop :=
  let g : BulkGrant := ⟨bits f.pay.toNat 30 6, bits f.pay.toNat 24 6, bits f.pay.toNat 20 4, bits f.pay.toNat 16 4, s.ccn, 0⟩
  listening s false → toAll f = true → s.cluster.mine = none →
    Completes (exec (.bulkgrantReceived f) s) fun t => (bits f.pay.toNat 20 4 = 0 → t.cluster.grant = s.cluster.grant) ∧ cluFrame s t
      ∧ (bits f.pay.toNat 20 4 ≠ 0 → (t.cluster.grant.map fun h => (h.sender, h.receiver, h.ncyc, h.tid, h.ccn)) = some (g.sender, g.receiver, g.ncyc, g.tid, g.ccn)
      ∧ t.cluster.won = false ∧ t.cluster.rxMap = 0
      ∧ t.on F.CLU_STAT_BULK = (s.on F.CLU_STAT_BULK || (s.bulkMine g.receiver && g.sender != s.ownAddr)))

/-- R509: a CLAIM that a candidate hears while it claims ends its own claim; while it waits, the wait will end without one. -/
def claimReceived (s : State) (f : LlynFrame) : Prop :=
  s.on F.CLU_CTL_EN = true → s.locked = true → toAll f = true →
    Completes (exec (.claimReceived f) s) fun t =>
      t.lstate = (if s.lstate = 5 then 1 else s.lstate) ∧ t.cluster = { s.cluster with heard := true }
      ∧ RegsIn [Page.CLU] s t ∧ t = { s with regs := t.regs, cluster := t.cluster }

/-- R513, R514: a BULK frame of the transfer in progress, at its position, puts its four bytes into the block and its bit into MAP. -/
def bulkReceived (s : State) (f : LlynFrame) (g : BulkGrant) (pos i : Nat) : Prop :=
  s.on F.CLU_CTL_EN = true → s.locked = true → (f.dst = 63 ∨ memberAddr f.dst.toNat = true) →
  s.bulkCycle = some (g, pos / 2 + 1) → s.bulkMine g.receiver = true → s.bulkMine f.dst.toNat = true → g.sender ≠ s.ownAddr →
  f.src.toNat = g.sender → bits f.pay.toNat 32 4 = g.tid → f.seq.toNat = pos % 16 → pos ≤ 28 → s.cluster.rx.length = 116 →
    Completes (exec (.bulkReceived f (pos % 2 == 1)) s) fun t =>
      (t.cluster.rx.drop (4 * pos)).take 4 = toBytes 4 (f.pay.toNat % 2 ^ 32) ∧ bit t.cluster.rxMap pos = true ∧ t.cluster.rx.length = 116
      ∧ (i / 4 ≠ pos → t.cluster.rx.getD i 0 = s.cluster.rx.getD i 0) ∧ (i ≠ pos → bit t.cluster.rxMap i = bit s.cluster.rxMap i)
      ∧ WordsIn [F.CLU_LINKQ_LEVEL.addr, F.CLU_LINKQ_SNR.addr] s t ∧ t = { s with regs := t.regs, cluster := t.cluster }

/-- R495, R522: a frame that fails its CRC, or with a reserved TYPE, is counted, with event 0x090E at the seventeenth of a round; a search without a
SYNC has no effect, and a frame outside its slot only counts as misplaced. -/
def badFrame (s : State) (cause : BitVec 2) : Prop :=
  s.on F.CLU_CTL_EN = true → s.locked = true → LogRoom 1 s →
    Completes (exec (.badFrame cause) s) fun t =>
      (cause = 3 → t = s)
      ∧ (cause = 0 → t.get F.CLU_CNT_MISPL = min (2 ^ F.CLU_CNT_MISPL.width - 1) (s.get F.CLU_CNT_MISPL + 1) ∧ t.cluster = s.cluster)
      ∧ (cause = 1 ∨ cause = 2 → t.get F.CLU_CNT_CRC = min (2 ^ F.CLU_CNT_CRC.width - 1) (s.get F.CLU_CNT_CRC + 1)
          ∧ t.cluster = { s.cluster with crcRound := s.cluster.crcRound + 1 }
          ∧ (s.cluster.crcRound = 16 → Logged Page.CLU 0x090E 17 s t ∧ t.getBit (F.IRQ_RAW.on Page.CLU) 6 = true))
      ∧ RegsIn [Page.CLU, Page.LDG] s t ∧ t = { s with regs := t.regs, cluster := t.cluster, log := t.log }

/-! ### The master's side of the link -/

/-- R503: STATUS, JOIN, LEAVE and BULKREQ that do not answer the frame of slot A have no effect but on the link quality; a master counts those of
slot B in UNANS. -/
def unansweredFrame (s : State) (f : LlynFrame) (c : Fin 4) : Prop :=
  let i : Instr := [Instr.statusReceived f, .joinReceived f, .leaveReceived f, .bulkreqReceived f].getD c.val (.statusReceived f)
  s.on F.CLU_CTL_EN = true → s.locked = true → toMaster f = true →
  s.isMaster = false ∨ s.cluster.inB = false ∨ s.cluster.awaits ≠ some (f.src.toNat, f.seq.toNat) →
    Completes (exec i s) fun t =>
      t.get F.CLU_CNT_UNANS = (if s.isMaster && s.cluster.inB then min (2 ^ F.CLU_CNT_UNANS.width - 1) (s.get F.CLU_CNT_UNANS + 1) else s.get F.CLU_CNT_UNANS)
      ∧ WordsIn [F.CLU_CNT_UNANS.addr, F.CLU_LINKQ_LEVEL.addr, F.CLU_LINKQ_SNR.addr] s t ∧ t = { s with regs := t.regs }

/-- R503, R504, R540, R541, R745: the STATUS that answers the master is recorded for the allocation, with its ARMED bit; from a joining address it
completes the admission, with event 0x0908. -/
def statusReceived (s : State) (f : LlynFrame) : Prop :=
  let k := f.src.toNat
  let joining := s.on (F.CLU_MEM_JOINING.i (k - 1))
  listening s true → s.cluster.inB = true → toMaster f = true → s.cluster.awaits = some (k, f.seq.toNat) →
  joining = true ∨ s.on (F.CLU_MEM_ADMITTED.i (k - 1)) = true →
  LogRoom 2 s → s.alloc.mem.length = 32 →
    Completes (exec (.statusReceived f) s) fun t =>
      t.on (F.CLU_MEM_ADMITTED.i (k - 1)) = true ∧ t.get (F.CLU_MEM_MISSES.i (k - 1)) = 0 ∧ t.cluster = { s.cluster with answered := true }
      ∧ t.get (F.PWA_MEM_DEMAND.i (k - 1)) = bits f.pay.toNat 19 14 ∧ t.get (F.PWA_MEM_DRAW.i (k - 1)) = bits f.pay.toNat 2 14
      ∧ t.get (F.PWA_MEM_CLASS.i (k - 1)) = bits f.pay.toNat 16 3 ∧ t.get (F.PWA_MEM_PHMASK.i (k - 1)) = bits f.pay.toNat 33 3
      ∧ t.getBit F.UPD_ARMMAP (k - 1) = bit f.pay.toNat 1
      ∧ (joining = true → t.on (F.CLU_MEM_JOINING.i (k - 1)) = false ∧ t.getBit F.CLU_MEMBERS (k - 1) = true
          ∧ (t.amem k).k = max (s.rosterFb k) (bits f.pay.toNat 2 14) ∧ Logged Page.CLU 0x0908 (args [k, s.get (F.CLU_MEM_EKEY.i (k - 1))]) s t)
      ∧ (joining = false → t.on (F.PWA_MEM_ANSWERED.i (k - 1)) = true ∧ (t.amem k).a = (s.amem k).g)
      ∧ (∀ j < 32, j ≠ k - 1 → t.amem (j + 1) = s.amem (j + 1)) ∧ cluFrame s t

/-- R504, R507: a JOIN from a vacant address records it as joining with its EKEY; from an admitted one with the recorded EKEY it joins again; with
another EKEY nothing is recorded, and the frame stays unanswered. -/
def joinReceived (s : State) (f : LlynFrame) : Prop :=
  let k := f.src.toNat
  let key := f.pay.toNat % 2 ^ 32
  let known := s.get (F.CLU_MEM_EKEY.i (k - 1))
  let vacant := !s.on (F.CLU_MEM_ADMITTED.i (k - 1)) && !s.on (F.CLU_MEM_JOINING.i (k - 1))
  listening s true → s.cluster.inB = true → toMaster f = true → s.cluster.awaits = some (k, f.seq.toNat) →
    Completes (exec (.joinReceived f) s) fun t =>
      (vacant = true ∨ key = known → t.get (F.CLU_MEM_EKEY.i (k - 1)) = key ∧ t.on (F.CLU_MEM_JOINING.i (k - 1)) = true
          ∧ t.on (F.CLU_MEM_ADMITTED.i (k - 1)) = false ∧ t.cluster = { s.cluster with answered := true })
      ∧ (vacant = false → key ≠ known → t.cluster = s.cluster ∧ t.get (F.CLU_MEM_EKEY.i (k - 1)) = known)
      ∧ RegsIn [Page.CLU] s t ∧ t = { s with regs := t.regs, cluster := t.cluster }

/-- R506: LEAVE of an admitted address with its EKEY makes the address vacant at once, with event 0x0909. -/
def leaveReceived (s : State) (f : LlynFrame) : Prop :=
  let k := f.src.toNat
  listening s true → s.cluster.inB = true → toMaster f = true → s.cluster.awaits = some (k, f.seq.toNat) → s.on (F.CLU_MEM_ADMITTED.i (k - 1)) = true →
  f.pay.toNat % 2 ^ 32 = s.get (F.CLU_MEM_EKEY.i (k - 1)) → LogRoom 1 s →
    Completes (exec (.leaveReceived f) s) fun t =>
      t.on (F.CLU_MEM_ADMITTED.i (k - 1)) = false ∧ t.on (F.CLU_MEM_JOINING.i (k - 1)) = false ∧ t.get (F.CLU_MEM_EKEY.i (k - 1)) = 0
      ∧ t.getBit F.CLU_MEMBERS (k - 1) = false ∧ t.getBit F.UPD_ARMMAP (k - 1) = false ∧ t.getBit (F.IRQ_RAW.on Page.CLU) 5 = true
      ∧ Logged Page.CLU 0x0909 (args [k, 2]) s t ∧ cluFrame s t

/-- R513: a BULKREQ of an admitted address with a LEN of 1 to 29 waits at the master; a later one of the same address replaces it. -/
def bulkreqReceived (s : State) (f : LlynFrame) : Prop :=
  let k := f.src.toNat
  let len := bits f.pay.toNat 24 5
  listening s true → s.cluster.inB = true → toMaster f = true → s.cluster.awaits = some (k, f.seq.toNat) →
  s.on (F.CLU_MEM_ADMITTED.i (k - 1)) = true → 1 ≤ len → len ≤ 29 →
    Completes (exec (.bulkreqReceived f) s) fun t =>
      t.cluster.requests = s.cluster.requests.filter (fun r => r.from_ != k) ++ [⟨k, bits f.pay.toNat 30 6, len, bits f.pay.toNat 20 4, s.cycles⟩]
      ∧ t.cluster.answered = true ∧ t.get (F.CLU_MEM_MISSES.i (k - 1)) = 0 ∧ t.on (F.PWA_MEM_ANSWERED.i (k - 1)) = true ∧ cluFrame s t

/-- R513: the BULKACK of the transfer's last cycle: the master, where it is not the sender, reports the transfer in BULKST and BULKMAP: DONE and event
0x090B when the MAP is full, else FAIL and event 0x090C. Outside a transfer it counts as unanswered. -/
def bulkackReceived (s : State) (f : LlynFrame) (g : BulkGrant) : Prop :=
  let map := f.pay.toNat % 2 ^ 31
  let full := map % 2 ^ g.len == 2 ^ g.len - 1
  s.on F.CLU_CTL_EN = true → s.locked = true → (memberAddr f.dst.toNat && memberAddr f.src.toNat) = true → s.bulkCycle = some (g, g.ncyc) →
  f.dst.toNat = g.sender → f.src.toNat = g.receiver → bits f.pay.toNat 32 4 = g.tid → s.cluster.acked = false → s.cluster.won = false → LogRoom 1 s →
    Completes (exec (.bulkackReceived f) s) fun t =>
      (s.isMaster = true → t.get F.CLU_BULKMAP_MAP = map % 2 ^ F.CLU_BULKMAP_MAP.width ∧ t.on F.CLU_BULKST_DONE = full ∧ t.on F.CLU_BULKST_FAIL = !full
          ∧ Logged Page.CLU (if full then 0x090B else 0x090C) (args [g.tid, map]) s t)
      ∧ (s.isMaster = false → t.log = s.log ∧ t.get F.CLU_BULKMAP_MAP = s.get F.CLU_BULKMAP_MAP)
      ∧ t.cluster = { s.cluster with acked := true } ∧ cluFrame s t

/-! ### Roles of the link -/

/-- R505, R508, R509: once 96 cycles have passed without a good master frame, the loss of the master is counted, with event 0x0903, and ends an
admission: a candidate waits, any other module has no master. Before, or with the link off, in a master, or once it is lost, nothing changes. -/
def lossOfMaster (s : State) : Prop :=
  let lost := s.on F.CLU_CTL_EN = true ∧ s.lstate ∈ [1, 2, 3, 7] ∧ s.cluster.lost = false ∧ s.cluster.masterAt + 96 ≤ s.cycles
  LogRoom 2 s →
    Completes (exec .lossOfMaster s) fun t =>
      (¬ lost → t = s) ∧ (lost → t.cluster.waitFrom = s.cycles ∧ t.lstate = (if s.get F.CLU_CFG_ROLE = 2 then 4 else 1) ∧ t.cluster.lost = true ∧ t.cluster.held = none ∧ t.cluster.granted = none
      ∧ t.get F.CLU_CNT_LOSSES = min (2 ^ F.CLU_CNT_LOSSES.width - 1) (s.get F.CLU_CNT_LOSSES + 1)
        ∧ Logged Page.CLU 0x0903 s.cluster.lastCcn s t) ∧ cluFrame s t

/-- R509: a candidate that has waited PRIO × 32 + (EKEY mod 32) cycles claims when a cycle with index 0 has come, unless it heard a master or a CLAIM
meanwhile. -/
def electionWaitEnd (s : State) : Prop :=
  let ended := s.lstate = 4 ∧ s.cluster.waitFrom + s.get F.CLU_CFG_PRIO * 32 + s.ownKey % 32 ≤ s.cycles
    ∧ (if s.on F.CLU_STAT_CCNOK then s.ccn else s.cycles) % 32 = 0
  Completes (exec .electionWaitEnd s) fun t =>
    (ended → (t.lstate = if s.cluster.heard then 1 else 5) ∧ (s.cluster.heard = false → t.cluster.claimFrom = s.cycles)) ∧ (¬ ended → t = s)
    ∧ WordsIn [F.CLU_STAT_LSTATE.addr, (F.IRQ_RAW.on Page.CLU).addr] s t ∧ t = { s with regs := t.regs, cluster := t.cluster }

/-- R509, R510: a candidate whose claim stands through its round of 32 cycles becomes the master: every address vacant, no MEMBERS, the allocation begins anew, and
event 0x0906. -/
def claimRoundEnd (s : State) (k : Nat) : Prop :=
  let ended := s.lstate = 5 ∧ s.cluster.claimFrom + 32 ≤ s.cycles
  LogRoom 2 s → 1 ≤ s.ownAddr → s.ownAddr ≤ 32 →
    Completes (exec .claimRoundEnd s) fun t =>
      (¬ ended → t = s) ∧ cluFrame s t ∧ (ended → t.isMaster = true ∧ t.on F.CLU_STAT_CCNOK = true ∧ t.get F.CLU_MEMBERS = 0 ∧ t.on F.PWA_STAT_MASTER = true ∧ t.cluster.requests = []
      ∧ (k < 32 → t.on (F.CLU_MEM_ADMITTED.i k) = false ∧ t.on (F.CLU_MEM_JOINING.i k) = false ∧ t.get (F.CLU_MEM_SEQ.i k) = 0)
      ∧ (s.on F.CLU_STAT_CCNOK = true → t.ccn = s.ccn) ∧ (s.on F.CLU_STAT_CCNOK = false → t.ccn = s.cycles % 2 ^ 32)
      ∧ Logged Page.CLU 0x0906 t.ccn s t)

/-- R511: a master that has not transmitted for 96 cycles gives up the role, with event 0x0907; one that has, keeps it. -/
def masterSilence (s : State) (k : Nat) : Prop :=
  let silent := s.isMaster = true ∧ s.cluster.sentAt + 96 ≤ s.cycles
  LogRoom 1 s →
    Completes (exec .masterSilence s) fun t =>
      (¬ silent → t = s) ∧ cluFrame s t ∧ (silent → t.lstate = 1 ∧ t.get F.CLU_MEMBERS = 0 ∧ t.on F.PWA_STAT_MASTER = false ∧ (k < 32 → t.on (F.CLU_MEM_ADMITTED.i k) = false)
      ∧ Logged Page.CLU 0x0907 0xFF s t)

/-- R504, R505: EN written 1 turns an idle link on, without admission; written 0 it stops the link in every role. DUP clears. -/
def linkEnable (s : State) (en : Bool) : Prop :=
  LogRoom 1 s →
    Completes (exec (.linkEnable en) s) fun t =>
      t.on F.CLU_CTL_EN = en ∧ t.on F.CLU_STAT_DUP = false ∧ t.isAdmitted = false
      ∧ (en = false → t.lstate = 0 ∧ t.on F.CLU_STAT_BULK = false ∧ t.cluster = {}) ∧ (en = true → s.lstate = 0 → t.lstate = 1)
      ∧ (s.isAdmitted = true → Logged Page.CLU 0x0902 4 s t) ∧ cluFrame s t

/-- R506: LEAVE is noted for the next GRANT while the link is enabled. -/
def leaveRequest (s : State) : Prop :=
  Completes (exec .leaveRequest s) fun t =>
    (s.on F.CLU_CTL_EN = true → t.on F.CLU_CTL_LEAVE = true) ∧ (s.on F.CLU_CTL_EN = false → t = s) ∧ t.lstate = s.lstate
    ∧ WordsIn [F.CLU_CTL_LEAVE.addr] s t ∧ t = { s with regs := t.regs }

/-- R516: TIME is due at the master; elsewhere the command has no effect. -/
def timeCommand (s : State) : Prop :=
  Completes (exec .timeCommand s) fun t =>
    t = if s.isMaster then { s with cluster := { s.cluster with timeDue := true } } else s

/-- R517: word 1 of ACTTX commits the activation that the application has staged, at the master; elsewhere only the staged words are given up. -/
def acttxCommit (s : State) (v : Word) : Prop :=
  let w := s.commitValue .app F.CLU_ACTTX_TARGET.addr 2 v.toNat
  Completes (exec (.acttxCommit v) s) fun t =>
    (s.isMaster = true → t.get F.CLU_ACTTX_TARGET = w % 2 ^ 32 ∧ t.get F.CLU_ACTTX_ACTID = bits w 32 3 ∧ t.on F.CLU_ACTTX_ABORT = bit w 35
        ∧ t.on F.CLU_ACTTX_SEND = bit w 36)
    ∧ (s.isMaster = false → t.regs = s.regs ∧ t.cluster = s.cluster) ∧ t.staged .app F.CLU_ACTTX_TARGET.addr = none
    ∧ WordsIn [F.CLU_ACTTX_TARGET.addr, F.CLU_ACTTX_TARGET.addr + 4] s t ∧ t = { s with regs := t.regs, stages := t.stages, cluster := t.cluster }

/-- R514: a bulk request that is not granted within 4 poll rounds is dropped, with FAIL and event 0x090C; a younger one waits on. A master also drops
the requests of members that it has held so long. -/
def bulkreqTimeout (s : State) (b : BulkReq) : Prop :=
  let keep := s.cluster.requests.filter fun r => !decide (r.at_ + 128 ≤ s.cycles)
  s.cluster.mine = some b → s.cluster.won = false → s.txFrame 5 = none → LogRoom (s.cluster.requests.length + 1) s →
    Completes (exec .bulkreqTimeout s) fun t =>
      t.cluster.requests = keep ∧ (s.cycles < b.at_ + 128 → t.cluster = { s.cluster with requests := keep })
      ∧ (b.at_ + 128 ≤ s.cycles → t.on F.CLU_BULKST_FAIL = true ∧ t.on F.CLU_BULKST_DONE = false ∧ t.get F.CLU_BULKMAP_MAP = 0
      ∧ t.cluster = { s.cluster with requests := keep, mine := none, won := false }
      ∧ t.getBit (F.IRQ_RAW.on Page.CLU) 4 = true ∧ Logged Page.CLU 0x090C (args [b.tid, 0]) s t) ∧ cluFrame s t

/-! ### Slots -/

/-- R487: a slot begins 1.5 ms after the angle clock passes 0x0000 or 0x8000; the clock runs on to that tick first. While the clock is held there is
no slot. The end of slot B is 7.0 ms after its start. -/
def slotTimes (s : State) (rx : BitVec 96) (b : Bool) (t c : Nat) : Prop :=
  let i : Instr := if b then .slotBStart rx else .slotAStart rx
  (s.slotTick b = some t → Completes (exec i s) fun u =>
      u = (if b then (s.run (t - s.angle.now)).slotB rx else (s.run (t - s.angle.now)).slotA rx))
  ∧ (s.angleRuns = false → Completes (exec i s) fun u => u = s)
  ∧ (s.angleRuns = true → s.angle.carry = some c → s.angle.now < c + 24576 → s.cluster.slotAt ≠ some (c + 24576) → s.slotTick false = some (c + 24576))
  ∧ (s.slotTick b = some t → s.angle.now ≤ t)
  ∧ (s.cluster.inB = true → s.cluster.slotAt = some t → Completes (exec .slotBEnd s) fun u => u = (s.run (t + 114688 - s.angle.now)).slotBEnd)

/-- Slot A (`b` false) or B of state `s` begins now. -/
def slotNow (s : State) (b : Bool) : Prop := s.slotTick b = some s.angle.now

/-- Slot B of state `s` ends now. -/
def slotEndsNow (s : State) : Prop := s.cluster.inB = true ∧ s.cluster.slotAt.any (fun t => decide (t + 114688 ≤ s.angle.now)) = true

/-- R487, R499: slot A of a master that sends no broadcast and no bulk frame: a POLL to a vacant address, an ADMIT to a joining one, a GRANT to an
admitted one; its answer is awaited in slot B. -/
def slotPoll (s : State) (rx : BitVec 96) : Prop :=
  let k := s.ccn % 32 + 1
  let adm := s.on (F.CLU_MEM_ADMITTED.i (k - 1))
  let join := s.on (F.CLU_MEM_JOINING.i (k - 1))
  slotNow s false → s.on F.CLU_CTL_EN = true → s.isMaster = true → s.on F.CLU_STAT_TXOK = true → k ≠ s.ownAddr → s.cluster.requests = [] → s.cluster.grant = none →
  s.bulkWaiting = none →
    Completes (exec (.slotAStart rx) s) fun t =>
      t.cluster.tx = some (llynBits k 0 (if adm then 1 else if join then 2 else 0) (t.get (F.CLU_MEM_SEQ.i (k - 1)))
          (if adm then s.grantPayload k (s.ccn / 32) else 2 ^ 32 + (if join then s.get (F.CLU_MEM_EKEY.i (k - 1)) else s.ccn)))
        ∧ t.cluster.awaits = some (k, t.get (F.CLU_MEM_SEQ.i (k - 1))) ∧ t.cluster.slotCcn = s.ccn
        ∧ cluFrame s t

/-- R509: in its claim round a candidate transmits a CLAIM in the slots that its EKEY names, with PRIO and EKEY. -/
def slotClaim (s : State) (rx : BitVec 96) : Prop :=
  let idx := (if s.on F.CLU_STAT_CCNOK then s.ccn else s.cycles) % 32
  slotNow s false → s.on F.CLU_CTL_EN = true → s.lstate = 5 → s.on F.CLU_STAT_TXOK = true →
    Completes (exec (.slotAStart rx) s) fun t =>
      t.cluster.tx = (if bit s.ownKey idx then some (llynBits 63 0 7 0 (s.get F.CLU_CFG_PRIO * 2 ^ 32 + s.ownKey)) else none)
      ∧ t.cluster.slotCcn = s.ccn ∧ t = { s with cluster := t.cluster }

/-- R502, R531: slot B of a member carries the answer due: for a GRANT or an ADMIT its STATUS, and MDRAW shows the DRAW sent; without one nothing is
sent. -/
def slotAnswer (s : State) (rx : BitVec 96) (q : BitVec 4) : Prop :=
  slotNow s true → s.on F.CLU_CTL_EN = true → s.on F.CLU_STAT_TXOK = true → s.cluster.grant = none →
    (s.cluster.answer = some (9, q.toNat) →
      Completes (exec (.slotBStart rx) s) fun t =>
        t.cluster.tx = some (llynBits 0 s.ownAddr 9 q.toNat s.statusPayload) ∧ t.cluster.answer = none ∧ t.get F.PWA_MDRAW_DRAW = s.drawNow
        ∧ WordsIn [F.PWA_MDRAW_DRAW.addr] s t ∧ t = { s with regs := t.regs, cluster := t.cluster })
    ∧ (s.cluster.answer = none → Completes (exec (.slotBStart rx) s) fun t => t = { s with cluster := { s.cluster with tx := none, slotAt := some s.angle.now, inB := true } })

/-- R487: a slot of a link that is not enabled transmits nothing, unless a pattern generator runs. -/
def slotSilent (s : State) (rx : BitVec 96) (b : Bool) : Prop :=
  slotNow s b → s.on F.CLU_CTL_EN = false → s.genOn Page.CLU = false →
    Completes (exec (if b then .slotBStart rx else .slotAStart rx) s) fun t => t.cluster.tx = none ∧ t = { s with regs := t.regs, cluster := t.cluster, pats := t.pats, log := t.log }

/-- R503: a missing answer of an admitted or joining address is counted; the third in succession removes the address, with event 0x0909, and its
commitment is held. -/
def slotMissed (s : State) (k seq : Nat) : Prop :=
  let n := s.get (F.CLU_MEM_MISSES.i (k - 1)) + 1
  slotEndsNow s → s.on F.CLU_CTL_EN = true → s.isMaster = true → s.cluster.awaits = some (k, seq) → 1 ≤ k → k ≤ 32 → s.cluster.answered = false →
  (s.on (F.CLU_MEM_ADMITTED.i (k - 1)) || s.on (F.CLU_MEM_JOINING.i (k - 1))) = true → s.cluster.grant = none → s.cluster.slotCcn % 32 ≠ 31 →
  s.alloc.mem.length = 32 → n < 2 ^ (F.CLU_MEM_MISSES.i (k - 1)).width → LogRoom 1 s →
    Completes (exec .slotBEnd s) fun t =>
      t.get F.CLU_CNT_UNANS = min (2 ^ F.CLU_CNT_UNANS.width - 1) (s.get F.CLU_CNT_UNANS + 1)
      ∧ (n < 3 → t.get (F.CLU_MEM_MISSES.i (k - 1)) = n ∧ t.on (F.CLU_MEM_ADMITTED.i (k - 1)) = s.on (F.CLU_MEM_ADMITTED.i (k - 1)))
      ∧ (3 ≤ n → t.on (F.CLU_MEM_ADMITTED.i (k - 1)) = false ∧ t.on (F.CLU_MEM_JOINING.i (k - 1)) = false ∧ t.getBit F.CLU_MEMBERS (k - 1) = false
          ∧ (t.amem k).k = (s.amem k).k ∧ (t.amem k).hold = some (s.cluster.slotCcn / 32 + 4 + s.get F.PWA_ALLOCCFG_SETTLE)
          ∧ Logged Page.CLU 0x0909 (args [k, 1]) s t)
      ∧ t.cluster.awaits = none ∧ cluFrame s t

/-! ### Power allocation (chapter 14) -/

/-- R515, R535: at its EFF cycle the held GRANT takes effect: ALLOW, OUTCOME, REASON and PHMASK are those of its payload. -/
def grantApply (s : State) (pay at_ : Nat) : Prop :=
  s.cluster.held = some (pay, at_) → at_ ≤ s.cycles → (s.isAdmitted || s.isMaster) = true → s.on F.CLU_CTL_EN = true → s.on F.CLU_STAT_DUP = false →
    Completes (exec .grantApply s) fun t =>
      t.get F.PWA_ALLOW_ALLOW = grantCurrent pay ∧ t.get F.PWA_ALLOW_OUTCOME = grantOutcome pay ∧ t.get F.PWA_ALLOW_REASON = grantReason pay
      ∧ t.get F.PWA_ALLOW_PHMASK = grantMask pay ∧ t.cluster = { s.cluster with held := none, granted := some pay }
      ∧ t.getBit (F.IRQ_RAW.on Page.CLU) 1 = true
      ∧ (grantCurrent pay ≠ s.get F.PWA_ALLOW_ALLOW → t.getW F.PWA_ALLOWCYC = s.cycles ∧ t.getBit (F.IRQ_RAW.on Page.PWA) 0 = true) ∧ cluFrame s t

/-- R515, R535: before its EFF cycle the clock runs on to the crossing that begins it, where the GRANT takes effect; ALLOW changes at a positive zero
crossing only, to which the clock runs on. While the clock is held no crossing comes. -/
def crossings (s : State) (pay at_ : Nat) : Prop :=
  (s.cluster.held = some (pay, at_) → s.cycles < at_ →
    Completes (exec .grantApply s) fun t => t = if s.angleRuns then (s.toCycle at_).applyGrant else s)
  ∧ (s.cluster.held = none → Completes (exec .grantApply s) fun t => t = s)
  ∧ (s.atCrossing = false → Completes (exec .allowanceUpdate s) fun t => t = if s.angleRuns then (s.toCycle (s.cycles + 1)).updateAllowance else s)

/-- R534, R535: at a crossing: without the link, or with no master, the allowance is the fallback of MCFG, REASON 9; while the module joins, or with a duplicate address,
it is the smaller of the fallback and the allowance before, REASON 10. -/
def allowanceUpdate (s : State) : Prop :=
  let alone := s.on F.CLU_CTL_EN = false ∨ s.lstate ∈ [1, 4, 5]
  s.atCrossing = true → Completes (exec .allowanceUpdate s) fun t =>
    (alone → t.get F.PWA_ALLOW_ALLOW = s.get F.PWA_MCFG_FALLBACK ∧ t.get F.PWA_ALLOW_REASON = 9 ∧ t.on F.PWA_STAT_FALLBACK = true)
    ∧ (¬ alone → s.lstate ∉ [3, 6] ∨ s.on F.CLU_STAT_DUP = true →
        t.get F.PWA_ALLOW_ALLOW = min (s.get F.PWA_ALLOW_ALLOW) (s.get F.PWA_MCFG_FALLBACK) ∧ t.get F.PWA_ALLOW_REASON = 10 ∧ t.on F.PWA_STAT_FALLBACK = false)
    ∧ (t.get F.PWA_ALLOW_ALLOW ≠ s.get F.PWA_ALLOW_ALLOW → t.getW F.PWA_ALLOWCYC = s.cycles)
    ∧ RegsIn [Page.PWA, Page.LDG] s t ∧ t = { s with regs := t.regs, log := t.log }

/-- R540, R543, R546, R547: at the end of every round the master allocates: ROUND shows it and interrupt 2 is raised; an admitted address without demand
is granted 0 with OUTCOME 0, and a refused one 0 with OUTCOME 3 and the reason of its refusal, among them CLASS 0 with reason 8. -/
def allocationRound (s : State) (k : Nat) : Prop :=
  slotEndsNow s → s.on F.CLU_CTL_EN = true → s.isMaster = true → s.cluster.awaits = none → s.cluster.grant = none → s.cluster.slotCcn % 32 = 31 →
  s.alloc.mem.length = 32 → 1 ≤ k → k ≤ 32 → k ≠ s.ownAddr → s.memAdmitted k = true →
    Completes (exec .slotBEnd s) fun t =>
      t.get F.PWA_ROUND_N = s.cluster.slotCcn / 32 % 2 ^ F.PWA_ROUND_N.width ∧ t.getBit (F.IRQ_RAW.on Page.PWA) 2 = true
      ∧ (s.get (F.PWA_MEM_DEMAND.i (k - 1)) = 0 → (s.amem k).refused = none →
          (t.amem k).g = 0 ∧ t.get (F.PWA_MEM_OUTCOME.i (k - 1)) = 0 ∧ t.get (F.PWA_MEM_REASON.i (k - 1)) = 0)
      ∧ (s.get (F.PWA_MEM_DEMAND.i (k - 1)) ≠ 0 → s.get (F.PWA_MEM_CLASS.i (k - 1)) = 0 → (s.amem k).refused = none →
          (t.amem k).g = 0 ∧ t.get (F.PWA_MEM_OUTCOME.i (k - 1)) = 3 ∧ t.get (F.PWA_MEM_REASON.i (k - 1)) = 8)
      ∧ cluFrame s t

end Sys2Proof.Claims

/-- R487 to R518, R522: the frames that a module receives on the Llyn link.
Choices of the model it rests on: log entries 71, 72, 74. -/
def Obligations.LlynFrames : Prop :=
  (∀ s f c b, Claims.linkOff s f c b) ∧ (∀ s f, Claims.pollReceived s f) ∧ (∀ s f, Claims.grantReceived s f) ∧ (∀ s f, Claims.admitReceived s f)
    ∧ (∀ s f, Claims.beaconReceived s f) ∧ (∀ s f, Claims.timeReceived s f) ∧ (∀ s f, Claims.activateReceived s f) ∧ (∀ s f, Claims.bulkgrantReceived s f)
    ∧ (∀ s f, Claims.claimReceived s f) ∧ (∀ s f g p i, Claims.bulkReceived s f g p i) ∧ (∀ s c, Claims.badFrame s c)

/-- R503 to R507, R513: the answers that the master takes.
Choices of the model it rests on: log entries 72, 74. -/
def Obligations.LlynAnswers : Prop :=
  (∀ s f c, Claims.unansweredFrame s f c) ∧ (∀ s f, Claims.statusReceived s f) ∧ (∀ s f, Claims.joinReceived s f) ∧ (∀ s f, Claims.leaveReceived s f)
    ∧ (∀ s f, Claims.bulkreqReceived s f) ∧ (∀ s f g, Claims.bulkackReceived s f g)

/-- R504 to R517: the master's role, its loss and its election, and the application's commands to the link.
Choices of the model it rests on: log entries 72, 73. -/
def Obligations.LlynRoles : Prop :=
  (∀ s, Claims.lossOfMaster s) ∧ (∀ s, Claims.electionWaitEnd s) ∧ (∀ s k, Claims.claimRoundEnd s k) ∧ (∀ s k, Claims.masterSilence s k)
    ∧ (∀ s e, Claims.linkEnable s e) ∧ (∀ s, Claims.leaveRequest s) ∧ (∀ s, Claims.timeCommand s) ∧ (∀ s v, Claims.acttxCommit s v)
    ∧ (∀ s b, Claims.bulkreqTimeout s b)

/-- R487, R499, R502, R503, R509, R531: the slots of a cycle.
Choices of the model it rests on: log entries 5, 73. -/
def Obligations.LlynSlots : Prop :=
  (∀ s r b t c, Claims.slotTimes s r b t c) ∧ (∀ s r, Claims.slotPoll s r) ∧ (∀ s r, Claims.slotClaim s r) ∧ (∀ s r q, Claims.slotAnswer s r q) ∧ (∀ s r b, Claims.slotSilent s r b)
    ∧ (∀ s k q, Claims.slotMissed s k q)

/-- R515, R534, R535, R540, R543, R546, R547: allowances of a member and allocations of the master.
Choices of the model it rests on: log entries 5, 75. -/
def Obligations.PowerAllocation : Prop :=
  (∀ s p a, Claims.grantApply s p a) ∧ (∀ s p a, Claims.crossings s p a) ∧ (∀ s, Claims.allowanceUpdate s) ∧ (∀ s k, Claims.allocationRound s k)

/-! ### Tenants, authorisations and tariffs (chapter 15, sections 1 to 6) -/

namespace Sys2Proof.Claims

/-- What a command of the tenant slots may change. -/
def tenFrame (s t : State) : Prop :=
  RegsIn [Page.TEN, Page.LDG] s t ∧ t = { s with regs := t.regs, tenants := t.tenants, ledger := t.ledger, log := t.log, fresh := t.fresh }

/-- R566, R568: a write of AUTHREQ starts the request with the identifier, or the token, as it stands; while BUSY it has no effect. -/
def authRequest (s : State) (v : Word) : Prop :=
  (s.on F.TEN_STAT_BUSY = true → Completes (exec (.authRequest v) s) fun t => t = s)
  ∧ (s.on F.TEN_STAT_BUSY = false →
    Completes (exec (.authRequest v) s) fun t =>
      t.tenants.req = some ⟨bits v.toNat 0 3, bit v.toNat 3, bits v.toNat 4 4, bits v.toNat 8 7, bits v.toNat 16 8,
        if bits v.toNat 0 3 = 4 then toBytes 144 (s.getWords F.TEN_TOKEN.addr 36) else toBytes 64 (s.getWords F.TEN_AUTHID.addr 16)⟩
      ∧ t.on F.TEN_STAT_BUSY = true ∧ t.get F.TEN_AUTHREQ_METHOD = bits v.toNat 0 3 ∧ t.get F.TEN_AUTHREQ_SEQ = bits v.toNat 16 8
      ∧ WordsIn [F.TEN_AUTHREQ_METHOD.addr, F.TEN_STAT_BUSY.addr] s t ∧ t = { s with regs := t.regs, tenants := t.tenants })

/-- R566 to R569: a request to one slot ends: RESULT 13 when LEN does not suit METHOD, 4 when the slot is disabled or does not take the method, 2 when it
accepts it without a list, and 6 when the list it asks for does not stand as checked. DONE, METHOD, SEQ and interrupt 0 in each; an acceptance leaves the
digest and event 0x0B20, a refusal event 0x0B21. -/
def authComplete (s : State) (q : AuthReq) : Prop :=
  let cand := s.slotEn q.tenant && bit (s.slotMethods q.tenant) q.method
  let list := bit (s.slotAlmask q.tenant) q.method
  s.tenants.req = some q → q.auto_ = false → q.tenant < 16 → q.method < 8 → q.method ≠ 4 → q.seq < 256 → s.tenants.checkHeld = none → s.tenants.auto_ = none →
  s.tenants.check = none → LogRoom 2 s → ¬ (lenOk q.method q.len = true ∧ cand = true ∧ list = true ∧ bit s.tenants.alok q.tenant = true) →
    Completes (exec .authComplete s) fun t =>
      t.get F.TEN_AUTHRES_RESULT = (if lenOk q.method q.len then (if cand then (if list then 6 else 2) else 4) else 13)
      ∧ t.on F.TEN_AUTHRES_DONE = true ∧ t.get F.TEN_AUTHRES_METHOD = q.method ∧ t.get F.TEN_AUTHRES_SEQ = q.seq ∧ t.getBit (F.IRQ_RAW.on Page.TEN) 0 = true
      ∧ t.on F.TEN_STAT_BUSY = false ∧ t.tenants.req = none
      ∧ ((lenOk q.method q.len && cand) = true → list = false → t.get F.TEN_AUTHRES_TENANT = q.tenant ∧ t.getW F.TEN_AUTHDIG = authDigest q
          ∧ Logged Page.TEN 0x0B20 (args [q.method, q.tenant, 2]) s t)
      ∧ ((lenOk q.method q.len && cand) = true → list = true → t.get F.TEN_AUTHRES_TENANT = q.tenant ∧ Logged Page.TEN 0x0B21 (args [q.method, 6]) s t)
      ∧ ((lenOk q.method q.len && cand && !list) = false → t.getW F.TEN_AUTHDIG = s.getW F.TEN_AUTHDIG)
      ∧ tenFrame s t

/-- R567, R569: a request to one slot whose list stands as checked: the leftmost 16 bytes of the digest are looked up in it, RESULT 1 where they are found,
5 where they are not, 6 where a line fails its tag. -/
def authListed (s : State) (q : AuthReq) : Prop :=
  let r := s.lookUp q.tenant (beLine (authDigest q % 2 ^ 128)) 1 (s.listCount q.tenant + 1) 12
  let x := match r.1 with
    | some true => 1
    | some false => 5
    | none => 6
  s.tenants.req = some q → q.auto_ = false → q.tenant < 16 → q.method < 8 → q.method ≠ 4 → q.seq < 256 → s.tenants.checkHeld = none → s.tenants.auto_ = none →
  s.tenants.check = none → lenOk q.method q.len = true → s.slotEn q.tenant = true → bit (s.slotMethods q.tenant) q.method = true →
  bit (s.slotAlmask q.tenant) q.method = true → bit s.tenants.alok q.tenant = true → LogRoom 1 r.2 →
    Completes (exec .authComplete s) fun t =>
      t.get F.TEN_AUTHRES_RESULT = x ∧ t.get F.TEN_AUTHRES_TENANT = q.tenant ∧ t.on F.TEN_AUTHRES_DONE = true ∧ t.get F.TEN_AUTHRES_SEQ = q.seq
      ∧ (x = 1 → t.getW F.TEN_AUTHDIG = authDigest q ∧ Logged Page.TEN 0x0B20 (args [q.method, q.tenant, 1]) s t)
      ∧ (x ≠ 1 → Logged Page.TEN 0x0B21 (args [q.method, x]) s t) ∧ tenFrame s t

/-- R566 to R569: a request with AUTO that no list is asked for: the lowest enabled slot with the method accepts it with RESULT 2; with none RESULT is 4. -/
def authAuto (s : State) (q : AuthReq) : Prop :=
  let ks := (List.range 16).filter fun k => s.slotEn k && bit (s.slotMethods k) q.method
  s.tenants.req = some q → q.auto_ = true → q.method < 8 → q.method ≠ 4 → q.seq < 256 → lenOk q.method q.len = true → s.tenants.checkHeld = none →
  s.tenants.auto_ = none → s.tenants.check = none → (∀ k < 16, bit (s.slotAlmask k) q.method = false) → LogRoom 1 s →
    Completes (exec .authComplete s) fun t =>
      t.get F.TEN_AUTHRES_RESULT = (if ks = [] then 4 else 2) ∧ t.on F.TEN_AUTHRES_DONE = true ∧ t.get F.TEN_AUTHRES_SEQ = q.seq
      ∧ (ks ≠ [] → t.get F.TEN_AUTHRES_TENANT = ks.headD 0 ∧ t.getW F.TEN_AUTHDIG = authDigest q
          ∧ Logged Page.TEN 0x0B20 (args [q.method, ks.headD 0, 2]) s t)
      ∧ (ks = [] → Logged Page.TEN 0x0B21 (args [q.method, 4]) s t) ∧ tenFrame s t

/-- R565, R567, R569: a token for one slot that takes method 4: RESULT is that of its check; accepted, MAXCUR and TOKSEQ are shown, and the slot keeps
TOKSEQ as LASTSEQ where the token says so. -/
def authToken (s : State) (q : AuthReq) : Prop :=
  let r := s.checkToken q.tenant q.data
  let num (i n : Nat) : Nat := ofBytes ((q.data.drop i).take n)
  s.tenants.req = some q → q.auto_ = false → q.tenant < 16 → q.method = 4 → q.len = 16 → q.seq < 256 → s.tenants.checkHeld = none →
  s.tenants.auto_ = none → s.slotEn q.tenant = true → bit (s.slotMethods q.tenant) 4 = true → LogRoom 1 s →
    Completes (exec .authComplete s) fun t =>
      t.get F.TEN_AUTHRES_RESULT = r ∧ t.get F.TEN_AUTHRES_TENANT = q.tenant ∧ t.on F.TEN_AUTHRES_DONE = true
      ∧ (r = 3 → t.get F.TEN_AUTHTOK_MAXCUR = num 6 2 ∧ t.get F.TEN_AUTHTSEQ = num 72 4 ∧ t.getW F.TEN_AUTHDIG = authDigest q
          ∧ t.slotWord q.tenant 2 = (if bit (num 5 1) 1 then num 72 4 else s.slotWord q.tenant 2) ∧ Logged Page.TEN 0x0B20 (args [4, q.tenant, 3]) s t)
      ∧ (r ≠ 3 → t.slotWord q.tenant 2 = s.slotWord q.tenant 2 ∧ Logged Page.TEN 0x0B21 (args [4, r]) s t)
      ∧ tenFrame s t

/-- R563, R590: ALCHECK begins the check of the selected slot's list; while an authorisation or a check runs it is held. -/
def allowListCheck (s : State) : Prop :=
  Completes (exec .allowListCheck s) fun t =>
    (s.on F.TEN_STAT_BUSY = true → t = { s with tenants := { s.tenants with checkHeld := some (s.get F.TEN_SLOTSEL_SLOT) } })
    ∧ (s.on F.TEN_STAT_BUSY = false → t.tenants = { s.tenants with check := some (s.get F.TEN_SLOTSEL_SLOT), checkHit := false } ∧ t.on F.TEN_STAT_BUSY = true)
    ∧ WordsIn [F.TEN_STAT_BUSY.addr] s t ∧ t = { s with regs := t.regs, tenants := t.tenants }

/-- R563, R590: the check of a list ends: ALOK of the slot is set exactly when the list passes and nothing wrote it meanwhile; interrupt 1, and event
0x0B24 with its COUNT, or 0x0B25 with the line. -/
def allowListCheckDone (s : State) (k : Nat) : Prop :=
  let r := s.checkList k
  let ok := r.1.isNone && !s.tenants.checkHit
  s.tenants.check = some k → s.tenants.checkHeld = none → s.tenants.auto_ = none → s.tenants.req = none → k < 16 → LogRoom 1 r.2 →
    Completes (exec .allowListCheckDone s) fun t =>
      bit t.tenants.alok k = ok ∧ t.tenants.check = none ∧ t.on F.TEN_STAT_BUSY = false ∧ t.getBit (F.IRQ_RAW.on Page.TEN) 1 = true
      ∧ (ok = true → Logged Page.TEN 0x0B24 (args [k, s.listCount k]) s t) ∧ (ok = false → Logged Page.TEN 0x0B25 (args [k, r.1.getD 0]) s t)
      ∧ tenFrame s t

/-- R594: WIPE of the selected slot while it is disabled, with no session of it open: WIPING, its list no longer checked, and zeros queued to the lines of
its partition from the first, as far as the queue of 16 has room; else no effect. -/
def partitionWipe (s : State) : Prop :=
  let k := s.get F.TEN_SLOTSEL_SLOT
  let free := 16 - s.commit.appQ.length
  (s.slotEn k = true ∨ s.slotOpen k = true ∨ s.tenants.wipe.isSome = true → Completes (exec .partitionWipe s) fun t => t = s)
  ∧ (s.slotEn k = false → s.slotOpen k = false → s.tenants.wipe = none → s.commit.appQ.length ≤ 16 →
    Completes (exec .partitionWipe s) fun t =>
      t.on F.TEN_STAT_WIPING = true ∧ bit t.tenants.alok k = false ∧ t.tenants.wipe = some (k, free)
      ∧ t.commit.appQ = s.commit.appQ ++ (List.range free).map (fun j => ⟨0x2F400 + 0x800 * k + j, 0xFFFF, 0⟩) ∧ t.get F.SYS_LQ_ST_QUEUED = 16 ∧ t.ledger = s.ledger
      ∧ RegsIn [Page.TEN, Page.LDG, Page.SYS] s t ∧ t = { s with regs := t.regs, tenants := t.tenants, commit := { s.commit with appQ := t.commit.appQ }, log := t.log })

/-- R560: while the selected slot is disabled and no session of it is open, the identifier, the key and their like take a write, with event 0x0B22 at a
change of identifier or key; else only LASTSEQ and EN do, and any other write is refused with event 0x0B23. SSTAT is read only. -/
def slotWrite (s : State) (w : BitVec 6) (v : Word) : Prop :=
  let k := s.get F.TEN_SLOTSEL_SLOT
  let open_ := !s.slotEn k && !s.slotOpen k
  let j := w.toNat
  LogRoom 1 s →
    Completes (exec (.slotWrite w v) s) fun t =>
      (j = 1 → t = s) ∧ (j = 2 → t.slotWord k 2 = v.toNat)
      ∧ (open_ = true → j ∈ [4, 5, 6, 7, 8, 9, 10, 11, 12, 13] ++ (List.range 24).map (· + 16) → t.slotWord k j = v.toNat)
      ∧ (open_ = true → j ∈ [4, 5, 6, 7] → s.slotWord k j ≠ v.toNat → Logged Page.TEN 0x0B22 (args [k, 1]) s t)
      ∧ (open_ = true → j ∈ (List.range 16).map (· + 16) → s.slotWord k j ≠ v.toNat → Logged Page.TEN 0x0B22 (args [k, 2]) s t)
      ∧ (open_ = true → j ∈ (List.range 8).map (· + 32) → bit t.tenants.alok k = false)
      ∧ (open_ = false → j ∉ [0, 1, 2] → t.tenants = s.tenants ∧ Logged Page.TEN 0x0B23 (args [k, 4 * j]) s t)
      ∧ (j = 0 → open_ = true ∨ s.scfgOf k v.toNat / 2 = s.slotWord k 0 / 2 →
          bit (t.slotWord k 0) 0 = bit v.toNat 0 ∧ bits (t.slotWord k 0) 1 6 = bits v.toNat 1 6 ∧ bits (t.slotWord k 0) 16 10 = bits v.toNat 16 10
          ∧ bits (t.slotWord k 0) 8 6 = (if bit v.toNat 8 || bit v.toNat 12 then bits (s.slotWord k 0) 8 6 else bits v.toNat 8 6) ∧ t.log = s.log)
      ∧ (j = 0 → open_ = false → s.scfgOf k v.toNat / 2 ≠ s.slotWord k 0 / 2 → t.tenants = s.tenants ∧ Logged Page.TEN 0x0B23 (args [k, 0]) s t)
      ∧ (j ≠ 0 → t.slotWord k 0 = s.slotWord k 0) ∧ tenFrame s t

/-- R574, R593: a change of the tariff period in an open session with AUTOINT asks for an interim reading with APPREASON 0 and SEQ 0xE0 plus the period,
interrupt 3 and event 0x0B27; while SESS_REQ.OP is in use the request waits. -/
def tariffBoundary (s : State) : Prop :=
  let k := s.get F.SIG_SESSST_TENANT
  let j := s.periodNow k
  let boundary := s.on F.TEN_CTL_AUTOINT = true ∧ s.get F.SIG_STAT_SESS = 2 ∧ s.tenants.period ≠ some (s.get F.SIG_SESSST_SLOT, j)
  LogRoom 2 s →
    Completes (exec .tariffBoundary s) fun t =>
      (¬ boundary → s.get F.SIG_STAT_SESS ≠ 2 → t = s)
      ∧ (¬ boundary → s.get F.SIG_STAT_SESS = 2 → t = { s with tenants := { s.tenants with period := some (s.get F.SIG_SESSST_SLOT, j) } })
      ∧ (boundary → s.get F.SYS_SESS_REQ_OP = 0 → t.get F.SIG_SESSST_SEQ = 0xE0 + j ∧ (s.on F.SIG_STAT_KEYOK = true → t.session.readReq = true)
          ∧ t.get F.SYS_SESS_REQ_APPREASON = 0 ∧ t.getBit (F.IRQ_RAW.on Page.TEN) 3 = true ∧ Logged Page.TEN 0x0B27 (args [k, j]) s t)
      ∧ (boundary → s.get F.SYS_SESS_REQ_OP ≠ 0 → t.tenants.boundary = some (k, j) ∧ t.session = s.session ∧ t.regs = s.regs)
      ∧ (boundary → t.tenants.period = some (s.get F.SIG_SESSST_SLOT, j))
      ∧ RegsIn [Page.TEN, Page.SYS, Page.SIG, Page.LDG] s t ∧ t = { s with regs := t.regs, tenants := t.tenants, session := t.session, log := t.log }

/-- R574: the interim request that waited is made once OP reads 0; without the open session it is given up. -/
def tariffDeferred (s : State) (k j : Nat) : Prop :=
  s.tenants.boundary = some (k, j) → j < 8 → LogRoom 2 s →
    Completes (exec .tariffRequestDeferred s) fun t =>
      (s.get F.SYS_SESS_REQ_OP ≠ 0 → t = s)
      ∧ (s.get F.SYS_SESS_REQ_OP = 0 → s.get F.SIG_STAT_SESS = 2 → t.get F.SIG_SESSST_SEQ = 0xE0 + j ∧ t.tenants.boundary = none
          ∧ (s.on F.SIG_STAT_KEYOK = true → t.session.readReq = true) ∧ Logged Page.TEN 0x0B27 (args [k, j]) s t)
      ∧ (s.get F.SYS_SESS_REQ_OP = 0 → s.get F.SIG_STAT_SESS ≠ 2 → t = { s with tenants := { s.tenants with boundary := none } })
      ∧ RegsIn [Page.TEN, Page.SYS, Page.SIG, Page.LDG] s t ∧ t = { s with regs := t.regs, tenants := t.tenants, session := t.session, log := t.log }

/-! ### The contactless reader (chapter 15, sections 7 to 9) -/

/-- What a command of the reader may change; an automatic authorisation request goes to TEN. -/
def rdrFrame (s t : State) : Prop :=
  RegsIn [Page.RDR, Page.TEN, Page.LDG] s t ∧ t = { s with regs := t.regs, reader := t.reader, tenants := t.tenants, log := t.log }

/-- R576: HFEN out of OFF or FAULT tunes the antenna: WAIT with TUNEOK, or FAULT with interrupt 3 and event 0x0B06. -/
def hfEnable (s : State) (tuned : Bool) (code : Byte) : Prop :=
  LogRoom 1 s →
    Completes (exec (.hfEnable tuned code) s) fun t =>
      t.on F.RDR_CTL_HFEN = true
      ∧ (s.hfState = 0 ∨ s.hfState = 6 → t.hfState = (if tuned then 1 else 6) ∧ t.on F.RDR_STAT_TUNEOK = tuned ∧ t.get F.RDR_STAT_CARD = 0
          ∧ (tuned = false → t.getBit (F.IRQ_RAW.on Page.RDR) 3 = true ∧ Logged Page.RDR 0x0B06 code.toNat s t))
      ∧ (s.hfState ≠ 0 → s.hfState ≠ 6 → t.hfState = s.hfState) ∧ rdrFrame s t

/-- R576, R592: HFEN cleared: the field is off, no card is held, and an exchange in progress ends with XRES 4; FAULT is left by HFEN = 1 only. -/
def hfDisable (s : State) : Prop :=
  Completes (exec .hfDisable s) fun t =>
    t.on F.RDR_CTL_HFEN = false ∧ t.hfState = (if s.hfState = 6 then 6 else 0)
    ∧ (s.hfState ≠ 6 → t.on F.RDR_STAT_CARDPRES = false ∧ t.get F.RDR_STAT_CARD = 0 ∧ t.on F.RDR_STAT_TUNEOK = false)
    ∧ (s.hfState ≠ 6 → s.get F.RDR_HFCMD_OP = 1 → t.get F.RDR_HFXST_XRES = 4 ∧ t.get F.RDR_HFCMD_OP = 0)
    ∧ WordsIn [F.RDR_CTL_HFEN.addr, F.RDR_STAT_HFSTATE.addr, F.RDR_HFXST_XRES.addr, F.RDR_HFCMD_OP.addr, (F.IRQ_RAW.on Page.RDR).addr] s t
    ∧ t = { s with regs := t.regs }

/-- R576: the antenna is tuned again in WAIT only, 60 s after the last tuning. -/
def antennaRetune (s : State) (tuned : Bool) (code : Byte) : Prop :=
  LogRoom 1 s →
    Completes (exec (.antennaRetune tuned code) s) fun t =>
      (s.hfState = 1 → s.reader.tunedAt + 60000 * tickMs ≤ s.angle.now →
        t.hfState = (if tuned then 1 else 6) ∧ t.on F.RDR_STAT_TUNEOK = tuned ∧ (tuned = false → Logged Page.RDR 0x0B06 code.toNat s t))
      ∧ (s.hfState ≠ 1 ∨ s.angle.now < s.reader.tunedAt + 60000 * tickMs → t = s) ∧ rdrFrame s t

/-- R577, R578: in WAIT, 100 ms after the last one, a REQA is sent: an answer begins the selection, silence changes no register. -/
def reqaPoll (s : State) (answer : Bool) : Prop :=
  let due := s.hfState = 1 ∧ (s.reader.reqaAt.all fun t => decide (t + 100 * tickMs ≤ s.angle.now)) = true
  Completes (exec (.reqaPoll answer) s) fun t =>
    (due → answer = true → t.hfState = 2 ∧ t.get F.RDR_STAT_CARD = 1) ∧ (due → answer = false → t.regs = s.regs)
    ∧ (due → t.reader = { s.reader with reqaAt := some s.angle.now }) ∧ (¬ due → t = s)
    ∧ WordsIn [F.RDR_STAT_HFSTATE.addr] s t ∧ t = { s with regs := t.regs, reader := t.reader }

/-- R578, R579: the selection ends: silence leads back to WAIT; a collision is counted, and with ONECARD also leads back, with interrupt 6 and event
0x0B03; else the card is active with its ATQA, SAK, UID and MULTI, with interrupt 0 and event 0x0B01, and AUTOHF requests an authorisation. -/
def cardActivation (s : State) (answered collision : Bool) (atqa : BitVec 16) (sak : Byte) (uid ats : List Byte) (rate : BitVec 2) : Prop :=
  let dep := bit sak.toNat 5 && s.on F.RDR_HFCFG_AUTORATS
  let turned := collision && s.on F.RDR_HFCFG_ONECARD
  s.hfState = 2 → uid.length < 16 → LogRoom 1 s →
    Completes (exec (.cardActivation answered collision atqa sak uid ats rate) s) fun t =>
      (answered = false → t.hfState = 1 ∧ t.get F.RDR_STAT_CARD = 0 ∧ t.log = s.log)
      ∧ (answered = true → collision = true → t.get F.RDR_HFCNT_COLLS = min (2 ^ F.RDR_HFCNT_COLLS.width - 1) (s.get F.RDR_HFCNT_COLLS + 1))
      ∧ (answered = true → turned = true → t.hfState = 1 ∧ t.on F.RDR_STAT_CARDPRES = false ∧ t.getBit (F.IRQ_RAW.on Page.RDR) 6 = true
          ∧ Logged Page.RDR 0x0B03 0 s t)
      ∧ (answered = true → turned = false → t.hfState = (if dep then 4 else 3) ∧ t.on F.RDR_STAT_CARDPRES = true ∧ t.get F.RDR_STAT_CARD = 2
          ∧ t.get F.RDR_HFCARD_ATQA = atqa.toNat ∧ t.get F.RDR_HFCARD_SAK = sak.toNat ∧ t.get F.RDR_HFCARD_UIDLEN = uid.length % 2 ^ F.RDR_HFCARD_UIDLEN.width
          ∧ t.on F.RDR_HFCARD_MULTI = collision ∧ t.on F.RDR_HFCARD_ISODEP = dep ∧ t.getWords F.RDR_HFUID.addr 4 = ofBytes uid
          ∧ t.getBit (F.IRQ_RAW.on Page.RDR) 0 = true ∧ Logged Page.RDR 0x0B01 (args [uid.length, sak.toNat]) s t
          ∧ (s.on F.TEN_CTL_AUTOHF = true → s.on F.TEN_STAT_BUSY = false → t.tenants.req = some ⟨1, true, 0, uid.length, 0xFF, uid⟩))
      ∧ rdrFrame s t

/-- R581: an exchange begins while OP is 0: OP 1 with an ISO-DEP card active; else it ends at once with XRES 6. -/
def cardExchange (s : State) (txlen : BitVec 11) : Prop :=
  Completes (exec (.cardExchange txlen) s) fun t =>
    t.reader = { s.reader with cmdAt := s.angle.now } ∧ (s.get F.RDR_HFCMD_OP ≠ 0 → t.regs = s.regs)
    ∧ (s.get F.RDR_HFCMD_OP = 0 → t.get F.RDR_HFCMD_OP = b2n (s.hfState == 4)
        ∧ t.get F.RDR_HFXST_XRES = (if s.hfState = 4 then s.get F.RDR_HFXST_XRES else 6)
        ∧ t.get F.RDR_HFCMD_TXLEN = (if 1 ≤ txlen.toNat ∧ txlen.toNat ≤ 1024 then txlen.toNat else s.get F.RDR_HFCMD_TXLEN)
        ∧ (s.hfState ≠ 4 → t.getBit (F.IRQ_RAW.on Page.RDR) 2 = true))
    ∧ WordsIn [F.RDR_HFCMD_OP.addr, F.RDR_HFXST_XRES.addr, (F.IRQ_RAW.on Page.RDR).addr] s t ∧ t = { s with regs := t.regs, reader := t.reader }

/-- R581: an exchange ends: done with its answer and RXLEN, timed out, with a protocol error that loses the card and event 0x0B04, or with an answer too
long; OP reads 0, and interrupt 2 is raised. -/
def exchangeDone (s : State) (xres : BitVec 3) (answer : List Byte) (block : Byte) : Prop :=
  let x := if xres = 1 ∧ 1024 < answer.length then 5 else xres.toNat
  s.get F.RDR_HFCMD_OP = 1 → s.hfState = 4 → x ∈ [1, 2, 3, 5] → LogRoom 1 s →
    Completes (exec (.exchangeDone xres answer block) s) fun t =>
      t.get F.RDR_HFXST_XRES = x ∧ t.get F.RDR_HFCMD_OP = 0 ∧ t.getBit (F.IRQ_RAW.on Page.RDR) 2 = true
      ∧ (x = 1 → t.get F.RDR_HFXST_RXLEN = answer.length ∧ t.getWords F.RDR_HFRXBUF.addr 256 = ofBytes answer)
      ∧ t.hfState = (if x = 3 then 1 else 4)
      ∧ (x = 3 → t.get F.RDR_HFCNT_ERRS = min (2 ^ F.RDR_HFCNT_ERRS.width - 1) (s.get F.RDR_HFCNT_ERRS + 1) ∧ Logged Page.RDR 0x0B04 block.toNat s t)
      ∧ (x ≠ 3 → t.log = s.log) ∧ rdrFrame s t

/-- R580, R582: a release of an active card puts it into HALT and watches it; no card is held any more. -/
def cardRelease (s : State) : Prop :=
  Completes (exec .cardRelease s) fun t =>
    (s.get F.RDR_HFCMD_OP = 0 → s.hfState = 3 ∨ s.hfState = 4 → t.hfState = 5 ∧ t.get F.RDR_STAT_CARD = 3 ∧ t.on F.RDR_STAT_CARDPRES = false
        ∧ t.reader = { s.reader with silent := 0, cmdAt := s.angle.now, probeAt := s.angle.now } ∧ t.getBit (F.IRQ_RAW.on Page.RDR) 2 = true)
    ∧ (s.get F.RDR_HFCMD_OP ≠ 0 ∨ s.hfState ∉ [3, 4] → t = { s with reader := { s.reader with cmdAt := s.angle.now } })
    ∧ WordsIn [F.RDR_STAT_HFSTATE.addr, F.RDR_HFCMD_OP.addr, (F.IRQ_RAW.on Page.RDR).addr] s t ∧ t = { s with regs := t.regs, reader := t.reader }

/-- R582: every 500 ms a card in HALT is probed; the second silent probe in succession finds the card gone: WAIT, interrupt 1, the count and event 0x0B02. -/
def haltwatchProbe (s : State) (answer : Bool) : Prop :=
  let due := s.hfState = 5 ∧ s.reader.probeAt + 500 * tickMs ≤ s.angle.now
  LogRoom 1 s →
    Completes (exec (.haltwatchProbe answer) s) fun t =>
      (¬ due → t = s) ∧ (due → answer = true → t = { s with reader := { s.reader with silent := 0, probeAt := s.angle.now } })
      ∧ (due → answer = false → s.reader.silent = 0 → t = { s with reader := { s.reader with silent := 1, probeAt := s.angle.now } })
      ∧ (due → answer = false → 1 ≤ s.reader.silent → t.hfState = 1 ∧ t.on F.RDR_STAT_CARDPRES = false ∧ t.getBit (F.IRQ_RAW.on Page.RDR) 1 = true
          ∧ t.get F.RDR_HFCNT_GONE = min (2 ^ F.RDR_HFCNT_GONE.width - 1) (s.get F.RDR_HFCNT_GONE + 1) ∧ Logged Page.RDR 0x0B02 0 s t)
      ∧ rdrFrame s t

/-- R583: an active card is released ACTTO seconds after the last write of HFCMD, with interrupt 3 and event 0x0B05. -/
def activeTimeout (s : State) : Prop :=
  let due := (s.hfState = 3 ∨ s.hfState = 4) ∧ s.reader.cmdAt + s.get F.RDR_HFCFG_ACTTO * 1000 * tickMs ≤ s.angle.now
  LogRoom 1 s →
    Completes (exec .activeTimeout s) fun t =>
      (due → t.hfState = 5 ∧ t.get F.RDR_STAT_CARD = 3 ∧ t.get F.RDR_HFCMD_OP = 0 ∧ t.getBit (F.IRQ_RAW.on Page.RDR) 3 = true
          ∧ Logged Page.RDR 0x0B05 0 s t) ∧ (¬ due → t = s) ∧ rdrFrame s t

/-- R583: an active card that leaves the field ends an exchange with XRES 4: WAIT, interrupt 1, the count and event 0x0B02. -/
def cardLeftField (s : State) : Prop :=
  let held := s.hfState = 3 ∨ s.hfState = 4
  LogRoom 1 s →
    Completes (exec .cardLeftField s) fun t => (¬ held → t = s) ∧ rdrFrame s t
      ∧ (held → t.hfState = 1 ∧ t.on F.RDR_STAT_CARDPRES = false ∧ t.getBit (F.IRQ_RAW.on Page.RDR) 1 = true
      ∧ (s.get F.RDR_HFCMD_OP = 1 → t.get F.RDR_HFXST_XRES = 4 ∧ t.get F.RDR_HFCMD_OP = 0) ∧ Logged Page.RDR 0x0B02 0 s t)

/-- Table 15-6: the channel on which a round begins: the next of the four in REGION 0; in REGION 1 one that the last rounds of the fifty have not used. -/
def roundChannels (s : State) (c : Nat) : Prop :=
  let k := s.roundChannel c
  (s.on F.RDR_UHFCFG_REGION = false → k = s.reader.turn ∧ (s.beginRound k).reader.turn = (s.reader.turn + 1) % 4)
  ∧ (s.on F.RDR_UHFCFG_REGION = true → s.reader.hopped.length < 50 → k < 50 ∧ k ∉ s.reader.hopped)

/-- R585: a round that is not due, UHFPER after the last one, does not begin. -/
def roundEarly (s : State) (channel : Byte) (tags : List UhfTag) (crcErrors : Byte) (r : Nat) : Prop :=
  s.uhfState ≠ 1 ∨ (s.reader.roundAt = some r ∧ s.angle.now < r + s.get F.RDR_UHFPER_MS * tickMs) →
    Completes (exec (.inventoryRound channel tags crcErrors) s) fun t => t = s

/-- R585, R586: an inventory round without tags is counted, with its CRC errors; one tag not known yet is queued with read count 1, its EPC and channel,
and noted, with interrupt 4; on a queue of eight it is dropped and counted, with interrupt 5 and event 0x0B11. -/
def inventoryRound (s : State) (channel : Byte) (tags : List UhfTag) (crcErrors : Byte) : Prop :=
  let n := s.get F.RDR_UHFQ_N
  s.roundDue = true → s.reader.tags = [] → tags.length ≤ 1 → LogRoom 1 s →
    Completes (exec (.inventoryRound channel tags crcErrors) s) fun t =>
      t.get F.RDR_UHFCNT_ROUNDS = min (2 ^ F.RDR_UHFCNT_ROUNDS.width - 1) (s.get F.RDR_UHFCNT_ROUNDS + 1)
      ∧ t.get F.RDR_UHFCNT_CRC = min (2 ^ F.RDR_UHFCNT_CRC.width - 1) (s.get F.RDR_UHFCNT_CRC + crcErrors.toNat)
      ∧ (tags = [] → t.log = s.log ∧ t.get F.RDR_UHFQ_N = n)
      ∧ (tags ≠ [] → n < 8 → t.get F.RDR_UHFQ_N = n + 1 ∧ t.getBit (F.IRQ_RAW.on Page.RDR) 4 = true ∧ t.reader.tags = tags.map fun x => (x.epc, s.angle.now))
      ∧ (tags ≠ [] → 8 ≤ n → t.get F.RDR_UHFQ_DROP = min (2 ^ F.RDR_UHFQ_DROP.width - 1) (s.get F.RDR_UHFQ_DROP + 1) ∧ t.get F.RDR_UHFQ_N = n
          ∧ t.getBit (F.IRQ_RAW.on Page.RDR) 5 = true ∧ Logged Page.RDR 0x0B11 1 s t ∧ t.reader.tags = [])
      ∧ rdrFrame s t

/-- R585: too much reflected power stops a UHF front end that transmits: FAULT, interrupt 5 and event 0x0B10. -/
def uhfReflectionFault (s : State) (power : BitVec 16) : Prop :=
  LogRoom 1 s →
    Completes (exec (.uhfReflectionFault power) s) fun t =>
      (s.uhfState = 1 ∨ s.uhfState = 2 → t.uhfState = 3 ∧ t.getBit (F.IRQ_RAW.on Page.RDR) 5 = true ∧ Logged Page.RDR 0x0B10 power.toNat s t)
      ∧ (s.uhfState = 0 ∨ s.uhfState = 3 → t = s) ∧ rdrFrame s t

/-- R586: POP releases the oldest record of the tag queue; on an empty queue it has no effect. -/
def uhfPop (s : State) : Prop :=
  Completes (exec .uhfPop s) fun t =>
    (s.get F.RDR_UHFQ_N = 0 → t = s)
    ∧ (s.get F.RDR_UHFQ_N ≠ 0 → t.get F.RDR_UHFQ_N = s.get F.RDR_UHFQ_N - 1 ∧ t.get F.RDR_UHFQ_HEAD = (s.get F.RDR_UHFQ_HEAD + 1) % 8)
    ∧ WordsIn [F.RDR_UHFQ_N.addr] s t ∧ t = { s with regs := t.regs }

end Sys2Proof.Claims

/-- R560 to R569, R590: authorisations and allow lists.
Choices of the model it rests on: log entry 76. -/
def Obligations.Authorisations : Prop :=
  (∀ s v, Claims.authRequest s v) ∧ (∀ s q, Claims.authComplete s q) ∧ (∀ s q, Claims.authListed s q) ∧ (∀ s q, Claims.authAuto s q) ∧ (∀ s q, Claims.authToken s q) ∧ (∀ s, Claims.allowListCheck s)
    ∧ (∀ s k, Claims.allowListCheckDone s k)

/-- R560, R574, R593, R594: slot writes, the wipe of a partition, and tariff boundaries.
Choices of the model it rests on: log entries 76, 77. -/
def Obligations.TenantSlots : Prop :=
  (∀ s w v, Claims.slotWrite s w v) ∧ (∀ s, Claims.partitionWipe s) ∧ (∀ s, Claims.tariffBoundary s) ∧ (∀ s k j, Claims.tariffDeferred s k j)

/-- R576 to R583, R592: the HF reader.
Choices of the model it rests on: log entry 78. -/
def Obligations.HfReader : Prop :=
  (∀ s b c, Claims.hfEnable s b c) ∧ (∀ s, Claims.hfDisable s) ∧ (∀ s b c, Claims.antennaRetune s b c) ∧ (∀ s b, Claims.reqaPoll s b)
    ∧ (∀ s a b c d e f g, Claims.cardActivation s a b c d e f g) ∧ (∀ s n, Claims.cardExchange s n) ∧ (∀ s x a b, Claims.exchangeDone s x a b)
    ∧ (∀ s, Claims.cardRelease s) ∧ (∀ s a, Claims.haltwatchProbe s a) ∧ (∀ s, Claims.activeTimeout s) ∧ (∀ s, Claims.cardLeftField s)

/-- R585, R586: the UHF reader.
Choices of the model it rests on: log entry 78. -/
def Obligations.UhfReader : Prop :=
  (∀ s c, Claims.roundChannels s c) ∧ (∀ s c l n r, Claims.roundEarly s c l n r) ∧ (∀ s c l n, Claims.inventoryRound s c l n) ∧ (∀ s p, Claims.uhfReflectionFault s p) ∧ (∀ s, Claims.uhfPop s)

/-! ### The panel (chapter 16) -/

namespace Sys2Proof.Claims

/-- What a command of the panel engine may change. -/
def epdFrame (s t : State) : Prop :=
  RegsIn [Page.EPD, Page.LDG] s t ∧ t = { s with regs := t.regs, panel := t.panel, log := t.log, fresh := t.fresh }

/-- A frame boundary of state `s` falls now. -/
def boundaryNow (s : State) : Prop := s.boundaryAt.any (fun u => decide (u ≤ s.angle.now)) = true

/-- R605: before the boundary the clock runs on to it, one frame period after the one before: 16 384 000 / F ticks, rounded, of the rate in force. -/
def boundaryWait (s : State) (legal : List (BitVec 21)) (bad : List (BitVec 22)) : Prop :=
  (s.panelRuns = true → s.get F.EPD_STAT_RAILST ≠ 1 → ∃ p, s.boundaryAt = some (s.panel.begun + p)
    ∧ (1 ≤ s.get F.EPD_RATE_HZ → 2 * 16384000 < (2 * p + 1) * s.get F.EPD_RATE_HZ ∧ (2 * p - 1) * s.get F.EPD_RATE_HZ ≤ 2 * 16384000))
  ∧ ∀ u, s.boundaryAt = some u → s.angle.now < u → Completes (exec (.frameBoundary legal bad) s) fun t =>
    let r := s.run (u - s.angle.now)
    t = if r.boundaryAt.any (fun v => decide (v ≤ r.angle.now)) then r.boundary (r.boundaryAt.getD 0) (lineAddrs (storeL 0) legal ++ lineAddrs (storeL 1) bad) else r

/-- R618, R619: a boundary with one layer open and no request waiting: the layer is late; the first of a run sets interrupt 3 and logs event 0x0C02, the
fourth of L0 sets LEGALSTALE and interrupt 4 and logs event 0x0C03; CONSEC of the other layers clears. -/
def boundaryLate (s : State) (n k : Nat) : Prop :=
  let c := s.get (F.EPD_LQ_CONSEC.i n)
  boundaryNow s → s.considered = [] → n < 3 → s.layerOpen n = true → (∀ j < 3, j ≠ n → s.layerOpen j = false) → k < 3 → k ≠ n → LogRoom 2 s →
  s.damagedPanel = [] →
    Completes (exec (.frameBoundary [] []) s) fun t =>
      t.get (F.EPD_LQ_CONSEC.i n) = min 255 (c + 1) ∧ t.get (F.EPD_LQ_LATES.i n) = min 65535 (s.get (F.EPD_LQ_LATES.i n) + 1)
      ∧ t.on (latFields.getD n F.EPD_STAT_L0LATE) = true ∧ t.on (latFields.getD k F.EPD_STAT_L0LATE) = false ∧ t.get (F.EPD_LQ_CONSEC.i k) = 0
      ∧ (c = 0 → t.getBit (F.IRQ_RAW.on Page.EPD) 3 = true ∧ Logged Page.EPD 0x0C02 n s t)
      ∧ (n = 0 → c = 3 → s.on F.EPD_STAT_LEGALSTALE = false → t.on F.EPD_STAT_LEGALSTALE = true ∧ t.getBit (F.IRQ_RAW.on Page.EPD) 4 = true
          ∧ Logged Page.EPD 0x0C03 (t.get F.EPD_FRAMENO) s t)
      ∧ (n ≠ 0 ∨ c ≠ 3 → t.on F.EPD_STAT_LEGALSTALE = s.on F.EPD_STAT_LEGALSTALE)

/-- R605, R606, R609, R612: a frame boundary of a panel engine that does not run has no effect. Of one that runs, with no request waiting and no layer
open, it advances the frame number; each update in flight advances, or ends after its last frame with interrupt 1, its pixels in the current image;
with none left the rate is IDLERATE. -/
def boundaryIdle (s : State) (k : Nat) (legal : List (BitVec 21)) (bad : List (BitVec 22)) : Prop :=
  (s.boundaryAt = none → Completes (exec (.frameBoundary legal bad) s) fun t => t = s)
  ∧ (boundaryNow s → s.considered = [] → (∀ n < 3, s.layerOpen n = false) → s.panel.slots.length = 8 → k < 8 →
    Completes (exec (.frameBoundary legal bad) s) fun t =>
      t.get F.EPD_FRAMENO = (s.get F.EPD_FRAMENO + 1) % 2 ^ 32 ∧ t.get F.EPD_STAT_RAILST = s.railState % 4
      ∧ t.panel.begun = s.panel.begun + s.framePeriod
      ∧ (t.panel.slots.getD k none = match s.panel.slots.getD k none with
          | some u => if u.frame + 1 < u.nframes then some { u with frame := u.frame + 1 } else none
          | none => none)
      ∧ ((s.panel.slots.getD k none).all (fun u => decide (u.frame + 1 < u.nframes)) = false → t.getBit (F.IRQ_RAW.on Page.EPD) 1 = true
          ∧ t.on (F.EPD_SLOT_BUSY.i k) = false)
      ∧ (t.inflight = [] → t.get F.EPD_RATE_HZ = s.get F.EPD_FRAMECFG_IDLERATE)
      ∧ t.get F.EPD_CNT_TAKEN = s.get F.EPD_CNT_TAKEN ∧ t.panel.queue = s.panel.queue ∧ t.log = s.log ∧ epdFrame s t)

/-- R609 to R611: a request of an application layer that alone waits, with nothing in flight and its layer closed: with the rails good it is taken into the
first slot, in its rectangle, with the mode, the band and the frames of R611, and is counted, and the rate in force is that of its descriptor; with the
rails off they power up, unless they are held or a rail fault occurred in the last second. -/
def boundaryTake (s : State) (q : PanelReq) : Prop :=
  let d := waveDesc s.panel.wave (s.get F.EPD_STAT_BAND) (s.runMode q.rect q.mode)
  boundaryNow s → s.on F.EPD_CTL_EN = true → s.panel.queue = [q] → s.panel.stale = false → q.layer = 1 ∨ q.layer = 2 → (∀ n < 3, s.layerOpen n = false) →
  s.panel.slots = List.replicate 8 none →
    Completes (exec (.frameBoundary [] []) s) fun t =>
      (s.get F.EPD_STAT_RAILST = 2 → t.panel.queue = []
          ∧ (t.panel.slots.getD 0 none).any (fun u => u.rect == q.rect && u.layer == q.layer && u.frame == 0 && u.band == s.get F.EPD_STAT_BAND
              && u.mode == s.runMode q.rect q.mode && u.nframes == d.2.1) = true
          ∧ t.get F.EPD_RATE_HZ = d.2.2 % 128
          ∧ t.on (F.EPD_SLOT_BUSY.i 0) = true ∧ t.get (F.EPD_SLOT_FRAMENO.i 0) = t.get F.EPD_FRAMENO
          ∧ t.get F.EPD_CNT_TAKEN = min (2 ^ F.EPD_CNT_TAKEN.width - 1) (s.get F.EPD_CNT_TAKEN + 1) ∧ t.getBit (F.IRQ_RAW.on Page.EPD) 0 = true
          ∧ t.get F.EPD_STAT_INFLIGHT = 1)
      ∧ (s.get F.EPD_STAT_RAILST = 0 → t.panel.queue = s.panel.queue ∧ t.panel.slots = s.panel.slots
          ∧ (s.railsRetry && !s.on F.EPD_STAT_RAILHELD = true → t.get F.EPD_STAT_RAILST = 1 ∧ t.panel.railsAt = s.angle.now)
          ∧ (s.railsRetry && !s.on F.EPD_STAT_RAILHELD = false → t.get F.EPD_STAT_RAILST = 0))
      ∧ epdFrame s t

/-- R608: a request is queued behind the earlier ones, or refused with the reason of Table 16-5: counted, interrupt 2 and event 0x0C01. -/
def panelRequest (s : State) (n : Fin 3) (v : Word) : Prop :=
  let w := s.commitValue (if n.val = 0 then .legal else s.ownerOf Page.EPD) (F.EPD_LREQ_X.i n.val).addr 2 v.toNat
  let q : PanelReq := ⟨n.val, ⟨bits w 0 11, bits w 16 11, bits w 32 11, bits w 48 11⟩, bits w 60 2⟩
  let c := s.panelRefusal q
  LogRoom 1 s →
    Completes (exec (.panelRequest n v) s) fun t =>
      (c = 0 → t.panel = { s.panel with queue := s.panel.queue ++ [q] } ∧ t.log = s.log)
      ∧ (c ≠ 0 → t.panel = s.panel ∧ t.get F.EPD_REFUSE_REASON = c ∧ t.get F.EPD_REFUSE_LAYER = n.val
          ∧ t.get F.EPD_CNT_REFUSED = min (2 ^ F.EPD_CNT_REFUSED.width - 1) (s.get F.EPD_CNT_REFUSED + 1) ∧ t.getBit (F.IRQ_RAW.on Page.EPD) 2 = true
          ∧ Logged Page.EPD 0x0C01 (args [n.val, c]) s t)
      ∧ t.get (F.EPD_LREQ_X.i n.val) = q.rect.x ∧ t.get (F.EPD_LREQ_Y.i n.val) = q.rect.y ∧ t.get (F.EPD_LREQ_W.i n.val) = q.rect.w
      ∧ t.get (F.EPD_LREQ_H.i n.val) = q.rect.h
      ∧ RegsIn [Page.EPD, Page.LDG] s t ∧ t = { s with regs := t.regs, panel := t.panel, log := t.log, stages := t.stages }

/-- R596, R610: the rails are good 5 ms after their power-up began, to which the clock runs on: a frame boundary is made at once. Rails that do not power
up are not checked. -/
def railsGood (s : State) (bad : List (BitVec 23)) : Prop :=
  let lines := lineAddrs (storeL 1) bad
  (s.get F.EPD_STAT_RAILST ≠ 1 → Completes (exec (.railsGood bad) s) fun t => t = s)
  ∧ (s.get F.EPD_STAT_RAILST = 1 → s.angle.now < s.panel.railsAt + 81920 → Completes (exec (.railsGood bad) s) fun t =>
      let r := s.run (s.panel.railsAt + 81920 - s.angle.now)
      t = if r.get F.EPD_STAT_RAILST = 1 then r.railsAreGood lines else r)
  ∧ (s.get F.EPD_STAT_RAILST = 1 → s.panel.railsAt + 81920 ≤ s.angle.now → s.considered = [] → (∀ n < 3, s.layerOpen n = false) →
    Completes (exec (.railsGood bad) s) fun t =>
      t.get F.EPD_STAT_RAILST = 2
      ∧ t.get F.EPD_FRAMENO = (s.get F.EPD_FRAMENO + b2n s.panelRuns) % 2 ^ 32 ∧ t.panel.queue = s.panel.queue ∧ epdFrame s t)

/-- The rail faults of the 60 s before. -/
def priorFaults (s : State) : Nat := (s.panel.railFaults.filter fun a => decide (s.angle.now ≤ a + 983040000)).length

/-- R598, R634: a rail fault, found at the check or by the current limit, powers the rails down, ends every update in flight unfinished, with interrupt 5
and event 0x0C0A; the third in 60 s holds the rails off. Where it ends an update of L0, the legal image presents its rectangle again, or owes it while the rails
are held. A fault of rails that are off has no effect. -/
def railFault (s : State) (rail : BitVec 3) (limit : Bool) : Prop :=
  let at_ := if limit then s.get F.EPD_STAT_RAILST = 2 ∨ (s.get F.EPD_STAT_RAILST = 1 ∧ s.panel.railsAt + 16384 ≤ s.angle.now)
    else s.get F.EPD_STAT_RAILST = 1 ∧ s.panel.railsAt + 81920 ≤ s.angle.now
  let held := s.on F.EPD_STAT_RAILHELD || decide (2 ≤ priorFaults s)
  let owed := (s.inflight.any fun u => u.layer == 0) && s.boot.legalRuns
  (s.get F.EPD_STAT_RAILST = 0 ∨ s.get F.EPD_STAT_RAILST = 3 → Completes (exec (.railFault rail limit) s) fun t => t = s)
  ∧ (at_ → s.panel.slots.length = 8 → LogRoom 2 s →
    Completes (exec (.railFault rail limit) s) fun t =>
      t.get F.EPD_STAT_RAILST = 3 ∧ t.inflight = [] ∧ t.get F.EPD_STAT_INFLIGHT = 0 ∧ t.getBit (F.IRQ_RAW.on Page.EPD) 5 = true
      ∧ t.on F.EPD_STAT_RAILHELD = held ∧ (owed = false ∨ held = true → t.panel.queue = s.panel.queue)
      ∧ (owed = true → held = true → t.panel.redraw = true)
      ∧ (owed = true → held = false → t.get (F.EPD_LREQ_W.i 0) = s.get F.EPD_LEGALRECT_LW ∧ t.get (F.EPD_LREQ_MODE.i 0) = 0)
      ∧ t.panel.railFaults.head? = some s.angle.now
      ∧ Logged Page.EPD 0x0C0A (args [rail.toNat, priorFaults s + 1]) s t ∧ epdFrame s t)

/-- R597: good rails power down once nothing has been in flight for RAILHOLD. -/
def railHoldExpiry (s : State) : Prop :=
  let due := s.get F.EPD_STAT_RAILST = 2 ∧ s.inflight = [] ∧ s.boot.pfail = false ∧ s.panel.idleAt + s.get F.EPD_FRAMECFG_RAILHOLD * 16384 ≤ s.angle.now
  Completes (exec .railHoldExpiry s) fun t =>
    (due → t.get F.EPD_STAT_RAILST = 3 ∧ t.panel = { s.panel with railsAt := s.angle.now }) ∧ (¬ due → t = s)
    ∧ WordsIn [F.EPD_STAT_RAILST.addr] s t ∧ t = { s with regs := t.regs, panel := t.panel }

/-- R599: a reading of the panel temperature is shown; the third in succession out of range sets TFAULT, with interrupt 6 and event 0x0C07, and the band
in force stays; the third good one clears it, with event 0x0C08. The first good reading sets the band in force, a later one the next band. Within 1 s of the
last measurement none takes place. -/
def panelTemperature (s : State) (v : BitVec 12) : Prop :=
  let out := decide (toSigned 12 v.toNat < -640 ∨ 1360 < toSigned 12 v.toNat)
  let f := s.on F.EPD_TEMP_TFAULT
  let due := s.panel.tempAt.all fun a => decide (a + 16384000 ≤ s.angle.now)
  (due = false → Completes (exec (.panelTemperature v) s) fun t => t = s)
  ∧ (due = true → LogRoom 1 s →
    Completes (exec (.panelTemperature v) s) fun t =>
      t.get F.EPD_TEMP_T = v.toNat
      ∧ t.on F.EPD_TEMP_TFAULT = (if out then f || decide (2 ≤ s.panel.tBad) else f && decide (s.panel.tGood < 2))
      ∧ (out = true → f = false → t.get F.EPD_STAT_BAND = s.get F.EPD_STAT_BAND
          ∧ (2 ≤ s.panel.tBad → Logged Page.EPD 0x0C07 v.toNat s t ∧ t.getBit (F.IRQ_RAW.on Page.EPD) 6 = true))
      ∧ (out = false → f = true → 2 ≤ s.panel.tGood → Logged Page.EPD 0x0C08 v.toNat s t)
      ∧ (out = false → f = false → t.panel.tBad = 0 ∧ t.get F.EPD_STAT_BAND = s.nextBand (toSigned 12 v.toNat) % 16)
      ∧ (out = false → f = false → s.panel.banded = false → t.get F.EPD_STAT_BAND = waveBand s.panel.wave (toSigned 12 v.toNat) % 16)
      ∧ t.panel = { s.panel with tBad := t.panel.tBad, tGood := t.panel.tGood, tAge := t.panel.tAge, tempAt := some s.angle.now, banded := t.panel.banded }
      ∧ epdFrame s t)

/-- R624: the neutral frame of the power-fail sequence ends 11 ms after t₀, to which the clock runs on: the updates end unfinished, and the rails power
down. Rails that are not on stay as they are. -/
def panelNeutralFrame (s : State) : Prop :=
  let on_ := s.boot.pfail && s.get F.EPD_STAT_RAILST == 2
  (on_ = false → Completes (exec .panelNeutralFrame s) fun t => t = s)
  ∧ (on_ = true → s.angle.now < s.panel.failAt + 180224 → Completes (exec .panelNeutralFrame s) fun t =>
      t = (s.run (s.panel.failAt + 180224 - s.angle.now)).cutUpdates.railsDown)
  ∧ (on_ = true → s.panel.failAt + 180224 ≤ s.angle.now → s.panel.slots.length = 8 → Completes (exec .panelNeutralFrame s) fun t =>
      t.get F.EPD_STAT_RAILST = 3 ∧ t.inflight = [] ∧ t.panel.cell = s.panel.cell ∧ t.panel.railsAt = s.angle.now ∧ epdFrame s t)

/-! ### Prompt audio (chapter 16, section 9) -/

/-- R629, R630: CTL.EN written 1 enables the output anew, out of HELD and the fault that is held; a fault that is not held stays for its 1 s; written 0 it
stops. -/
def audioEnable (s : State) (en : Bool) : Prop :=
  Completes (exec (.audioEnable en) s) fun t =>
    t.on F.AUD_CTL_EN = en
    ∧ (en = true → s.on F.AUD_CTL_EN = false → t.on F.AUD_STAT_FAULT = (s.on F.AUD_STAT_FAULT && !s.on F.AUD_STAT_HELD) ∧ t.on F.AUD_STAT_HELD = false
        ∧ t.audio = { last := s.angle.now, faults := s.audio.faults })
    ∧ (en = true → s.on F.AUD_CTL_EN = true → t = s)
    ∧ (en = false → t.on F.AUD_STAT_PLAYING = false ∧ t.audio = { last := s.angle.now, faults := s.audio.faults })
    ∧ WordsIn [F.AUD_CTL_EN.addr, F.AUD_STAT_HELD.addr] s t ∧ t = { s with regs := t.regs, audio := t.audio }

/-- R628, R629: at a sample instant the output takes one frame of four bytes from the ring of its port and plays the weighted sum of its two halves, limited
to 16 bits: PEAK holds the largest magnitude since it was read. Without a frame, once it has begun to play, it is in underrun: counted, with
interrupt 0 and event 0x0C40 at the first. -/
def audioSample (s : State) (r : Fin 256) : Prop :=
  let frame := ofBytes ((s.ring r).out.take 4)
  let exact := toSigned 16 frame * audioGain (s.get F.AUD_CFG_VOL0) + toSigned 16 (bits frame 16 16) * audioGain (s.get F.AUD_CFG_VOL1)
  s.audioRuns = true → s.audio.last + 1024 ≤ s.angle.now → s.ringFor 6 = some r.val → LogRoom 1 s →
    Completes (exec .audioSample s) fun t =>
      t.audio.last = s.audio.last + 1024
      ∧ (4 ≤ (s.ring r).out.length → (t.ring r).out = (s.ring r).out.drop 4 ∧ t.on F.AUD_STAT_PLAYING = true ∧ t.on F.AUD_STAT_UNDERRUN = false
          ∧ t.audio.started = true ∧ t.audio.underRun = false ∧ t.get F.AUD_CNT_UNDER = s.get F.AUD_CNT_UNDER
          ∧ (exact.den = 1 → t.audio.out = sat16 exact.num ∧ t.get F.AUD_LEVEL_PEAK = max (s.get F.AUD_LEVEL_PEAK) (sat16 exact.num).natAbs % 2 ^ F.AUD_LEVEL_PEAK.width))
      ∧ ((s.ring r).out.length < 4 → s.audio.started = false → t = { s with audio := { s.audio with last := s.audio.last + 1024 } })
      ∧ ((s.ring r).out.length < 4 → s.audio.started = true → t.on F.AUD_STAT_PLAYING = false ∧ t.on F.AUD_STAT_UNDERRUN = true ∧ t.rings = s.rings
          ∧ t.get F.AUD_CNT_UNDER = min (2 ^ F.AUD_CNT_UNDER.width - 1) (s.get F.AUD_CNT_UNDER + 1)
          ∧ (s.audio.underRun = false → Logged Page.AUD 0x0C40 0 s t) ∧ (s.audio.underRun = true → t.log = s.log))
      ∧ t = { s with regs := t.regs, audio := t.audio, rings := t.rings, log := t.log, fresh := t.fresh }

/-- R628: the sample instants follow one another every 1 024 ticks; the clock runs on to the next. An output that does not run has none. -/
def audioWait (s : State) : Prop :=
  (s.audioRuns = false → Completes (exec .audioSample s) fun t => t = s)
  ∧ (s.audioRuns = true → s.angle.now < s.audio.last + 1024 → Completes (exec .audioSample s) fun t =>
      let r := s.run (s.audio.last + 1024 - s.angle.now)
      t = if r.audioRuns then r.audioSample (s.audio.last + 1024) else r)

/-- R630: an output fault stops the output: FAULT, counted, interrupt 1 and event 0x0C41; the third in 60 s also holds it. -/
def audioFault (s : State) (current heat : Bool) : Prop :=
  let prior := (s.audio.faults.filter fun a => decide (s.angle.now ≤ a + 983040000)).length
  (s.audioRuns = false ∨ (current = false ∧ heat = false) → Completes (exec (.audioFault current heat) s) fun t => t = s)
  ∧ (s.audioRuns = true → current = true ∨ heat = true → LogRoom 1 s →
    Completes (exec (.audioFault current heat) s) fun t =>
      t.on F.AUD_STAT_FAULT = true ∧ t.on F.AUD_STAT_PLAYING = false ∧ t.on F.AUD_STAT_HELD = decide (2 ≤ prior) ∧ t.audioRuns = false
      ∧ t.get F.AUD_CNT_FAULTS = min (2 ^ F.AUD_CNT_FAULTS.width - 1) (s.get F.AUD_CNT_FAULTS + 1) ∧ t.getBit (F.IRQ_RAW.on Page.AUD) 1 = true
      ∧ t.audio.faults.head? = some s.angle.now ∧ t.audio.started = false
      ∧ Logged Page.AUD 0x0C41 (if current then 1 else 2) s t ∧ RegsIn [Page.AUD, Page.LDG] s t ∧ t = { s with regs := t.regs, audio := t.audio, log := t.log })

/-- R630: the output restarts 1 s after a fault that is not held, to which the clock runs on; another does not. -/
def audioRestart (s : State) : Prop :=
  let on_ := s.on F.AUD_STAT_FAULT && !s.on F.AUD_STAT_HELD
  let at_ := s.audio.faults.headD 0 + 16384000
  (on_ = false → Completes (exec .audioRestart s) fun t => t = s)
  ∧ (on_ = true → s.angle.now < at_ → Completes (exec .audioRestart s) fun t => t = ((s.run (at_ - s.angle.now)).put F.AUD_STAT_FAULT 0).audioSilent)
  ∧ (on_ = true → at_ ≤ s.angle.now → Completes (exec .audioRestart s) fun t =>
      t.on F.AUD_STAT_FAULT = false ∧ t.on F.AUD_STAT_HELD = false ∧ t.on F.AUD_STAT_PLAYING = false ∧ t.audio = { last := s.angle.now, faults := s.audio.faults }
      ∧ WordsIn [F.AUD_STAT_FAULT.addr] s t ∧ t = { s with regs := t.regs, audio := t.audio })

end Sys2Proof.Claims

/-- R605 to R612: frame boundaries and requests of the panel.
Choices of the model it rests on: log entries 5, 79. -/
def Obligations.PanelFrames : Prop :=
  (∀ s k r b, Claims.boundaryIdle s k r b) ∧ (∀ s r b, Claims.boundaryWait s r b) ∧ (∀ s n k, Claims.boundaryLate s n k) ∧ (∀ s q, Claims.boundaryTake s q) ∧ (∀ s n v, Claims.panelRequest s n v) ∧ (∀ s b, Claims.railsGood s b)

/-- R597 to R599, R624: the rails and the temperature of the panel.
Choices of the model it rests on: log entries 5, 79. -/
def Obligations.PanelRails : Prop :=
  (∀ s r p, Claims.railFault s r p) ∧ (∀ s, Claims.railHoldExpiry s) ∧ (∀ s v, Claims.panelTemperature s v) ∧ (∀ s, Claims.panelNeutralFrame s)

/-- R628 to R630: prompt audio.
Choices of the model it rests on: log entries 5, 81. -/
def Obligations.PromptAudio : Prop :=
  (∀ s e, Claims.audioEnable s e) ∧ (∀ s r, Claims.audioSample s r) ∧ (∀ s, Claims.audioWait s) ∧ (∀ s c p, Claims.audioFault s c p) ∧ (∀ s, Claims.audioRestart s)

/-! ### The recovery protocol (chapter 19, section 8) -/

namespace Sys2Proof.Claims

/-- The answer of the recovery service: CMD + 0x80, RESULT, STATE and two zero bytes, then what the command adds. -/
def recoveryAnswer (t : State) (cmd result : Nat) (more : List Byte) : Prop :=
  t.bus = ⟨false, ofBytes ([byteOf (cmd + 0x80) 0, byteOf result 0, byteOf t.updState 0, 0, 0] ++ more)⟩

/-- R751, R752: outside Winter mode, and on Ethernet in ROM Winter, no message of the recovery protocol is served; a message that fails its CRC or its
format never is, one whose PAYLOAD is longer than a frame or LEN holds among them. -/
def recoveryOff (s : State) (eth : Bool) (c : Fin 9) (v : Word) (l : List Byte) (p : Byte) (q : BitVec 768) : Prop :=
  let i : Instr := [Instr.recoveryHello eth, .recoveryManbuf eth v l, .recoveryOpen eth v, .recoveryData eth p v l, .recoveryPrepare eth, .recoveryActivate eth,
    .recoveryAbort eth, .recoveryRetry eth q, .recoveryBadMessage eth].getD c.val (.recoveryBadMessage eth)
  s.recovers eth = false ∨ c = 8 ∨ (c = 1 ∧ eth = true ∧ 1491 < l.length) ∨ (c = 3 ∧ eth = true ∧ 1016 < l.length) ∨ (c = 3 ∧ 65536 < l.length) →
    Completes (exec i s) fun t => t = s

/-- R752: HELLO is answered with RESULT 1, SYS.MODE, BOOT.WINTER, SYS.UID, SYS.REV and UPD.BANKS. -/
def recoveryHello (s : State) (eth : Bool) : Prop :=
  s.recovers eth = true →
    Completes (exec (.recoveryHello eth) s) fun t =>
      recoveryAnswer t 0x01 1 (toBytes 4 (s.word F.SYS_MODE_MODE.addr).toNat ++ toBytes 4 (s.word F.BOOT_WINTER_REASON.addr).toNat
        ++ toBytes 16 (s.getW F.SYS_UID) ++ toBytes 4 (s.word 0x40000004).toNat ++ toBytes 4 (s.word F.UPD_BANKS_CONF_SPR.addr).toNat)
      ∧ t = { s with bus := t.bus }

/-- R752: MANBUF puts its bytes into the manifest buffer at the offset; bytes past the buffer are refused with RESULT 10. -/
def recoveryManbuf (s : State) (eth : Bool) (v : Word) (l : List Byte) (i : Nat) : Prop :=
  let fits := decide (v.toNat + l.length ≤ 65536)
  s.recovers eth = true → l.length + 9 ≤ (if eth then 1500 else 65549) →
    Completes (exec (.recoveryManbuf eth v l) s) fun t =>
      recoveryAnswer t 0x02 (if fits then 1 else 10) []
      ∧ (fits = true → t.update.manbuf.getD i 0 = if v.toNat ≤ i ∧ i < v.toNat + l.length then l.getD (i - v.toNat) 0 else s.update.manbuf.getD i 0)
      ∧ (fits = false → t.update = s.update) ∧ t = { s with bus := t.bus, update := { s.update with manbuf := t.update.manbuf } }

/-- R732, R751, R752: OPEN acts on the first TOTAL bytes of the buffer, as UPD's own OPEN: refused while busy (RESULT 2), outside IDLE (3), while a bank is
pending (14), and with the RESULT of the first check that fails; the refusal is answered at once. -/
def recoveryOpen (s : State) (eth : Bool) (total : Word) : Prop :=
  let r := s.openCheck (s.update.manbuf.take total.toNat) (s.romLevel)
  let result := if s.on F.UPD_STAT_BUSY then 2 else if s.updState ≠ 0 then 3 else if s.on F.UPD_STAT_PENDING then 14 else r
  s.recovers eth = true →
    Completes (exec (.recoveryOpen eth total) s) fun t =>
      (result ≠ 1 → t.get F.UPD_RES_RESULT = result ∧ t.updState = s.updState ∧ t.flash = s.flash ∧ t.ledger = s.ledger)
      ∧ (result ≠ 1 → s.on F.UPD_STAT_BUSY = false → recoveryAnswer t 0x03 result [] ∧ t.update = { s.update with op := 0, asked := 0 })
      ∧ (result = 1 → t.on F.UPD_STAT_BUSY = true ∧ t.update.asked = 3 ∧ t.bus = s.bus ∧ t.targetBank = (1 - s.update.active) % 2)
      ∧ updFrame { s with bus := t.bus } t

/-- R735, R752: DATA outside STAGING is answered with RESULT 3. -/
def recoveryData (s : State) (eth : Bool) (p : Byte) (v : Word) (l : List Byte) : Prop :=
  s.recovers eth = true → l.length ≤ 1016 → s.on F.UPD_STAT_BUSY = false → s.updState ≠ 2 →
    Completes (exec (.recoveryData eth p v l) s) fun t =>
      recoveryAnswer t 0x04 3 [] ∧ t.get F.UPD_RES_RESULT = 3 ∧ t.flash = s.flash ∧ updFrame { s with bus := t.bus } t

/-- R735, R752: DATA in STAGING that continues a part within its size is taken: its bytes go to the target bank, and the answer waits for the end of the
command. -/
def recoveryDataTaken (s : State) (eth : Bool) (p : Byte) (v : Word) (l : List Byte) : Prop :=
  let part := (manParts (s.bankManifest s.targetBank))[p.toNat]?
  s.recovers eth = true → 1 ≤ l.length → l.length ≤ 1016 → s.on F.UPD_STAT_BUSY = false → s.updState = 2 → v.toNat = s.get (F.UPD_PART_BYTES.i p.toNat) →
  part.any (fun e => decide (v.toNat + l.length ≤ e.size) && e.type != 3) = true →
    Completes (exec (.recoveryData eth p v l) s) fun t =>
      t.on F.UPD_STAT_BUSY = true ∧ t.bus = s.bus
      ∧ t.update = { s.update with op := 2, part := p.toNat, ofs := v.toNat, len := l.length, asked := 4 } ∧ updFrame s t

/-- R737, R752: PREPARE acts as UPD's own: begun, its answer waits for its end; refused, it is answered with RESULT 3. -/
def recoveryPrepare (s : State) (eth : Bool) : Prop :=
  let ok := decide (s.updState = 2) && (List.range (manParts (s.bankManifest s.targetBank)).length).all (fun i => s.get (F.UPD_PART_ST.i i) == 2)
  s.recovers eth = true → s.on F.UPD_STAT_BUSY = false →
    Completes (exec (.recoveryPrepare eth) s) fun t =>
      (ok = true → t.updState = 3 ∧ t.on F.UPD_STAT_BUSY = true ∧ t.on F.UPD_STAT_SETBLK = true ∧ t.update = { s.update with op := 3, part := 0, ofs := 0, len := 0, asked := 5 }
          ∧ t.bus = s.bus)
      ∧ (ok = false → recoveryAnswer t 0x05 3 [] ∧ t.updState = s.updState) ∧ t.flash = s.flash ∧ updFrame { s with bus := t.bus } t

/-- R740, R752: ACTIVATE in PREPARED begins the activation at once, its source recorded as the recovery of the legal image or of the boot ROM; else
RESULT 3. -/
def recoveryActivate (s : State) (eth : Bool) : Prop :=
  s.recovers eth = true → s.on F.UPD_STAT_BUSY = false → s.get F.SIG_STAT_SESS = 0 →
    Completes (exec (.recoveryActivate eth) s) fun t =>
      (s.updState = 4 → t.updState = 6 ∧ t.update.begun = (if s.romLevel then 2 else 1) ∧ recoveryAnswer t 0x06 1 [])
      ∧ (s.updState ≠ 4 → t.updState = s.updState ∧ recoveryAnswer t 0x06 3 []) ∧ t.flash = s.flash
      ∧ RegsIn [Page.UPD, Page.ANG, Page.LDG, Page.SAF, Page.SW 0, Page.SW 1] s t

/-- R736, R752: ABORT discards the staging, also while a command runs, with RESULT 1; with nothing to abort RESULT 3. -/
def recoveryAbort (s : State) (eth : Bool) : Prop :=
  let ok := decide (1 ≤ s.updState ∧ s.updState ≤ 5)
  s.recovers eth = true → s.isMaster = false → LogRoom 1 s →
    Completes (exec (.recoveryAbort eth) s) fun t =>
      recoveryAnswer t 0x07 (if ok then 1 else 3) [] ∧ t.updState = (if ok then 0 else s.updState) ∧ t.on F.UPD_STAT_BUSY = false
      ∧ (ok = true → Logged Page.UPD 0x0F06 1 s t) ∧ t.flash = s.flash ∧ updFrame { s with bus := t.bus } t

/-- R148, R753: RETRY is refused with RESULT 3 by the boot ROM, and with RESULT 18 and event 0x0F15 where a check fails; else RESULT 1: RQSEQ is that of
the request, CONSEC is 2, Winter mode is left, and a start of the application begins at S3. -/
def recoveryRetry (s : State) (eth : Bool) (q : BitVec 768) : Prop :=
  let l := toBytes 96 q.toNat
  let seq := ofBytes ((l.drop 24).take 4)
  let rom := s.romLevel
  s.recovers eth = true → LogRoom 1 s →
    Completes (exec (.recoveryRetry eth q) s) fun t =>
      (rom = true → recoveryAnswer t 0x08 3 [] ∧ t = { s with bus := t.bus })
      ∧ (rom = false → s.retryOk l = false → recoveryAnswer t 0x08 18 [] ∧ Logged Page.UPD 0x0F15 seq s t ∧ t = { s with regs := t.regs, bus := t.bus, log := t.log })
      ∧ (rom = false → s.retryOk l = true → t.get F.UPD_RQSEQ = seq ∧ t.get F.BOOT_STARTS_CONSEC = 2 ∧ t.get F.BOOT_WINTER_REASON = 0
          ∧ t.get F.BOOT_STAT_STAGE = 3 ∧ t.bus = ⟨false, ofBytes [0x88, 1, byteOf s.updState 0, 0, 0]⟩)

/-! ### The service link and Production test (chapter 20, sections 3 and 4) -/

/-- The answer of the service link. -/
def serviceAnswer (t : State) (cmd result : Nat) (more : List Byte) : Prop :=
  t.bus = ⟨false, ofBytes ([byteOf (cmd + 0x80) 0, byteOf result 0] ++ more)⟩

/-- R769: while the module is sealed, or its legal image does not run, no message of the service link is served; a message that fails its CRC or its
format never is. -/
def serviceOff (s : State) (c : Fin 8) (a n : Word) (k : BitVec 16) (ws : List Word) (l : List Byte) (ok : Bool) (z : ColdCheck) : Prop :=
  let i : Instr := [Instr.serviceShello, .serviceRdreg a k, .serviceWrreg a ws, .servicePtenter, .servicePtexit z, .serviceFlprog a l ok, .serviceFlread a n,
    .serviceBadMessage].getD c.val .serviceBadMessage
  s.serviceOn = false ∨ c = 7 → Completes (exec i s) fun t => t = s

/-- R769: SHELLO is answered with SYS.UID, SYS.REV, SEAL.STAT, SEAL.LEC and SYS.MODE. -/
def serviceShello (s : State) : Prop :=
  s.serviceOn = true →
    Completes (exec .serviceShello s) fun t =>
      serviceAnswer t 0x40 1 (toBytes 16 (s.getW F.SYS_UID) ++ toBytes 4 (s.word 0x40000004).toNat ++ toBytes 4 (s.word F.SEAL_STAT_STATE.addr).toNat
        ++ toBytes 4 (s.word F.SEAL_LEC.addr).toNat ++ toBytes 4 (s.word F.SYS_MODE_MODE.addr).toNat)
      ∧ t = { s with bus := t.bus }

/-- R769: RDREG of one word answers what a read by the legal core gives, RESULT 3 at a bus error; no word, or more than 256, is RESULT 6 with event
0x1020, and nothing is read. -/
def serviceRdreg (s : State) (a : Word) (k : BitVec 16) : Prop :=
  let r := s.readAccess .legal a.toNat 4
  s.serviceOn = true → LogRoom 1 s →
    (k.toNat < 1 ∨ 256 < k.toNat →
      Completes (exec (.serviceRdreg a k) s) fun t =>
        serviceAnswer t 0x41 6 [] ∧ Logged Page.SYS 0x1020 (args [0x41, 6]) s t ∧ t = { s with regs := t.regs, bus := t.bus, log := t.log })
    ∧ (Completes (exec (.serviceRdreg a 1) s) fun t =>
        (r.bus.err = false → serviceAnswer t 0x41 1 (toBytes 4 r.bus.data) ∧ t = { r with bus := t.bus })
        ∧ (r.bus.err = true → serviceAnswer t 0x41 3 []))

/-- R769, R103: WRREG of one word has the outcome of a write by the legal core, RESULT 3 at a bus error; a step of sealing through SEAL.CMD, with
RESULT 1, is served as R103 gives; without a word RESULT 6 and event 0x1020. -/
def serviceWrreg (s : State) (a w : Word) : Prop :=
  let r := s.writeService a.toNat w
  s.serviceOn = true → LogRoom 1 s →
    (Completes (exec (.serviceWrreg a []) s) fun t =>
      serviceAnswer t 0x42 6 [] ∧ Logged Page.SYS 0x1020 (args [0x42, 6]) s t ∧ t = { s with regs := t.regs, bus := t.bus, log := t.log })
    ∧ (Completes (exec (.serviceWrreg a [w]) s) fun t =>
        (r.bus.err = false → serviceAnswer t 0x42 1 [] ∧ t = { r with bus := t.bus }) ∧ (r.bus.err = true → serviceAnswer t 0x42 3 []))

/-- R770: PTENTER is refused with RESULT 3 and event 0x1003 while a session is open, in a mode other than Run or custodial, or while the update engine is
not idle; else Production test is in force, with event 0x1001, and an operating island is HELD. -/
def servicePtenter (s : State) : Prop :=
  s.serviceOn = true → LogRoom 2 s →
    Completes (exec .servicePtenter s) fun t =>
      (s.ptCondition ≠ 0 → serviceAnswer t 0x43 3 [] ∧ Logged Page.SYS 0x1003 s.ptCondition s t ∧ t = { s with regs := t.regs, bus := t.bus, log := t.log })
      ∧ (s.ptCondition = 0 → serviceAnswer t 0x43 1 [] ∧ t.boot.productionTest = true ∧ (s.get F.SAF_STAT_STATE = 1 → t.get F.SAF_STAT_STATE = 2)
          ∧ (t.held.any fun e => e.code == 0x1001 && decide (s.log.order ≤ e.order)) = true ∧ t.ledger = s.ledger ∧ t.flash = s.flash ∧ t.mem = s.mem
          ∧ t.pending = s.pending)

/-- R772: PTEXIT leaves Production test through a cold start, the application in reset; outside it RESULT 3 and event 0x1020. -/
def servicePtexit (s : State) (z : ColdCheck) : Prop :=
  s.serviceOn = true → LogRoom 1 s →
    Completes (exec (.servicePtexit z) s) fun t =>
      (s.boot.productionTest = false → serviceAnswer t 0x44 3 [] ∧ Logged Page.SYS 0x1020 (args [0x44, 3]) s t ∧ t = { s with regs := t.regs, bus := t.bus, log := t.log })
      ∧ (s.boot.productionTest = true → serviceAnswer t 0x44 1 [] ∧ t.boot.productionTest = false ∧ t.boot.appRuns = false ∧ t.flash = s.flash ∧ t.pending = s.pending)

/-- R773: FLPROG in Production test erases the 4 KiB sectors that it covers and programs the bytes, with event 0x1021 and RESULT 1; when the read-back
differs RESULT 12, and no other sector changes; outside Production test RESULT 3, and a length of 0 or above 65 536 is RESULT 6. -/
def serviceFlprog (s : State) (ofs : Word) (l : List Byte) (ok : Bool) (a : Nat) : Prop :=
  let bad := decide (l.length < 1 ∨ 65536 < l.length ∨ 0x20000000 < ofs.toNat + l.length)
  s.serviceOn = true → LogRoom 1 s →
    Completes (exec (.serviceFlprog ofs l ok) s) fun t =>
      serviceAnswer t 0x45 (if s.boot.productionTest then (if bad then 6 else if ok then 1 else 12) else 3) []
      ∧ ((s.boot.productionTest && !bad) = false → t.flash = s.flash)
      ∧ ((s.boot.productionTest && !bad) = true → Logged Page.SYS 0x1021 (args [ofs.toNat, l.length]) s t
          ∧ (if ofs.toNat / 4096 ≤ a / 4096 ∧ a / 4096 ≤ (ofs.toNat + l.length - 1) / 4096 then
              (ok = true → t.flashByte a = if ofs.toNat ≤ a ∧ a < ofs.toNat + l.length then l.getD (a - ofs.toNat) 0 else 0xFF)
            else t.flashByte a = s.flashByte a))
      ∧ t = { s with regs := t.regs, bus := t.bus, flash := t.flash, log := t.log, fresh := t.fresh }

/-- R769: FLREAD in Production test answers the bytes of the flash die; outside it RESULT 3, and a length of 0 or above 65 536 is RESULT 6. -/
def serviceFlread (s : State) (ofs n : Word) : Prop :=
  let bad := decide (n.toNat < 1 ∨ 65536 < n.toNat ∨ 0x20000000 < ofs.toNat + n.toNat)
  s.serviceOn = true → LogRoom 1 s →
    Completes (exec (.serviceFlread ofs n) s) fun t =>
      serviceAnswer t 0x46 (if s.boot.productionTest then (if bad then 6 else 1) else 3) (if s.boot.productionTest && !bad then s.flashBytes ofs.toNat n.toNat else [])
      ∧ t = { s with regs := t.regs, bus := t.bus, log := t.log }

end Sys2Proof.Claims

/-- R148, R732 to R740, R751 to R753: the recovery protocol of Winter mode.
Choices of the model it rests on: log entry 96. -/
def Obligations.RecoveryProtocol : Prop :=
  (∀ s e c v l p q, Claims.recoveryOff s e c v l p q) ∧ (∀ s e, Claims.recoveryHello s e) ∧ (∀ s e v l i, Claims.recoveryManbuf s e v l i)
    ∧ (∀ s e v, Claims.recoveryOpen s e v) ∧ (∀ s e p v l, Claims.recoveryData s e p v l) ∧ (∀ s e p v l, Claims.recoveryDataTaken s e p v l)
    ∧ (∀ s e, Claims.recoveryPrepare s e) ∧ (∀ s e, Claims.recoveryActivate s e) ∧ (∀ s e, Claims.recoveryAbort s e) ∧ (∀ s e q, Claims.recoveryRetry s e q)

/-- R769 to R773: the service link and Production test.
Choices of the model it rests on: log entry 97. -/
def Obligations.ServiceLink : Prop :=
  (∀ s c a n k w l b z, Claims.serviceOff s c a n k w l b z) ∧ (∀ s, Claims.serviceShello s) ∧ (∀ s a k, Claims.serviceRdreg s a k)
    ∧ (∀ s a w, Claims.serviceWrreg s a w) ∧ (∀ s, Claims.servicePtenter s) ∧ (∀ s z, Claims.servicePtexit s z)
    ∧ (∀ s o l b a, Claims.serviceFlprog s o l b a) ∧ (∀ s o n, Claims.serviceFlread s o n)

/-! ### The queue, the stores, reset, and rules of the whole machine -/

namespace Sys2Proof.Claims

/-- The command completes, and the queue is as it was. -/
def commandCompletes (s : State) (i : Instr) : Prop := Completes (exec i s) fun t => t.pending = s.pending

/-- The step to `t` leaves every store of the state in its canonical form. -/
def keepsCanonical (s t : State) : Prop := Canonical s → Canonical t

/-- R102: no step leads to FACTORY, and SEALED is left only by UNSEAL with the cover open and the push contact pressed. -/
def sealedStays (s t : State) (i : Instr) : Prop :=
  (s.sealSt.cell ≠ 0 → t.sealSt.cell ≠ 0)
  ∧ (s.sealSt.cell = 1 → t.sealSt.cell = 1 ∨ (i = .unseal ∧ s.on F.SEAL_STAT_COVER = true ∧ s.on F.SEAL_STAT_PUSH = true ∧ t.sealSt.cell = 2))

/-- R74: the request is refused and RTC.UTC, its validity and the slew are unchanged. -/
def utcRefused (s : State) (src seq : BitVec 8) (utc at_ : BitVec 64) (elapsed : BitVec 16) (build : BitVec 64) : Prop :=
  s.utcReq = some ⟨src.toNat, seq.toNat, utc.toNat, at_.toNat⟩ → src = 0 ∨ utc.toNat < build.toNat →
    Completes (exec (.utcRequestHandle elapsed build) s) fun t =>
      t.get F.RTC_SETSTAT_RESULT = 3 ∧ t.get F.RTC_SETSTAT_SEQ = seq.toNat ∧ t.utcReq = none ∧ t.utc = s.utc
      ∧ t.on F.RTC_STAT_VALID = s.on F.RTC_STAT_VALID ∧ t.get F.RTC_SLEWLEFT = s.get F.RTC_SLEWLEFT
      ∧ t.on F.RTC_STAT_SLEWING = s.on F.RTC_STAT_SLEWING ∧ t.angle = s.angle

/-- R719: both roles of the block end at once, so that it holds neither line and sends no STOP; a controller transfer ends with RESULT 7. -/
def twEnCleared (s : State) (n : Fin 2) : Prop :=
  s.twOn n = true →
    Completes (exec (.twDisable n) s) fun t =>
      t.twOn n = false ∧ (t.tw n).phase = 0 ∧ (t.tw n).target = 0 ∧ (t.tw n).again = false ∧ t.twHold n = false
      ∧ (s.on (F.TW_XFER_GO.i n) = true → t.on (F.TW_XFER_GO.i n) = false ∧ t.get (F.TW_XRES_RESULT.i n) = 7)

end Sys2Proof.Claims

/-- One step runs the command at the front of the queue, with the queue's rest.
Choices of the model it rests on: log entry 8. -/
def Obligations.StepRunsTheFront : Prop :=
  ∀ (s : State) (c : Instr), step { s with pending := c :: s.pending } = exec c s

/-- On an empty queue one reference tick passes, which is nothing while the module has no power; the queue stays empty. The tick on an empty queue
is the model's choice (log entry 2). -/
def Obligations.EmptyQueueTicks : Prop :=
  ∀ s : State, s.pending = [] →
    Completes (step s) fun t =>
      t.pending = [] ∧ (s.boot.powered = false → s.boot.pfail = false → t = s) ∧ (s.boot.powered = true → t = (s.advance 1).fireDue)

/-- Every command completes, on every operand and in every state, and leaves the queue as it is: no command ends in a fault or a refusal.
Choices of the model it rests on: log entries 10, 101. -/
def Obligations.EveryCommandCompletes : Prop := ∀ (s : State) (i : Instr), Claims.commandCompletes s i

/-- Every step keeps the canonical form of every store of the state.
Choices of the model it rests on: log entry 26. -/
def Obligations.CanonicalKept : Prop := ∀ s t : State, step s = .next t → Claims.keepsCanonical s t

/-- The state after reset: every store in its canonical form and the queue empty; every register word reads the reset value of the tables, the
seal cell holds FACTORY, and no switch leg conducts.
Choices of the model it rests on: log entry 1. -/
def Obligations.ResetState : Prop :=
  Canonical State.reset ∧ State.reset.pending = [] ∧ (∀ a, State.reset.word a = resetWord a) ∧ State.reset.sealSt.cell = 0
    ∧ State.reset.get F.SEAL_STAT_STATE = 0 ∧ State.reset.boot.powered = false ∧ (∀ n, (State.reset.sw n).legs = false)
    ∧ State.reset.ledger = [] ∧ State.reset.get F.DMA_ARB_C1SHARE = 2

/-- R102: no command leads to FACTORY, and the seal state leaves SEALED only by UNSEAL, with the cover open and the push contact pressed. -/
def Obligations.SealedUntilUnsealed : Prop :=
  ∀ (s t : State) (i : Instr), exec i s = .next t → Claims.sealedStays s t i

/-- R74: a UTC request without a source, or before the build time, leaves the clock unchanged. -/
def Obligations.UtcRequestRefused : Prop := ∀ s src seq utc at_ e b, Claims.utcRefused s src seq utc at_ e b

/-- R719: CTL.EN of a two-wire block cleared during a transfer. -/
def Obligations.TwoWireDisabled : Prop := ∀ s n, Claims.twEnCleared s n
end

