-- ==== Sys2Proof/Laws/State.lean ====
section
/-!
SUPPORT. Laws/State.lean: one lemma per field per update: every named update of one component of State leaves the other components as they
are.
-/

namespace Sys2Proof.Machine

/-! A new list of register words changes `regs` only. -/

@[simp] theorem State.regs_update_mem (s : State) (r : List (Nat × Word)) : ({ s with regs := r } : State).mem = s.mem := rfl
@[simp] theorem State.regs_update_sramTags (s : State) (r : List (Nat × Word)) : ({ s with regs := r } : State).sramTags = s.sramTags := rfl
@[simp] theorem State.regs_update_flash (s : State) (r : List (Nat × Word)) : ({ s with regs := r } : State).flash = s.flash := rfl
@[simp] theorem State.regs_update_ledger (s : State) (r : List (Nat × Word)) : ({ s with regs := r } : State).ledger = s.ledger := rfl
@[simp] theorem State.regs_update_snaps (s : State) (r : List (Nat × Word)) : ({ s with regs := r } : State).snaps = s.snaps := rfl
@[simp] theorem State.regs_update_stages (s : State) (r : List (Nat × Word)) : ({ s with regs := r } : State).stages = s.stages := rfl
@[simp] theorem State.regs_update_bus (s : State) (r : List (Nat × Word)) : ({ s with regs := r } : State).bus = s.bus := rfl
@[simp] theorem State.regs_update_stalled (s : State) (r : List (Nat × Word)) : ({ s with regs := r } : State).stalled = s.stalled := rfl
@[simp] theorem State.regs_update_fresh (s : State) (r : List (Nat × Word)) : ({ s with regs := r } : State).fresh = s.fresh := rfl
@[simp] theorem State.regs_update_log (s : State) (r : List (Nat × Word)) : ({ s with regs := r } : State).log = s.log := rfl
@[simp] theorem State.regs_update_angle (s : State) (r : List (Nat × Word)) : ({ s with regs := r } : State).angle = s.angle := rfl
@[simp] theorem State.regs_update_timers (s : State) (r : List (Nat × Word)) : ({ s with regs := r } : State).timers = s.timers := rfl
@[simp] theorem State.regs_update_utcReq (s : State) (r : List (Nat × Word)) : ({ s with regs := r } : State).utcReq = s.utcReq := rfl
@[simp] theorem State.regs_update_sealSt (s : State) (r : List (Nat × Word)) : ({ s with regs := r } : State).sealSt = s.sealSt := rfl
@[simp] theorem State.regs_update_boot (s : State) (r : List (Nat × Word)) : ({ s with regs := r } : State).boot = s.boot := rfl
@[simp] theorem State.regs_update_commit (s : State) (r : List (Nat × Word)) : ({ s with regs := r } : State).commit = s.commit := rfl
@[simp] theorem State.regs_update_session (s : State) (r : List (Nat × Word)) : ({ s with regs := r } : State).session = s.session := rfl
@[simp] theorem State.regs_update_heads (s : State) (r : List (Nat × Word)) : ({ s with regs := r } : State).heads = s.heads := rfl
@[simp] theorem State.regs_update_headDevs (s : State) (r : List (Nat × Word)) : ({ s with regs := r } : State).headDevs = s.headDevs := rfl
@[simp] theorem State.regs_update_chans (s : State) (r : List (Nat × Word)) : ({ s with regs := r } : State).chans = s.chans := rfl
@[simp] theorem State.regs_update_energy (s : State) (r : List (Nat × Word)) : ({ s with regs := r } : State).energy = s.energy := rfl
@[simp] theorem State.regs_update_pulses (s : State) (r : List (Nat × Word)) : ({ s with regs := r } : State).pulses = s.pulses := rfl
@[simp] theorem State.regs_update_safety (s : State) (r : List (Nat × Word)) : ({ s with regs := r } : State).safety = s.safety := rfl
@[simp] theorem State.regs_update_vehicle (s : State) (r : List (Nat × Word)) : ({ s with regs := r } : State).vehicle = s.vehicle := rfl
@[simp] theorem State.regs_update_modem (s : State) (r : List (Nat × Word)) : ({ s with regs := r } : State).modem = s.modem := rfl
@[simp] theorem State.regs_update_rings (s : State) (r : List (Nat × Word)) : ({ s with regs := r } : State).rings = s.rings := rfl
@[simp] theorem State.regs_update_dma (s : State) (r : List (Nat × Word)) : ({ s with regs := r } : State).dma = s.dma := rfl
@[simp] theorem State.regs_update_pats (s : State) (r : List (Nat × Word)) : ({ s with regs := r } : State).pats = s.pats := rfl
@[simp] theorem State.regs_update_uarts (s : State) (r : List (Nat × Word)) : ({ s with regs := r } : State).uarts = s.uarts := rfl
@[simp] theorem State.regs_update_tws (s : State) (r : List (Nat × Word)) : ({ s with regs := r } : State).tws = s.tws := rfl
@[simp] theorem State.regs_update_ether (s : State) (r : List (Nat × Word)) : ({ s with regs := r } : State).ether = s.ether := rfl
@[simp] theorem State.regs_update_update (s : State) (r : List (Nat × Word)) : ({ s with regs := r } : State).update = s.update := rfl
@[simp] theorem State.regs_update_cluster (s : State) (r : List (Nat × Word)) : ({ s with regs := r } : State).cluster = s.cluster := rfl
@[simp] theorem State.regs_update_alloc (s : State) (r : List (Nat × Word)) : ({ s with regs := r } : State).alloc = s.alloc := rfl
@[simp] theorem State.regs_update_tenants (s : State) (r : List (Nat × Word)) : ({ s with regs := r } : State).tenants = s.tenants := rfl
@[simp] theorem State.regs_update_reader (s : State) (r : List (Nat × Word)) : ({ s with regs := r } : State).reader = s.reader := rfl
@[simp] theorem State.regs_update_panel (s : State) (r : List (Nat × Word)) : ({ s with regs := r } : State).panel = s.panel := rfl
@[simp] theorem State.regs_update_audio (s : State) (r : List (Nat × Word)) : ({ s with regs := r } : State).audio = s.audio := rfl
@[simp] theorem State.regs_update_pending (s : State) (r : List (Nat × Word)) : ({ s with regs := r } : State).pending = s.pending := rfl

/-! `State.setWord` changes `regs` only. -/

@[simp] theorem State.setWord_mem (s : State) (a : Nat) (w : Word) : (s.setWord a w).mem = s.mem := State.regs_update_mem s (storeWrite resetWord s.regs a w)
@[simp] theorem State.setWord_sramTags (s : State) (a : Nat) (w : Word) : (s.setWord a w).sramTags = s.sramTags := State.regs_update_sramTags s (storeWrite resetWord s.regs a w)
@[simp] theorem State.setWord_flash (s : State) (a : Nat) (w : Word) : (s.setWord a w).flash = s.flash := State.regs_update_flash s (storeWrite resetWord s.regs a w)
@[simp] theorem State.setWord_ledger (s : State) (a : Nat) (w : Word) : (s.setWord a w).ledger = s.ledger := State.regs_update_ledger s (storeWrite resetWord s.regs a w)
@[simp] theorem State.setWord_snaps (s : State) (a : Nat) (w : Word) : (s.setWord a w).snaps = s.snaps := State.regs_update_snaps s (storeWrite resetWord s.regs a w)
@[simp] theorem State.setWord_stages (s : State) (a : Nat) (w : Word) : (s.setWord a w).stages = s.stages := State.regs_update_stages s (storeWrite resetWord s.regs a w)
@[simp] theorem State.setWord_bus (s : State) (a : Nat) (w : Word) : (s.setWord a w).bus = s.bus := State.regs_update_bus s (storeWrite resetWord s.regs a w)
@[simp] theorem State.setWord_stalled (s : State) (a : Nat) (w : Word) : (s.setWord a w).stalled = s.stalled := State.regs_update_stalled s (storeWrite resetWord s.regs a w)
@[simp] theorem State.setWord_fresh (s : State) (a : Nat) (w : Word) : (s.setWord a w).fresh = s.fresh := State.regs_update_fresh s (storeWrite resetWord s.regs a w)
@[simp] theorem State.setWord_log (s : State) (a : Nat) (w : Word) : (s.setWord a w).log = s.log := State.regs_update_log s (storeWrite resetWord s.regs a w)
@[simp] theorem State.setWord_angle (s : State) (a : Nat) (w : Word) : (s.setWord a w).angle = s.angle := State.regs_update_angle s (storeWrite resetWord s.regs a w)
@[simp] theorem State.setWord_timers (s : State) (a : Nat) (w : Word) : (s.setWord a w).timers = s.timers := State.regs_update_timers s (storeWrite resetWord s.regs a w)
@[simp] theorem State.setWord_utcReq (s : State) (a : Nat) (w : Word) : (s.setWord a w).utcReq = s.utcReq := State.regs_update_utcReq s (storeWrite resetWord s.regs a w)
@[simp] theorem State.setWord_sealSt (s : State) (a : Nat) (w : Word) : (s.setWord a w).sealSt = s.sealSt := State.regs_update_sealSt s (storeWrite resetWord s.regs a w)
@[simp] theorem State.setWord_boot (s : State) (a : Nat) (w : Word) : (s.setWord a w).boot = s.boot := State.regs_update_boot s (storeWrite resetWord s.regs a w)
@[simp] theorem State.setWord_commit (s : State) (a : Nat) (w : Word) : (s.setWord a w).commit = s.commit := State.regs_update_commit s (storeWrite resetWord s.regs a w)
@[simp] theorem State.setWord_session (s : State) (a : Nat) (w : Word) : (s.setWord a w).session = s.session := State.regs_update_session s (storeWrite resetWord s.regs a w)
@[simp] theorem State.setWord_heads (s : State) (a : Nat) (w : Word) : (s.setWord a w).heads = s.heads := State.regs_update_heads s (storeWrite resetWord s.regs a w)
@[simp] theorem State.setWord_headDevs (s : State) (a : Nat) (w : Word) : (s.setWord a w).headDevs = s.headDevs := State.regs_update_headDevs s (storeWrite resetWord s.regs a w)
@[simp] theorem State.setWord_chans (s : State) (a : Nat) (w : Word) : (s.setWord a w).chans = s.chans := State.regs_update_chans s (storeWrite resetWord s.regs a w)
@[simp] theorem State.setWord_energy (s : State) (a : Nat) (w : Word) : (s.setWord a w).energy = s.energy := State.regs_update_energy s (storeWrite resetWord s.regs a w)
@[simp] theorem State.setWord_pulses (s : State) (a : Nat) (w : Word) : (s.setWord a w).pulses = s.pulses := State.regs_update_pulses s (storeWrite resetWord s.regs a w)
@[simp] theorem State.setWord_safety (s : State) (a : Nat) (w : Word) : (s.setWord a w).safety = s.safety := State.regs_update_safety s (storeWrite resetWord s.regs a w)
@[simp] theorem State.setWord_vehicle (s : State) (a : Nat) (w : Word) : (s.setWord a w).vehicle = s.vehicle := State.regs_update_vehicle s (storeWrite resetWord s.regs a w)
@[simp] theorem State.setWord_modem (s : State) (a : Nat) (w : Word) : (s.setWord a w).modem = s.modem := State.regs_update_modem s (storeWrite resetWord s.regs a w)
@[simp] theorem State.setWord_rings (s : State) (a : Nat) (w : Word) : (s.setWord a w).rings = s.rings := State.regs_update_rings s (storeWrite resetWord s.regs a w)
@[simp] theorem State.setWord_dma (s : State) (a : Nat) (w : Word) : (s.setWord a w).dma = s.dma := State.regs_update_dma s (storeWrite resetWord s.regs a w)
@[simp] theorem State.setWord_pats (s : State) (a : Nat) (w : Word) : (s.setWord a w).pats = s.pats := State.regs_update_pats s (storeWrite resetWord s.regs a w)
@[simp] theorem State.setWord_uarts (s : State) (a : Nat) (w : Word) : (s.setWord a w).uarts = s.uarts := State.regs_update_uarts s (storeWrite resetWord s.regs a w)
@[simp] theorem State.setWord_tws (s : State) (a : Nat) (w : Word) : (s.setWord a w).tws = s.tws := State.regs_update_tws s (storeWrite resetWord s.regs a w)
@[simp] theorem State.setWord_ether (s : State) (a : Nat) (w : Word) : (s.setWord a w).ether = s.ether := State.regs_update_ether s (storeWrite resetWord s.regs a w)
@[simp] theorem State.setWord_update (s : State) (a : Nat) (w : Word) : (s.setWord a w).update = s.update := State.regs_update_update s (storeWrite resetWord s.regs a w)
@[simp] theorem State.setWord_cluster (s : State) (a : Nat) (w : Word) : (s.setWord a w).cluster = s.cluster := State.regs_update_cluster s (storeWrite resetWord s.regs a w)
@[simp] theorem State.setWord_alloc (s : State) (a : Nat) (w : Word) : (s.setWord a w).alloc = s.alloc := State.regs_update_alloc s (storeWrite resetWord s.regs a w)
@[simp] theorem State.setWord_tenants (s : State) (a : Nat) (w : Word) : (s.setWord a w).tenants = s.tenants := State.regs_update_tenants s (storeWrite resetWord s.regs a w)
@[simp] theorem State.setWord_reader (s : State) (a : Nat) (w : Word) : (s.setWord a w).reader = s.reader := State.regs_update_reader s (storeWrite resetWord s.regs a w)
@[simp] theorem State.setWord_panel (s : State) (a : Nat) (w : Word) : (s.setWord a w).panel = s.panel := State.regs_update_panel s (storeWrite resetWord s.regs a w)
@[simp] theorem State.setWord_audio (s : State) (a : Nat) (w : Word) : (s.setWord a w).audio = s.audio := State.regs_update_audio s (storeWrite resetWord s.regs a w)
@[simp] theorem State.setWord_pending (s : State) (a : Nat) (w : Word) : (s.setWord a w).pending = s.pending := State.regs_update_pending s (storeWrite resetWord s.regs a w)

/-! `State.put` changes `regs` only. -/

@[simp] theorem State.put_mem (s : State) (f : Field) (v : Nat) : (s.put f v).mem = s.mem := State.setWord_mem s f.addr (BitVec.ofNat 32 (setBits (s.word f.addr).toNat f.lo f.width v))
@[simp] theorem State.put_sramTags (s : State) (f : Field) (v : Nat) : (s.put f v).sramTags = s.sramTags := State.setWord_sramTags s f.addr (BitVec.ofNat 32 (setBits (s.word f.addr).toNat f.lo f.width v))
@[simp] theorem State.put_flash (s : State) (f : Field) (v : Nat) : (s.put f v).flash = s.flash := State.setWord_flash s f.addr (BitVec.ofNat 32 (setBits (s.word f.addr).toNat f.lo f.width v))
@[simp] theorem State.put_ledger (s : State) (f : Field) (v : Nat) : (s.put f v).ledger = s.ledger := State.setWord_ledger s f.addr (BitVec.ofNat 32 (setBits (s.word f.addr).toNat f.lo f.width v))
@[simp] theorem State.put_snaps (s : State) (f : Field) (v : Nat) : (s.put f v).snaps = s.snaps := State.setWord_snaps s f.addr (BitVec.ofNat 32 (setBits (s.word f.addr).toNat f.lo f.width v))
@[simp] theorem State.put_stages (s : State) (f : Field) (v : Nat) : (s.put f v).stages = s.stages := State.setWord_stages s f.addr (BitVec.ofNat 32 (setBits (s.word f.addr).toNat f.lo f.width v))
@[simp] theorem State.put_bus (s : State) (f : Field) (v : Nat) : (s.put f v).bus = s.bus := State.setWord_bus s f.addr (BitVec.ofNat 32 (setBits (s.word f.addr).toNat f.lo f.width v))
@[simp] theorem State.put_stalled (s : State) (f : Field) (v : Nat) : (s.put f v).stalled = s.stalled := State.setWord_stalled s f.addr (BitVec.ofNat 32 (setBits (s.word f.addr).toNat f.lo f.width v))
@[simp] theorem State.put_fresh (s : State) (f : Field) (v : Nat) : (s.put f v).fresh = s.fresh := State.setWord_fresh s f.addr (BitVec.ofNat 32 (setBits (s.word f.addr).toNat f.lo f.width v))
@[simp] theorem State.put_log (s : State) (f : Field) (v : Nat) : (s.put f v).log = s.log := State.setWord_log s f.addr (BitVec.ofNat 32 (setBits (s.word f.addr).toNat f.lo f.width v))
@[simp] theorem State.put_angle (s : State) (f : Field) (v : Nat) : (s.put f v).angle = s.angle := State.setWord_angle s f.addr (BitVec.ofNat 32 (setBits (s.word f.addr).toNat f.lo f.width v))
@[simp] theorem State.put_timers (s : State) (f : Field) (v : Nat) : (s.put f v).timers = s.timers := State.setWord_timers s f.addr (BitVec.ofNat 32 (setBits (s.word f.addr).toNat f.lo f.width v))
@[simp] theorem State.put_utcReq (s : State) (f : Field) (v : Nat) : (s.put f v).utcReq = s.utcReq := State.setWord_utcReq s f.addr (BitVec.ofNat 32 (setBits (s.word f.addr).toNat f.lo f.width v))
@[simp] theorem State.put_sealSt (s : State) (f : Field) (v : Nat) : (s.put f v).sealSt = s.sealSt := State.setWord_sealSt s f.addr (BitVec.ofNat 32 (setBits (s.word f.addr).toNat f.lo f.width v))
@[simp] theorem State.put_boot (s : State) (f : Field) (v : Nat) : (s.put f v).boot = s.boot := State.setWord_boot s f.addr (BitVec.ofNat 32 (setBits (s.word f.addr).toNat f.lo f.width v))
@[simp] theorem State.put_commit (s : State) (f : Field) (v : Nat) : (s.put f v).commit = s.commit := State.setWord_commit s f.addr (BitVec.ofNat 32 (setBits (s.word f.addr).toNat f.lo f.width v))
@[simp] theorem State.put_session (s : State) (f : Field) (v : Nat) : (s.put f v).session = s.session := State.setWord_session s f.addr (BitVec.ofNat 32 (setBits (s.word f.addr).toNat f.lo f.width v))
@[simp] theorem State.put_heads (s : State) (f : Field) (v : Nat) : (s.put f v).heads = s.heads := State.setWord_heads s f.addr (BitVec.ofNat 32 (setBits (s.word f.addr).toNat f.lo f.width v))
@[simp] theorem State.put_headDevs (s : State) (f : Field) (v : Nat) : (s.put f v).headDevs = s.headDevs := State.setWord_headDevs s f.addr (BitVec.ofNat 32 (setBits (s.word f.addr).toNat f.lo f.width v))
@[simp] theorem State.put_chans (s : State) (f : Field) (v : Nat) : (s.put f v).chans = s.chans := State.setWord_chans s f.addr (BitVec.ofNat 32 (setBits (s.word f.addr).toNat f.lo f.width v))
@[simp] theorem State.put_energy (s : State) (f : Field) (v : Nat) : (s.put f v).energy = s.energy := State.setWord_energy s f.addr (BitVec.ofNat 32 (setBits (s.word f.addr).toNat f.lo f.width v))
@[simp] theorem State.put_pulses (s : State) (f : Field) (v : Nat) : (s.put f v).pulses = s.pulses := State.setWord_pulses s f.addr (BitVec.ofNat 32 (setBits (s.word f.addr).toNat f.lo f.width v))
@[simp] theorem State.put_safety (s : State) (f : Field) (v : Nat) : (s.put f v).safety = s.safety := State.setWord_safety s f.addr (BitVec.ofNat 32 (setBits (s.word f.addr).toNat f.lo f.width v))
@[simp] theorem State.put_vehicle (s : State) (f : Field) (v : Nat) : (s.put f v).vehicle = s.vehicle := State.setWord_vehicle s f.addr (BitVec.ofNat 32 (setBits (s.word f.addr).toNat f.lo f.width v))
@[simp] theorem State.put_modem (s : State) (f : Field) (v : Nat) : (s.put f v).modem = s.modem := State.setWord_modem s f.addr (BitVec.ofNat 32 (setBits (s.word f.addr).toNat f.lo f.width v))
@[simp] theorem State.put_rings (s : State) (f : Field) (v : Nat) : (s.put f v).rings = s.rings := State.setWord_rings s f.addr (BitVec.ofNat 32 (setBits (s.word f.addr).toNat f.lo f.width v))
@[simp] theorem State.put_dma (s : State) (f : Field) (v : Nat) : (s.put f v).dma = s.dma := State.setWord_dma s f.addr (BitVec.ofNat 32 (setBits (s.word f.addr).toNat f.lo f.width v))
@[simp] theorem State.put_pats (s : State) (f : Field) (v : Nat) : (s.put f v).pats = s.pats := State.setWord_pats s f.addr (BitVec.ofNat 32 (setBits (s.word f.addr).toNat f.lo f.width v))
@[simp] theorem State.put_uarts (s : State) (f : Field) (v : Nat) : (s.put f v).uarts = s.uarts := State.setWord_uarts s f.addr (BitVec.ofNat 32 (setBits (s.word f.addr).toNat f.lo f.width v))
@[simp] theorem State.put_tws (s : State) (f : Field) (v : Nat) : (s.put f v).tws = s.tws := State.setWord_tws s f.addr (BitVec.ofNat 32 (setBits (s.word f.addr).toNat f.lo f.width v))
@[simp] theorem State.put_ether (s : State) (f : Field) (v : Nat) : (s.put f v).ether = s.ether := State.setWord_ether s f.addr (BitVec.ofNat 32 (setBits (s.word f.addr).toNat f.lo f.width v))
@[simp] theorem State.put_update (s : State) (f : Field) (v : Nat) : (s.put f v).update = s.update := State.setWord_update s f.addr (BitVec.ofNat 32 (setBits (s.word f.addr).toNat f.lo f.width v))
@[simp] theorem State.put_cluster (s : State) (f : Field) (v : Nat) : (s.put f v).cluster = s.cluster := State.setWord_cluster s f.addr (BitVec.ofNat 32 (setBits (s.word f.addr).toNat f.lo f.width v))
@[simp] theorem State.put_alloc (s : State) (f : Field) (v : Nat) : (s.put f v).alloc = s.alloc := State.setWord_alloc s f.addr (BitVec.ofNat 32 (setBits (s.word f.addr).toNat f.lo f.width v))
@[simp] theorem State.put_tenants (s : State) (f : Field) (v : Nat) : (s.put f v).tenants = s.tenants := State.setWord_tenants s f.addr (BitVec.ofNat 32 (setBits (s.word f.addr).toNat f.lo f.width v))
@[simp] theorem State.put_reader (s : State) (f : Field) (v : Nat) : (s.put f v).reader = s.reader := State.setWord_reader s f.addr (BitVec.ofNat 32 (setBits (s.word f.addr).toNat f.lo f.width v))
@[simp] theorem State.put_panel (s : State) (f : Field) (v : Nat) : (s.put f v).panel = s.panel := State.setWord_panel s f.addr (BitVec.ofNat 32 (setBits (s.word f.addr).toNat f.lo f.width v))
@[simp] theorem State.put_audio (s : State) (f : Field) (v : Nat) : (s.put f v).audio = s.audio := State.setWord_audio s f.addr (BitVec.ofNat 32 (setBits (s.word f.addr).toNat f.lo f.width v))
@[simp] theorem State.put_pending (s : State) (f : Field) (v : Nat) : (s.put f v).pending = s.pending := State.setWord_pending s f.addr (BitVec.ofNat 32 (setBits (s.word f.addr).toNat f.lo f.width v))

/-! `State.putBit` changes `regs` only. -/

@[simp] theorem State.putBit_mem (s : State) (f : Field) (i : Nat) (b : Bool) : (s.putBit f i b).mem = s.mem := State.put_mem s f (setBits (s.get f) i 1 (b2n b))
@[simp] theorem State.putBit_sramTags (s : State) (f : Field) (i : Nat) (b : Bool) : (s.putBit f i b).sramTags = s.sramTags := State.put_sramTags s f (setBits (s.get f) i 1 (b2n b))
@[simp] theorem State.putBit_flash (s : State) (f : Field) (i : Nat) (b : Bool) : (s.putBit f i b).flash = s.flash := State.put_flash s f (setBits (s.get f) i 1 (b2n b))
@[simp] theorem State.putBit_ledger (s : State) (f : Field) (i : Nat) (b : Bool) : (s.putBit f i b).ledger = s.ledger := State.put_ledger s f (setBits (s.get f) i 1 (b2n b))
@[simp] theorem State.putBit_snaps (s : State) (f : Field) (i : Nat) (b : Bool) : (s.putBit f i b).snaps = s.snaps := State.put_snaps s f (setBits (s.get f) i 1 (b2n b))
@[simp] theorem State.putBit_stages (s : State) (f : Field) (i : Nat) (b : Bool) : (s.putBit f i b).stages = s.stages := State.put_stages s f (setBits (s.get f) i 1 (b2n b))
@[simp] theorem State.putBit_bus (s : State) (f : Field) (i : Nat) (b : Bool) : (s.putBit f i b).bus = s.bus := State.put_bus s f (setBits (s.get f) i 1 (b2n b))
@[simp] theorem State.putBit_stalled (s : State) (f : Field) (i : Nat) (b : Bool) : (s.putBit f i b).stalled = s.stalled := State.put_stalled s f (setBits (s.get f) i 1 (b2n b))
@[simp] theorem State.putBit_fresh (s : State) (f : Field) (i : Nat) (b : Bool) : (s.putBit f i b).fresh = s.fresh := State.put_fresh s f (setBits (s.get f) i 1 (b2n b))
@[simp] theorem State.putBit_log (s : State) (f : Field) (i : Nat) (b : Bool) : (s.putBit f i b).log = s.log := State.put_log s f (setBits (s.get f) i 1 (b2n b))
@[simp] theorem State.putBit_angle (s : State) (f : Field) (i : Nat) (b : Bool) : (s.putBit f i b).angle = s.angle := State.put_angle s f (setBits (s.get f) i 1 (b2n b))
@[simp] theorem State.putBit_timers (s : State) (f : Field) (i : Nat) (b : Bool) : (s.putBit f i b).timers = s.timers := State.put_timers s f (setBits (s.get f) i 1 (b2n b))
@[simp] theorem State.putBit_utcReq (s : State) (f : Field) (i : Nat) (b : Bool) : (s.putBit f i b).utcReq = s.utcReq := State.put_utcReq s f (setBits (s.get f) i 1 (b2n b))
@[simp] theorem State.putBit_sealSt (s : State) (f : Field) (i : Nat) (b : Bool) : (s.putBit f i b).sealSt = s.sealSt := State.put_sealSt s f (setBits (s.get f) i 1 (b2n b))
@[simp] theorem State.putBit_boot (s : State) (f : Field) (i : Nat) (b : Bool) : (s.putBit f i b).boot = s.boot := State.put_boot s f (setBits (s.get f) i 1 (b2n b))
@[simp] theorem State.putBit_commit (s : State) (f : Field) (i : Nat) (b : Bool) : (s.putBit f i b).commit = s.commit := State.put_commit s f (setBits (s.get f) i 1 (b2n b))
@[simp] theorem State.putBit_session (s : State) (f : Field) (i : Nat) (b : Bool) : (s.putBit f i b).session = s.session := State.put_session s f (setBits (s.get f) i 1 (b2n b))
@[simp] theorem State.putBit_heads (s : State) (f : Field) (i : Nat) (b : Bool) : (s.putBit f i b).heads = s.heads := State.put_heads s f (setBits (s.get f) i 1 (b2n b))
@[simp] theorem State.putBit_headDevs (s : State) (f : Field) (i : Nat) (b : Bool) : (s.putBit f i b).headDevs = s.headDevs := State.put_headDevs s f (setBits (s.get f) i 1 (b2n b))
@[simp] theorem State.putBit_chans (s : State) (f : Field) (i : Nat) (b : Bool) : (s.putBit f i b).chans = s.chans := State.put_chans s f (setBits (s.get f) i 1 (b2n b))
@[simp] theorem State.putBit_energy (s : State) (f : Field) (i : Nat) (b : Bool) : (s.putBit f i b).energy = s.energy := State.put_energy s f (setBits (s.get f) i 1 (b2n b))
@[simp] theorem State.putBit_pulses (s : State) (f : Field) (i : Nat) (b : Bool) : (s.putBit f i b).pulses = s.pulses := State.put_pulses s f (setBits (s.get f) i 1 (b2n b))
@[simp] theorem State.putBit_safety (s : State) (f : Field) (i : Nat) (b : Bool) : (s.putBit f i b).safety = s.safety := State.put_safety s f (setBits (s.get f) i 1 (b2n b))
@[simp] theorem State.putBit_vehicle (s : State) (f : Field) (i : Nat) (b : Bool) : (s.putBit f i b).vehicle = s.vehicle := State.put_vehicle s f (setBits (s.get f) i 1 (b2n b))
@[simp] theorem State.putBit_modem (s : State) (f : Field) (i : Nat) (b : Bool) : (s.putBit f i b).modem = s.modem := State.put_modem s f (setBits (s.get f) i 1 (b2n b))
@[simp] theorem State.putBit_rings (s : State) (f : Field) (i : Nat) (b : Bool) : (s.putBit f i b).rings = s.rings := State.put_rings s f (setBits (s.get f) i 1 (b2n b))
@[simp] theorem State.putBit_dma (s : State) (f : Field) (i : Nat) (b : Bool) : (s.putBit f i b).dma = s.dma := State.put_dma s f (setBits (s.get f) i 1 (b2n b))
@[simp] theorem State.putBit_pats (s : State) (f : Field) (i : Nat) (b : Bool) : (s.putBit f i b).pats = s.pats := State.put_pats s f (setBits (s.get f) i 1 (b2n b))
@[simp] theorem State.putBit_uarts (s : State) (f : Field) (i : Nat) (b : Bool) : (s.putBit f i b).uarts = s.uarts := State.put_uarts s f (setBits (s.get f) i 1 (b2n b))
@[simp] theorem State.putBit_tws (s : State) (f : Field) (i : Nat) (b : Bool) : (s.putBit f i b).tws = s.tws := State.put_tws s f (setBits (s.get f) i 1 (b2n b))
@[simp] theorem State.putBit_ether (s : State) (f : Field) (i : Nat) (b : Bool) : (s.putBit f i b).ether = s.ether := State.put_ether s f (setBits (s.get f) i 1 (b2n b))
@[simp] theorem State.putBit_update (s : State) (f : Field) (i : Nat) (b : Bool) : (s.putBit f i b).update = s.update := State.put_update s f (setBits (s.get f) i 1 (b2n b))
@[simp] theorem State.putBit_cluster (s : State) (f : Field) (i : Nat) (b : Bool) : (s.putBit f i b).cluster = s.cluster := State.put_cluster s f (setBits (s.get f) i 1 (b2n b))
@[simp] theorem State.putBit_alloc (s : State) (f : Field) (i : Nat) (b : Bool) : (s.putBit f i b).alloc = s.alloc := State.put_alloc s f (setBits (s.get f) i 1 (b2n b))
@[simp] theorem State.putBit_tenants (s : State) (f : Field) (i : Nat) (b : Bool) : (s.putBit f i b).tenants = s.tenants := State.put_tenants s f (setBits (s.get f) i 1 (b2n b))
@[simp] theorem State.putBit_reader (s : State) (f : Field) (i : Nat) (b : Bool) : (s.putBit f i b).reader = s.reader := State.put_reader s f (setBits (s.get f) i 1 (b2n b))
@[simp] theorem State.putBit_panel (s : State) (f : Field) (i : Nat) (b : Bool) : (s.putBit f i b).panel = s.panel := State.put_panel s f (setBits (s.get f) i 1 (b2n b))
@[simp] theorem State.putBit_audio (s : State) (f : Field) (i : Nat) (b : Bool) : (s.putBit f i b).audio = s.audio := State.put_audio s f (setBits (s.get f) i 1 (b2n b))
@[simp] theorem State.putBit_pending (s : State) (f : Field) (i : Nat) (b : Bool) : (s.putBit f i b).pending = s.pending := State.put_pending s f (setBits (s.get f) i 1 (b2n b))

/-! `State.addSat` changes `regs` only. -/

@[simp] theorem State.addSat_mem (s : State) (f : Field) (n : Nat) : (s.addSat f n).mem = s.mem := State.put_mem s f (sat f.width (s.get f + n))
@[simp] theorem State.addSat_sramTags (s : State) (f : Field) (n : Nat) : (s.addSat f n).sramTags = s.sramTags := State.put_sramTags s f (sat f.width (s.get f + n))
@[simp] theorem State.addSat_flash (s : State) (f : Field) (n : Nat) : (s.addSat f n).flash = s.flash := State.put_flash s f (sat f.width (s.get f + n))
@[simp] theorem State.addSat_ledger (s : State) (f : Field) (n : Nat) : (s.addSat f n).ledger = s.ledger := State.put_ledger s f (sat f.width (s.get f + n))
@[simp] theorem State.addSat_snaps (s : State) (f : Field) (n : Nat) : (s.addSat f n).snaps = s.snaps := State.put_snaps s f (sat f.width (s.get f + n))
@[simp] theorem State.addSat_stages (s : State) (f : Field) (n : Nat) : (s.addSat f n).stages = s.stages := State.put_stages s f (sat f.width (s.get f + n))
@[simp] theorem State.addSat_bus (s : State) (f : Field) (n : Nat) : (s.addSat f n).bus = s.bus := State.put_bus s f (sat f.width (s.get f + n))
@[simp] theorem State.addSat_stalled (s : State) (f : Field) (n : Nat) : (s.addSat f n).stalled = s.stalled := State.put_stalled s f (sat f.width (s.get f + n))
@[simp] theorem State.addSat_fresh (s : State) (f : Field) (n : Nat) : (s.addSat f n).fresh = s.fresh := State.put_fresh s f (sat f.width (s.get f + n))
@[simp] theorem State.addSat_log (s : State) (f : Field) (n : Nat) : (s.addSat f n).log = s.log := State.put_log s f (sat f.width (s.get f + n))
@[simp] theorem State.addSat_angle (s : State) (f : Field) (n : Nat) : (s.addSat f n).angle = s.angle := State.put_angle s f (sat f.width (s.get f + n))
@[simp] theorem State.addSat_timers (s : State) (f : Field) (n : Nat) : (s.addSat f n).timers = s.timers := State.put_timers s f (sat f.width (s.get f + n))
@[simp] theorem State.addSat_utcReq (s : State) (f : Field) (n : Nat) : (s.addSat f n).utcReq = s.utcReq := State.put_utcReq s f (sat f.width (s.get f + n))
@[simp] theorem State.addSat_sealSt (s : State) (f : Field) (n : Nat) : (s.addSat f n).sealSt = s.sealSt := State.put_sealSt s f (sat f.width (s.get f + n))
@[simp] theorem State.addSat_boot (s : State) (f : Field) (n : Nat) : (s.addSat f n).boot = s.boot := State.put_boot s f (sat f.width (s.get f + n))
@[simp] theorem State.addSat_commit (s : State) (f : Field) (n : Nat) : (s.addSat f n).commit = s.commit := State.put_commit s f (sat f.width (s.get f + n))
@[simp] theorem State.addSat_session (s : State) (f : Field) (n : Nat) : (s.addSat f n).session = s.session := State.put_session s f (sat f.width (s.get f + n))
@[simp] theorem State.addSat_heads (s : State) (f : Field) (n : Nat) : (s.addSat f n).heads = s.heads := State.put_heads s f (sat f.width (s.get f + n))
@[simp] theorem State.addSat_headDevs (s : State) (f : Field) (n : Nat) : (s.addSat f n).headDevs = s.headDevs := State.put_headDevs s f (sat f.width (s.get f + n))
@[simp] theorem State.addSat_chans (s : State) (f : Field) (n : Nat) : (s.addSat f n).chans = s.chans := State.put_chans s f (sat f.width (s.get f + n))
@[simp] theorem State.addSat_energy (s : State) (f : Field) (n : Nat) : (s.addSat f n).energy = s.energy := State.put_energy s f (sat f.width (s.get f + n))
@[simp] theorem State.addSat_pulses (s : State) (f : Field) (n : Nat) : (s.addSat f n).pulses = s.pulses := State.put_pulses s f (sat f.width (s.get f + n))
@[simp] theorem State.addSat_safety (s : State) (f : Field) (n : Nat) : (s.addSat f n).safety = s.safety := State.put_safety s f (sat f.width (s.get f + n))
@[simp] theorem State.addSat_vehicle (s : State) (f : Field) (n : Nat) : (s.addSat f n).vehicle = s.vehicle := State.put_vehicle s f (sat f.width (s.get f + n))
@[simp] theorem State.addSat_modem (s : State) (f : Field) (n : Nat) : (s.addSat f n).modem = s.modem := State.put_modem s f (sat f.width (s.get f + n))
@[simp] theorem State.addSat_rings (s : State) (f : Field) (n : Nat) : (s.addSat f n).rings = s.rings := State.put_rings s f (sat f.width (s.get f + n))
@[simp] theorem State.addSat_dma (s : State) (f : Field) (n : Nat) : (s.addSat f n).dma = s.dma := State.put_dma s f (sat f.width (s.get f + n))
@[simp] theorem State.addSat_pats (s : State) (f : Field) (n : Nat) : (s.addSat f n).pats = s.pats := State.put_pats s f (sat f.width (s.get f + n))
@[simp] theorem State.addSat_uarts (s : State) (f : Field) (n : Nat) : (s.addSat f n).uarts = s.uarts := State.put_uarts s f (sat f.width (s.get f + n))
@[simp] theorem State.addSat_tws (s : State) (f : Field) (n : Nat) : (s.addSat f n).tws = s.tws := State.put_tws s f (sat f.width (s.get f + n))
@[simp] theorem State.addSat_ether (s : State) (f : Field) (n : Nat) : (s.addSat f n).ether = s.ether := State.put_ether s f (sat f.width (s.get f + n))
@[simp] theorem State.addSat_update (s : State) (f : Field) (n : Nat) : (s.addSat f n).update = s.update := State.put_update s f (sat f.width (s.get f + n))
@[simp] theorem State.addSat_cluster (s : State) (f : Field) (n : Nat) : (s.addSat f n).cluster = s.cluster := State.put_cluster s f (sat f.width (s.get f + n))
@[simp] theorem State.addSat_alloc (s : State) (f : Field) (n : Nat) : (s.addSat f n).alloc = s.alloc := State.put_alloc s f (sat f.width (s.get f + n))
@[simp] theorem State.addSat_tenants (s : State) (f : Field) (n : Nat) : (s.addSat f n).tenants = s.tenants := State.put_tenants s f (sat f.width (s.get f + n))
@[simp] theorem State.addSat_reader (s : State) (f : Field) (n : Nat) : (s.addSat f n).reader = s.reader := State.put_reader s f (sat f.width (s.get f + n))
@[simp] theorem State.addSat_panel (s : State) (f : Field) (n : Nat) : (s.addSat f n).panel = s.panel := State.put_panel s f (sat f.width (s.get f + n))
@[simp] theorem State.addSat_audio (s : State) (f : Field) (n : Nat) : (s.addSat f n).audio = s.audio := State.put_audio s f (sat f.width (s.get f + n))
@[simp] theorem State.addSat_pending (s : State) (f : Field) (n : Nat) : (s.addSat f n).pending = s.pending := State.put_pending s f (sat f.width (s.get f + n))

/-! `State.incSat` changes `regs` only. -/

@[simp] theorem State.incSat_mem (s : State) (f : Field) : (s.incSat f).mem = s.mem := State.addSat_mem s f 1
@[simp] theorem State.incSat_sramTags (s : State) (f : Field) : (s.incSat f).sramTags = s.sramTags := State.addSat_sramTags s f 1
@[simp] theorem State.incSat_flash (s : State) (f : Field) : (s.incSat f).flash = s.flash := State.addSat_flash s f 1
@[simp] theorem State.incSat_ledger (s : State) (f : Field) : (s.incSat f).ledger = s.ledger := State.addSat_ledger s f 1
@[simp] theorem State.incSat_snaps (s : State) (f : Field) : (s.incSat f).snaps = s.snaps := State.addSat_snaps s f 1
@[simp] theorem State.incSat_stages (s : State) (f : Field) : (s.incSat f).stages = s.stages := State.addSat_stages s f 1
@[simp] theorem State.incSat_bus (s : State) (f : Field) : (s.incSat f).bus = s.bus := State.addSat_bus s f 1
@[simp] theorem State.incSat_stalled (s : State) (f : Field) : (s.incSat f).stalled = s.stalled := State.addSat_stalled s f 1
@[simp] theorem State.incSat_fresh (s : State) (f : Field) : (s.incSat f).fresh = s.fresh := State.addSat_fresh s f 1
@[simp] theorem State.incSat_log (s : State) (f : Field) : (s.incSat f).log = s.log := State.addSat_log s f 1
@[simp] theorem State.incSat_angle (s : State) (f : Field) : (s.incSat f).angle = s.angle := State.addSat_angle s f 1
@[simp] theorem State.incSat_timers (s : State) (f : Field) : (s.incSat f).timers = s.timers := State.addSat_timers s f 1
@[simp] theorem State.incSat_utcReq (s : State) (f : Field) : (s.incSat f).utcReq = s.utcReq := State.addSat_utcReq s f 1
@[simp] theorem State.incSat_sealSt (s : State) (f : Field) : (s.incSat f).sealSt = s.sealSt := State.addSat_sealSt s f 1
@[simp] theorem State.incSat_boot (s : State) (f : Field) : (s.incSat f).boot = s.boot := State.addSat_boot s f 1
@[simp] theorem State.incSat_commit (s : State) (f : Field) : (s.incSat f).commit = s.commit := State.addSat_commit s f 1
@[simp] theorem State.incSat_session (s : State) (f : Field) : (s.incSat f).session = s.session := State.addSat_session s f 1
@[simp] theorem State.incSat_heads (s : State) (f : Field) : (s.incSat f).heads = s.heads := State.addSat_heads s f 1
@[simp] theorem State.incSat_headDevs (s : State) (f : Field) : (s.incSat f).headDevs = s.headDevs := State.addSat_headDevs s f 1
@[simp] theorem State.incSat_chans (s : State) (f : Field) : (s.incSat f).chans = s.chans := State.addSat_chans s f 1
@[simp] theorem State.incSat_energy (s : State) (f : Field) : (s.incSat f).energy = s.energy := State.addSat_energy s f 1
@[simp] theorem State.incSat_pulses (s : State) (f : Field) : (s.incSat f).pulses = s.pulses := State.addSat_pulses s f 1
@[simp] theorem State.incSat_safety (s : State) (f : Field) : (s.incSat f).safety = s.safety := State.addSat_safety s f 1
@[simp] theorem State.incSat_vehicle (s : State) (f : Field) : (s.incSat f).vehicle = s.vehicle := State.addSat_vehicle s f 1
@[simp] theorem State.incSat_modem (s : State) (f : Field) : (s.incSat f).modem = s.modem := State.addSat_modem s f 1
@[simp] theorem State.incSat_rings (s : State) (f : Field) : (s.incSat f).rings = s.rings := State.addSat_rings s f 1
@[simp] theorem State.incSat_dma (s : State) (f : Field) : (s.incSat f).dma = s.dma := State.addSat_dma s f 1
@[simp] theorem State.incSat_pats (s : State) (f : Field) : (s.incSat f).pats = s.pats := State.addSat_pats s f 1
@[simp] theorem State.incSat_uarts (s : State) (f : Field) : (s.incSat f).uarts = s.uarts := State.addSat_uarts s f 1
@[simp] theorem State.incSat_tws (s : State) (f : Field) : (s.incSat f).tws = s.tws := State.addSat_tws s f 1
@[simp] theorem State.incSat_ether (s : State) (f : Field) : (s.incSat f).ether = s.ether := State.addSat_ether s f 1
@[simp] theorem State.incSat_update (s : State) (f : Field) : (s.incSat f).update = s.update := State.addSat_update s f 1
@[simp] theorem State.incSat_cluster (s : State) (f : Field) : (s.incSat f).cluster = s.cluster := State.addSat_cluster s f 1
@[simp] theorem State.incSat_alloc (s : State) (f : Field) : (s.incSat f).alloc = s.alloc := State.addSat_alloc s f 1
@[simp] theorem State.incSat_tenants (s : State) (f : Field) : (s.incSat f).tenants = s.tenants := State.addSat_tenants s f 1
@[simp] theorem State.incSat_reader (s : State) (f : Field) : (s.incSat f).reader = s.reader := State.addSat_reader s f 1
@[simp] theorem State.incSat_panel (s : State) (f : Field) : (s.incSat f).panel = s.panel := State.addSat_panel s f 1
@[simp] theorem State.incSat_audio (s : State) (f : Field) : (s.incSat f).audio = s.audio := State.addSat_audio s f 1
@[simp] theorem State.incSat_pending (s : State) (f : Field) : (s.incSat f).pending = s.pending := State.addSat_pending s f 1

/-! `State.irq` changes `regs` only. -/

@[simp] theorem State.irq_mem (s : State) (page i : Nat) : (s.irq page i).mem = s.mem := State.putBit_mem s (F.IRQ_RAW.on page) i true
@[simp] theorem State.irq_sramTags (s : State) (page i : Nat) : (s.irq page i).sramTags = s.sramTags := State.putBit_sramTags s (F.IRQ_RAW.on page) i true
@[simp] theorem State.irq_flash (s : State) (page i : Nat) : (s.irq page i).flash = s.flash := State.putBit_flash s (F.IRQ_RAW.on page) i true
@[simp] theorem State.irq_ledger (s : State) (page i : Nat) : (s.irq page i).ledger = s.ledger := State.putBit_ledger s (F.IRQ_RAW.on page) i true
@[simp] theorem State.irq_snaps (s : State) (page i : Nat) : (s.irq page i).snaps = s.snaps := State.putBit_snaps s (F.IRQ_RAW.on page) i true
@[simp] theorem State.irq_stages (s : State) (page i : Nat) : (s.irq page i).stages = s.stages := State.putBit_stages s (F.IRQ_RAW.on page) i true
@[simp] theorem State.irq_bus (s : State) (page i : Nat) : (s.irq page i).bus = s.bus := State.putBit_bus s (F.IRQ_RAW.on page) i true
@[simp] theorem State.irq_stalled (s : State) (page i : Nat) : (s.irq page i).stalled = s.stalled := State.putBit_stalled s (F.IRQ_RAW.on page) i true
@[simp] theorem State.irq_fresh (s : State) (page i : Nat) : (s.irq page i).fresh = s.fresh := State.putBit_fresh s (F.IRQ_RAW.on page) i true
@[simp] theorem State.irq_log (s : State) (page i : Nat) : (s.irq page i).log = s.log := State.putBit_log s (F.IRQ_RAW.on page) i true
@[simp] theorem State.irq_angle (s : State) (page i : Nat) : (s.irq page i).angle = s.angle := State.putBit_angle s (F.IRQ_RAW.on page) i true
@[simp] theorem State.irq_timers (s : State) (page i : Nat) : (s.irq page i).timers = s.timers := State.putBit_timers s (F.IRQ_RAW.on page) i true
@[simp] theorem State.irq_utcReq (s : State) (page i : Nat) : (s.irq page i).utcReq = s.utcReq := State.putBit_utcReq s (F.IRQ_RAW.on page) i true
@[simp] theorem State.irq_sealSt (s : State) (page i : Nat) : (s.irq page i).sealSt = s.sealSt := State.putBit_sealSt s (F.IRQ_RAW.on page) i true
@[simp] theorem State.irq_boot (s : State) (page i : Nat) : (s.irq page i).boot = s.boot := State.putBit_boot s (F.IRQ_RAW.on page) i true
@[simp] theorem State.irq_commit (s : State) (page i : Nat) : (s.irq page i).commit = s.commit := State.putBit_commit s (F.IRQ_RAW.on page) i true
@[simp] theorem State.irq_session (s : State) (page i : Nat) : (s.irq page i).session = s.session := State.putBit_session s (F.IRQ_RAW.on page) i true
@[simp] theorem State.irq_heads (s : State) (page i : Nat) : (s.irq page i).heads = s.heads := State.putBit_heads s (F.IRQ_RAW.on page) i true
@[simp] theorem State.irq_headDevs (s : State) (page i : Nat) : (s.irq page i).headDevs = s.headDevs := State.putBit_headDevs s (F.IRQ_RAW.on page) i true
@[simp] theorem State.irq_chans (s : State) (page i : Nat) : (s.irq page i).chans = s.chans := State.putBit_chans s (F.IRQ_RAW.on page) i true
@[simp] theorem State.irq_energy (s : State) (page i : Nat) : (s.irq page i).energy = s.energy := State.putBit_energy s (F.IRQ_RAW.on page) i true
@[simp] theorem State.irq_pulses (s : State) (page i : Nat) : (s.irq page i).pulses = s.pulses := State.putBit_pulses s (F.IRQ_RAW.on page) i true
@[simp] theorem State.irq_safety (s : State) (page i : Nat) : (s.irq page i).safety = s.safety := State.putBit_safety s (F.IRQ_RAW.on page) i true
@[simp] theorem State.irq_vehicle (s : State) (page i : Nat) : (s.irq page i).vehicle = s.vehicle := State.putBit_vehicle s (F.IRQ_RAW.on page) i true
@[simp] theorem State.irq_modem (s : State) (page i : Nat) : (s.irq page i).modem = s.modem := State.putBit_modem s (F.IRQ_RAW.on page) i true
@[simp] theorem State.irq_rings (s : State) (page i : Nat) : (s.irq page i).rings = s.rings := State.putBit_rings s (F.IRQ_RAW.on page) i true
@[simp] theorem State.irq_dma (s : State) (page i : Nat) : (s.irq page i).dma = s.dma := State.putBit_dma s (F.IRQ_RAW.on page) i true
@[simp] theorem State.irq_pats (s : State) (page i : Nat) : (s.irq page i).pats = s.pats := State.putBit_pats s (F.IRQ_RAW.on page) i true
@[simp] theorem State.irq_uarts (s : State) (page i : Nat) : (s.irq page i).uarts = s.uarts := State.putBit_uarts s (F.IRQ_RAW.on page) i true
@[simp] theorem State.irq_tws (s : State) (page i : Nat) : (s.irq page i).tws = s.tws := State.putBit_tws s (F.IRQ_RAW.on page) i true
@[simp] theorem State.irq_ether (s : State) (page i : Nat) : (s.irq page i).ether = s.ether := State.putBit_ether s (F.IRQ_RAW.on page) i true
@[simp] theorem State.irq_update (s : State) (page i : Nat) : (s.irq page i).update = s.update := State.putBit_update s (F.IRQ_RAW.on page) i true
@[simp] theorem State.irq_cluster (s : State) (page i : Nat) : (s.irq page i).cluster = s.cluster := State.putBit_cluster s (F.IRQ_RAW.on page) i true
@[simp] theorem State.irq_alloc (s : State) (page i : Nat) : (s.irq page i).alloc = s.alloc := State.putBit_alloc s (F.IRQ_RAW.on page) i true
@[simp] theorem State.irq_tenants (s : State) (page i : Nat) : (s.irq page i).tenants = s.tenants := State.putBit_tenants s (F.IRQ_RAW.on page) i true
@[simp] theorem State.irq_reader (s : State) (page i : Nat) : (s.irq page i).reader = s.reader := State.putBit_reader s (F.IRQ_RAW.on page) i true
@[simp] theorem State.irq_panel (s : State) (page i : Nat) : (s.irq page i).panel = s.panel := State.putBit_panel s (F.IRQ_RAW.on page) i true
@[simp] theorem State.irq_audio (s : State) (page i : Nat) : (s.irq page i).audio = s.audio := State.putBit_audio s (F.IRQ_RAW.on page) i true
@[simp] theorem State.irq_pending (s : State) (page i : Nat) : (s.irq page i).pending = s.pending := State.putBit_pending s (F.IRQ_RAW.on page) i true

/-! `State.resetRange` changes `regs` only. -/

@[simp] theorem State.resetRange_mem (s : State) (a b : Nat) : (s.resetRange a b).mem = s.mem := State.regs_update_mem s (storeErase (fun k => decide (a ≤ k ∧ k < b)) s.regs)
@[simp] theorem State.resetRange_sramTags (s : State) (a b : Nat) : (s.resetRange a b).sramTags = s.sramTags := State.regs_update_sramTags s (storeErase (fun k => decide (a ≤ k ∧ k < b)) s.regs)
@[simp] theorem State.resetRange_flash (s : State) (a b : Nat) : (s.resetRange a b).flash = s.flash := State.regs_update_flash s (storeErase (fun k => decide (a ≤ k ∧ k < b)) s.regs)
@[simp] theorem State.resetRange_ledger (s : State) (a b : Nat) : (s.resetRange a b).ledger = s.ledger := State.regs_update_ledger s (storeErase (fun k => decide (a ≤ k ∧ k < b)) s.regs)
@[simp] theorem State.resetRange_snaps (s : State) (a b : Nat) : (s.resetRange a b).snaps = s.snaps := State.regs_update_snaps s (storeErase (fun k => decide (a ≤ k ∧ k < b)) s.regs)
@[simp] theorem State.resetRange_stages (s : State) (a b : Nat) : (s.resetRange a b).stages = s.stages := State.regs_update_stages s (storeErase (fun k => decide (a ≤ k ∧ k < b)) s.regs)
@[simp] theorem State.resetRange_bus (s : State) (a b : Nat) : (s.resetRange a b).bus = s.bus := State.regs_update_bus s (storeErase (fun k => decide (a ≤ k ∧ k < b)) s.regs)
@[simp] theorem State.resetRange_stalled (s : State) (a b : Nat) : (s.resetRange a b).stalled = s.stalled := State.regs_update_stalled s (storeErase (fun k => decide (a ≤ k ∧ k < b)) s.regs)
@[simp] theorem State.resetRange_fresh (s : State) (a b : Nat) : (s.resetRange a b).fresh = s.fresh := State.regs_update_fresh s (storeErase (fun k => decide (a ≤ k ∧ k < b)) s.regs)
@[simp] theorem State.resetRange_log (s : State) (a b : Nat) : (s.resetRange a b).log = s.log := State.regs_update_log s (storeErase (fun k => decide (a ≤ k ∧ k < b)) s.regs)
@[simp] theorem State.resetRange_angle (s : State) (a b : Nat) : (s.resetRange a b).angle = s.angle := State.regs_update_angle s (storeErase (fun k => decide (a ≤ k ∧ k < b)) s.regs)
@[simp] theorem State.resetRange_timers (s : State) (a b : Nat) : (s.resetRange a b).timers = s.timers := State.regs_update_timers s (storeErase (fun k => decide (a ≤ k ∧ k < b)) s.regs)
@[simp] theorem State.resetRange_utcReq (s : State) (a b : Nat) : (s.resetRange a b).utcReq = s.utcReq := State.regs_update_utcReq s (storeErase (fun k => decide (a ≤ k ∧ k < b)) s.regs)
@[simp] theorem State.resetRange_sealSt (s : State) (a b : Nat) : (s.resetRange a b).sealSt = s.sealSt := State.regs_update_sealSt s (storeErase (fun k => decide (a ≤ k ∧ k < b)) s.regs)
@[simp] theorem State.resetRange_boot (s : State) (a b : Nat) : (s.resetRange a b).boot = s.boot := State.regs_update_boot s (storeErase (fun k => decide (a ≤ k ∧ k < b)) s.regs)
@[simp] theorem State.resetRange_commit (s : State) (a b : Nat) : (s.resetRange a b).commit = s.commit := State.regs_update_commit s (storeErase (fun k => decide (a ≤ k ∧ k < b)) s.regs)
@[simp] theorem State.resetRange_session (s : State) (a b : Nat) : (s.resetRange a b).session = s.session := State.regs_update_session s (storeErase (fun k => decide (a ≤ k ∧ k < b)) s.regs)
@[simp] theorem State.resetRange_heads (s : State) (a b : Nat) : (s.resetRange a b).heads = s.heads := State.regs_update_heads s (storeErase (fun k => decide (a ≤ k ∧ k < b)) s.regs)
@[simp] theorem State.resetRange_headDevs (s : State) (a b : Nat) : (s.resetRange a b).headDevs = s.headDevs := State.regs_update_headDevs s (storeErase (fun k => decide (a ≤ k ∧ k < b)) s.regs)
@[simp] theorem State.resetRange_chans (s : State) (a b : Nat) : (s.resetRange a b).chans = s.chans := State.regs_update_chans s (storeErase (fun k => decide (a ≤ k ∧ k < b)) s.regs)
@[simp] theorem State.resetRange_energy (s : State) (a b : Nat) : (s.resetRange a b).energy = s.energy := State.regs_update_energy s (storeErase (fun k => decide (a ≤ k ∧ k < b)) s.regs)
@[simp] theorem State.resetRange_pulses (s : State) (a b : Nat) : (s.resetRange a b).pulses = s.pulses := State.regs_update_pulses s (storeErase (fun k => decide (a ≤ k ∧ k < b)) s.regs)
@[simp] theorem State.resetRange_safety (s : State) (a b : Nat) : (s.resetRange a b).safety = s.safety := State.regs_update_safety s (storeErase (fun k => decide (a ≤ k ∧ k < b)) s.regs)
@[simp] theorem State.resetRange_vehicle (s : State) (a b : Nat) : (s.resetRange a b).vehicle = s.vehicle := State.regs_update_vehicle s (storeErase (fun k => decide (a ≤ k ∧ k < b)) s.regs)
@[simp] theorem State.resetRange_modem (s : State) (a b : Nat) : (s.resetRange a b).modem = s.modem := State.regs_update_modem s (storeErase (fun k => decide (a ≤ k ∧ k < b)) s.regs)
@[simp] theorem State.resetRange_rings (s : State) (a b : Nat) : (s.resetRange a b).rings = s.rings := State.regs_update_rings s (storeErase (fun k => decide (a ≤ k ∧ k < b)) s.regs)
@[simp] theorem State.resetRange_dma (s : State) (a b : Nat) : (s.resetRange a b).dma = s.dma := State.regs_update_dma s (storeErase (fun k => decide (a ≤ k ∧ k < b)) s.regs)
@[simp] theorem State.resetRange_pats (s : State) (a b : Nat) : (s.resetRange a b).pats = s.pats := State.regs_update_pats s (storeErase (fun k => decide (a ≤ k ∧ k < b)) s.regs)
@[simp] theorem State.resetRange_uarts (s : State) (a b : Nat) : (s.resetRange a b).uarts = s.uarts := State.regs_update_uarts s (storeErase (fun k => decide (a ≤ k ∧ k < b)) s.regs)
@[simp] theorem State.resetRange_tws (s : State) (a b : Nat) : (s.resetRange a b).tws = s.tws := State.regs_update_tws s (storeErase (fun k => decide (a ≤ k ∧ k < b)) s.regs)
@[simp] theorem State.resetRange_ether (s : State) (a b : Nat) : (s.resetRange a b).ether = s.ether := State.regs_update_ether s (storeErase (fun k => decide (a ≤ k ∧ k < b)) s.regs)
@[simp] theorem State.resetRange_update (s : State) (a b : Nat) : (s.resetRange a b).update = s.update := State.regs_update_update s (storeErase (fun k => decide (a ≤ k ∧ k < b)) s.regs)
@[simp] theorem State.resetRange_cluster (s : State) (a b : Nat) : (s.resetRange a b).cluster = s.cluster := State.regs_update_cluster s (storeErase (fun k => decide (a ≤ k ∧ k < b)) s.regs)
@[simp] theorem State.resetRange_alloc (s : State) (a b : Nat) : (s.resetRange a b).alloc = s.alloc := State.regs_update_alloc s (storeErase (fun k => decide (a ≤ k ∧ k < b)) s.regs)
@[simp] theorem State.resetRange_tenants (s : State) (a b : Nat) : (s.resetRange a b).tenants = s.tenants := State.regs_update_tenants s (storeErase (fun k => decide (a ≤ k ∧ k < b)) s.regs)
@[simp] theorem State.resetRange_reader (s : State) (a b : Nat) : (s.resetRange a b).reader = s.reader := State.regs_update_reader s (storeErase (fun k => decide (a ≤ k ∧ k < b)) s.regs)
@[simp] theorem State.resetRange_panel (s : State) (a b : Nat) : (s.resetRange a b).panel = s.panel := State.regs_update_panel s (storeErase (fun k => decide (a ≤ k ∧ k < b)) s.regs)
@[simp] theorem State.resetRange_audio (s : State) (a b : Nat) : (s.resetRange a b).audio = s.audio := State.regs_update_audio s (storeErase (fun k => decide (a ≤ k ∧ k < b)) s.regs)
@[simp] theorem State.resetRange_pending (s : State) (a b : Nat) : (s.resetRange a b).pending = s.pending := State.regs_update_pending s (storeErase (fun k => decide (a ≤ k ∧ k < b)) s.regs)

/-! `State.setByte` changes `mem` only. -/

@[simp] theorem State.setByte_regs (s : State) (a : Nat) (b : Byte) : (s.setByte a b).regs = s.regs := rfl
@[simp] theorem State.setByte_sramTags (s : State) (a : Nat) (b : Byte) : (s.setByte a b).sramTags = s.sramTags := rfl
@[simp] theorem State.setByte_flash (s : State) (a : Nat) (b : Byte) : (s.setByte a b).flash = s.flash := rfl
@[simp] theorem State.setByte_ledger (s : State) (a : Nat) (b : Byte) : (s.setByte a b).ledger = s.ledger := rfl
@[simp] theorem State.setByte_snaps (s : State) (a : Nat) (b : Byte) : (s.setByte a b).snaps = s.snaps := rfl
@[simp] theorem State.setByte_stages (s : State) (a : Nat) (b : Byte) : (s.setByte a b).stages = s.stages := rfl
@[simp] theorem State.setByte_bus (s : State) (a : Nat) (b : Byte) : (s.setByte a b).bus = s.bus := rfl
@[simp] theorem State.setByte_stalled (s : State) (a : Nat) (b : Byte) : (s.setByte a b).stalled = s.stalled := rfl
@[simp] theorem State.setByte_fresh (s : State) (a : Nat) (b : Byte) : (s.setByte a b).fresh = s.fresh := rfl
@[simp] theorem State.setByte_log (s : State) (a : Nat) (b : Byte) : (s.setByte a b).log = s.log := rfl
@[simp] theorem State.setByte_angle (s : State) (a : Nat) (b : Byte) : (s.setByte a b).angle = s.angle := rfl
@[simp] theorem State.setByte_timers (s : State) (a : Nat) (b : Byte) : (s.setByte a b).timers = s.timers := rfl
@[simp] theorem State.setByte_utcReq (s : State) (a : Nat) (b : Byte) : (s.setByte a b).utcReq = s.utcReq := rfl
@[simp] theorem State.setByte_sealSt (s : State) (a : Nat) (b : Byte) : (s.setByte a b).sealSt = s.sealSt := rfl
@[simp] theorem State.setByte_boot (s : State) (a : Nat) (b : Byte) : (s.setByte a b).boot = s.boot := rfl
@[simp] theorem State.setByte_commit (s : State) (a : Nat) (b : Byte) : (s.setByte a b).commit = s.commit := rfl
@[simp] theorem State.setByte_session (s : State) (a : Nat) (b : Byte) : (s.setByte a b).session = s.session := rfl
@[simp] theorem State.setByte_heads (s : State) (a : Nat) (b : Byte) : (s.setByte a b).heads = s.heads := rfl
@[simp] theorem State.setByte_headDevs (s : State) (a : Nat) (b : Byte) : (s.setByte a b).headDevs = s.headDevs := rfl
@[simp] theorem State.setByte_chans (s : State) (a : Nat) (b : Byte) : (s.setByte a b).chans = s.chans := rfl
@[simp] theorem State.setByte_energy (s : State) (a : Nat) (b : Byte) : (s.setByte a b).energy = s.energy := rfl
@[simp] theorem State.setByte_pulses (s : State) (a : Nat) (b : Byte) : (s.setByte a b).pulses = s.pulses := rfl
@[simp] theorem State.setByte_safety (s : State) (a : Nat) (b : Byte) : (s.setByte a b).safety = s.safety := rfl
@[simp] theorem State.setByte_vehicle (s : State) (a : Nat) (b : Byte) : (s.setByte a b).vehicle = s.vehicle := rfl
@[simp] theorem State.setByte_modem (s : State) (a : Nat) (b : Byte) : (s.setByte a b).modem = s.modem := rfl
@[simp] theorem State.setByte_rings (s : State) (a : Nat) (b : Byte) : (s.setByte a b).rings = s.rings := rfl
@[simp] theorem State.setByte_dma (s : State) (a : Nat) (b : Byte) : (s.setByte a b).dma = s.dma := rfl
@[simp] theorem State.setByte_pats (s : State) (a : Nat) (b : Byte) : (s.setByte a b).pats = s.pats := rfl
@[simp] theorem State.setByte_uarts (s : State) (a : Nat) (b : Byte) : (s.setByte a b).uarts = s.uarts := rfl
@[simp] theorem State.setByte_tws (s : State) (a : Nat) (b : Byte) : (s.setByte a b).tws = s.tws := rfl
@[simp] theorem State.setByte_ether (s : State) (a : Nat) (b : Byte) : (s.setByte a b).ether = s.ether := rfl
@[simp] theorem State.setByte_update (s : State) (a : Nat) (b : Byte) : (s.setByte a b).update = s.update := rfl
@[simp] theorem State.setByte_cluster (s : State) (a : Nat) (b : Byte) : (s.setByte a b).cluster = s.cluster := rfl
@[simp] theorem State.setByte_alloc (s : State) (a : Nat) (b : Byte) : (s.setByte a b).alloc = s.alloc := rfl
@[simp] theorem State.setByte_tenants (s : State) (a : Nat) (b : Byte) : (s.setByte a b).tenants = s.tenants := rfl
@[simp] theorem State.setByte_reader (s : State) (a : Nat) (b : Byte) : (s.setByte a b).reader = s.reader := rfl
@[simp] theorem State.setByte_panel (s : State) (a : Nat) (b : Byte) : (s.setByte a b).panel = s.panel := rfl
@[simp] theorem State.setByte_audio (s : State) (a : Nat) (b : Byte) : (s.setByte a b).audio = s.audio := rfl
@[simp] theorem State.setByte_pending (s : State) (a : Nat) (b : Byte) : (s.setByte a b).pending = s.pending := rfl

/-! `State.setSramTag` changes `sramTags` only. -/

@[simp] theorem State.setSramTag_regs (s : State) (l : Nat) (g : SramTag) : (s.setSramTag l g).regs = s.regs := rfl
@[simp] theorem State.setSramTag_mem (s : State) (l : Nat) (g : SramTag) : (s.setSramTag l g).mem = s.mem := rfl
@[simp] theorem State.setSramTag_flash (s : State) (l : Nat) (g : SramTag) : (s.setSramTag l g).flash = s.flash := rfl
@[simp] theorem State.setSramTag_ledger (s : State) (l : Nat) (g : SramTag) : (s.setSramTag l g).ledger = s.ledger := rfl
@[simp] theorem State.setSramTag_snaps (s : State) (l : Nat) (g : SramTag) : (s.setSramTag l g).snaps = s.snaps := rfl
@[simp] theorem State.setSramTag_stages (s : State) (l : Nat) (g : SramTag) : (s.setSramTag l g).stages = s.stages := rfl
@[simp] theorem State.setSramTag_bus (s : State) (l : Nat) (g : SramTag) : (s.setSramTag l g).bus = s.bus := rfl
@[simp] theorem State.setSramTag_stalled (s : State) (l : Nat) (g : SramTag) : (s.setSramTag l g).stalled = s.stalled := rfl
@[simp] theorem State.setSramTag_fresh (s : State) (l : Nat) (g : SramTag) : (s.setSramTag l g).fresh = s.fresh := rfl
@[simp] theorem State.setSramTag_log (s : State) (l : Nat) (g : SramTag) : (s.setSramTag l g).log = s.log := rfl
@[simp] theorem State.setSramTag_angle (s : State) (l : Nat) (g : SramTag) : (s.setSramTag l g).angle = s.angle := rfl
@[simp] theorem State.setSramTag_timers (s : State) (l : Nat) (g : SramTag) : (s.setSramTag l g).timers = s.timers := rfl
@[simp] theorem State.setSramTag_utcReq (s : State) (l : Nat) (g : SramTag) : (s.setSramTag l g).utcReq = s.utcReq := rfl
@[simp] theorem State.setSramTag_sealSt (s : State) (l : Nat) (g : SramTag) : (s.setSramTag l g).sealSt = s.sealSt := rfl
@[simp] theorem State.setSramTag_boot (s : State) (l : Nat) (g : SramTag) : (s.setSramTag l g).boot = s.boot := rfl
@[simp] theorem State.setSramTag_commit (s : State) (l : Nat) (g : SramTag) : (s.setSramTag l g).commit = s.commit := rfl
@[simp] theorem State.setSramTag_session (s : State) (l : Nat) (g : SramTag) : (s.setSramTag l g).session = s.session := rfl
@[simp] theorem State.setSramTag_heads (s : State) (l : Nat) (g : SramTag) : (s.setSramTag l g).heads = s.heads := rfl
@[simp] theorem State.setSramTag_headDevs (s : State) (l : Nat) (g : SramTag) : (s.setSramTag l g).headDevs = s.headDevs := rfl
@[simp] theorem State.setSramTag_chans (s : State) (l : Nat) (g : SramTag) : (s.setSramTag l g).chans = s.chans := rfl
@[simp] theorem State.setSramTag_energy (s : State) (l : Nat) (g : SramTag) : (s.setSramTag l g).energy = s.energy := rfl
@[simp] theorem State.setSramTag_pulses (s : State) (l : Nat) (g : SramTag) : (s.setSramTag l g).pulses = s.pulses := rfl
@[simp] theorem State.setSramTag_safety (s : State) (l : Nat) (g : SramTag) : (s.setSramTag l g).safety = s.safety := rfl
@[simp] theorem State.setSramTag_vehicle (s : State) (l : Nat) (g : SramTag) : (s.setSramTag l g).vehicle = s.vehicle := rfl
@[simp] theorem State.setSramTag_modem (s : State) (l : Nat) (g : SramTag) : (s.setSramTag l g).modem = s.modem := rfl
@[simp] theorem State.setSramTag_rings (s : State) (l : Nat) (g : SramTag) : (s.setSramTag l g).rings = s.rings := rfl
@[simp] theorem State.setSramTag_dma (s : State) (l : Nat) (g : SramTag) : (s.setSramTag l g).dma = s.dma := rfl
@[simp] theorem State.setSramTag_pats (s : State) (l : Nat) (g : SramTag) : (s.setSramTag l g).pats = s.pats := rfl
@[simp] theorem State.setSramTag_uarts (s : State) (l : Nat) (g : SramTag) : (s.setSramTag l g).uarts = s.uarts := rfl
@[simp] theorem State.setSramTag_tws (s : State) (l : Nat) (g : SramTag) : (s.setSramTag l g).tws = s.tws := rfl
@[simp] theorem State.setSramTag_ether (s : State) (l : Nat) (g : SramTag) : (s.setSramTag l g).ether = s.ether := rfl
@[simp] theorem State.setSramTag_update (s : State) (l : Nat) (g : SramTag) : (s.setSramTag l g).update = s.update := rfl
@[simp] theorem State.setSramTag_cluster (s : State) (l : Nat) (g : SramTag) : (s.setSramTag l g).cluster = s.cluster := rfl
@[simp] theorem State.setSramTag_alloc (s : State) (l : Nat) (g : SramTag) : (s.setSramTag l g).alloc = s.alloc := rfl
@[simp] theorem State.setSramTag_tenants (s : State) (l : Nat) (g : SramTag) : (s.setSramTag l g).tenants = s.tenants := rfl
@[simp] theorem State.setSramTag_reader (s : State) (l : Nat) (g : SramTag) : (s.setSramTag l g).reader = s.reader := rfl
@[simp] theorem State.setSramTag_panel (s : State) (l : Nat) (g : SramTag) : (s.setSramTag l g).panel = s.panel := rfl
@[simp] theorem State.setSramTag_audio (s : State) (l : Nat) (g : SramTag) : (s.setSramTag l g).audio = s.audio := rfl
@[simp] theorem State.setSramTag_pending (s : State) (l : Nat) (g : SramTag) : (s.setSramTag l g).pending = s.pending := rfl

/-! `State.setFlash` changes `flash` only. -/

@[simp] theorem State.setFlash_regs (s : State) (a : Nat) (b : Byte) : (s.setFlash a b).regs = s.regs := rfl
@[simp] theorem State.setFlash_mem (s : State) (a : Nat) (b : Byte) : (s.setFlash a b).mem = s.mem := rfl
@[simp] theorem State.setFlash_sramTags (s : State) (a : Nat) (b : Byte) : (s.setFlash a b).sramTags = s.sramTags := rfl
@[simp] theorem State.setFlash_ledger (s : State) (a : Nat) (b : Byte) : (s.setFlash a b).ledger = s.ledger := rfl
@[simp] theorem State.setFlash_snaps (s : State) (a : Nat) (b : Byte) : (s.setFlash a b).snaps = s.snaps := rfl
@[simp] theorem State.setFlash_stages (s : State) (a : Nat) (b : Byte) : (s.setFlash a b).stages = s.stages := rfl
@[simp] theorem State.setFlash_bus (s : State) (a : Nat) (b : Byte) : (s.setFlash a b).bus = s.bus := rfl
@[simp] theorem State.setFlash_stalled (s : State) (a : Nat) (b : Byte) : (s.setFlash a b).stalled = s.stalled := rfl
@[simp] theorem State.setFlash_fresh (s : State) (a : Nat) (b : Byte) : (s.setFlash a b).fresh = s.fresh := rfl
@[simp] theorem State.setFlash_log (s : State) (a : Nat) (b : Byte) : (s.setFlash a b).log = s.log := rfl
@[simp] theorem State.setFlash_angle (s : State) (a : Nat) (b : Byte) : (s.setFlash a b).angle = s.angle := rfl
@[simp] theorem State.setFlash_timers (s : State) (a : Nat) (b : Byte) : (s.setFlash a b).timers = s.timers := rfl
@[simp] theorem State.setFlash_utcReq (s : State) (a : Nat) (b : Byte) : (s.setFlash a b).utcReq = s.utcReq := rfl
@[simp] theorem State.setFlash_sealSt (s : State) (a : Nat) (b : Byte) : (s.setFlash a b).sealSt = s.sealSt := rfl
@[simp] theorem State.setFlash_boot (s : State) (a : Nat) (b : Byte) : (s.setFlash a b).boot = s.boot := rfl
@[simp] theorem State.setFlash_commit (s : State) (a : Nat) (b : Byte) : (s.setFlash a b).commit = s.commit := rfl
@[simp] theorem State.setFlash_session (s : State) (a : Nat) (b : Byte) : (s.setFlash a b).session = s.session := rfl
@[simp] theorem State.setFlash_heads (s : State) (a : Nat) (b : Byte) : (s.setFlash a b).heads = s.heads := rfl
@[simp] theorem State.setFlash_headDevs (s : State) (a : Nat) (b : Byte) : (s.setFlash a b).headDevs = s.headDevs := rfl
@[simp] theorem State.setFlash_chans (s : State) (a : Nat) (b : Byte) : (s.setFlash a b).chans = s.chans := rfl
@[simp] theorem State.setFlash_energy (s : State) (a : Nat) (b : Byte) : (s.setFlash a b).energy = s.energy := rfl
@[simp] theorem State.setFlash_pulses (s : State) (a : Nat) (b : Byte) : (s.setFlash a b).pulses = s.pulses := rfl
@[simp] theorem State.setFlash_safety (s : State) (a : Nat) (b : Byte) : (s.setFlash a b).safety = s.safety := rfl
@[simp] theorem State.setFlash_vehicle (s : State) (a : Nat) (b : Byte) : (s.setFlash a b).vehicle = s.vehicle := rfl
@[simp] theorem State.setFlash_modem (s : State) (a : Nat) (b : Byte) : (s.setFlash a b).modem = s.modem := rfl
@[simp] theorem State.setFlash_rings (s : State) (a : Nat) (b : Byte) : (s.setFlash a b).rings = s.rings := rfl
@[simp] theorem State.setFlash_dma (s : State) (a : Nat) (b : Byte) : (s.setFlash a b).dma = s.dma := rfl
@[simp] theorem State.setFlash_pats (s : State) (a : Nat) (b : Byte) : (s.setFlash a b).pats = s.pats := rfl
@[simp] theorem State.setFlash_uarts (s : State) (a : Nat) (b : Byte) : (s.setFlash a b).uarts = s.uarts := rfl
@[simp] theorem State.setFlash_tws (s : State) (a : Nat) (b : Byte) : (s.setFlash a b).tws = s.tws := rfl
@[simp] theorem State.setFlash_ether (s : State) (a : Nat) (b : Byte) : (s.setFlash a b).ether = s.ether := rfl
@[simp] theorem State.setFlash_update (s : State) (a : Nat) (b : Byte) : (s.setFlash a b).update = s.update := rfl
@[simp] theorem State.setFlash_cluster (s : State) (a : Nat) (b : Byte) : (s.setFlash a b).cluster = s.cluster := rfl
@[simp] theorem State.setFlash_alloc (s : State) (a : Nat) (b : Byte) : (s.setFlash a b).alloc = s.alloc := rfl
@[simp] theorem State.setFlash_tenants (s : State) (a : Nat) (b : Byte) : (s.setFlash a b).tenants = s.tenants := rfl
@[simp] theorem State.setFlash_reader (s : State) (a : Nat) (b : Byte) : (s.setFlash a b).reader = s.reader := rfl
@[simp] theorem State.setFlash_panel (s : State) (a : Nat) (b : Byte) : (s.setFlash a b).panel = s.panel := rfl
@[simp] theorem State.setFlash_audio (s : State) (a : Nat) (b : Byte) : (s.setFlash a b).audio = s.audio := rfl
@[simp] theorem State.setFlash_pending (s : State) (a : Nat) (b : Byte) : (s.setFlash a b).pending = s.pending := rfl

/-! `State.eraseFlash` changes `flash` only. -/

@[simp] theorem State.eraseFlash_regs (s : State) (a b : Nat) : (s.eraseFlash a b).regs = s.regs := rfl
@[simp] theorem State.eraseFlash_mem (s : State) (a b : Nat) : (s.eraseFlash a b).mem = s.mem := rfl
@[simp] theorem State.eraseFlash_sramTags (s : State) (a b : Nat) : (s.eraseFlash a b).sramTags = s.sramTags := rfl
@[simp] theorem State.eraseFlash_ledger (s : State) (a b : Nat) : (s.eraseFlash a b).ledger = s.ledger := rfl
@[simp] theorem State.eraseFlash_snaps (s : State) (a b : Nat) : (s.eraseFlash a b).snaps = s.snaps := rfl
@[simp] theorem State.eraseFlash_stages (s : State) (a b : Nat) : (s.eraseFlash a b).stages = s.stages := rfl
@[simp] theorem State.eraseFlash_bus (s : State) (a b : Nat) : (s.eraseFlash a b).bus = s.bus := rfl
@[simp] theorem State.eraseFlash_stalled (s : State) (a b : Nat) : (s.eraseFlash a b).stalled = s.stalled := rfl
@[simp] theorem State.eraseFlash_fresh (s : State) (a b : Nat) : (s.eraseFlash a b).fresh = s.fresh := rfl
@[simp] theorem State.eraseFlash_log (s : State) (a b : Nat) : (s.eraseFlash a b).log = s.log := rfl
@[simp] theorem State.eraseFlash_angle (s : State) (a b : Nat) : (s.eraseFlash a b).angle = s.angle := rfl
@[simp] theorem State.eraseFlash_timers (s : State) (a b : Nat) : (s.eraseFlash a b).timers = s.timers := rfl
@[simp] theorem State.eraseFlash_utcReq (s : State) (a b : Nat) : (s.eraseFlash a b).utcReq = s.utcReq := rfl
@[simp] theorem State.eraseFlash_sealSt (s : State) (a b : Nat) : (s.eraseFlash a b).sealSt = s.sealSt := rfl
@[simp] theorem State.eraseFlash_boot (s : State) (a b : Nat) : (s.eraseFlash a b).boot = s.boot := rfl
@[simp] theorem State.eraseFlash_commit (s : State) (a b : Nat) : (s.eraseFlash a b).commit = s.commit := rfl
@[simp] theorem State.eraseFlash_session (s : State) (a b : Nat) : (s.eraseFlash a b).session = s.session := rfl
@[simp] theorem State.eraseFlash_heads (s : State) (a b : Nat) : (s.eraseFlash a b).heads = s.heads := rfl
@[simp] theorem State.eraseFlash_headDevs (s : State) (a b : Nat) : (s.eraseFlash a b).headDevs = s.headDevs := rfl
@[simp] theorem State.eraseFlash_chans (s : State) (a b : Nat) : (s.eraseFlash a b).chans = s.chans := rfl
@[simp] theorem State.eraseFlash_energy (s : State) (a b : Nat) : (s.eraseFlash a b).energy = s.energy := rfl
@[simp] theorem State.eraseFlash_pulses (s : State) (a b : Nat) : (s.eraseFlash a b).pulses = s.pulses := rfl
@[simp] theorem State.eraseFlash_safety (s : State) (a b : Nat) : (s.eraseFlash a b).safety = s.safety := rfl
@[simp] theorem State.eraseFlash_vehicle (s : State) (a b : Nat) : (s.eraseFlash a b).vehicle = s.vehicle := rfl
@[simp] theorem State.eraseFlash_modem (s : State) (a b : Nat) : (s.eraseFlash a b).modem = s.modem := rfl
@[simp] theorem State.eraseFlash_rings (s : State) (a b : Nat) : (s.eraseFlash a b).rings = s.rings := rfl
@[simp] theorem State.eraseFlash_dma (s : State) (a b : Nat) : (s.eraseFlash a b).dma = s.dma := rfl
@[simp] theorem State.eraseFlash_pats (s : State) (a b : Nat) : (s.eraseFlash a b).pats = s.pats := rfl
@[simp] theorem State.eraseFlash_uarts (s : State) (a b : Nat) : (s.eraseFlash a b).uarts = s.uarts := rfl
@[simp] theorem State.eraseFlash_tws (s : State) (a b : Nat) : (s.eraseFlash a b).tws = s.tws := rfl
@[simp] theorem State.eraseFlash_ether (s : State) (a b : Nat) : (s.eraseFlash a b).ether = s.ether := rfl
@[simp] theorem State.eraseFlash_update (s : State) (a b : Nat) : (s.eraseFlash a b).update = s.update := rfl
@[simp] theorem State.eraseFlash_cluster (s : State) (a b : Nat) : (s.eraseFlash a b).cluster = s.cluster := rfl
@[simp] theorem State.eraseFlash_alloc (s : State) (a b : Nat) : (s.eraseFlash a b).alloc = s.alloc := rfl
@[simp] theorem State.eraseFlash_tenants (s : State) (a b : Nat) : (s.eraseFlash a b).tenants = s.tenants := rfl
@[simp] theorem State.eraseFlash_reader (s : State) (a b : Nat) : (s.eraseFlash a b).reader = s.reader := rfl
@[simp] theorem State.eraseFlash_panel (s : State) (a b : Nat) : (s.eraseFlash a b).panel = s.panel := rfl
@[simp] theorem State.eraseFlash_audio (s : State) (a b : Nat) : (s.eraseFlash a b).audio = s.audio := rfl
@[simp] theorem State.eraseFlash_pending (s : State) (a b : Nat) : (s.eraseFlash a b).pending = s.pending := rfl

/-! `State.setLineRaw` changes `ledger` only. -/

@[simp] theorem State.setLineRaw_regs (s : State) (i : Nat) (l : TagLine) : (s.setLineRaw i l).regs = s.regs := rfl
@[simp] theorem State.setLineRaw_mem (s : State) (i : Nat) (l : TagLine) : (s.setLineRaw i l).mem = s.mem := rfl
@[simp] theorem State.setLineRaw_sramTags (s : State) (i : Nat) (l : TagLine) : (s.setLineRaw i l).sramTags = s.sramTags := rfl
@[simp] theorem State.setLineRaw_flash (s : State) (i : Nat) (l : TagLine) : (s.setLineRaw i l).flash = s.flash := rfl
@[simp] theorem State.setLineRaw_snaps (s : State) (i : Nat) (l : TagLine) : (s.setLineRaw i l).snaps = s.snaps := rfl
@[simp] theorem State.setLineRaw_stages (s : State) (i : Nat) (l : TagLine) : (s.setLineRaw i l).stages = s.stages := rfl
@[simp] theorem State.setLineRaw_bus (s : State) (i : Nat) (l : TagLine) : (s.setLineRaw i l).bus = s.bus := rfl
@[simp] theorem State.setLineRaw_stalled (s : State) (i : Nat) (l : TagLine) : (s.setLineRaw i l).stalled = s.stalled := rfl
@[simp] theorem State.setLineRaw_fresh (s : State) (i : Nat) (l : TagLine) : (s.setLineRaw i l).fresh = s.fresh := rfl
@[simp] theorem State.setLineRaw_log (s : State) (i : Nat) (l : TagLine) : (s.setLineRaw i l).log = s.log := rfl
@[simp] theorem State.setLineRaw_angle (s : State) (i : Nat) (l : TagLine) : (s.setLineRaw i l).angle = s.angle := rfl
@[simp] theorem State.setLineRaw_timers (s : State) (i : Nat) (l : TagLine) : (s.setLineRaw i l).timers = s.timers := rfl
@[simp] theorem State.setLineRaw_utcReq (s : State) (i : Nat) (l : TagLine) : (s.setLineRaw i l).utcReq = s.utcReq := rfl
@[simp] theorem State.setLineRaw_sealSt (s : State) (i : Nat) (l : TagLine) : (s.setLineRaw i l).sealSt = s.sealSt := rfl
@[simp] theorem State.setLineRaw_boot (s : State) (i : Nat) (l : TagLine) : (s.setLineRaw i l).boot = s.boot := rfl
@[simp] theorem State.setLineRaw_commit (s : State) (i : Nat) (l : TagLine) : (s.setLineRaw i l).commit = s.commit := rfl
@[simp] theorem State.setLineRaw_session (s : State) (i : Nat) (l : TagLine) : (s.setLineRaw i l).session = s.session := rfl
@[simp] theorem State.setLineRaw_heads (s : State) (i : Nat) (l : TagLine) : (s.setLineRaw i l).heads = s.heads := rfl
@[simp] theorem State.setLineRaw_headDevs (s : State) (i : Nat) (l : TagLine) : (s.setLineRaw i l).headDevs = s.headDevs := rfl
@[simp] theorem State.setLineRaw_chans (s : State) (i : Nat) (l : TagLine) : (s.setLineRaw i l).chans = s.chans := rfl
@[simp] theorem State.setLineRaw_energy (s : State) (i : Nat) (l : TagLine) : (s.setLineRaw i l).energy = s.energy := rfl
@[simp] theorem State.setLineRaw_pulses (s : State) (i : Nat) (l : TagLine) : (s.setLineRaw i l).pulses = s.pulses := rfl
@[simp] theorem State.setLineRaw_safety (s : State) (i : Nat) (l : TagLine) : (s.setLineRaw i l).safety = s.safety := rfl
@[simp] theorem State.setLineRaw_vehicle (s : State) (i : Nat) (l : TagLine) : (s.setLineRaw i l).vehicle = s.vehicle := rfl
@[simp] theorem State.setLineRaw_modem (s : State) (i : Nat) (l : TagLine) : (s.setLineRaw i l).modem = s.modem := rfl
@[simp] theorem State.setLineRaw_rings (s : State) (i : Nat) (l : TagLine) : (s.setLineRaw i l).rings = s.rings := rfl
@[simp] theorem State.setLineRaw_dma (s : State) (i : Nat) (l : TagLine) : (s.setLineRaw i l).dma = s.dma := rfl
@[simp] theorem State.setLineRaw_pats (s : State) (i : Nat) (l : TagLine) : (s.setLineRaw i l).pats = s.pats := rfl
@[simp] theorem State.setLineRaw_uarts (s : State) (i : Nat) (l : TagLine) : (s.setLineRaw i l).uarts = s.uarts := rfl
@[simp] theorem State.setLineRaw_tws (s : State) (i : Nat) (l : TagLine) : (s.setLineRaw i l).tws = s.tws := rfl
@[simp] theorem State.setLineRaw_ether (s : State) (i : Nat) (l : TagLine) : (s.setLineRaw i l).ether = s.ether := rfl
@[simp] theorem State.setLineRaw_update (s : State) (i : Nat) (l : TagLine) : (s.setLineRaw i l).update = s.update := rfl
@[simp] theorem State.setLineRaw_cluster (s : State) (i : Nat) (l : TagLine) : (s.setLineRaw i l).cluster = s.cluster := rfl
@[simp] theorem State.setLineRaw_alloc (s : State) (i : Nat) (l : TagLine) : (s.setLineRaw i l).alloc = s.alloc := rfl
@[simp] theorem State.setLineRaw_tenants (s : State) (i : Nat) (l : TagLine) : (s.setLineRaw i l).tenants = s.tenants := rfl
@[simp] theorem State.setLineRaw_reader (s : State) (i : Nat) (l : TagLine) : (s.setLineRaw i l).reader = s.reader := rfl
@[simp] theorem State.setLineRaw_panel (s : State) (i : Nat) (l : TagLine) : (s.setLineRaw i l).panel = s.panel := rfl
@[simp] theorem State.setLineRaw_audio (s : State) (i : Nat) (l : TagLine) : (s.setLineRaw i l).audio = s.audio := rfl
@[simp] theorem State.setLineRaw_pending (s : State) (i : Nat) (l : TagLine) : (s.setLineRaw i l).pending = s.pending := rfl

/-! `State.setLine` changes `ledger` only. -/

@[simp] theorem State.setLine_regs (s : State) (i d : Nat) : (s.setLine i d).regs = s.regs := rfl
@[simp] theorem State.setLine_mem (s : State) (i d : Nat) : (s.setLine i d).mem = s.mem := rfl
@[simp] theorem State.setLine_sramTags (s : State) (i d : Nat) : (s.setLine i d).sramTags = s.sramTags := rfl
@[simp] theorem State.setLine_flash (s : State) (i d : Nat) : (s.setLine i d).flash = s.flash := rfl
@[simp] theorem State.setLine_snaps (s : State) (i d : Nat) : (s.setLine i d).snaps = s.snaps := rfl
@[simp] theorem State.setLine_stages (s : State) (i d : Nat) : (s.setLine i d).stages = s.stages := rfl
@[simp] theorem State.setLine_bus (s : State) (i d : Nat) : (s.setLine i d).bus = s.bus := rfl
@[simp] theorem State.setLine_stalled (s : State) (i d : Nat) : (s.setLine i d).stalled = s.stalled := rfl
@[simp] theorem State.setLine_fresh (s : State) (i d : Nat) : (s.setLine i d).fresh = s.fresh := rfl
@[simp] theorem State.setLine_log (s : State) (i d : Nat) : (s.setLine i d).log = s.log := rfl
@[simp] theorem State.setLine_angle (s : State) (i d : Nat) : (s.setLine i d).angle = s.angle := rfl
@[simp] theorem State.setLine_timers (s : State) (i d : Nat) : (s.setLine i d).timers = s.timers := rfl
@[simp] theorem State.setLine_utcReq (s : State) (i d : Nat) : (s.setLine i d).utcReq = s.utcReq := rfl
@[simp] theorem State.setLine_sealSt (s : State) (i d : Nat) : (s.setLine i d).sealSt = s.sealSt := rfl
@[simp] theorem State.setLine_boot (s : State) (i d : Nat) : (s.setLine i d).boot = s.boot := rfl
@[simp] theorem State.setLine_commit (s : State) (i d : Nat) : (s.setLine i d).commit = s.commit := rfl
@[simp] theorem State.setLine_session (s : State) (i d : Nat) : (s.setLine i d).session = s.session := rfl
@[simp] theorem State.setLine_heads (s : State) (i d : Nat) : (s.setLine i d).heads = s.heads := rfl
@[simp] theorem State.setLine_headDevs (s : State) (i d : Nat) : (s.setLine i d).headDevs = s.headDevs := rfl
@[simp] theorem State.setLine_chans (s : State) (i d : Nat) : (s.setLine i d).chans = s.chans := rfl
@[simp] theorem State.setLine_energy (s : State) (i d : Nat) : (s.setLine i d).energy = s.energy := rfl
@[simp] theorem State.setLine_pulses (s : State) (i d : Nat) : (s.setLine i d).pulses = s.pulses := rfl
@[simp] theorem State.setLine_safety (s : State) (i d : Nat) : (s.setLine i d).safety = s.safety := rfl
@[simp] theorem State.setLine_vehicle (s : State) (i d : Nat) : (s.setLine i d).vehicle = s.vehicle := rfl
@[simp] theorem State.setLine_modem (s : State) (i d : Nat) : (s.setLine i d).modem = s.modem := rfl
@[simp] theorem State.setLine_rings (s : State) (i d : Nat) : (s.setLine i d).rings = s.rings := rfl
@[simp] theorem State.setLine_dma (s : State) (i d : Nat) : (s.setLine i d).dma = s.dma := rfl
@[simp] theorem State.setLine_pats (s : State) (i d : Nat) : (s.setLine i d).pats = s.pats := rfl
@[simp] theorem State.setLine_uarts (s : State) (i d : Nat) : (s.setLine i d).uarts = s.uarts := rfl
@[simp] theorem State.setLine_tws (s : State) (i d : Nat) : (s.setLine i d).tws = s.tws := rfl
@[simp] theorem State.setLine_ether (s : State) (i d : Nat) : (s.setLine i d).ether = s.ether := rfl
@[simp] theorem State.setLine_update (s : State) (i d : Nat) : (s.setLine i d).update = s.update := rfl
@[simp] theorem State.setLine_cluster (s : State) (i d : Nat) : (s.setLine i d).cluster = s.cluster := rfl
@[simp] theorem State.setLine_alloc (s : State) (i d : Nat) : (s.setLine i d).alloc = s.alloc := rfl
@[simp] theorem State.setLine_tenants (s : State) (i d : Nat) : (s.setLine i d).tenants = s.tenants := rfl
@[simp] theorem State.setLine_reader (s : State) (i d : Nat) : (s.setLine i d).reader = s.reader := rfl
@[simp] theorem State.setLine_panel (s : State) (i d : Nat) : (s.setLine i d).panel = s.panel := rfl
@[simp] theorem State.setLine_audio (s : State) (i d : Nat) : (s.setLine i d).audio = s.audio := rfl
@[simp] theorem State.setLine_pending (s : State) (i d : Nat) : (s.setLine i d).pending = s.pending := rfl

/-! `State.setStaged` changes `stages` only. -/

@[simp] theorem State.setStaged_regs (s : State) (d : Domain) (a : Nat) (w : Option Word) : (s.setStaged d a w).regs = s.regs := rfl
@[simp] theorem State.setStaged_mem (s : State) (d : Domain) (a : Nat) (w : Option Word) : (s.setStaged d a w).mem = s.mem := rfl
@[simp] theorem State.setStaged_sramTags (s : State) (d : Domain) (a : Nat) (w : Option Word) : (s.setStaged d a w).sramTags = s.sramTags := rfl
@[simp] theorem State.setStaged_flash (s : State) (d : Domain) (a : Nat) (w : Option Word) : (s.setStaged d a w).flash = s.flash := rfl
@[simp] theorem State.setStaged_ledger (s : State) (d : Domain) (a : Nat) (w : Option Word) : (s.setStaged d a w).ledger = s.ledger := rfl
@[simp] theorem State.setStaged_snaps (s : State) (d : Domain) (a : Nat) (w : Option Word) : (s.setStaged d a w).snaps = s.snaps := rfl
@[simp] theorem State.setStaged_bus (s : State) (d : Domain) (a : Nat) (w : Option Word) : (s.setStaged d a w).bus = s.bus := rfl
@[simp] theorem State.setStaged_stalled (s : State) (d : Domain) (a : Nat) (w : Option Word) : (s.setStaged d a w).stalled = s.stalled := rfl
@[simp] theorem State.setStaged_fresh (s : State) (d : Domain) (a : Nat) (w : Option Word) : (s.setStaged d a w).fresh = s.fresh := rfl
@[simp] theorem State.setStaged_log (s : State) (d : Domain) (a : Nat) (w : Option Word) : (s.setStaged d a w).log = s.log := rfl
@[simp] theorem State.setStaged_angle (s : State) (d : Domain) (a : Nat) (w : Option Word) : (s.setStaged d a w).angle = s.angle := rfl
@[simp] theorem State.setStaged_timers (s : State) (d : Domain) (a : Nat) (w : Option Word) : (s.setStaged d a w).timers = s.timers := rfl
@[simp] theorem State.setStaged_utcReq (s : State) (d : Domain) (a : Nat) (w : Option Word) : (s.setStaged d a w).utcReq = s.utcReq := rfl
@[simp] theorem State.setStaged_sealSt (s : State) (d : Domain) (a : Nat) (w : Option Word) : (s.setStaged d a w).sealSt = s.sealSt := rfl
@[simp] theorem State.setStaged_boot (s : State) (d : Domain) (a : Nat) (w : Option Word) : (s.setStaged d a w).boot = s.boot := rfl
@[simp] theorem State.setStaged_commit (s : State) (d : Domain) (a : Nat) (w : Option Word) : (s.setStaged d a w).commit = s.commit := rfl
@[simp] theorem State.setStaged_session (s : State) (d : Domain) (a : Nat) (w : Option Word) : (s.setStaged d a w).session = s.session := rfl
@[simp] theorem State.setStaged_heads (s : State) (d : Domain) (a : Nat) (w : Option Word) : (s.setStaged d a w).heads = s.heads := rfl
@[simp] theorem State.setStaged_headDevs (s : State) (d : Domain) (a : Nat) (w : Option Word) : (s.setStaged d a w).headDevs = s.headDevs := rfl
@[simp] theorem State.setStaged_chans (s : State) (d : Domain) (a : Nat) (w : Option Word) : (s.setStaged d a w).chans = s.chans := rfl
@[simp] theorem State.setStaged_energy (s : State) (d : Domain) (a : Nat) (w : Option Word) : (s.setStaged d a w).energy = s.energy := rfl
@[simp] theorem State.setStaged_pulses (s : State) (d : Domain) (a : Nat) (w : Option Word) : (s.setStaged d a w).pulses = s.pulses := rfl
@[simp] theorem State.setStaged_safety (s : State) (d : Domain) (a : Nat) (w : Option Word) : (s.setStaged d a w).safety = s.safety := rfl
@[simp] theorem State.setStaged_vehicle (s : State) (d : Domain) (a : Nat) (w : Option Word) : (s.setStaged d a w).vehicle = s.vehicle := rfl
@[simp] theorem State.setStaged_modem (s : State) (d : Domain) (a : Nat) (w : Option Word) : (s.setStaged d a w).modem = s.modem := rfl
@[simp] theorem State.setStaged_rings (s : State) (d : Domain) (a : Nat) (w : Option Word) : (s.setStaged d a w).rings = s.rings := rfl
@[simp] theorem State.setStaged_dma (s : State) (d : Domain) (a : Nat) (w : Option Word) : (s.setStaged d a w).dma = s.dma := rfl
@[simp] theorem State.setStaged_pats (s : State) (d : Domain) (a : Nat) (w : Option Word) : (s.setStaged d a w).pats = s.pats := rfl
@[simp] theorem State.setStaged_uarts (s : State) (d : Domain) (a : Nat) (w : Option Word) : (s.setStaged d a w).uarts = s.uarts := rfl
@[simp] theorem State.setStaged_tws (s : State) (d : Domain) (a : Nat) (w : Option Word) : (s.setStaged d a w).tws = s.tws := rfl
@[simp] theorem State.setStaged_ether (s : State) (d : Domain) (a : Nat) (w : Option Word) : (s.setStaged d a w).ether = s.ether := rfl
@[simp] theorem State.setStaged_update (s : State) (d : Domain) (a : Nat) (w : Option Word) : (s.setStaged d a w).update = s.update := rfl
@[simp] theorem State.setStaged_cluster (s : State) (d : Domain) (a : Nat) (w : Option Word) : (s.setStaged d a w).cluster = s.cluster := rfl
@[simp] theorem State.setStaged_alloc (s : State) (d : Domain) (a : Nat) (w : Option Word) : (s.setStaged d a w).alloc = s.alloc := rfl
@[simp] theorem State.setStaged_tenants (s : State) (d : Domain) (a : Nat) (w : Option Word) : (s.setStaged d a w).tenants = s.tenants := rfl
@[simp] theorem State.setStaged_reader (s : State) (d : Domain) (a : Nat) (w : Option Word) : (s.setStaged d a w).reader = s.reader := rfl
@[simp] theorem State.setStaged_panel (s : State) (d : Domain) (a : Nat) (w : Option Word) : (s.setStaged d a w).panel = s.panel := rfl
@[simp] theorem State.setStaged_audio (s : State) (d : Domain) (a : Nat) (w : Option Word) : (s.setStaged d a w).audio = s.audio := rfl
@[simp] theorem State.setStaged_pending (s : State) (d : Domain) (a : Nat) (w : Option Word) : (s.setStaged d a w).pending = s.pending := rfl

/-! `State.busOk` changes `bus` only. -/

@[simp] theorem State.busOk_regs (s : State) (v : Nat) : (s.busOk v).regs = s.regs := rfl
@[simp] theorem State.busOk_mem (s : State) (v : Nat) : (s.busOk v).mem = s.mem := rfl
@[simp] theorem State.busOk_sramTags (s : State) (v : Nat) : (s.busOk v).sramTags = s.sramTags := rfl
@[simp] theorem State.busOk_flash (s : State) (v : Nat) : (s.busOk v).flash = s.flash := rfl
@[simp] theorem State.busOk_ledger (s : State) (v : Nat) : (s.busOk v).ledger = s.ledger := rfl
@[simp] theorem State.busOk_snaps (s : State) (v : Nat) : (s.busOk v).snaps = s.snaps := rfl
@[simp] theorem State.busOk_stages (s : State) (v : Nat) : (s.busOk v).stages = s.stages := rfl
@[simp] theorem State.busOk_stalled (s : State) (v : Nat) : (s.busOk v).stalled = s.stalled := rfl
@[simp] theorem State.busOk_fresh (s : State) (v : Nat) : (s.busOk v).fresh = s.fresh := rfl
@[simp] theorem State.busOk_log (s : State) (v : Nat) : (s.busOk v).log = s.log := rfl
@[simp] theorem State.busOk_angle (s : State) (v : Nat) : (s.busOk v).angle = s.angle := rfl
@[simp] theorem State.busOk_timers (s : State) (v : Nat) : (s.busOk v).timers = s.timers := rfl
@[simp] theorem State.busOk_utcReq (s : State) (v : Nat) : (s.busOk v).utcReq = s.utcReq := rfl
@[simp] theorem State.busOk_sealSt (s : State) (v : Nat) : (s.busOk v).sealSt = s.sealSt := rfl
@[simp] theorem State.busOk_boot (s : State) (v : Nat) : (s.busOk v).boot = s.boot := rfl
@[simp] theorem State.busOk_commit (s : State) (v : Nat) : (s.busOk v).commit = s.commit := rfl
@[simp] theorem State.busOk_session (s : State) (v : Nat) : (s.busOk v).session = s.session := rfl
@[simp] theorem State.busOk_heads (s : State) (v : Nat) : (s.busOk v).heads = s.heads := rfl
@[simp] theorem State.busOk_headDevs (s : State) (v : Nat) : (s.busOk v).headDevs = s.headDevs := rfl
@[simp] theorem State.busOk_chans (s : State) (v : Nat) : (s.busOk v).chans = s.chans := rfl
@[simp] theorem State.busOk_energy (s : State) (v : Nat) : (s.busOk v).energy = s.energy := rfl
@[simp] theorem State.busOk_pulses (s : State) (v : Nat) : (s.busOk v).pulses = s.pulses := rfl
@[simp] theorem State.busOk_safety (s : State) (v : Nat) : (s.busOk v).safety = s.safety := rfl
@[simp] theorem State.busOk_vehicle (s : State) (v : Nat) : (s.busOk v).vehicle = s.vehicle := rfl
@[simp] theorem State.busOk_modem (s : State) (v : Nat) : (s.busOk v).modem = s.modem := rfl
@[simp] theorem State.busOk_rings (s : State) (v : Nat) : (s.busOk v).rings = s.rings := rfl
@[simp] theorem State.busOk_dma (s : State) (v : Nat) : (s.busOk v).dma = s.dma := rfl
@[simp] theorem State.busOk_pats (s : State) (v : Nat) : (s.busOk v).pats = s.pats := rfl
@[simp] theorem State.busOk_uarts (s : State) (v : Nat) : (s.busOk v).uarts = s.uarts := rfl
@[simp] theorem State.busOk_tws (s : State) (v : Nat) : (s.busOk v).tws = s.tws := rfl
@[simp] theorem State.busOk_ether (s : State) (v : Nat) : (s.busOk v).ether = s.ether := rfl
@[simp] theorem State.busOk_update (s : State) (v : Nat) : (s.busOk v).update = s.update := rfl
@[simp] theorem State.busOk_cluster (s : State) (v : Nat) : (s.busOk v).cluster = s.cluster := rfl
@[simp] theorem State.busOk_alloc (s : State) (v : Nat) : (s.busOk v).alloc = s.alloc := rfl
@[simp] theorem State.busOk_tenants (s : State) (v : Nat) : (s.busOk v).tenants = s.tenants := rfl
@[simp] theorem State.busOk_reader (s : State) (v : Nat) : (s.busOk v).reader = s.reader := rfl
@[simp] theorem State.busOk_panel (s : State) (v : Nat) : (s.busOk v).panel = s.panel := rfl
@[simp] theorem State.busOk_audio (s : State) (v : Nat) : (s.busOk v).audio = s.audio := rfl
@[simp] theorem State.busOk_pending (s : State) (v : Nat) : (s.busOk v).pending = s.pending := rfl

/-! `State.busErr` changes `bus` only. -/

@[simp] theorem State.busErr_regs (s : State) : (s.busErr).regs = s.regs := rfl
@[simp] theorem State.busErr_mem (s : State) : (s.busErr).mem = s.mem := rfl
@[simp] theorem State.busErr_sramTags (s : State) : (s.busErr).sramTags = s.sramTags := rfl
@[simp] theorem State.busErr_flash (s : State) : (s.busErr).flash = s.flash := rfl
@[simp] theorem State.busErr_ledger (s : State) : (s.busErr).ledger = s.ledger := rfl
@[simp] theorem State.busErr_snaps (s : State) : (s.busErr).snaps = s.snaps := rfl
@[simp] theorem State.busErr_stages (s : State) : (s.busErr).stages = s.stages := rfl
@[simp] theorem State.busErr_stalled (s : State) : (s.busErr).stalled = s.stalled := rfl
@[simp] theorem State.busErr_fresh (s : State) : (s.busErr).fresh = s.fresh := rfl
@[simp] theorem State.busErr_log (s : State) : (s.busErr).log = s.log := rfl
@[simp] theorem State.busErr_angle (s : State) : (s.busErr).angle = s.angle := rfl
@[simp] theorem State.busErr_timers (s : State) : (s.busErr).timers = s.timers := rfl
@[simp] theorem State.busErr_utcReq (s : State) : (s.busErr).utcReq = s.utcReq := rfl
@[simp] theorem State.busErr_sealSt (s : State) : (s.busErr).sealSt = s.sealSt := rfl
@[simp] theorem State.busErr_boot (s : State) : (s.busErr).boot = s.boot := rfl
@[simp] theorem State.busErr_commit (s : State) : (s.busErr).commit = s.commit := rfl
@[simp] theorem State.busErr_session (s : State) : (s.busErr).session = s.session := rfl
@[simp] theorem State.busErr_heads (s : State) : (s.busErr).heads = s.heads := rfl
@[simp] theorem State.busErr_headDevs (s : State) : (s.busErr).headDevs = s.headDevs := rfl
@[simp] theorem State.busErr_chans (s : State) : (s.busErr).chans = s.chans := rfl
@[simp] theorem State.busErr_energy (s : State) : (s.busErr).energy = s.energy := rfl
@[simp] theorem State.busErr_pulses (s : State) : (s.busErr).pulses = s.pulses := rfl
@[simp] theorem State.busErr_safety (s : State) : (s.busErr).safety = s.safety := rfl
@[simp] theorem State.busErr_vehicle (s : State) : (s.busErr).vehicle = s.vehicle := rfl
@[simp] theorem State.busErr_modem (s : State) : (s.busErr).modem = s.modem := rfl
@[simp] theorem State.busErr_rings (s : State) : (s.busErr).rings = s.rings := rfl
@[simp] theorem State.busErr_dma (s : State) : (s.busErr).dma = s.dma := rfl
@[simp] theorem State.busErr_pats (s : State) : (s.busErr).pats = s.pats := rfl
@[simp] theorem State.busErr_uarts (s : State) : (s.busErr).uarts = s.uarts := rfl
@[simp] theorem State.busErr_tws (s : State) : (s.busErr).tws = s.tws := rfl
@[simp] theorem State.busErr_ether (s : State) : (s.busErr).ether = s.ether := rfl
@[simp] theorem State.busErr_update (s : State) : (s.busErr).update = s.update := rfl
@[simp] theorem State.busErr_cluster (s : State) : (s.busErr).cluster = s.cluster := rfl
@[simp] theorem State.busErr_alloc (s : State) : (s.busErr).alloc = s.alloc := rfl
@[simp] theorem State.busErr_tenants (s : State) : (s.busErr).tenants = s.tenants := rfl
@[simp] theorem State.busErr_reader (s : State) : (s.busErr).reader = s.reader := rfl
@[simp] theorem State.busErr_panel (s : State) : (s.busErr).panel = s.panel := rfl
@[simp] theorem State.busErr_audio (s : State) : (s.busErr).audio = s.audio := rfl
@[simp] theorem State.busErr_pending (s : State) : (s.busErr).pending = s.pending := rfl

/-! `State.setPort` changes `heads` only. -/

@[simp] theorem State.setPort_regs (s : State) (p : Fin 8) (h : HeadPort) : (s.setPort p h).regs = s.regs := rfl
@[simp] theorem State.setPort_mem (s : State) (p : Fin 8) (h : HeadPort) : (s.setPort p h).mem = s.mem := rfl
@[simp] theorem State.setPort_sramTags (s : State) (p : Fin 8) (h : HeadPort) : (s.setPort p h).sramTags = s.sramTags := rfl
@[simp] theorem State.setPort_flash (s : State) (p : Fin 8) (h : HeadPort) : (s.setPort p h).flash = s.flash := rfl
@[simp] theorem State.setPort_ledger (s : State) (p : Fin 8) (h : HeadPort) : (s.setPort p h).ledger = s.ledger := rfl
@[simp] theorem State.setPort_snaps (s : State) (p : Fin 8) (h : HeadPort) : (s.setPort p h).snaps = s.snaps := rfl
@[simp] theorem State.setPort_stages (s : State) (p : Fin 8) (h : HeadPort) : (s.setPort p h).stages = s.stages := rfl
@[simp] theorem State.setPort_bus (s : State) (p : Fin 8) (h : HeadPort) : (s.setPort p h).bus = s.bus := rfl
@[simp] theorem State.setPort_stalled (s : State) (p : Fin 8) (h : HeadPort) : (s.setPort p h).stalled = s.stalled := rfl
@[simp] theorem State.setPort_fresh (s : State) (p : Fin 8) (h : HeadPort) : (s.setPort p h).fresh = s.fresh := rfl
@[simp] theorem State.setPort_log (s : State) (p : Fin 8) (h : HeadPort) : (s.setPort p h).log = s.log := rfl
@[simp] theorem State.setPort_angle (s : State) (p : Fin 8) (h : HeadPort) : (s.setPort p h).angle = s.angle := rfl
@[simp] theorem State.setPort_timers (s : State) (p : Fin 8) (h : HeadPort) : (s.setPort p h).timers = s.timers := rfl
@[simp] theorem State.setPort_utcReq (s : State) (p : Fin 8) (h : HeadPort) : (s.setPort p h).utcReq = s.utcReq := rfl
@[simp] theorem State.setPort_sealSt (s : State) (p : Fin 8) (h : HeadPort) : (s.setPort p h).sealSt = s.sealSt := rfl
@[simp] theorem State.setPort_boot (s : State) (p : Fin 8) (h : HeadPort) : (s.setPort p h).boot = s.boot := rfl
@[simp] theorem State.setPort_commit (s : State) (p : Fin 8) (h : HeadPort) : (s.setPort p h).commit = s.commit := rfl
@[simp] theorem State.setPort_session (s : State) (p : Fin 8) (h : HeadPort) : (s.setPort p h).session = s.session := rfl
@[simp] theorem State.setPort_headDevs (s : State) (p : Fin 8) (h : HeadPort) : (s.setPort p h).headDevs = s.headDevs := rfl
@[simp] theorem State.setPort_chans (s : State) (p : Fin 8) (h : HeadPort) : (s.setPort p h).chans = s.chans := rfl
@[simp] theorem State.setPort_energy (s : State) (p : Fin 8) (h : HeadPort) : (s.setPort p h).energy = s.energy := rfl
@[simp] theorem State.setPort_pulses (s : State) (p : Fin 8) (h : HeadPort) : (s.setPort p h).pulses = s.pulses := rfl
@[simp] theorem State.setPort_safety (s : State) (p : Fin 8) (h : HeadPort) : (s.setPort p h).safety = s.safety := rfl
@[simp] theorem State.setPort_vehicle (s : State) (p : Fin 8) (h : HeadPort) : (s.setPort p h).vehicle = s.vehicle := rfl
@[simp] theorem State.setPort_modem (s : State) (p : Fin 8) (h : HeadPort) : (s.setPort p h).modem = s.modem := rfl
@[simp] theorem State.setPort_rings (s : State) (p : Fin 8) (h : HeadPort) : (s.setPort p h).rings = s.rings := rfl
@[simp] theorem State.setPort_dma (s : State) (p : Fin 8) (h : HeadPort) : (s.setPort p h).dma = s.dma := rfl
@[simp] theorem State.setPort_pats (s : State) (p : Fin 8) (h : HeadPort) : (s.setPort p h).pats = s.pats := rfl
@[simp] theorem State.setPort_uarts (s : State) (p : Fin 8) (h : HeadPort) : (s.setPort p h).uarts = s.uarts := rfl
@[simp] theorem State.setPort_tws (s : State) (p : Fin 8) (h : HeadPort) : (s.setPort p h).tws = s.tws := rfl
@[simp] theorem State.setPort_ether (s : State) (p : Fin 8) (h : HeadPort) : (s.setPort p h).ether = s.ether := rfl
@[simp] theorem State.setPort_update (s : State) (p : Fin 8) (h : HeadPort) : (s.setPort p h).update = s.update := rfl
@[simp] theorem State.setPort_cluster (s : State) (p : Fin 8) (h : HeadPort) : (s.setPort p h).cluster = s.cluster := rfl
@[simp] theorem State.setPort_alloc (s : State) (p : Fin 8) (h : HeadPort) : (s.setPort p h).alloc = s.alloc := rfl
@[simp] theorem State.setPort_tenants (s : State) (p : Fin 8) (h : HeadPort) : (s.setPort p h).tenants = s.tenants := rfl
@[simp] theorem State.setPort_reader (s : State) (p : Fin 8) (h : HeadPort) : (s.setPort p h).reader = s.reader := rfl
@[simp] theorem State.setPort_panel (s : State) (p : Fin 8) (h : HeadPort) : (s.setPort p h).panel = s.panel := rfl
@[simp] theorem State.setPort_audio (s : State) (p : Fin 8) (h : HeadPort) : (s.setPort p h).audio = s.audio := rfl
@[simp] theorem State.setPort_pending (s : State) (p : Fin 8) (h : HeadPort) : (s.setPort p h).pending = s.pending := rfl

/-! `State.setDev` changes `headDevs` only. -/

@[simp] theorem State.setDev_regs (s : State) (p : Fin 8) (d : HeadDevice) : (s.setDev p d).regs = s.regs := rfl
@[simp] theorem State.setDev_mem (s : State) (p : Fin 8) (d : HeadDevice) : (s.setDev p d).mem = s.mem := rfl
@[simp] theorem State.setDev_sramTags (s : State) (p : Fin 8) (d : HeadDevice) : (s.setDev p d).sramTags = s.sramTags := rfl
@[simp] theorem State.setDev_flash (s : State) (p : Fin 8) (d : HeadDevice) : (s.setDev p d).flash = s.flash := rfl
@[simp] theorem State.setDev_ledger (s : State) (p : Fin 8) (d : HeadDevice) : (s.setDev p d).ledger = s.ledger := rfl
@[simp] theorem State.setDev_snaps (s : State) (p : Fin 8) (d : HeadDevice) : (s.setDev p d).snaps = s.snaps := rfl
@[simp] theorem State.setDev_stages (s : State) (p : Fin 8) (d : HeadDevice) : (s.setDev p d).stages = s.stages := rfl
@[simp] theorem State.setDev_bus (s : State) (p : Fin 8) (d : HeadDevice) : (s.setDev p d).bus = s.bus := rfl
@[simp] theorem State.setDev_stalled (s : State) (p : Fin 8) (d : HeadDevice) : (s.setDev p d).stalled = s.stalled := rfl
@[simp] theorem State.setDev_fresh (s : State) (p : Fin 8) (d : HeadDevice) : (s.setDev p d).fresh = s.fresh := rfl
@[simp] theorem State.setDev_log (s : State) (p : Fin 8) (d : HeadDevice) : (s.setDev p d).log = s.log := rfl
@[simp] theorem State.setDev_angle (s : State) (p : Fin 8) (d : HeadDevice) : (s.setDev p d).angle = s.angle := rfl
@[simp] theorem State.setDev_timers (s : State) (p : Fin 8) (d : HeadDevice) : (s.setDev p d).timers = s.timers := rfl
@[simp] theorem State.setDev_utcReq (s : State) (p : Fin 8) (d : HeadDevice) : (s.setDev p d).utcReq = s.utcReq := rfl
@[simp] theorem State.setDev_sealSt (s : State) (p : Fin 8) (d : HeadDevice) : (s.setDev p d).sealSt = s.sealSt := rfl
@[simp] theorem State.setDev_boot (s : State) (p : Fin 8) (d : HeadDevice) : (s.setDev p d).boot = s.boot := rfl
@[simp] theorem State.setDev_commit (s : State) (p : Fin 8) (d : HeadDevice) : (s.setDev p d).commit = s.commit := rfl
@[simp] theorem State.setDev_session (s : State) (p : Fin 8) (d : HeadDevice) : (s.setDev p d).session = s.session := rfl
@[simp] theorem State.setDev_heads (s : State) (p : Fin 8) (d : HeadDevice) : (s.setDev p d).heads = s.heads := rfl
@[simp] theorem State.setDev_chans (s : State) (p : Fin 8) (d : HeadDevice) : (s.setDev p d).chans = s.chans := rfl
@[simp] theorem State.setDev_energy (s : State) (p : Fin 8) (d : HeadDevice) : (s.setDev p d).energy = s.energy := rfl
@[simp] theorem State.setDev_pulses (s : State) (p : Fin 8) (d : HeadDevice) : (s.setDev p d).pulses = s.pulses := rfl
@[simp] theorem State.setDev_safety (s : State) (p : Fin 8) (d : HeadDevice) : (s.setDev p d).safety = s.safety := rfl
@[simp] theorem State.setDev_vehicle (s : State) (p : Fin 8) (d : HeadDevice) : (s.setDev p d).vehicle = s.vehicle := rfl
@[simp] theorem State.setDev_modem (s : State) (p : Fin 8) (d : HeadDevice) : (s.setDev p d).modem = s.modem := rfl
@[simp] theorem State.setDev_rings (s : State) (p : Fin 8) (d : HeadDevice) : (s.setDev p d).rings = s.rings := rfl
@[simp] theorem State.setDev_dma (s : State) (p : Fin 8) (d : HeadDevice) : (s.setDev p d).dma = s.dma := rfl
@[simp] theorem State.setDev_pats (s : State) (p : Fin 8) (d : HeadDevice) : (s.setDev p d).pats = s.pats := rfl
@[simp] theorem State.setDev_uarts (s : State) (p : Fin 8) (d : HeadDevice) : (s.setDev p d).uarts = s.uarts := rfl
@[simp] theorem State.setDev_tws (s : State) (p : Fin 8) (d : HeadDevice) : (s.setDev p d).tws = s.tws := rfl
@[simp] theorem State.setDev_ether (s : State) (p : Fin 8) (d : HeadDevice) : (s.setDev p d).ether = s.ether := rfl
@[simp] theorem State.setDev_update (s : State) (p : Fin 8) (d : HeadDevice) : (s.setDev p d).update = s.update := rfl
@[simp] theorem State.setDev_cluster (s : State) (p : Fin 8) (d : HeadDevice) : (s.setDev p d).cluster = s.cluster := rfl
@[simp] theorem State.setDev_alloc (s : State) (p : Fin 8) (d : HeadDevice) : (s.setDev p d).alloc = s.alloc := rfl
@[simp] theorem State.setDev_tenants (s : State) (p : Fin 8) (d : HeadDevice) : (s.setDev p d).tenants = s.tenants := rfl
@[simp] theorem State.setDev_reader (s : State) (p : Fin 8) (d : HeadDevice) : (s.setDev p d).reader = s.reader := rfl
@[simp] theorem State.setDev_panel (s : State) (p : Fin 8) (d : HeadDevice) : (s.setDev p d).panel = s.panel := rfl
@[simp] theorem State.setDev_audio (s : State) (p : Fin 8) (d : HeadDevice) : (s.setDev p d).audio = s.audio := rfl
@[simp] theorem State.setDev_pending (s : State) (p : Fin 8) (d : HeadDevice) : (s.setDev p d).pending = s.pending := rfl

/-! `State.setElem` changes `energy` only. -/

@[simp] theorem State.setElem_regs (s : State) (e : Nat) (x : Elem) : (s.setElem e x).regs = s.regs := rfl
@[simp] theorem State.setElem_mem (s : State) (e : Nat) (x : Elem) : (s.setElem e x).mem = s.mem := rfl
@[simp] theorem State.setElem_sramTags (s : State) (e : Nat) (x : Elem) : (s.setElem e x).sramTags = s.sramTags := rfl
@[simp] theorem State.setElem_flash (s : State) (e : Nat) (x : Elem) : (s.setElem e x).flash = s.flash := rfl
@[simp] theorem State.setElem_ledger (s : State) (e : Nat) (x : Elem) : (s.setElem e x).ledger = s.ledger := rfl
@[simp] theorem State.setElem_snaps (s : State) (e : Nat) (x : Elem) : (s.setElem e x).snaps = s.snaps := rfl
@[simp] theorem State.setElem_stages (s : State) (e : Nat) (x : Elem) : (s.setElem e x).stages = s.stages := rfl
@[simp] theorem State.setElem_bus (s : State) (e : Nat) (x : Elem) : (s.setElem e x).bus = s.bus := rfl
@[simp] theorem State.setElem_stalled (s : State) (e : Nat) (x : Elem) : (s.setElem e x).stalled = s.stalled := rfl
@[simp] theorem State.setElem_fresh (s : State) (e : Nat) (x : Elem) : (s.setElem e x).fresh = s.fresh := rfl
@[simp] theorem State.setElem_log (s : State) (e : Nat) (x : Elem) : (s.setElem e x).log = s.log := rfl
@[simp] theorem State.setElem_angle (s : State) (e : Nat) (x : Elem) : (s.setElem e x).angle = s.angle := rfl
@[simp] theorem State.setElem_timers (s : State) (e : Nat) (x : Elem) : (s.setElem e x).timers = s.timers := rfl
@[simp] theorem State.setElem_utcReq (s : State) (e : Nat) (x : Elem) : (s.setElem e x).utcReq = s.utcReq := rfl
@[simp] theorem State.setElem_sealSt (s : State) (e : Nat) (x : Elem) : (s.setElem e x).sealSt = s.sealSt := rfl
@[simp] theorem State.setElem_boot (s : State) (e : Nat) (x : Elem) : (s.setElem e x).boot = s.boot := rfl
@[simp] theorem State.setElem_commit (s : State) (e : Nat) (x : Elem) : (s.setElem e x).commit = s.commit := rfl
@[simp] theorem State.setElem_session (s : State) (e : Nat) (x : Elem) : (s.setElem e x).session = s.session := rfl
@[simp] theorem State.setElem_heads (s : State) (e : Nat) (x : Elem) : (s.setElem e x).heads = s.heads := rfl
@[simp] theorem State.setElem_headDevs (s : State) (e : Nat) (x : Elem) : (s.setElem e x).headDevs = s.headDevs := rfl
@[simp] theorem State.setElem_chans (s : State) (e : Nat) (x : Elem) : (s.setElem e x).chans = s.chans := rfl
@[simp] theorem State.setElem_pulses (s : State) (e : Nat) (x : Elem) : (s.setElem e x).pulses = s.pulses := rfl
@[simp] theorem State.setElem_safety (s : State) (e : Nat) (x : Elem) : (s.setElem e x).safety = s.safety := rfl
@[simp] theorem State.setElem_vehicle (s : State) (e : Nat) (x : Elem) : (s.setElem e x).vehicle = s.vehicle := rfl
@[simp] theorem State.setElem_modem (s : State) (e : Nat) (x : Elem) : (s.setElem e x).modem = s.modem := rfl
@[simp] theorem State.setElem_rings (s : State) (e : Nat) (x : Elem) : (s.setElem e x).rings = s.rings := rfl
@[simp] theorem State.setElem_dma (s : State) (e : Nat) (x : Elem) : (s.setElem e x).dma = s.dma := rfl
@[simp] theorem State.setElem_pats (s : State) (e : Nat) (x : Elem) : (s.setElem e x).pats = s.pats := rfl
@[simp] theorem State.setElem_uarts (s : State) (e : Nat) (x : Elem) : (s.setElem e x).uarts = s.uarts := rfl
@[simp] theorem State.setElem_tws (s : State) (e : Nat) (x : Elem) : (s.setElem e x).tws = s.tws := rfl
@[simp] theorem State.setElem_ether (s : State) (e : Nat) (x : Elem) : (s.setElem e x).ether = s.ether := rfl
@[simp] theorem State.setElem_update (s : State) (e : Nat) (x : Elem) : (s.setElem e x).update = s.update := rfl
@[simp] theorem State.setElem_cluster (s : State) (e : Nat) (x : Elem) : (s.setElem e x).cluster = s.cluster := rfl
@[simp] theorem State.setElem_alloc (s : State) (e : Nat) (x : Elem) : (s.setElem e x).alloc = s.alloc := rfl
@[simp] theorem State.setElem_tenants (s : State) (e : Nat) (x : Elem) : (s.setElem e x).tenants = s.tenants := rfl
@[simp] theorem State.setElem_reader (s : State) (e : Nat) (x : Elem) : (s.setElem e x).reader = s.reader := rfl
@[simp] theorem State.setElem_panel (s : State) (e : Nat) (x : Elem) : (s.setElem e x).panel = s.panel := rfl
@[simp] theorem State.setElem_audio (s : State) (e : Nat) (x : Elem) : (s.setElem e x).audio = s.audio := rfl
@[simp] theorem State.setElem_pending (s : State) (e : Nat) (x : Elem) : (s.setElem e x).pending = s.pending := rfl

/-! `State.setPo` changes `pulses` only. -/

@[simp] theorem State.setPo_regs (s : State) (n : Fin 4) (p : PulseOut) : (s.setPo n p).regs = s.regs := rfl
@[simp] theorem State.setPo_mem (s : State) (n : Fin 4) (p : PulseOut) : (s.setPo n p).mem = s.mem := rfl
@[simp] theorem State.setPo_sramTags (s : State) (n : Fin 4) (p : PulseOut) : (s.setPo n p).sramTags = s.sramTags := rfl
@[simp] theorem State.setPo_flash (s : State) (n : Fin 4) (p : PulseOut) : (s.setPo n p).flash = s.flash := rfl
@[simp] theorem State.setPo_ledger (s : State) (n : Fin 4) (p : PulseOut) : (s.setPo n p).ledger = s.ledger := rfl
@[simp] theorem State.setPo_snaps (s : State) (n : Fin 4) (p : PulseOut) : (s.setPo n p).snaps = s.snaps := rfl
@[simp] theorem State.setPo_stages (s : State) (n : Fin 4) (p : PulseOut) : (s.setPo n p).stages = s.stages := rfl
@[simp] theorem State.setPo_bus (s : State) (n : Fin 4) (p : PulseOut) : (s.setPo n p).bus = s.bus := rfl
@[simp] theorem State.setPo_stalled (s : State) (n : Fin 4) (p : PulseOut) : (s.setPo n p).stalled = s.stalled := rfl
@[simp] theorem State.setPo_fresh (s : State) (n : Fin 4) (p : PulseOut) : (s.setPo n p).fresh = s.fresh := rfl
@[simp] theorem State.setPo_log (s : State) (n : Fin 4) (p : PulseOut) : (s.setPo n p).log = s.log := rfl
@[simp] theorem State.setPo_angle (s : State) (n : Fin 4) (p : PulseOut) : (s.setPo n p).angle = s.angle := rfl
@[simp] theorem State.setPo_timers (s : State) (n : Fin 4) (p : PulseOut) : (s.setPo n p).timers = s.timers := rfl
@[simp] theorem State.setPo_utcReq (s : State) (n : Fin 4) (p : PulseOut) : (s.setPo n p).utcReq = s.utcReq := rfl
@[simp] theorem State.setPo_sealSt (s : State) (n : Fin 4) (p : PulseOut) : (s.setPo n p).sealSt = s.sealSt := rfl
@[simp] theorem State.setPo_boot (s : State) (n : Fin 4) (p : PulseOut) : (s.setPo n p).boot = s.boot := rfl
@[simp] theorem State.setPo_commit (s : State) (n : Fin 4) (p : PulseOut) : (s.setPo n p).commit = s.commit := rfl
@[simp] theorem State.setPo_session (s : State) (n : Fin 4) (p : PulseOut) : (s.setPo n p).session = s.session := rfl
@[simp] theorem State.setPo_heads (s : State) (n : Fin 4) (p : PulseOut) : (s.setPo n p).heads = s.heads := rfl
@[simp] theorem State.setPo_headDevs (s : State) (n : Fin 4) (p : PulseOut) : (s.setPo n p).headDevs = s.headDevs := rfl
@[simp] theorem State.setPo_chans (s : State) (n : Fin 4) (p : PulseOut) : (s.setPo n p).chans = s.chans := rfl
@[simp] theorem State.setPo_energy (s : State) (n : Fin 4) (p : PulseOut) : (s.setPo n p).energy = s.energy := rfl
@[simp] theorem State.setPo_safety (s : State) (n : Fin 4) (p : PulseOut) : (s.setPo n p).safety = s.safety := rfl
@[simp] theorem State.setPo_vehicle (s : State) (n : Fin 4) (p : PulseOut) : (s.setPo n p).vehicle = s.vehicle := rfl
@[simp] theorem State.setPo_modem (s : State) (n : Fin 4) (p : PulseOut) : (s.setPo n p).modem = s.modem := rfl
@[simp] theorem State.setPo_rings (s : State) (n : Fin 4) (p : PulseOut) : (s.setPo n p).rings = s.rings := rfl
@[simp] theorem State.setPo_dma (s : State) (n : Fin 4) (p : PulseOut) : (s.setPo n p).dma = s.dma := rfl
@[simp] theorem State.setPo_pats (s : State) (n : Fin 4) (p : PulseOut) : (s.setPo n p).pats = s.pats := rfl
@[simp] theorem State.setPo_uarts (s : State) (n : Fin 4) (p : PulseOut) : (s.setPo n p).uarts = s.uarts := rfl
@[simp] theorem State.setPo_tws (s : State) (n : Fin 4) (p : PulseOut) : (s.setPo n p).tws = s.tws := rfl
@[simp] theorem State.setPo_ether (s : State) (n : Fin 4) (p : PulseOut) : (s.setPo n p).ether = s.ether := rfl
@[simp] theorem State.setPo_update (s : State) (n : Fin 4) (p : PulseOut) : (s.setPo n p).update = s.update := rfl
@[simp] theorem State.setPo_cluster (s : State) (n : Fin 4) (p : PulseOut) : (s.setPo n p).cluster = s.cluster := rfl
@[simp] theorem State.setPo_alloc (s : State) (n : Fin 4) (p : PulseOut) : (s.setPo n p).alloc = s.alloc := rfl
@[simp] theorem State.setPo_tenants (s : State) (n : Fin 4) (p : PulseOut) : (s.setPo n p).tenants = s.tenants := rfl
@[simp] theorem State.setPo_reader (s : State) (n : Fin 4) (p : PulseOut) : (s.setPo n p).reader = s.reader := rfl
@[simp] theorem State.setPo_panel (s : State) (n : Fin 4) (p : PulseOut) : (s.setPo n p).panel = s.panel := rfl
@[simp] theorem State.setPo_audio (s : State) (n : Fin 4) (p : PulseOut) : (s.setPo n p).audio = s.audio := rfl
@[simp] theorem State.setPo_pending (s : State) (n : Fin 4) (p : PulseOut) : (s.setPo n p).pending = s.pending := rfl

/-! `State.setSw` changes `safety` only. -/

@[simp] theorem State.setSw_regs (s : State) (n : Fin 24) (c : SwChan) : (s.setSw n c).regs = s.regs := rfl
@[simp] theorem State.setSw_mem (s : State) (n : Fin 24) (c : SwChan) : (s.setSw n c).mem = s.mem := rfl
@[simp] theorem State.setSw_sramTags (s : State) (n : Fin 24) (c : SwChan) : (s.setSw n c).sramTags = s.sramTags := rfl
@[simp] theorem State.setSw_flash (s : State) (n : Fin 24) (c : SwChan) : (s.setSw n c).flash = s.flash := rfl
@[simp] theorem State.setSw_ledger (s : State) (n : Fin 24) (c : SwChan) : (s.setSw n c).ledger = s.ledger := rfl
@[simp] theorem State.setSw_snaps (s : State) (n : Fin 24) (c : SwChan) : (s.setSw n c).snaps = s.snaps := rfl
@[simp] theorem State.setSw_stages (s : State) (n : Fin 24) (c : SwChan) : (s.setSw n c).stages = s.stages := rfl
@[simp] theorem State.setSw_bus (s : State) (n : Fin 24) (c : SwChan) : (s.setSw n c).bus = s.bus := rfl
@[simp] theorem State.setSw_stalled (s : State) (n : Fin 24) (c : SwChan) : (s.setSw n c).stalled = s.stalled := rfl
@[simp] theorem State.setSw_fresh (s : State) (n : Fin 24) (c : SwChan) : (s.setSw n c).fresh = s.fresh := rfl
@[simp] theorem State.setSw_log (s : State) (n : Fin 24) (c : SwChan) : (s.setSw n c).log = s.log := rfl
@[simp] theorem State.setSw_angle (s : State) (n : Fin 24) (c : SwChan) : (s.setSw n c).angle = s.angle := rfl
@[simp] theorem State.setSw_timers (s : State) (n : Fin 24) (c : SwChan) : (s.setSw n c).timers = s.timers := rfl
@[simp] theorem State.setSw_utcReq (s : State) (n : Fin 24) (c : SwChan) : (s.setSw n c).utcReq = s.utcReq := rfl
@[simp] theorem State.setSw_sealSt (s : State) (n : Fin 24) (c : SwChan) : (s.setSw n c).sealSt = s.sealSt := rfl
@[simp] theorem State.setSw_boot (s : State) (n : Fin 24) (c : SwChan) : (s.setSw n c).boot = s.boot := rfl
@[simp] theorem State.setSw_commit (s : State) (n : Fin 24) (c : SwChan) : (s.setSw n c).commit = s.commit := rfl
@[simp] theorem State.setSw_session (s : State) (n : Fin 24) (c : SwChan) : (s.setSw n c).session = s.session := rfl
@[simp] theorem State.setSw_heads (s : State) (n : Fin 24) (c : SwChan) : (s.setSw n c).heads = s.heads := rfl
@[simp] theorem State.setSw_headDevs (s : State) (n : Fin 24) (c : SwChan) : (s.setSw n c).headDevs = s.headDevs := rfl
@[simp] theorem State.setSw_chans (s : State) (n : Fin 24) (c : SwChan) : (s.setSw n c).chans = s.chans := rfl
@[simp] theorem State.setSw_energy (s : State) (n : Fin 24) (c : SwChan) : (s.setSw n c).energy = s.energy := rfl
@[simp] theorem State.setSw_pulses (s : State) (n : Fin 24) (c : SwChan) : (s.setSw n c).pulses = s.pulses := rfl
@[simp] theorem State.setSw_vehicle (s : State) (n : Fin 24) (c : SwChan) : (s.setSw n c).vehicle = s.vehicle := rfl
@[simp] theorem State.setSw_modem (s : State) (n : Fin 24) (c : SwChan) : (s.setSw n c).modem = s.modem := rfl
@[simp] theorem State.setSw_rings (s : State) (n : Fin 24) (c : SwChan) : (s.setSw n c).rings = s.rings := rfl
@[simp] theorem State.setSw_dma (s : State) (n : Fin 24) (c : SwChan) : (s.setSw n c).dma = s.dma := rfl
@[simp] theorem State.setSw_pats (s : State) (n : Fin 24) (c : SwChan) : (s.setSw n c).pats = s.pats := rfl
@[simp] theorem State.setSw_uarts (s : State) (n : Fin 24) (c : SwChan) : (s.setSw n c).uarts = s.uarts := rfl
@[simp] theorem State.setSw_tws (s : State) (n : Fin 24) (c : SwChan) : (s.setSw n c).tws = s.tws := rfl
@[simp] theorem State.setSw_ether (s : State) (n : Fin 24) (c : SwChan) : (s.setSw n c).ether = s.ether := rfl
@[simp] theorem State.setSw_update (s : State) (n : Fin 24) (c : SwChan) : (s.setSw n c).update = s.update := rfl
@[simp] theorem State.setSw_cluster (s : State) (n : Fin 24) (c : SwChan) : (s.setSw n c).cluster = s.cluster := rfl
@[simp] theorem State.setSw_alloc (s : State) (n : Fin 24) (c : SwChan) : (s.setSw n c).alloc = s.alloc := rfl
@[simp] theorem State.setSw_tenants (s : State) (n : Fin 24) (c : SwChan) : (s.setSw n c).tenants = s.tenants := rfl
@[simp] theorem State.setSw_reader (s : State) (n : Fin 24) (c : SwChan) : (s.setSw n c).reader = s.reader := rfl
@[simp] theorem State.setSw_panel (s : State) (n : Fin 24) (c : SwChan) : (s.setSw n c).panel = s.panel := rfl
@[simp] theorem State.setSw_audio (s : State) (n : Fin 24) (c : SwChan) : (s.setSw n c).audio = s.audio := rfl
@[simp] theorem State.setSw_pending (s : State) (n : Fin 24) (c : SwChan) : (s.setSw n c).pending = s.pending := rfl

/-! `State.setSc` changes `safety` only. -/

@[simp] theorem State.setSc_regs (s : State) (n : Fin 8) (c : SafeChan) : (s.setSc n c).regs = s.regs := rfl
@[simp] theorem State.setSc_mem (s : State) (n : Fin 8) (c : SafeChan) : (s.setSc n c).mem = s.mem := rfl
@[simp] theorem State.setSc_sramTags (s : State) (n : Fin 8) (c : SafeChan) : (s.setSc n c).sramTags = s.sramTags := rfl
@[simp] theorem State.setSc_flash (s : State) (n : Fin 8) (c : SafeChan) : (s.setSc n c).flash = s.flash := rfl
@[simp] theorem State.setSc_ledger (s : State) (n : Fin 8) (c : SafeChan) : (s.setSc n c).ledger = s.ledger := rfl
@[simp] theorem State.setSc_snaps (s : State) (n : Fin 8) (c : SafeChan) : (s.setSc n c).snaps = s.snaps := rfl
@[simp] theorem State.setSc_stages (s : State) (n : Fin 8) (c : SafeChan) : (s.setSc n c).stages = s.stages := rfl
@[simp] theorem State.setSc_bus (s : State) (n : Fin 8) (c : SafeChan) : (s.setSc n c).bus = s.bus := rfl
@[simp] theorem State.setSc_stalled (s : State) (n : Fin 8) (c : SafeChan) : (s.setSc n c).stalled = s.stalled := rfl
@[simp] theorem State.setSc_fresh (s : State) (n : Fin 8) (c : SafeChan) : (s.setSc n c).fresh = s.fresh := rfl
@[simp] theorem State.setSc_log (s : State) (n : Fin 8) (c : SafeChan) : (s.setSc n c).log = s.log := rfl
@[simp] theorem State.setSc_angle (s : State) (n : Fin 8) (c : SafeChan) : (s.setSc n c).angle = s.angle := rfl
@[simp] theorem State.setSc_timers (s : State) (n : Fin 8) (c : SafeChan) : (s.setSc n c).timers = s.timers := rfl
@[simp] theorem State.setSc_utcReq (s : State) (n : Fin 8) (c : SafeChan) : (s.setSc n c).utcReq = s.utcReq := rfl
@[simp] theorem State.setSc_sealSt (s : State) (n : Fin 8) (c : SafeChan) : (s.setSc n c).sealSt = s.sealSt := rfl
@[simp] theorem State.setSc_boot (s : State) (n : Fin 8) (c : SafeChan) : (s.setSc n c).boot = s.boot := rfl
@[simp] theorem State.setSc_commit (s : State) (n : Fin 8) (c : SafeChan) : (s.setSc n c).commit = s.commit := rfl
@[simp] theorem State.setSc_session (s : State) (n : Fin 8) (c : SafeChan) : (s.setSc n c).session = s.session := rfl
@[simp] theorem State.setSc_heads (s : State) (n : Fin 8) (c : SafeChan) : (s.setSc n c).heads = s.heads := rfl
@[simp] theorem State.setSc_headDevs (s : State) (n : Fin 8) (c : SafeChan) : (s.setSc n c).headDevs = s.headDevs := rfl
@[simp] theorem State.setSc_chans (s : State) (n : Fin 8) (c : SafeChan) : (s.setSc n c).chans = s.chans := rfl
@[simp] theorem State.setSc_energy (s : State) (n : Fin 8) (c : SafeChan) : (s.setSc n c).energy = s.energy := rfl
@[simp] theorem State.setSc_pulses (s : State) (n : Fin 8) (c : SafeChan) : (s.setSc n c).pulses = s.pulses := rfl
@[simp] theorem State.setSc_vehicle (s : State) (n : Fin 8) (c : SafeChan) : (s.setSc n c).vehicle = s.vehicle := rfl
@[simp] theorem State.setSc_modem (s : State) (n : Fin 8) (c : SafeChan) : (s.setSc n c).modem = s.modem := rfl
@[simp] theorem State.setSc_rings (s : State) (n : Fin 8) (c : SafeChan) : (s.setSc n c).rings = s.rings := rfl
@[simp] theorem State.setSc_dma (s : State) (n : Fin 8) (c : SafeChan) : (s.setSc n c).dma = s.dma := rfl
@[simp] theorem State.setSc_pats (s : State) (n : Fin 8) (c : SafeChan) : (s.setSc n c).pats = s.pats := rfl
@[simp] theorem State.setSc_uarts (s : State) (n : Fin 8) (c : SafeChan) : (s.setSc n c).uarts = s.uarts := rfl
@[simp] theorem State.setSc_tws (s : State) (n : Fin 8) (c : SafeChan) : (s.setSc n c).tws = s.tws := rfl
@[simp] theorem State.setSc_ether (s : State) (n : Fin 8) (c : SafeChan) : (s.setSc n c).ether = s.ether := rfl
@[simp] theorem State.setSc_update (s : State) (n : Fin 8) (c : SafeChan) : (s.setSc n c).update = s.update := rfl
@[simp] theorem State.setSc_cluster (s : State) (n : Fin 8) (c : SafeChan) : (s.setSc n c).cluster = s.cluster := rfl
@[simp] theorem State.setSc_alloc (s : State) (n : Fin 8) (c : SafeChan) : (s.setSc n c).alloc = s.alloc := rfl
@[simp] theorem State.setSc_tenants (s : State) (n : Fin 8) (c : SafeChan) : (s.setSc n c).tenants = s.tenants := rfl
@[simp] theorem State.setSc_reader (s : State) (n : Fin 8) (c : SafeChan) : (s.setSc n c).reader = s.reader := rfl
@[simp] theorem State.setSc_panel (s : State) (n : Fin 8) (c : SafeChan) : (s.setSc n c).panel = s.panel := rfl
@[simp] theorem State.setSc_audio (s : State) (n : Fin 8) (c : SafeChan) : (s.setSc n c).audio = s.audio := rfl
@[simp] theorem State.setSc_pending (s : State) (n : Fin 8) (c : SafeChan) : (s.setSc n c).pending = s.pending := rfl

/-! `State.setSp` changes `safety` only. -/

@[simp] theorem State.setSp_regs (s : State) (p : Fin 16) (c : SafePair) : (s.setSp p c).regs = s.regs := rfl
@[simp] theorem State.setSp_mem (s : State) (p : Fin 16) (c : SafePair) : (s.setSp p c).mem = s.mem := rfl
@[simp] theorem State.setSp_sramTags (s : State) (p : Fin 16) (c : SafePair) : (s.setSp p c).sramTags = s.sramTags := rfl
@[simp] theorem State.setSp_flash (s : State) (p : Fin 16) (c : SafePair) : (s.setSp p c).flash = s.flash := rfl
@[simp] theorem State.setSp_ledger (s : State) (p : Fin 16) (c : SafePair) : (s.setSp p c).ledger = s.ledger := rfl
@[simp] theorem State.setSp_snaps (s : State) (p : Fin 16) (c : SafePair) : (s.setSp p c).snaps = s.snaps := rfl
@[simp] theorem State.setSp_stages (s : State) (p : Fin 16) (c : SafePair) : (s.setSp p c).stages = s.stages := rfl
@[simp] theorem State.setSp_bus (s : State) (p : Fin 16) (c : SafePair) : (s.setSp p c).bus = s.bus := rfl
@[simp] theorem State.setSp_stalled (s : State) (p : Fin 16) (c : SafePair) : (s.setSp p c).stalled = s.stalled := rfl
@[simp] theorem State.setSp_fresh (s : State) (p : Fin 16) (c : SafePair) : (s.setSp p c).fresh = s.fresh := rfl
@[simp] theorem State.setSp_log (s : State) (p : Fin 16) (c : SafePair) : (s.setSp p c).log = s.log := rfl
@[simp] theorem State.setSp_angle (s : State) (p : Fin 16) (c : SafePair) : (s.setSp p c).angle = s.angle := rfl
@[simp] theorem State.setSp_timers (s : State) (p : Fin 16) (c : SafePair) : (s.setSp p c).timers = s.timers := rfl
@[simp] theorem State.setSp_utcReq (s : State) (p : Fin 16) (c : SafePair) : (s.setSp p c).utcReq = s.utcReq := rfl
@[simp] theorem State.setSp_sealSt (s : State) (p : Fin 16) (c : SafePair) : (s.setSp p c).sealSt = s.sealSt := rfl
@[simp] theorem State.setSp_boot (s : State) (p : Fin 16) (c : SafePair) : (s.setSp p c).boot = s.boot := rfl
@[simp] theorem State.setSp_commit (s : State) (p : Fin 16) (c : SafePair) : (s.setSp p c).commit = s.commit := rfl
@[simp] theorem State.setSp_session (s : State) (p : Fin 16) (c : SafePair) : (s.setSp p c).session = s.session := rfl
@[simp] theorem State.setSp_heads (s : State) (p : Fin 16) (c : SafePair) : (s.setSp p c).heads = s.heads := rfl
@[simp] theorem State.setSp_headDevs (s : State) (p : Fin 16) (c : SafePair) : (s.setSp p c).headDevs = s.headDevs := rfl
@[simp] theorem State.setSp_chans (s : State) (p : Fin 16) (c : SafePair) : (s.setSp p c).chans = s.chans := rfl
@[simp] theorem State.setSp_energy (s : State) (p : Fin 16) (c : SafePair) : (s.setSp p c).energy = s.energy := rfl
@[simp] theorem State.setSp_pulses (s : State) (p : Fin 16) (c : SafePair) : (s.setSp p c).pulses = s.pulses := rfl
@[simp] theorem State.setSp_vehicle (s : State) (p : Fin 16) (c : SafePair) : (s.setSp p c).vehicle = s.vehicle := rfl
@[simp] theorem State.setSp_modem (s : State) (p : Fin 16) (c : SafePair) : (s.setSp p c).modem = s.modem := rfl
@[simp] theorem State.setSp_rings (s : State) (p : Fin 16) (c : SafePair) : (s.setSp p c).rings = s.rings := rfl
@[simp] theorem State.setSp_dma (s : State) (p : Fin 16) (c : SafePair) : (s.setSp p c).dma = s.dma := rfl
@[simp] theorem State.setSp_pats (s : State) (p : Fin 16) (c : SafePair) : (s.setSp p c).pats = s.pats := rfl
@[simp] theorem State.setSp_uarts (s : State) (p : Fin 16) (c : SafePair) : (s.setSp p c).uarts = s.uarts := rfl
@[simp] theorem State.setSp_tws (s : State) (p : Fin 16) (c : SafePair) : (s.setSp p c).tws = s.tws := rfl
@[simp] theorem State.setSp_ether (s : State) (p : Fin 16) (c : SafePair) : (s.setSp p c).ether = s.ether := rfl
@[simp] theorem State.setSp_update (s : State) (p : Fin 16) (c : SafePair) : (s.setSp p c).update = s.update := rfl
@[simp] theorem State.setSp_cluster (s : State) (p : Fin 16) (c : SafePair) : (s.setSp p c).cluster = s.cluster := rfl
@[simp] theorem State.setSp_alloc (s : State) (p : Fin 16) (c : SafePair) : (s.setSp p c).alloc = s.alloc := rfl
@[simp] theorem State.setSp_tenants (s : State) (p : Fin 16) (c : SafePair) : (s.setSp p c).tenants = s.tenants := rfl
@[simp] theorem State.setSp_reader (s : State) (p : Fin 16) (c : SafePair) : (s.setSp p c).reader = s.reader := rfl
@[simp] theorem State.setSp_panel (s : State) (p : Fin 16) (c : SafePair) : (s.setSp p c).panel = s.panel := rfl
@[simp] theorem State.setSp_audio (s : State) (p : Fin 16) (c : SafePair) : (s.setSp p c).audio = s.audio := rfl
@[simp] theorem State.setSp_pending (s : State) (p : Fin 16) (c : SafePair) : (s.setSp p c).pending = s.pending := rfl

/-! `State.setEarth` changes `safety` only. -/

@[simp] theorem State.setEarth_regs (s : State) (e : Earth) : (s.setEarth e).regs = s.regs := rfl
@[simp] theorem State.setEarth_mem (s : State) (e : Earth) : (s.setEarth e).mem = s.mem := rfl
@[simp] theorem State.setEarth_sramTags (s : State) (e : Earth) : (s.setEarth e).sramTags = s.sramTags := rfl
@[simp] theorem State.setEarth_flash (s : State) (e : Earth) : (s.setEarth e).flash = s.flash := rfl
@[simp] theorem State.setEarth_ledger (s : State) (e : Earth) : (s.setEarth e).ledger = s.ledger := rfl
@[simp] theorem State.setEarth_snaps (s : State) (e : Earth) : (s.setEarth e).snaps = s.snaps := rfl
@[simp] theorem State.setEarth_stages (s : State) (e : Earth) : (s.setEarth e).stages = s.stages := rfl
@[simp] theorem State.setEarth_bus (s : State) (e : Earth) : (s.setEarth e).bus = s.bus := rfl
@[simp] theorem State.setEarth_stalled (s : State) (e : Earth) : (s.setEarth e).stalled = s.stalled := rfl
@[simp] theorem State.setEarth_fresh (s : State) (e : Earth) : (s.setEarth e).fresh = s.fresh := rfl
@[simp] theorem State.setEarth_log (s : State) (e : Earth) : (s.setEarth e).log = s.log := rfl
@[simp] theorem State.setEarth_angle (s : State) (e : Earth) : (s.setEarth e).angle = s.angle := rfl
@[simp] theorem State.setEarth_timers (s : State) (e : Earth) : (s.setEarth e).timers = s.timers := rfl
@[simp] theorem State.setEarth_utcReq (s : State) (e : Earth) : (s.setEarth e).utcReq = s.utcReq := rfl
@[simp] theorem State.setEarth_sealSt (s : State) (e : Earth) : (s.setEarth e).sealSt = s.sealSt := rfl
@[simp] theorem State.setEarth_boot (s : State) (e : Earth) : (s.setEarth e).boot = s.boot := rfl
@[simp] theorem State.setEarth_commit (s : State) (e : Earth) : (s.setEarth e).commit = s.commit := rfl
@[simp] theorem State.setEarth_session (s : State) (e : Earth) : (s.setEarth e).session = s.session := rfl
@[simp] theorem State.setEarth_heads (s : State) (e : Earth) : (s.setEarth e).heads = s.heads := rfl
@[simp] theorem State.setEarth_headDevs (s : State) (e : Earth) : (s.setEarth e).headDevs = s.headDevs := rfl
@[simp] theorem State.setEarth_chans (s : State) (e : Earth) : (s.setEarth e).chans = s.chans := rfl
@[simp] theorem State.setEarth_energy (s : State) (e : Earth) : (s.setEarth e).energy = s.energy := rfl
@[simp] theorem State.setEarth_pulses (s : State) (e : Earth) : (s.setEarth e).pulses = s.pulses := rfl
@[simp] theorem State.setEarth_vehicle (s : State) (e : Earth) : (s.setEarth e).vehicle = s.vehicle := rfl
@[simp] theorem State.setEarth_modem (s : State) (e : Earth) : (s.setEarth e).modem = s.modem := rfl
@[simp] theorem State.setEarth_rings (s : State) (e : Earth) : (s.setEarth e).rings = s.rings := rfl
@[simp] theorem State.setEarth_dma (s : State) (e : Earth) : (s.setEarth e).dma = s.dma := rfl
@[simp] theorem State.setEarth_pats (s : State) (e : Earth) : (s.setEarth e).pats = s.pats := rfl
@[simp] theorem State.setEarth_uarts (s : State) (e : Earth) : (s.setEarth e).uarts = s.uarts := rfl
@[simp] theorem State.setEarth_tws (s : State) (e : Earth) : (s.setEarth e).tws = s.tws := rfl
@[simp] theorem State.setEarth_ether (s : State) (e : Earth) : (s.setEarth e).ether = s.ether := rfl
@[simp] theorem State.setEarth_update (s : State) (e : Earth) : (s.setEarth e).update = s.update := rfl
@[simp] theorem State.setEarth_cluster (s : State) (e : Earth) : (s.setEarth e).cluster = s.cluster := rfl
@[simp] theorem State.setEarth_alloc (s : State) (e : Earth) : (s.setEarth e).alloc = s.alloc := rfl
@[simp] theorem State.setEarth_tenants (s : State) (e : Earth) : (s.setEarth e).tenants = s.tenants := rfl
@[simp] theorem State.setEarth_reader (s : State) (e : Earth) : (s.setEarth e).reader = s.reader := rfl
@[simp] theorem State.setEarth_panel (s : State) (e : Earth) : (s.setEarth e).panel = s.panel := rfl
@[simp] theorem State.setEarth_audio (s : State) (e : Earth) : (s.setEarth e).audio = s.audio := rfl
@[simp] theorem State.setEarth_pending (s : State) (e : Earth) : (s.setEarth e).pending = s.pending := rfl

/-! `State.setRing` changes `rings` only. -/

@[simp] theorem State.setRing_regs (s : State) (r : Nat) (g : Ring) : (s.setRing r g).regs = s.regs := rfl
@[simp] theorem State.setRing_mem (s : State) (r : Nat) (g : Ring) : (s.setRing r g).mem = s.mem := rfl
@[simp] theorem State.setRing_sramTags (s : State) (r : Nat) (g : Ring) : (s.setRing r g).sramTags = s.sramTags := rfl
@[simp] theorem State.setRing_flash (s : State) (r : Nat) (g : Ring) : (s.setRing r g).flash = s.flash := rfl
@[simp] theorem State.setRing_ledger (s : State) (r : Nat) (g : Ring) : (s.setRing r g).ledger = s.ledger := rfl
@[simp] theorem State.setRing_snaps (s : State) (r : Nat) (g : Ring) : (s.setRing r g).snaps = s.snaps := rfl
@[simp] theorem State.setRing_stages (s : State) (r : Nat) (g : Ring) : (s.setRing r g).stages = s.stages := rfl
@[simp] theorem State.setRing_bus (s : State) (r : Nat) (g : Ring) : (s.setRing r g).bus = s.bus := rfl
@[simp] theorem State.setRing_stalled (s : State) (r : Nat) (g : Ring) : (s.setRing r g).stalled = s.stalled := rfl
@[simp] theorem State.setRing_fresh (s : State) (r : Nat) (g : Ring) : (s.setRing r g).fresh = s.fresh := rfl
@[simp] theorem State.setRing_log (s : State) (r : Nat) (g : Ring) : (s.setRing r g).log = s.log := rfl
@[simp] theorem State.setRing_angle (s : State) (r : Nat) (g : Ring) : (s.setRing r g).angle = s.angle := rfl
@[simp] theorem State.setRing_timers (s : State) (r : Nat) (g : Ring) : (s.setRing r g).timers = s.timers := rfl
@[simp] theorem State.setRing_utcReq (s : State) (r : Nat) (g : Ring) : (s.setRing r g).utcReq = s.utcReq := rfl
@[simp] theorem State.setRing_sealSt (s : State) (r : Nat) (g : Ring) : (s.setRing r g).sealSt = s.sealSt := rfl
@[simp] theorem State.setRing_boot (s : State) (r : Nat) (g : Ring) : (s.setRing r g).boot = s.boot := rfl
@[simp] theorem State.setRing_commit (s : State) (r : Nat) (g : Ring) : (s.setRing r g).commit = s.commit := rfl
@[simp] theorem State.setRing_session (s : State) (r : Nat) (g : Ring) : (s.setRing r g).session = s.session := rfl
@[simp] theorem State.setRing_heads (s : State) (r : Nat) (g : Ring) : (s.setRing r g).heads = s.heads := rfl
@[simp] theorem State.setRing_headDevs (s : State) (r : Nat) (g : Ring) : (s.setRing r g).headDevs = s.headDevs := rfl
@[simp] theorem State.setRing_chans (s : State) (r : Nat) (g : Ring) : (s.setRing r g).chans = s.chans := rfl
@[simp] theorem State.setRing_energy (s : State) (r : Nat) (g : Ring) : (s.setRing r g).energy = s.energy := rfl
@[simp] theorem State.setRing_pulses (s : State) (r : Nat) (g : Ring) : (s.setRing r g).pulses = s.pulses := rfl
@[simp] theorem State.setRing_safety (s : State) (r : Nat) (g : Ring) : (s.setRing r g).safety = s.safety := rfl
@[simp] theorem State.setRing_vehicle (s : State) (r : Nat) (g : Ring) : (s.setRing r g).vehicle = s.vehicle := rfl
@[simp] theorem State.setRing_modem (s : State) (r : Nat) (g : Ring) : (s.setRing r g).modem = s.modem := rfl
@[simp] theorem State.setRing_dma (s : State) (r : Nat) (g : Ring) : (s.setRing r g).dma = s.dma := rfl
@[simp] theorem State.setRing_pats (s : State) (r : Nat) (g : Ring) : (s.setRing r g).pats = s.pats := rfl
@[simp] theorem State.setRing_uarts (s : State) (r : Nat) (g : Ring) : (s.setRing r g).uarts = s.uarts := rfl
@[simp] theorem State.setRing_tws (s : State) (r : Nat) (g : Ring) : (s.setRing r g).tws = s.tws := rfl
@[simp] theorem State.setRing_ether (s : State) (r : Nat) (g : Ring) : (s.setRing r g).ether = s.ether := rfl
@[simp] theorem State.setRing_update (s : State) (r : Nat) (g : Ring) : (s.setRing r g).update = s.update := rfl
@[simp] theorem State.setRing_cluster (s : State) (r : Nat) (g : Ring) : (s.setRing r g).cluster = s.cluster := rfl
@[simp] theorem State.setRing_alloc (s : State) (r : Nat) (g : Ring) : (s.setRing r g).alloc = s.alloc := rfl
@[simp] theorem State.setRing_tenants (s : State) (r : Nat) (g : Ring) : (s.setRing r g).tenants = s.tenants := rfl
@[simp] theorem State.setRing_reader (s : State) (r : Nat) (g : Ring) : (s.setRing r g).reader = s.reader := rfl
@[simp] theorem State.setRing_panel (s : State) (r : Nat) (g : Ring) : (s.setRing r g).panel = s.panel := rfl
@[simp] theorem State.setRing_audio (s : State) (r : Nat) (g : Ring) : (s.setRing r g).audio = s.audio := rfl
@[simp] theorem State.setRing_pending (s : State) (r : Nat) (g : Ring) : (s.setRing r g).pending = s.pending := rfl

/-! `State.setPat` changes `pats` only. -/

@[simp] theorem State.setPat_regs (s : State) (page : Nat) (b : PatBlock) : (s.setPat page b).regs = s.regs := rfl
@[simp] theorem State.setPat_mem (s : State) (page : Nat) (b : PatBlock) : (s.setPat page b).mem = s.mem := rfl
@[simp] theorem State.setPat_sramTags (s : State) (page : Nat) (b : PatBlock) : (s.setPat page b).sramTags = s.sramTags := rfl
@[simp] theorem State.setPat_flash (s : State) (page : Nat) (b : PatBlock) : (s.setPat page b).flash = s.flash := rfl
@[simp] theorem State.setPat_ledger (s : State) (page : Nat) (b : PatBlock) : (s.setPat page b).ledger = s.ledger := rfl
@[simp] theorem State.setPat_snaps (s : State) (page : Nat) (b : PatBlock) : (s.setPat page b).snaps = s.snaps := rfl
@[simp] theorem State.setPat_stages (s : State) (page : Nat) (b : PatBlock) : (s.setPat page b).stages = s.stages := rfl
@[simp] theorem State.setPat_bus (s : State) (page : Nat) (b : PatBlock) : (s.setPat page b).bus = s.bus := rfl
@[simp] theorem State.setPat_stalled (s : State) (page : Nat) (b : PatBlock) : (s.setPat page b).stalled = s.stalled := rfl
@[simp] theorem State.setPat_fresh (s : State) (page : Nat) (b : PatBlock) : (s.setPat page b).fresh = s.fresh := rfl
@[simp] theorem State.setPat_log (s : State) (page : Nat) (b : PatBlock) : (s.setPat page b).log = s.log := rfl
@[simp] theorem State.setPat_angle (s : State) (page : Nat) (b : PatBlock) : (s.setPat page b).angle = s.angle := rfl
@[simp] theorem State.setPat_timers (s : State) (page : Nat) (b : PatBlock) : (s.setPat page b).timers = s.timers := rfl
@[simp] theorem State.setPat_utcReq (s : State) (page : Nat) (b : PatBlock) : (s.setPat page b).utcReq = s.utcReq := rfl
@[simp] theorem State.setPat_sealSt (s : State) (page : Nat) (b : PatBlock) : (s.setPat page b).sealSt = s.sealSt := rfl
@[simp] theorem State.setPat_boot (s : State) (page : Nat) (b : PatBlock) : (s.setPat page b).boot = s.boot := rfl
@[simp] theorem State.setPat_commit (s : State) (page : Nat) (b : PatBlock) : (s.setPat page b).commit = s.commit := rfl
@[simp] theorem State.setPat_session (s : State) (page : Nat) (b : PatBlock) : (s.setPat page b).session = s.session := rfl
@[simp] theorem State.setPat_heads (s : State) (page : Nat) (b : PatBlock) : (s.setPat page b).heads = s.heads := rfl
@[simp] theorem State.setPat_headDevs (s : State) (page : Nat) (b : PatBlock) : (s.setPat page b).headDevs = s.headDevs := rfl
@[simp] theorem State.setPat_chans (s : State) (page : Nat) (b : PatBlock) : (s.setPat page b).chans = s.chans := rfl
@[simp] theorem State.setPat_energy (s : State) (page : Nat) (b : PatBlock) : (s.setPat page b).energy = s.energy := rfl
@[simp] theorem State.setPat_pulses (s : State) (page : Nat) (b : PatBlock) : (s.setPat page b).pulses = s.pulses := rfl
@[simp] theorem State.setPat_safety (s : State) (page : Nat) (b : PatBlock) : (s.setPat page b).safety = s.safety := rfl
@[simp] theorem State.setPat_vehicle (s : State) (page : Nat) (b : PatBlock) : (s.setPat page b).vehicle = s.vehicle := rfl
@[simp] theorem State.setPat_modem (s : State) (page : Nat) (b : PatBlock) : (s.setPat page b).modem = s.modem := rfl
@[simp] theorem State.setPat_rings (s : State) (page : Nat) (b : PatBlock) : (s.setPat page b).rings = s.rings := rfl
@[simp] theorem State.setPat_dma (s : State) (page : Nat) (b : PatBlock) : (s.setPat page b).dma = s.dma := rfl
@[simp] theorem State.setPat_uarts (s : State) (page : Nat) (b : PatBlock) : (s.setPat page b).uarts = s.uarts := rfl
@[simp] theorem State.setPat_tws (s : State) (page : Nat) (b : PatBlock) : (s.setPat page b).tws = s.tws := rfl
@[simp] theorem State.setPat_ether (s : State) (page : Nat) (b : PatBlock) : (s.setPat page b).ether = s.ether := rfl
@[simp] theorem State.setPat_update (s : State) (page : Nat) (b : PatBlock) : (s.setPat page b).update = s.update := rfl
@[simp] theorem State.setPat_cluster (s : State) (page : Nat) (b : PatBlock) : (s.setPat page b).cluster = s.cluster := rfl
@[simp] theorem State.setPat_alloc (s : State) (page : Nat) (b : PatBlock) : (s.setPat page b).alloc = s.alloc := rfl
@[simp] theorem State.setPat_tenants (s : State) (page : Nat) (b : PatBlock) : (s.setPat page b).tenants = s.tenants := rfl
@[simp] theorem State.setPat_reader (s : State) (page : Nat) (b : PatBlock) : (s.setPat page b).reader = s.reader := rfl
@[simp] theorem State.setPat_panel (s : State) (page : Nat) (b : PatBlock) : (s.setPat page b).panel = s.panel := rfl
@[simp] theorem State.setPat_audio (s : State) (page : Nat) (b : PatBlock) : (s.setPat page b).audio = s.audio := rfl
@[simp] theorem State.setPat_pending (s : State) (page : Nat) (b : PatBlock) : (s.setPat page b).pending = s.pending := rfl

/-! `State.setUart` changes `uarts` only. -/

@[simp] theorem State.setUart_regs (s : State) (n : Fin 4) (u : Uart) : (s.setUart n u).regs = s.regs := rfl
@[simp] theorem State.setUart_mem (s : State) (n : Fin 4) (u : Uart) : (s.setUart n u).mem = s.mem := rfl
@[simp] theorem State.setUart_sramTags (s : State) (n : Fin 4) (u : Uart) : (s.setUart n u).sramTags = s.sramTags := rfl
@[simp] theorem State.setUart_flash (s : State) (n : Fin 4) (u : Uart) : (s.setUart n u).flash = s.flash := rfl
@[simp] theorem State.setUart_ledger (s : State) (n : Fin 4) (u : Uart) : (s.setUart n u).ledger = s.ledger := rfl
@[simp] theorem State.setUart_snaps (s : State) (n : Fin 4) (u : Uart) : (s.setUart n u).snaps = s.snaps := rfl
@[simp] theorem State.setUart_stages (s : State) (n : Fin 4) (u : Uart) : (s.setUart n u).stages = s.stages := rfl
@[simp] theorem State.setUart_bus (s : State) (n : Fin 4) (u : Uart) : (s.setUart n u).bus = s.bus := rfl
@[simp] theorem State.setUart_stalled (s : State) (n : Fin 4) (u : Uart) : (s.setUart n u).stalled = s.stalled := rfl
@[simp] theorem State.setUart_fresh (s : State) (n : Fin 4) (u : Uart) : (s.setUart n u).fresh = s.fresh := rfl
@[simp] theorem State.setUart_log (s : State) (n : Fin 4) (u : Uart) : (s.setUart n u).log = s.log := rfl
@[simp] theorem State.setUart_angle (s : State) (n : Fin 4) (u : Uart) : (s.setUart n u).angle = s.angle := rfl
@[simp] theorem State.setUart_timers (s : State) (n : Fin 4) (u : Uart) : (s.setUart n u).timers = s.timers := rfl
@[simp] theorem State.setUart_utcReq (s : State) (n : Fin 4) (u : Uart) : (s.setUart n u).utcReq = s.utcReq := rfl
@[simp] theorem State.setUart_sealSt (s : State) (n : Fin 4) (u : Uart) : (s.setUart n u).sealSt = s.sealSt := rfl
@[simp] theorem State.setUart_boot (s : State) (n : Fin 4) (u : Uart) : (s.setUart n u).boot = s.boot := rfl
@[simp] theorem State.setUart_commit (s : State) (n : Fin 4) (u : Uart) : (s.setUart n u).commit = s.commit := rfl
@[simp] theorem State.setUart_session (s : State) (n : Fin 4) (u : Uart) : (s.setUart n u).session = s.session := rfl
@[simp] theorem State.setUart_heads (s : State) (n : Fin 4) (u : Uart) : (s.setUart n u).heads = s.heads := rfl
@[simp] theorem State.setUart_headDevs (s : State) (n : Fin 4) (u : Uart) : (s.setUart n u).headDevs = s.headDevs := rfl
@[simp] theorem State.setUart_chans (s : State) (n : Fin 4) (u : Uart) : (s.setUart n u).chans = s.chans := rfl
@[simp] theorem State.setUart_energy (s : State) (n : Fin 4) (u : Uart) : (s.setUart n u).energy = s.energy := rfl
@[simp] theorem State.setUart_pulses (s : State) (n : Fin 4) (u : Uart) : (s.setUart n u).pulses = s.pulses := rfl
@[simp] theorem State.setUart_safety (s : State) (n : Fin 4) (u : Uart) : (s.setUart n u).safety = s.safety := rfl
@[simp] theorem State.setUart_vehicle (s : State) (n : Fin 4) (u : Uart) : (s.setUart n u).vehicle = s.vehicle := rfl
@[simp] theorem State.setUart_modem (s : State) (n : Fin 4) (u : Uart) : (s.setUart n u).modem = s.modem := rfl
@[simp] theorem State.setUart_rings (s : State) (n : Fin 4) (u : Uart) : (s.setUart n u).rings = s.rings := rfl
@[simp] theorem State.setUart_dma (s : State) (n : Fin 4) (u : Uart) : (s.setUart n u).dma = s.dma := rfl
@[simp] theorem State.setUart_pats (s : State) (n : Fin 4) (u : Uart) : (s.setUart n u).pats = s.pats := rfl
@[simp] theorem State.setUart_tws (s : State) (n : Fin 4) (u : Uart) : (s.setUart n u).tws = s.tws := rfl
@[simp] theorem State.setUart_ether (s : State) (n : Fin 4) (u : Uart) : (s.setUart n u).ether = s.ether := rfl
@[simp] theorem State.setUart_update (s : State) (n : Fin 4) (u : Uart) : (s.setUart n u).update = s.update := rfl
@[simp] theorem State.setUart_cluster (s : State) (n : Fin 4) (u : Uart) : (s.setUart n u).cluster = s.cluster := rfl
@[simp] theorem State.setUart_alloc (s : State) (n : Fin 4) (u : Uart) : (s.setUart n u).alloc = s.alloc := rfl
@[simp] theorem State.setUart_tenants (s : State) (n : Fin 4) (u : Uart) : (s.setUart n u).tenants = s.tenants := rfl
@[simp] theorem State.setUart_reader (s : State) (n : Fin 4) (u : Uart) : (s.setUart n u).reader = s.reader := rfl
@[simp] theorem State.setUart_panel (s : State) (n : Fin 4) (u : Uart) : (s.setUart n u).panel = s.panel := rfl
@[simp] theorem State.setUart_audio (s : State) (n : Fin 4) (u : Uart) : (s.setUart n u).audio = s.audio := rfl
@[simp] theorem State.setUart_pending (s : State) (n : Fin 4) (u : Uart) : (s.setUart n u).pending = s.pending := rfl

/-! `State.setTw` changes `tws` only. -/

@[simp] theorem State.setTw_regs (s : State) (n : Fin 2) (u : TwoWire) : (s.setTw n u).regs = s.regs := rfl
@[simp] theorem State.setTw_mem (s : State) (n : Fin 2) (u : TwoWire) : (s.setTw n u).mem = s.mem := rfl
@[simp] theorem State.setTw_sramTags (s : State) (n : Fin 2) (u : TwoWire) : (s.setTw n u).sramTags = s.sramTags := rfl
@[simp] theorem State.setTw_flash (s : State) (n : Fin 2) (u : TwoWire) : (s.setTw n u).flash = s.flash := rfl
@[simp] theorem State.setTw_ledger (s : State) (n : Fin 2) (u : TwoWire) : (s.setTw n u).ledger = s.ledger := rfl
@[simp] theorem State.setTw_snaps (s : State) (n : Fin 2) (u : TwoWire) : (s.setTw n u).snaps = s.snaps := rfl
@[simp] theorem State.setTw_stages (s : State) (n : Fin 2) (u : TwoWire) : (s.setTw n u).stages = s.stages := rfl
@[simp] theorem State.setTw_bus (s : State) (n : Fin 2) (u : TwoWire) : (s.setTw n u).bus = s.bus := rfl
@[simp] theorem State.setTw_stalled (s : State) (n : Fin 2) (u : TwoWire) : (s.setTw n u).stalled = s.stalled := rfl
@[simp] theorem State.setTw_fresh (s : State) (n : Fin 2) (u : TwoWire) : (s.setTw n u).fresh = s.fresh := rfl
@[simp] theorem State.setTw_log (s : State) (n : Fin 2) (u : TwoWire) : (s.setTw n u).log = s.log := rfl
@[simp] theorem State.setTw_angle (s : State) (n : Fin 2) (u : TwoWire) : (s.setTw n u).angle = s.angle := rfl
@[simp] theorem State.setTw_timers (s : State) (n : Fin 2) (u : TwoWire) : (s.setTw n u).timers = s.timers := rfl
@[simp] theorem State.setTw_utcReq (s : State) (n : Fin 2) (u : TwoWire) : (s.setTw n u).utcReq = s.utcReq := rfl
@[simp] theorem State.setTw_sealSt (s : State) (n : Fin 2) (u : TwoWire) : (s.setTw n u).sealSt = s.sealSt := rfl
@[simp] theorem State.setTw_boot (s : State) (n : Fin 2) (u : TwoWire) : (s.setTw n u).boot = s.boot := rfl
@[simp] theorem State.setTw_commit (s : State) (n : Fin 2) (u : TwoWire) : (s.setTw n u).commit = s.commit := rfl
@[simp] theorem State.setTw_session (s : State) (n : Fin 2) (u : TwoWire) : (s.setTw n u).session = s.session := rfl
@[simp] theorem State.setTw_heads (s : State) (n : Fin 2) (u : TwoWire) : (s.setTw n u).heads = s.heads := rfl
@[simp] theorem State.setTw_headDevs (s : State) (n : Fin 2) (u : TwoWire) : (s.setTw n u).headDevs = s.headDevs := rfl
@[simp] theorem State.setTw_chans (s : State) (n : Fin 2) (u : TwoWire) : (s.setTw n u).chans = s.chans := rfl
@[simp] theorem State.setTw_energy (s : State) (n : Fin 2) (u : TwoWire) : (s.setTw n u).energy = s.energy := rfl
@[simp] theorem State.setTw_pulses (s : State) (n : Fin 2) (u : TwoWire) : (s.setTw n u).pulses = s.pulses := rfl
@[simp] theorem State.setTw_safety (s : State) (n : Fin 2) (u : TwoWire) : (s.setTw n u).safety = s.safety := rfl
@[simp] theorem State.setTw_vehicle (s : State) (n : Fin 2) (u : TwoWire) : (s.setTw n u).vehicle = s.vehicle := rfl
@[simp] theorem State.setTw_modem (s : State) (n : Fin 2) (u : TwoWire) : (s.setTw n u).modem = s.modem := rfl
@[simp] theorem State.setTw_rings (s : State) (n : Fin 2) (u : TwoWire) : (s.setTw n u).rings = s.rings := rfl
@[simp] theorem State.setTw_dma (s : State) (n : Fin 2) (u : TwoWire) : (s.setTw n u).dma = s.dma := rfl
@[simp] theorem State.setTw_pats (s : State) (n : Fin 2) (u : TwoWire) : (s.setTw n u).pats = s.pats := rfl
@[simp] theorem State.setTw_uarts (s : State) (n : Fin 2) (u : TwoWire) : (s.setTw n u).uarts = s.uarts := rfl
@[simp] theorem State.setTw_ether (s : State) (n : Fin 2) (u : TwoWire) : (s.setTw n u).ether = s.ether := rfl
@[simp] theorem State.setTw_update (s : State) (n : Fin 2) (u : TwoWire) : (s.setTw n u).update = s.update := rfl
@[simp] theorem State.setTw_cluster (s : State) (n : Fin 2) (u : TwoWire) : (s.setTw n u).cluster = s.cluster := rfl
@[simp] theorem State.setTw_alloc (s : State) (n : Fin 2) (u : TwoWire) : (s.setTw n u).alloc = s.alloc := rfl
@[simp] theorem State.setTw_tenants (s : State) (n : Fin 2) (u : TwoWire) : (s.setTw n u).tenants = s.tenants := rfl
@[simp] theorem State.setTw_reader (s : State) (n : Fin 2) (u : TwoWire) : (s.setTw n u).reader = s.reader := rfl
@[simp] theorem State.setTw_panel (s : State) (n : Fin 2) (u : TwoWire) : (s.setTw n u).panel = s.panel := rfl
@[simp] theorem State.setTw_audio (s : State) (n : Fin 2) (u : TwoWire) : (s.setTw n u).audio = s.audio := rfl
@[simp] theorem State.setTw_pending (s : State) (n : Fin 2) (u : TwoWire) : (s.setTw n u).pending = s.pending := rfl

/-! `State.setAmem` changes `alloc` only. -/

@[simp] theorem State.setAmem_regs (s : State) (k : Nat) (m : AllocMember) : (s.setAmem k m).regs = s.regs := rfl
@[simp] theorem State.setAmem_mem (s : State) (k : Nat) (m : AllocMember) : (s.setAmem k m).mem = s.mem := rfl
@[simp] theorem State.setAmem_sramTags (s : State) (k : Nat) (m : AllocMember) : (s.setAmem k m).sramTags = s.sramTags := rfl
@[simp] theorem State.setAmem_flash (s : State) (k : Nat) (m : AllocMember) : (s.setAmem k m).flash = s.flash := rfl
@[simp] theorem State.setAmem_ledger (s : State) (k : Nat) (m : AllocMember) : (s.setAmem k m).ledger = s.ledger := rfl
@[simp] theorem State.setAmem_snaps (s : State) (k : Nat) (m : AllocMember) : (s.setAmem k m).snaps = s.snaps := rfl
@[simp] theorem State.setAmem_stages (s : State) (k : Nat) (m : AllocMember) : (s.setAmem k m).stages = s.stages := rfl
@[simp] theorem State.setAmem_bus (s : State) (k : Nat) (m : AllocMember) : (s.setAmem k m).bus = s.bus := rfl
@[simp] theorem State.setAmem_stalled (s : State) (k : Nat) (m : AllocMember) : (s.setAmem k m).stalled = s.stalled := rfl
@[simp] theorem State.setAmem_fresh (s : State) (k : Nat) (m : AllocMember) : (s.setAmem k m).fresh = s.fresh := rfl
@[simp] theorem State.setAmem_log (s : State) (k : Nat) (m : AllocMember) : (s.setAmem k m).log = s.log := rfl
@[simp] theorem State.setAmem_angle (s : State) (k : Nat) (m : AllocMember) : (s.setAmem k m).angle = s.angle := rfl
@[simp] theorem State.setAmem_timers (s : State) (k : Nat) (m : AllocMember) : (s.setAmem k m).timers = s.timers := rfl
@[simp] theorem State.setAmem_utcReq (s : State) (k : Nat) (m : AllocMember) : (s.setAmem k m).utcReq = s.utcReq := rfl
@[simp] theorem State.setAmem_sealSt (s : State) (k : Nat) (m : AllocMember) : (s.setAmem k m).sealSt = s.sealSt := rfl
@[simp] theorem State.setAmem_boot (s : State) (k : Nat) (m : AllocMember) : (s.setAmem k m).boot = s.boot := rfl
@[simp] theorem State.setAmem_commit (s : State) (k : Nat) (m : AllocMember) : (s.setAmem k m).commit = s.commit := rfl
@[simp] theorem State.setAmem_session (s : State) (k : Nat) (m : AllocMember) : (s.setAmem k m).session = s.session := rfl
@[simp] theorem State.setAmem_heads (s : State) (k : Nat) (m : AllocMember) : (s.setAmem k m).heads = s.heads := rfl
@[simp] theorem State.setAmem_headDevs (s : State) (k : Nat) (m : AllocMember) : (s.setAmem k m).headDevs = s.headDevs := rfl
@[simp] theorem State.setAmem_chans (s : State) (k : Nat) (m : AllocMember) : (s.setAmem k m).chans = s.chans := rfl
@[simp] theorem State.setAmem_energy (s : State) (k : Nat) (m : AllocMember) : (s.setAmem k m).energy = s.energy := rfl
@[simp] theorem State.setAmem_pulses (s : State) (k : Nat) (m : AllocMember) : (s.setAmem k m).pulses = s.pulses := rfl
@[simp] theorem State.setAmem_safety (s : State) (k : Nat) (m : AllocMember) : (s.setAmem k m).safety = s.safety := rfl
@[simp] theorem State.setAmem_vehicle (s : State) (k : Nat) (m : AllocMember) : (s.setAmem k m).vehicle = s.vehicle := rfl
@[simp] theorem State.setAmem_modem (s : State) (k : Nat) (m : AllocMember) : (s.setAmem k m).modem = s.modem := rfl
@[simp] theorem State.setAmem_rings (s : State) (k : Nat) (m : AllocMember) : (s.setAmem k m).rings = s.rings := rfl
@[simp] theorem State.setAmem_dma (s : State) (k : Nat) (m : AllocMember) : (s.setAmem k m).dma = s.dma := rfl
@[simp] theorem State.setAmem_pats (s : State) (k : Nat) (m : AllocMember) : (s.setAmem k m).pats = s.pats := rfl
@[simp] theorem State.setAmem_uarts (s : State) (k : Nat) (m : AllocMember) : (s.setAmem k m).uarts = s.uarts := rfl
@[simp] theorem State.setAmem_tws (s : State) (k : Nat) (m : AllocMember) : (s.setAmem k m).tws = s.tws := rfl
@[simp] theorem State.setAmem_ether (s : State) (k : Nat) (m : AllocMember) : (s.setAmem k m).ether = s.ether := rfl
@[simp] theorem State.setAmem_update (s : State) (k : Nat) (m : AllocMember) : (s.setAmem k m).update = s.update := rfl
@[simp] theorem State.setAmem_cluster (s : State) (k : Nat) (m : AllocMember) : (s.setAmem k m).cluster = s.cluster := rfl
@[simp] theorem State.setAmem_tenants (s : State) (k : Nat) (m : AllocMember) : (s.setAmem k m).tenants = s.tenants := rfl
@[simp] theorem State.setAmem_reader (s : State) (k : Nat) (m : AllocMember) : (s.setAmem k m).reader = s.reader := rfl
@[simp] theorem State.setAmem_panel (s : State) (k : Nat) (m : AllocMember) : (s.setAmem k m).panel = s.panel := rfl
@[simp] theorem State.setAmem_audio (s : State) (k : Nat) (m : AllocMember) : (s.setAmem k m).audio = s.audio := rfl
@[simp] theorem State.setAmem_pending (s : State) (k : Nat) (m : AllocMember) : (s.setAmem k m).pending = s.pending := rfl

end Sys2Proof.Machine
end

