-- ==== Sys2Proof/Laws/Store.lean ====
section
/-!
SUPPORT. Laws/Store.lean: what a store reads after a write or an erasure, and that both keep the canonical form.
-/

namespace Sys2Proof.Machine

variable {α : Type}

@[simp] theorem storeRead_nil (d : Nat → α) (a : Nat) : storeRead d [] a = d a := rfl

theorem storeRead_filter (d : Nat → α) (q : Nat → Bool) (m : List (Nat × α)) (a : Nat) :
    storeRead d (m.filter fun e => q e.1) a = if q a then storeRead d m a else d a := by
  induction m with
  | nil => simp
  | cons e m ih =>
    obtain ⟨k, v⟩ := e
    by_cases hk : k = a
    · subst hk
      cases hq : q k <;> simp_all [storeRead]
    · cases hq : q k <;> simp_all [storeRead]

/-- Erased keys read as their default; the others as before. -/
theorem storeRead_erase (d : Nat → α) (p : Nat → Bool) (m : List (Nat × α)) (a : Nat) :
    storeRead d (storeErase p m) a = if p a then d a else storeRead d m a := by
  rw [storeErase, storeRead_filter d (fun k => !p k)]
  cases p a <;> simp

theorem storeRead_insert (d : Nat → α) (m : List (Nat × α)) (a b : Nat) (v : α) (h : ∀ e ∈ m, e.1 ≠ a) :
    storeRead d (storeInsert a v m) b = if a = b then v else storeRead d m b := by
  induction m with
  | nil => simp [storeInsert, storeRead]
  | cons e m ih =>
    obtain ⟨k, w⟩ := e
    have hk : k ≠ a := h (k, w) (by simp)
    have hm : ∀ e ∈ m, e.1 ≠ a := fun e he => h e (by simp [he])
    by_cases hab : a < k
    · simp [storeInsert, hab, storeRead]
    · simp only [storeInsert, hab, if_false, storeRead, ih hm]
      by_cases hb : k = b
      · subst hb
        simp [Ne.symm hk]
      · simp [hb]

/-- A written key reads what was written, and every other key as before. -/
theorem storeRead_write [DecidableEq α] (d : Nat → α) (m : List (Nat × α)) (a b : Nat) (v : α) :
    storeRead d (storeWrite d m a v) b = if b = a then v else storeRead d m b := by
  have hf : storeRead d (m.filter fun e => decide (e.1 ≠ a)) b = if b = a then d b else storeRead d m b := by
    rw [storeRead_filter d (fun k => decide (k ≠ a))]
    by_cases h : b = a <;> simp [h]
  unfold storeWrite
  by_cases hv : v = d a
  · rw [if_pos hv, hf]
    by_cases h : b = a <;> simp [h, hv]
  · rw [if_neg hv, storeRead_insert _ _ _ _ _ (by simp), hf]
    by_cases h : b = a
    · simp [h]
    · simp [h, Ne.symm h]

theorem storeWf_cons [DecidableEq α] (d : Nat → α) (k : Nat) (v : α) (m : List (Nat × α)) :
    storeWf d ((k, v) :: m) = true ↔ v ≠ d k ∧ (∀ e ∈ m, k < e.1) ∧ storeWf d m = true := by
  simp [storeWf, and_assoc]

theorem storeWf_filter [DecidableEq α] (d : Nat → α) (q : Nat × α → Bool) (m : List (Nat × α)) (h : storeWf d m = true) :
    storeWf d (m.filter q) = true := by
  induction m with
  | nil => rfl
  | cons e m ih =>
    obtain ⟨k, v⟩ := e
    obtain ⟨h1, h2, h3⟩ := (storeWf_cons d k v m).1 h
    cases hq : q (k, v)
    · simpa [List.filter, hq] using ih h3
    · simp only [List.filter, hq]
      exact (storeWf_cons _ _ _ _).2 ⟨h1, fun e he => h2 e (List.mem_filter.1 he).1, ih h3⟩

/-- An erasure keeps the canonical form. -/
theorem storeWf_erase [DecidableEq α] (d : Nat → α) (p : Nat → Bool) (m : List (Nat × α)) (h : storeWf d m = true) :
    storeWf d (storeErase p m) = true := storeWf_filter d _ m h

theorem mem_storeInsert (a : Nat) (v : α) (m : List (Nat × α)) (e : Nat × α) : e ∈ storeInsert a v m ↔ e = (a, v) ∨ e ∈ m := by
  induction m with
  | nil => simp [storeInsert]
  | cons f m ih =>
    obtain ⟨k, w⟩ := f
    by_cases h : a < k
    · simp [storeInsert, h]
    · simp only [storeInsert, h, if_false, List.mem_cons, ih]
      tauto

theorem storeWf_insert [DecidableEq α] (d : Nat → α) (m : List (Nat × α)) (a : Nat) (v : α) (hv : v ≠ d a)
    (ha : ∀ e ∈ m, e.1 ≠ a) (h : storeWf d m = true) : storeWf d (storeInsert a v m) = true := by
  induction m with
  | nil => simp [storeInsert, storeWf, hv]
  | cons e m ih =>
    obtain ⟨k, w⟩ := e
    obtain ⟨h1, h2, h3⟩ := (storeWf_cons d k w m).1 h
    by_cases hk : a < k
    · simp only [storeInsert, hk, if_true]
      refine (storeWf_cons _ _ _ _).2 ⟨hv, fun e he => ?_, h⟩
      rcases List.mem_cons.1 he with rfl | he
      · exact hk
      · exact lt_trans hk (h2 e he)
    · simp only [storeInsert, hk, if_false]
      have hka : k ≠ a := ha (k, w) (by simp)
      refine (storeWf_cons _ _ _ _).2 ⟨h1, fun e he => ?_, ih (fun e he => ha e (by simp [he])) h3⟩
      rcases (mem_storeInsert a v m e).1 he with rfl | he
      · exact lt_of_le_of_ne (not_lt.1 hk) hka
      · exact h2 e he

/-- A write keeps the canonical form. -/
theorem storeWf_write [DecidableEq α] (d : Nat → α) (m : List (Nat × α)) (a : Nat) (v : α) (h : storeWf d m = true) :
    storeWf d (storeWrite d m a v) = true := by
  unfold storeWrite
  have hf := storeWf_filter d (fun e => decide (e.1 ≠ a)) m h
  by_cases hv : v = d a
  · simpa [hv] using hf
  · simp only [hv, if_false]
    exact storeWf_insert d _ a v hv (by simp) hf

/-- A canonical store lists nothing that reads as its default, so an empty listing is the only one that reads so everywhere. -/
theorem storeWf_listed [DecidableEq α] (d : Nat → α) (m : List (Nat × α)) (h : storeWf d m = true) :
    ∀ e ∈ m, storeRead d m e.1 = e.2 ∧ e.2 ≠ d e.1 := by
  induction m with
  | nil => simp
  | cons f m ih =>
    obtain ⟨k, w⟩ := f
    obtain ⟨h1, h2, h3⟩ := (storeWf_cons d k w m).1 h
    intro e he
    rcases List.mem_cons.1 he with rfl | he
    · simp [storeRead, h1]
    · have hlt := h2 e he
      obtain ⟨i1, i2⟩ := ih h3 e he
      exact ⟨by simp [storeRead, Nat.ne_of_lt hlt, i1], i2⟩

theorem storeRead_unlisted (d : Nat → α) (m : List (Nat × α)) (a : Nat) (h : ∀ e ∈ m, e.1 ≠ a) : storeRead d m a = d a := by
  induction m with
  | nil => rfl
  | cons e m ih =>
    obtain ⟨k, v⟩ := e
    have hk : k ≠ a := h (k, v) (by simp)
    simp only [storeRead, hk, if_false]
    exact ih fun e he => h e (by simp [he])

/-- Canonical stores that read the same are the same list. -/
theorem storeWf_ext [DecidableEq α] (d : Nat → α) : ∀ (m n : List (Nat × α)), storeWf d m = true → storeWf d n = true →
    (∀ a, storeRead d m a = storeRead d n a) → m = n
  | [], [], _, _, _ => rfl
  | [], (k, v) :: n, _, hn, h => by
    have := ((storeWf_cons d k v n).1 hn).1
    have := h k
    simp_all [storeRead]
  | (k, v) :: m, [], hm, _, h => by
    have := ((storeWf_cons d k v m).1 hm).1
    have := h k
    simp_all [storeRead]
  | (k, v) :: m, (j, w) :: n, hm, hn, h => by
    obtain ⟨a1, a2, a3⟩ := (storeWf_cons d k v m).1 hm
    obtain ⟨b1, b2, b3⟩ := (storeWf_cons d j w n).1 hn
    have hm' : storeRead d m k = d k := storeRead_unlisted d m k fun e he => Nat.ne_of_gt (a2 e he)
    have hn' : storeRead d n j = d j := storeRead_unlisted d n j fun e he => Nat.ne_of_gt (b2 e he)
    have hkj : k = j := by
      rcases Nat.lt_trichotomy k j with hlt | heq | hlt
      · have e1 := h k
        have e2 : storeRead d n k = d k := storeRead_unlisted d n k fun e he => by have := b2 e he; omega
        have hne : j ≠ k := by omega
        simp only [storeRead, if_true, hne, if_false, e2] at e1
        exact absurd e1 a1
      · exact heq
      · have e1 := h j
        have e2 : storeRead d m j = d j := storeRead_unlisted d m j fun e he => by have := a2 e he; omega
        have hne : k ≠ j := by omega
        simp only [storeRead, if_true, hne, if_false, e2] at e1
        exact absurd e1.symm b1
    subst hkj
    have hv : v = w := by simpa [storeRead] using h k
    have ht : m = n := storeWf_ext d m n a3 b3 fun a => by
      by_cases ha : k = a
      · subst ha
        rw [hm', hn']
      · simpa [storeRead, ha] using h a
    rw [hv, ht]

end Sys2Proof.Machine
end

