-- ==== Sys2Proof/Laws/Words.lean ====
section
/-!
SUPPORT. Laws/Words.lean: what a register word, a field, a byte and a ledger line read after the named updates.
-/

namespace Sys2Proof.Machine

/-! ### Bit fields -/

theorem setBits_low_lt (n lo w v : Nat) : n % 2 ^ lo + 2 ^ lo * (v % 2 ^ w) < 2 ^ (lo + w) := by
  have a := Nat.mod_lt n (show 0 < 2 ^ lo by positivity)
  have c : 2 ^ lo * (v % 2 ^ w + 1) ≤ 2 ^ lo * 2 ^ w := Nat.mul_le_mul_left _ (Nat.mod_lt v (by positivity))
  rw [pow_add]
  rw [mul_add, mul_one] at c
  omega

theorem bits_setBits_same (n lo w v : Nat) : bits (setBits n lo w v) lo w = v % 2 ^ w := by
  have h1 : n % 2 ^ lo < 2 ^ lo := Nat.mod_lt _ (by positivity)
  have h2 : setBits n lo w v = n % 2 ^ lo + 2 ^ lo * (v % 2 ^ w + 2 ^ w * (n / 2 ^ (lo + w))) := by
    unfold setBits
    rw [pow_add]
    ring
  rw [bits, h2, Nat.add_mul_div_left _ _ (by positivity), Nat.div_eq_of_lt h1, Nat.zero_add, Nat.add_mul_mod_self_left, Nat.mod_mod]

/-- A field that ends at or below the field written keeps its bits. -/
theorem bits_setBits_below (n lo w v lo2 w2 : Nat) (h : lo2 + w2 ≤ lo) : bits (setBits n lo w v) lo2 w2 = bits n lo2 w2 := by
  obtain ⟨k, rfl⟩ := Nat.exists_eq_add_of_le h
  have h2 : setBits n (lo2 + w2 + k) w v
      = n % 2 ^ (lo2 + w2 + k) + 2 ^ (lo2 + w2) * (2 ^ k * (v % 2 ^ w + 2 ^ w * (n / 2 ^ (lo2 + w2 + k + w)))) := by
    unfold setBits
    rw [pow_add 2 (lo2 + w2 + k) w, pow_add 2 (lo2 + w2) k]
    ring
  have key : ∀ x, bits x lo2 w2 = x % 2 ^ (lo2 + w2) / 2 ^ lo2 := fun x => by
    rw [bits, pow_add, Nat.mod_mul_right_div_self]
  rw [key, key, h2, Nat.add_mul_mod_self_left, Nat.mod_mod_of_dvd _ (pow_dvd_pow 2 (Nat.le_add_right _ _))]

/-- A field that begins at or above the end of the field written keeps its bits. -/
theorem bits_setBits_above (n lo w v lo2 w2 : Nat) (h : lo + w ≤ lo2) : bits (setBits n lo w v) lo2 w2 = bits n lo2 w2 := by
  obtain ⟨k, rfl⟩ := Nat.exists_eq_add_of_le h
  have h1 := setBits_low_lt n lo w v
  have h2 : setBits n lo w v / 2 ^ (lo + w) = n / 2 ^ (lo + w) := by
    unfold setBits
    rw [Nat.add_mul_div_left _ _ (by positivity), Nat.div_eq_of_lt h1, Nat.zero_add]
  simp only [bits, pow_add 2 (lo + w) k, ← Nat.div_div_eq_div_mul, h2]

theorem setBits_lt (n lo w v m : Nat) (hn : n < 2 ^ m) (h : lo + w ≤ m) : setBits n lo w v < 2 ^ m := by
  obtain ⟨k, rfl⟩ := Nat.exists_eq_add_of_le h
  have h1 := setBits_low_lt n lo w v
  have h3 : n / 2 ^ (lo + w) < 2 ^ k := by
    rw [Nat.div_lt_iff_lt_mul (by positivity), mul_comm, ← pow_add]
    exact hn
  have h4 : 2 ^ (lo + w) * (n / 2 ^ (lo + w) + 1) ≤ 2 ^ (lo + w) * 2 ^ k := Nat.mul_le_mul_left _ h3
  unfold setBits
  rw [pow_add 2 (lo + w) k]
  nlinarith

/-! ### Register words and fields -/

theorem State.word_setWord (s : State) (a : Nat) (w : Word) (b : Nat) : (s.setWord a w).word b = if b = a then w else s.word b :=
  storeRead_write resetWord s.regs a b w

@[simp] theorem State.word_setWord_same (s : State) (a : Nat) (w : Word) : (s.setWord a w).word a = w := by
  rw [State.word_setWord, if_pos rfl]

theorem State.word_setWord_ne (s : State) {a b : Nat} (w : Word) (h : b ≠ a) : (s.setWord a w).word b = s.word b := by
  rw [State.word_setWord, if_neg h]

/-- A write of a field changes its own word only. -/
theorem State.word_put_ne (s : State) (f : Field) (v : Nat) {a : Nat} (h : a ≠ f.addr) : (s.put f v).word a = s.word a :=
  s.word_setWord_ne _ h

theorem State.word_put_toNat (s : State) (f : Field) (v : Nat) (h : f.lo + f.width ≤ 32) :
    ((s.put f v).word f.addr).toNat = setBits (s.word f.addr).toNat f.lo f.width v := by
  have : ((s.put f v).word f.addr) = BitVec.ofNat 32 (setBits (s.word f.addr).toNat f.lo f.width v) := s.word_setWord_same _ _
  rw [this, BitVec.toNat_ofNat]
  exact Nat.mod_eq_of_lt (setBits_lt _ _ _ _ 32 (s.word f.addr).isLt h)

/-- A field reads what was written, cut to its width. -/
theorem State.get_put_same (s : State) (f : Field) (v : Nat) (h : f.lo + f.width ≤ 32) : (s.put f v).get f = v % 2 ^ f.width := by
  unfold State.get
  rw [s.word_put_toNat f v h, bits_setBits_same]

/-- A field of another word keeps its value. -/
theorem State.get_put_addr (s : State) (f g : Field) (v : Nat) (h : g.addr ≠ f.addr) : (s.put f v).get g = s.get g := by
  unfold State.get
  rw [s.word_put_ne f v h]

/-- A field of the same word that does not overlap keeps its value. -/
theorem State.get_put_disjoint (s : State) (f g : Field) (v : Nat) (ha : g.addr = f.addr) (hf : f.lo + f.width ≤ 32)
    (h : g.lo + g.width ≤ f.lo ∨ f.lo + f.width ≤ g.lo) : (s.put f v).get g = s.get g := by
  unfold State.get
  rw [ha, s.word_put_toNat f v hf]
  rcases h with h | h
  · exact bits_setBits_below _ _ _ _ _ _ h
  · exact bits_setBits_above _ _ _ _ _ _ h

theorem State.word_putWords_ne (n : Nat) : ∀ (s : State) (a v b : Nat), b < a ∨ a + 4 * n ≤ b → (s.putWords a n v).word b = s.word b := by
  induction n with
  | zero => intros; rfl
  | succ n ih =>
    intro s a v b h
    rw [State.putWords, ih _ _ _ _ (by omega), State.word_setWord_ne _ _ (by omega)]

/-- A wide field reads what was written, cut to its words. -/
theorem State.getWords_putWords (n : Nat) : ∀ (s : State) (a v : Nat), (s.putWords a n v).getWords a n = v % 2 ^ (32 * n) := by
  induction n with
  | zero => intro s a v; simp [State.getWords, Nat.mod_one]
  | succ n ih =>
    intro s a v
    have hw : ((s.setWord a (BitVec.ofNat 32 v)).putWords (a + 4) n (v / 2 ^ 32)).word a = BitVec.ofNat 32 v := by
      rw [State.word_putWords_ne n _ _ _ _ (by omega), State.word_setWord_same]
    have he : 32 * (n + 1) = 32 + 32 * n := by ring
    simp only [State.putWords, State.getWords, ih, hw, BitVec.toNat_ofNat]
    rw [he, pow_add, Nat.mod_mul]

/-- The registers are all that a write of words changes. -/
theorem State.putWords_frame (n : Nat) : ∀ (s : State) (a v : Nat), s.putWords a n v = { s with regs := (s.putWords a n v).regs } := by
  induction n with
  | zero => intros; rfl
  | succ n ih =>
    intro s a v
    rw [State.putWords, ih (s.setWord a (BitVec.ofNat 32 v)) (a + 4) (v / 2 ^ 32)]
    rfl

theorem State.putW_frame (s : State) (f : Field) (v : Nat) : s.putW f v = { s with regs := (s.putW f v).regs } := by
  unfold State.putW
  split
  · exact State.putWords_frame _ _ _ _
  · dsimp only
    rw [State.putWords_frame]
    rfl

/-! ### Bytes -/

theorem State.byte_setByte (s : State) (a b : Nat) (v : Byte) : (s.setByte a v).byte b = if b = a then v else s.byte b :=
  storeRead_write memDefault s.mem a b v

theorem State.byte_setBytes_ne (l : List Byte) : ∀ (s : State) (a b : Nat), b < a ∨ a + l.length ≤ b → (s.setBytes a l).byte b = s.byte b := by
  induction l with
  | nil => intros; rfl
  | cons v l ih =>
    intro s a b h
    simp only [List.length_cons] at h
    rw [State.setBytes, ih _ _ _ (by omega), State.byte_setByte, if_neg (by omega)]

theorem State.byte_setBytes (l : List Byte) : ∀ (s : State) (a i : Nat) (h : i < l.length), (s.setBytes a l).byte (a + i) = l[i] := by
  induction l with
  | nil => intro s a i h; exact absurd h (by simp)
  | cons v l ih =>
    intro s a i h
    rw [State.setBytes]
    cases i with
    | zero => rw [State.byte_setBytes_ne _ _ _ _ (by omega), State.byte_setByte]; simp
    | succ i =>
      have := ih (s.setByte a v) (a + 1) i (by simpa using h)
      rw [show a + 1 + i = a + (i + 1) by omega] at this
      simpa using this

theorem State.flashByte_setFlash (s : State) (a b : Nat) (v : Byte) : (s.setFlash a v).flashByte b = if b = a then v else s.flashByte b :=
  storeRead_write flashDefault s.flash a b v

theorem State.flashByte_erase (s : State) (a b c : Nat) :
    (s.eraseFlash a b).flashByte c = if a ≤ c ∧ c < b then 0xFF else s.flashByte c := by
  have := storeRead_erase flashDefault (fun k => decide (a ≤ k ∧ k < b)) s.flash c
  simpa [State.flashByte, State.eraseFlash, flashDefault] using this

/-! ### Ledger lines -/

theorem State.line_setLineRaw (s : State) (i j : Nat) (l : TagLine) : (s.setLineRaw i l).line j = if j = i then l else s.line j :=
  storeRead_write ledgerDefault s.ledger i j l

theorem State.line_setLine (s : State) (i d j : Nat) :
    (s.setLine i d).line j = if j = i then ⟨BitVec.ofNat 128 d, ledgerOwner i, 0, false⟩ else s.line j := s.line_setLineRaw i j _

theorem State.line_setLines_ne (n : Nat) : ∀ (s : State) (i v j : Nat), j < i ∨ i + n ≤ j → (s.setLines i n v).line j = s.line j := by
  induction n with
  | zero => intros; rfl
  | succ n ih =>
    intro s i v j h
    rw [State.setLines, ih _ _ _ _ (by omega), State.line_setLine, if_neg (by omega)]

/-- A line with a fresh tag passes its check and delivers what was written. -/
theorem TagLine.checked_fresh (o : BitVec 7) (d : Line) (p : Bool) : (⟨d, o, 0#160, p⟩ : TagLine).checked = some (0, false) := by
  simp [TagLine.checked, applyCheck]

@[simp] theorem lineData_fresh (o : BitVec 7) (d : Line) (p : Bool) : lineData ⟨d, o, 0#160, p⟩ = d := by
  simp [lineData, TagLine.checked_fresh]

theorem checkLine_fresh (o : BitVec 7) (place : Option Nat) (d : Line) : checkLine o place ⟨d, o, 0, false⟩ = .good ∧ lineData ⟨d, o, 0, false⟩ = d := by
  refine ⟨?_, lineData_fresh o d false⟩
  have h : (place.all fun i => macAgrees i ⟨d, o, 0#160, false⟩ 0#144) = true := by cases place <;> simp [macAgrees]
  simp [checkLine, TagLine.checked_fresh, h]

end Sys2Proof.Machine
end

