-- ==== Sys2Proof/Laws/Keeps.lean ====
section
/-!
SUPPORT. Laws/Keeps.lean: the relation that every operation of a command keeps: the queue of commands as it is, and every store of the state
in its canonical form. One lemma for each shared operation; chain them by `Keeps.trans`.
-/

namespace Sys2Proof.Machine

/-- From `s` to `t` the queue is unchanged, and the stores keep their canonical form. -/
def Keeps (s t : State) : Prop := t.pending = s.pending ∧ (Canonical s → Canonical t)

theorem Keeps.refl (s : State) : Keeps s s := ⟨rfl, id⟩

theorem Keeps.trans {s t u : State} (h : Keeps s t) (k : Keeps t u) : Keeps s u := ⟨k.1.trans h.1, fun c => k.2 (h.2 c)⟩

/-- A change of the components that are neither a store nor the queue. -/
theorem Keeps.of_stores {s t : State} (hp : t.pending = s.pending) (h1 : t.regs = s.regs) (h2 : t.mem = s.mem) (h3 : t.sramTags = s.sramTags)
    (h4 : t.flash = s.flash) (h5 : t.ledger = s.ledger) (h6 : t.snaps = s.snaps) (h7 : t.stages = s.stages) (h8 : t.rings = s.rings)
    (h9 : t.pats = s.pats) (h10 : t.tenants.words = s.tenants.words) : Keeps s t :=
  ⟨hp, fun c => by unfold Canonical at *; rw [h1, h2, h3, h4, h5, h6, h7, h8, h9, h10]; exact c⟩

theorem Keeps.ite {s a b : State} {c : Prop} [Decidable c] (ha : Keeps s a) (hb : Keeps s b) : Keeps s (if c then a else b) := by
  split <;> assumption

theorem Keeps.when {s t : State} (b : Bool) {f : State → State} (h : Keeps s t) (hf : Keeps t (f t)) : Keeps s (t.when b f) := by
  unfold State.when
  cases b
  · exact h
  · exact h.trans hf

theorem Keeps.foldl {β : Type} (f : State → β → State) (hf : ∀ t b, Keeps t (f t b)) : ∀ (l : List β) (s : State), Keeps s (l.foldl f s)
  | [], s => Keeps.refl s
  | b :: l, s => (hf s b).trans (Keeps.foldl f hf l (f s b))

/-! ### Registers -/

/-- A change of the register words that keeps their canonical form. -/
theorem Keeps.regs {s : State} {r : List (Nat × Word)} (h : storeWf resetWord s.regs = true → storeWf resetWord r = true) :
    Keeps s { s with regs := r } := ⟨rfl, fun c => ⟨h c.1, c.2⟩⟩

theorem State.setWord_keeps (s : State) (a : Nat) (w : Word) : Keeps s (s.setWord a w) := Keeps.regs (storeWf_write _ _ _ _)

theorem State.put_keeps (s : State) (f : Field) (v : Nat) : Keeps s (s.put f v) := s.setWord_keeps f.addr _

theorem State.putWords_keeps (n : Nat) : ∀ (s : State) (a v : Nat), Keeps s (s.putWords a n v) := by
  induction n with
  | zero => exact fun s _ _ => Keeps.refl s
  | succ n ih => exact fun s a v => (s.setWord_keeps a _).trans (ih _ _ _)

theorem State.putW_keeps (s : State) (f : Field) (v : Nat) : Keeps s (s.putW f v) := by
  unfold State.putW
  dsimp only
  split
  · exact State.putWords_keeps _ _ _ _
  · exact (State.putWords_keeps _ _ _ _).trans (State.put_keeps _ _ _)

theorem State.addSat_keeps (s : State) (f : Field) (n : Nat) : Keeps s (s.addSat f n) := s.put_keeps f _
theorem State.incSat_keeps (s : State) (f : Field) : Keeps s (s.incSat f) := s.addSat_keeps f 1
theorem State.putBit_keeps (s : State) (f : Field) (i : Nat) (b : Bool) : Keeps s (s.putBit f i b) := s.put_keeps f _
theorem State.irq_keeps (s : State) (page i : Nat) : Keeps s (s.irq page i) := s.putBit_keeps _ i true
theorem State.resetRange_keeps (s : State) (a b : Nat) : Keeps s (s.resetRange a b) := Keeps.regs (storeWf_erase _ _ _)

/-! ### The other stores -/

theorem State.setStaged_keeps (s : State) (d : Domain) (a : Nat) (w : Option Word) : Keeps s (s.setStaged d a w) :=
  ⟨rfl, fun ⟨c1, c2, c3, c4, c5, c6, c7, c8⟩ => ⟨c1, c2, c3, c4, c5, c6, storeWf_write _ _ _ _ c7, c8⟩⟩

theorem State.unstage_keeps (n : Nat) : ∀ (s : State) (d : Domain) (a : Nat), Keeps s (s.unstage d a n) := by
  induction n with
  | zero => exact fun s _ _ => Keeps.refl s
  | succ n ih => exact fun s d a => (s.setStaged_keeps d a none).trans (ih _ _ _)

/-- A write of a byte keeps the canonical form of the memory. -/
theorem Memory.wf_write (m : List Host.Cell) (a : Nat) (b : Byte) (h : Memory.wf m = true) : Memory.wf (storeWrite memDefault m a b) = true :=
  storeWf_write _ _ _ _ h

theorem State.setByte_keeps (s : State) (a : Nat) (b : Byte) : Keeps s (s.setByte a b) :=
  ⟨rfl, fun ⟨c1, c2, c⟩ => ⟨c1, Memory.wf_write _ _ _ c2, c⟩⟩

theorem State.setBytes_keeps (l : List Byte) : ∀ (s : State) (a : Nat), Keeps s (s.setBytes a l) := by
  induction l with
  | nil => exact fun s _ => Keeps.refl s
  | cons b l ih => exact fun s a => (s.setByte_keeps a b).trans (ih _ _)

theorem State.setSramTag_keeps (s : State) (l : Nat) (t : SramTag) : Keeps s (s.setSramTag l t) :=
  ⟨rfl, fun ⟨c1, c2, c3, c⟩ => ⟨c1, c2, storeWf_write _ _ _ _ c3, c⟩⟩

theorem State.setFlash_keeps (s : State) (a : Nat) (b : Byte) : Keeps s (s.setFlash a b) :=
  ⟨rfl, fun ⟨c1, c2, c3, c4, c⟩ => ⟨c1, c2, c3, storeWf_write _ _ _ _ c4, c⟩⟩

theorem State.setFlashBytes_keeps (l : List Byte) : ∀ (s : State) (a : Nat), Keeps s (s.setFlashBytes a l) := by
  induction l with
  | nil => exact fun s _ => Keeps.refl s
  | cons b l ih => exact fun s a => (s.setFlash_keeps a b).trans (ih _ _)

theorem State.eraseFlash_keeps (s : State) (a b : Nat) : Keeps s (s.eraseFlash a b) :=
  ⟨rfl, fun ⟨c1, c2, c3, c4, c⟩ => ⟨c1, c2, c3, storeWf_erase flashDefault (fun k => decide (a ≤ k ∧ k < b)) _ c4, c⟩⟩

theorem State.setLineRaw_keeps (s : State) (i : Nat) (l : TagLine) : Keeps s (s.setLineRaw i l) :=
  ⟨rfl, fun ⟨c1, c2, c3, c4, c5, c⟩ => ⟨c1, c2, c3, c4, storeWf_write _ _ _ _ c5, c⟩⟩

theorem State.setLine_keeps (s : State) (i d : Nat) : Keeps s (s.setLine i d) := s.setLineRaw_keeps i _

theorem State.setLines_keeps (n : Nat) : ∀ (s : State) (i v : Nat), Keeps s (s.setLines i n v) := by
  induction n with
  | zero => exact fun s _ _ => Keeps.refl s
  | succ n ih => exact fun s i v => (s.setLine_keeps i _).trans (ih _ _ _)

theorem State.setRing_keeps (s : State) (r : Nat) (g : Ring) : Keeps s (s.setRing r g) :=
  ⟨rfl, fun ⟨c1, c2, c3, c4, c5, c6, c7, c8, c⟩ => ⟨c1, c2, c3, c4, c5, c6, c7, storeWf_write _ _ _ _ c8, c⟩⟩

theorem State.setPat_keeps (s : State) (page : Nat) (b : PatBlock) : Keeps s (s.setPat page b) :=
  ⟨rfl, fun ⟨c1, c2, c3, c4, c5, c6, c7, c8, c9, c⟩ => ⟨c1, c2, c3, c4, c5, c6, c7, c8, storeWf_write _ _ _ _ c9, c⟩⟩

/-! ### A change of the event collector, and a free value -/

theorem Keeps.log {s : State} {l : EventLog} : Keeps s { s with log := l } := ⟨rfl, fun c => c⟩

theorem Keeps.free {s : State} {k : Nat → State → State} (h : ∀ v t, Keeps t (k v t)) : Keeps s (s.free k) :=
  Keeps.trans (⟨rfl, fun c => c⟩ : Keeps s { s with fresh := s.fresh + 1 }) (h _ _)

/-! ### Faults and events -/

theorem State.fault_keeps (s : State) (page c : Nat) : Keeps s (s.fault page c) := by
  unfold State.fault
  dsimp only
  split
  · exact ((s.put_keeps _ _).trans (State.put_keeps _ _ _)).trans (State.incSat_keeps _ _)
  · exact s.incSat_keeps _

theorem State.dropEvent_keeps (s : State) : Keeps s s.dropEvent :=
  ((s.incSat_keeps _).trans (State.irq_keeps _ _ _)).trans Keeps.log

theorem State.collect_keeps (s : State) (e : EventRec) : Keeps s (s.collect e) := by
  unfold State.collect
  dsimp only
  split
  · split
    · exact Keeps.trans Keeps.log (State.incSat_keeps _ _)
    · exact Keeps.log
  · split
    · split <;> exact Keeps.log
    · split
      · exact Keeps.log
      · exact s.dropEvent_keeps

theorem State.logIdx_keeps (s : State) (idx code arg : Nat) : Keeps s (s.logIdx idx code arg) :=
  Keeps.trans Keeps.log (State.collect_keeps _ _)

/-- Logging an event keeps the queue and the canonical form. -/
theorem State.logE_keeps (s : State) (page code arg : Nat) : Keeps s (s.logE page code arg) := by
  unfold State.logE
  split
  · exact (s.fault_keeps page code).trans (State.logIdx_keeps _ _ _ _)
  · exact s.logIdx_keeps _ _ _

/-! ### Flash bytes without a known content -/

theorem State.spoilFlash_keeps (s : State) (a n : Nat) : Keeps s (s.spoilFlash a n) := Keeps.free fun _ t => t.setFlashBytes_keeps _ a

theorem State.spoilSector_keeps (s : State) (o lo n : Nat) : Keeps s (s.spoilSector o lo n) :=
  Keeps.when _ (Keeps.refl s) (s.spoilFlash_keeps _ _)

/-- Copying flash bytes keeps the queue and the canonical form. -/
theorem State.copyFlash_keeps (s : State) (src dst n : Nat) : Keeps s (s.copyFlash src dst n) :=
  (s.eraseFlash_keeps _ _).trans (Keeps.foldl _ (fun t _ => t.setFlash_keeps _ _) _ _)

/-! ### Events of one clock cycle -/

/-- Ordering the events of one clock cycle (R303) changes the event collector and FAULT registers only, so it keeps the queue and the stores. -/
theorem State.sameCycle_keeps (s0 s : State) : Keeps s (s0.sameCycle s) := by
  unfold State.sameCycle
  dsimp only
  split
  · exact Keeps.refl s
  · refine Keeps.trans Keeps.log (Keeps.foldl _ (fun t e => ?_) _ _)
    split
    · split
      · exact t.put_keeps _ _
      · exact Keeps.refl t
    · exact Keeps.refl t

end Sys2Proof.Machine
end

