-- ==== Sys2Proof/Laws/Events.lean ====
section
/-!
SUPPORT. Laws/Events.lean: everything that raising an interrupt bit, recording a fault and logging an event can do.
-/

namespace Sys2Proof.Machine

/-! ### Words that may change -/

theorem WordsIn.refl (A : List Nat) (s : State) : WordsIn A s s := fun _ _ => rfl

theorem WordsIn.trans {A B : List Nat} {s t u : State} (h : WordsIn A s t) (k : WordsIn B t u) : WordsIn (A ++ B) s u := fun a ha => by
  rw [List.mem_append, not_or] at ha
  rw [k a ha.2, h a ha.1]

theorem WordsIn.mono {A B : List Nat} {s t : State} (h : WordsIn A s t) (hs : ∀ a ∈ A, a ∈ B) : WordsIn B s t :=
  fun a ha => h a fun hm => ha (hs a hm)

theorem WordsIn.log {A : List Nat} {s t : State} {l : EventLog} (h : WordsIn A s t) : WordsIn A s { t with log := l } :=
  fun a ha => h a ha

theorem State.put_words (s : State) (f : Field) (v : Nat) : WordsIn [f.addr] s (s.put f v) :=
  fun a ha => s.word_put_ne f v (by simpa using ha)

theorem State.incSat_words (s : State) (f : Field) : WordsIn [f.addr] s (s.incSat f) := s.put_words f _

theorem State.irq_words (s : State) (page i : Nat) : WordsIn [page + 0x10] s (s.irq page i) := s.put_words (F.IRQ_RAW.on page) _

/-- A raised interrupt bit reads 1. -/
theorem State.irq_bit (s : State) (page i : Nat) (h : i < 32) : (s.irq page i).getBit (F.IRQ_RAW.on page) i = true := by
  have hw : (F.IRQ_RAW.on page).width = 32 := rfl
  unfold State.getBit State.irq State.putBit
  rw [State.get_put_same _ _ _ (by simp [F.IRQ_RAW, Field.on]), hw]
  have h1 := bits_setBits_same (s.get (F.IRQ_RAW.on page)) i 1 1
  have h2 : bits (setBits (s.get (F.IRQ_RAW.on page)) i 1 (b2n true) % 2 ^ 32) i 1 = 1 := by
    have key : ∀ x, bits (x % 2 ^ 32) i 1 = bits x i 1 := fun x => by
      obtain ⟨k, hk⟩ := Nat.exists_eq_add_of_lt h
      rw [bits, bits, show (32 : Nat) = i + (k + 1) by omega, pow_add, Nat.mod_mul_right_div_self,
        Nat.mod_mod_of_dvd _ (pow_dvd_pow 2 (by omega))]
    rw [key]
    simpa [b2n] using h1
  simpa [bit, bits] using h2

/-! ### Faults and events -/

/-- A state with its register words and its event collector taken out. -/
def State.rest (s : State) : State := { s with regs := [], log := {} }

/-- Equal rests: the states differ in the register words and the collector only. -/
theorem State.eq_of_rest {s t : State} (h : t.rest = s.rest) : t = { s with regs := t.regs, log := t.log } := by
  have h2 : ∀ u : State, u = { u.rest with regs := u.regs, log := u.log } := fun _ => rfl
  have h3 : { t.rest with regs := t.regs, log := t.log } = { s.rest with regs := t.regs, log := t.log } := by rw [h]
  exact (h2 t).trans h3

theorem State.rest_regs (s : State) (r : List (Nat × Word)) : ({ s with regs := r } : State).rest = s.rest := rfl
theorem State.rest_log (s : State) (l : EventLog) : ({ s with log := l } : State).rest = s.rest := rfl
theorem State.setWord_rest (s : State) (a : Nat) (w : Word) : (s.setWord a w).rest = s.rest := s.rest_regs (storeWrite resetWord s.regs a w)
theorem State.put_rest (s : State) (f : Field) (v : Nat) : (s.put f v).rest = s.rest := s.setWord_rest f.addr _
theorem State.incSat_rest (s : State) (f : Field) : (s.incSat f).rest = s.rest := s.put_rest f _
theorem State.irq_rest (s : State) (page i : Nat) : (s.irq page i).rest = s.rest := s.put_rest (F.IRQ_RAW.on page) _

theorem State.fault_rest (s : State) (page c : Nat) : (s.fault page c).rest = s.rest := by
  unfold State.fault
  dsimp only
  split
  · rw [State.incSat_rest, State.put_rest, State.put_rest]
  · rw [State.incSat_rest]

theorem State.fault_log (s : State) (page c : Nat) : (s.fault page c).log = s.log := by
  unfold State.fault
  dsimp only
  split <;> simp

theorem State.fault_words (s : State) (page c : Nat) : WordsIn [page + 0x1C] s (s.fault page c) := by
  unfold State.fault
  dsimp only
  split
  · exact (((s.put_words _ _).trans (State.put_words _ _ _)).trans (State.incSat_words _ _)).mono (by simp [F.FAULT_CODE, F.FAULT_COUNT, Field.on])
  · exact s.incSat_words (F.FAULT_COUNT.on page)

theorem State.dropEvent_rest (s : State) : s.dropEvent.rest = s.rest := by
  unfold State.dropEvent
  dsimp only
  rw [State.rest_log, State.irq_rest, State.incSat_rest]

theorem State.collect_rest (s : State) (e : EventRec) : (s.collect e).rest = s.rest := by
  unfold State.collect
  dsimp only
  split
  · split
    · rw [State.incSat_rest, State.rest_log]
    · rfl
  · split
    · split <;> rfl
    · split
      · rfl
      · exact s.dropEvent_rest

/-- Logging an event changes register words and the collector only. -/
theorem State.logE_frame (s : State) (page code arg : Nat) :
    s.logE page code arg = { s with regs := (s.logE page code arg).regs, log := (s.logE page code arg).log } := by
  apply State.eq_of_rest
  unfold State.logE State.logIdx
  dsimp only
  rw [State.collect_rest, State.rest_log]
  split
  · exact s.fault_rest page code
  · rfl

theorem State.dropEvent_words (s : State) : WordsIn [Page.LDG + 0x10, F.LDG_EVRING_EVLOST.addr] s s.dropEvent := by
  have h := ((s.incSat_words F.LDG_EVRING_EVLOST).trans (State.irq_words (s.incSat F.LDG_EVRING_EVLOST) Page.LDG 5)).mono
    (B := [Page.LDG + 0x10, F.LDG_EVRING_EVLOST.addr]) (by simp)
  unfold State.dropEvent
  exact h.log

theorem State.collect_words (s : State) (e : EventRec) : WordsIn [Page.LDG + 0x10, F.LDG_EVRING_EVLOST.addr] s (s.collect e) := by
  unfold State.collect
  dsimp only
  split
  · split
    · exact (State.incSat_words { s with log := { s.log with bootBuf := (bootPush s.log.bootBuf e).1 } } F.LDG_EVRING_EVLOST).mono (by simp)
    · exact WordsIn.refl _ s
  · split
    · split <;> exact WordsIn.refl _ _
    · split
      · exact WordsIn.refl _ _
      · exact s.dropEvent_words

theorem State.logIdx_words (s : State) (idx code arg : Nat) : WordsIn [Page.LDG + 0x10, F.LDG_EVRING_EVLOST.addr] s (s.logIdx idx code arg) :=
  fun a ha => State.collect_words { s with log := { s.log with order := s.log.order + 1 } } _ a ha

/-- The register words that logging an event may change. -/
theorem State.logE_words (s : State) (page code arg : Nat) : WordsIn (logWords page) s (s.logE page code arg) := by
  unfold State.logE
  split
  · exact ((s.fault_words page code).trans (State.logIdx_words _ _ _ _)).mono (by simp [logWords])
  · exact (s.logIdx_words _ _ _).mono (by
      simp only [logWords, List.mem_cons, List.not_mem_nil, or_false]
      tauto)

theorem bootPush_mem (l : List EventRec) (e : EventRec) (h : l.length < 32) : e ∈ (bootPush l e).1 ∧ (bootPush l e).1.length = l.length + 1 := by
  simp [bootPush, h]

/-- With room for one event, the collector holds the event, and one place less is left. -/
theorem State.collect_held (s : State) (e : EventRec) (n : Nat) (h : LogRoom (n + 1) s) : e ∈ (s.collect e).held ∧ LogRoom n (s.collect e) := by
  obtain ⟨h1, h2⟩ := h
  have hb := bootPush_mem s.log.bootBuf e (by omega)
  unfold State.collect
  dsimp only
  split
  · split <;>
    · constructor
      · simp [State.held, hb.1]
      · simp only [LogRoom, State.incSat_log, hb.2]
        omega
  · split
    · split <;> exact ⟨by simp [State.held], by simp only [LogRoom]; omega⟩
    · rw [if_pos (by omega)]
      exact ⟨by simp [State.held], by simp only [LogRoom, List.length_append, List.length_singleton]; omega⟩

/-- Everything that logging an event with room for it does to the collector: the event is held with the next number of order. -/
theorem State.logE_logged (s : State) (page code arg n : Nat) (h : LogRoom (n + 1) s) :
    Logged page code arg s (s.logE page code arg) ∧ LogRoom n (s.logE page code arg) ∧ (s.logE page code arg).log.order = s.log.order + 1 := by
  have key : ∀ u : State, u.log = s.log → (Logged page code arg s (u.logIdx (pageIndex page) code arg)
      ∧ LogRoom n (u.logIdx (pageIndex page) code arg) ∧ (u.logIdx (pageIndex page) code arg).log.order = s.log.order + 1) := by
    intro u hu
    have hr : LogRoom (n + 1) { u with log := { u.log with order := u.log.order + 1 } } := by
      simpa [LogRoom, hu] using h
    obtain ⟨k1, k2⟩ := State.collect_held _
      ⟨u.log.order, code, pageIndex page, countedCode code, State.eventFlags { u with log := { u.log with order := u.log.order + 1 } } (countedCode code),
        State.cycles { u with log := { u.log with order := u.log.order + 1 } }, State.utc { u with log := { u.log with order := u.log.order + 1 } }, arg⟩ n hr
    refine ⟨⟨_, k1, by simp [hu], rfl, rfl, rfl⟩, k2, ?_⟩
    unfold State.logIdx State.collect
    dsimp only
    split
    · split <;> simp [hu]
    · split
      · split <;> simp [hu]
      · split <;> simp [hu, State.dropEvent]
  unfold State.logE
  split
  · exact key _ (s.fault_log page code)
  · exact key _ rfl

end Sys2Proof.Machine
end

