-- ==== Sys2Proof/WellFormed.lean ====
section
/-!
DEFINITION. WellFormed.lean: the commands whose operands have the form that the spec gives what arrives: access sizes (R92), register
addresses and page bases (R82, R83), the lengths of messages (R752), frames and answers. The meanings are total: `Machine.exec` answers on
an ill-formed command too.
-/

namespace Sys2Proof

/-- Does an address lie in 0x4000_0000 to 0x400F_FFFF (R82)? -/
def inRegisterSpace (a : Word) : Bool := decide (0x40000000 ≤ a.toNat ∧ a.toNat < 0x40100000)

/-- The sizes of accesses (R92): 8 bytes are an access of the application core. -/
def sizeOk (who : Initiator) (size : Nat) : Bool :=
  size == 1 || size == 2 || size == 4 || (size == 8 && match who with | .hart _ => true | _ => false)

/-- Is the command well formed? -/
def Instr.wellFormed : Instr → Bool
  | .registerWrite who _ size _ => sizeOk who size
  | .stalledWriteResume _ => true
  | .unmappedAccess _ a _ => inRegisterSpace a
  | .rcFieldRead who a => sizeOk who a.size
  | .wideSnapshotRead who a => sizeOk who a.size
  | .wideStagingWrite _ _ _ => true
  | .faultClear _ page _ => inRegisterSpace page && page.toNat % 4096 == 0
  | .ownerTransfer page _ => inRegisterSpace page && page.toNat % 4096 == 0
  | .sealArm => true
  | .sealPushQualified _ => true
  | .sealCommit => true
  | .sealCancel => true
  | .sealArmExpiry => true
  | .sealCommitExpiry => true
  | .unseal => true
  | .pushContactChange _ => true
  | .coverOpen => true
  | .coverClose => true
  | .supplyValid _ _ => true
  | .stageS1 _ => true
  | .stageS2 _ => true
  | .stageS3 _ _ => true
  | .stageS4 => true
  | .applicationStart _ _ => true
  | .legalWatchdogExpiry _ => true
  | .lockstepMismatch _ => true
  | .legalRunQualified => true
  | .fetchTagMismatch _ _ => true
  | .mismatchReset _ => true
  | .startConfirmation _ => true
  | .startDeadlineExpiry _ => true
  | .startGood => true
  | .standbyRequest => true
  | .wake _ => true
  | .runRequest => true
  | .vehicleRoleRequest => true
  | .cycleEnd => true
  | .zeroCrossingComparison _ => true
  | .sourcePresent _ => true
  | .sourceAbsent => true
  | .sourceOutOfRange _ => true
  | .holdoverTimeout => true
  | .angEnable => true
  | .angDisable => true
  | .angSourceSelect _ => true
  | .angCyclesCommit _ => true
  | .alarmCommit _ _ => true
  | .alarmFire ns => decide ns.Nodup
  | .timerStart _ => true
  | .timerZero _ => true
  | .watchdogEnable _ => true
  | .watchdogKick _ _ => true
  | .watchdogWarning => true
  | .watchdogExpiry _ => true
  | .utcRequest _ => true
  | .utcRequestHandle _ _ => true
  | .rtcSlewEnd => true
  | .referenceDeviation => true
  | .referenceRecovered => true
  | .supercapMeasure _ => true
  | .sramAccess _ _ _ _ => true
  | .sramLineClear _ _ => true
  | .ledgerReadRequest _ _ => true
  | .appLedgerRead _ _ => true
  | .ledgerWriteQueue _ => true
  | .appLedgerWrite _ => true
  | .commitEngineLineWrite _ => true
  | .scrubRead _ => true
  | .mirrorRequest => true
  | .mirrorCommit => true
  | .configCopy => true
  | .eventRecordCommit => true
  | .sessionOpenRequest _ _ => true
  | .sessionCloseRequest _ _ => true
  | .readingRequest _ => true
  | .startReading => true
  | .startRecordCommit => true
  | .endReading => true
  | .interimReading => true
  | .signCommand => true
  | .signatureComplete => true
  | .supplyFailure => true
  | .supplyLowTimeout => true
  | .powerFailCommit _ => true
  | .supplyReturnDuringPfail => true
  | .holdupStoreFail => true
  | .environmentMeasurement _ _ => true
  | .headPortEnable _ => true
  | .headPortDisable _ => true
  | .upstreamActivity _ => true
  | .statusWord _ _ _ _ => true
  | .upstreamSilence _ => true
  | .helloEchoTimeout _ => true
  | .helloRetry _ => true
  | .portPowerFault _ => true
  | .pfaultRecovery _ => true
  | .headConnect _ => true
  | .headDisconnect _ => true
  | .headIdle _ _ => true
  | .headHello _ _ => true
  | .headRun _ _ => true
  | .headHalt _ _ => true
  | .headAuxctl _ _ => true
  | .headPattern _ _ => true
  | .headCommandTimeout _ => true
  | .outputSample bits => bits.length == 24
  | .chainEnable => true
  | .channelEnableChange _ => true
  | .engineCycleClose => true
  | .meCfgWrite _ _ => true
  | .accCfgWrite _ _ => true
  | .brWrite _ _ => true
  | .calApply => true
  | .accumulatorClear _ => true
  | .heldRunLimit _ => true
  | .pulseWindowStart _ => true
  | .pulseActiveEdge _ => true
  | .pulseEnd _ => true
  | .poCfgWrite _ _ => true
  | .poTestWrite _ _ => true
  | .pulseSnapshotRequest => true
  | .inputFilterChange _ _ _ _ _ => true
  | .testPulseStart _ => true
  | .testPulseCheck _ _ _ _ => true
  | .laneComparison _ => true
  | .oscillatorDeviation _ => true
  | .islandWatchdog => true
  | .parameterCrcCheck _ _ => true
  | .discrepancyFault _ => true
  | .resetPairFaultClear _ => true
  | .restartQualify _ => true
  | .safetyResetRequest _ _ => true
  | .closeDeadline _ => true
  | .openDeadline _ => true
  | .weldWindow => true
  | .reqsetWrite _ _ => true
  | .reqclrWrite _ _ => true
  | .reqWrite _ _ => true
  | .turnOnCheck _ _ => true
  | .regulationTrip _ => true
  | .blankingEnd _ => true
  | .hardShort _ => true
  | .thermalTrip _ _ => true
  | .retryInstant _ => true
  | .cleanRunningComplete _ => true
  | .latchClear _ _ => true
  | .legFault _ => true
  | .twoLegShort _ => true
  | .loadMeasurement _ _ _ => true
  | .clampEvent _ _ _ _ => true
  | .shedding _ => true
  | .vswOutOfRange _ => true
  | .vswInRange _ => true
  | .vswRestart _ => true
  | .junctionCooled _ => true
  | .switchArrayHot _ _ => true
  | .currentSenseSample _ _ _ => true
  | .residualEvaluation => true
  | .insulationEvaluation => true
  | .insulationStepEnd => true
  | .selfTestDue => true
  | .bleederEchoTimeout => true
  | .pilotPeriodStart => true
  | .pilotSample _ _ _ _ => true
  | .pilotFault _ => true
  | .dutyWrite _ => true
  | .ppMeasurement _ => true
  | .vrNetWrite _ => true
  | .profileRun _ => true
  | .profileStepEnd => true
  | .profileStop => true
  | .modemEnable => true
  | .modemDisable => true
  | .modemReady _ => true
  | .modemWatchdog _ => true
  | .slacEnable => true
  | .slacParmReq _ _ _ _ => true
  | .slacMatchReq _ _ => true
  | .slacResult _ cause _ => decide (cause.toNat ≤ 7)
  | .validationRequest _ _ => true
  | .logicalNetworkLeave _ => true
  | .attenuationProfileReceived _ _ => true
  | .matchConfirmationReceived _ _ => true
  | .patternGeneratorStart page _ => inRegisterSpace page && page.toNat % 4096 == 0
  | .patternGeneratorStop page => inRegisterSpace page && page.toNat % 4096 == 0
  | .patternCheckerStart page _ => inRegisterSpace page && page.toNat % 4096 == 0
  | .patternInject page => inRegisterSpace page && page.toNat % 4096 == 0
  | .ringEnable _ _ => true
  | .ringKick _ => true
  | .ringAbort _ => true
  | .ringResume _ => true
  | .ringReset _ => true
  | .burst _ => true
  | .receiveElement _ _ _ _ => true
  | .lateWriteFailure _ _ _ => true
  | .modemFrameReceived _ _ => true
  | .modemFrameTransmit => true
  | .uartCharacterReceived _ _ _ _ _ => true
  | .uartIdleGap _ => true
  | .uartTxdataWrite _ _ => true
  | .uartCharacterSent _ _ => true
  | .uartBreakCommand _ => true
  | .uartRxFlush _ => true
  | .uartTxFlush _ => true
  | .uartTxResume _ => true
  | .uartRxdataRead _ => true
  | .rs485DriverOff _ => true
  | .rs485DriverFault _ _ => true
  | .ctsChange _ _ => true
  | .twXfer _ _ => true
  | .twBusFree _ => true
  | .twByteComplete _ _ _ => true
  | .twArbitrationLost _ _ => true
  | .twStartDetected _ => true
  | .twStopDetected _ _ => true
  | .twTimeout _ => true
  | .twBusError _ => true
  | .twBusClear _ _ _ => true
  | .twAbort _ => true
  | .twDisable _ => true
  | .twRxdataRead _ => true
  | .twTxdataWrite _ _ => true
  | .ethFrameReceived _ _ _ => true
  | .ethFrameSent _ _ _ _ => true
  | .ethLinkUp _ _ _ _ => true
  | .ethLinkDown => true
  | .ethAddrWrite _ => true
  | .ethTxDisable => true
  | .pauseExpiry => true
  | .updOpen => true
  | .openDone _ => true
  | .updWrite => true
  | .writeDone _ => true
  | .updPrepare => true
  | .prepareDone _ => true
  | .updActivate => true
  | .bankFlip _ => true
  | .updAbort => true
  | .updFwrite => true
  | .fwriteDone _ => true
  | .activationDecision => true
  | .activationTargetCycle => true
  | .pendingConfirm => true
  | .pendingRevert _ => true
  | .confirmationWindowTick _ => true
  | .grantApply => true
  | .allowanceUpdate => true
  | .slotAStart _ => true
  | .slotBStart _ => true
  | .slotBEnd => true
  | .pollReceived _ => true
  | .grantReceived _ => true
  | .admitReceived _ => true
  | .beaconReceived _ => true
  | .timeReceived _ => true
  | .activateReceived _ => true
  | .bulkgrantReceived _ => true
  | .claimReceived _ => true
  | .bulkReceived _ _ => true
  | .statusReceived _ => true
  | .joinReceived _ => true
  | .leaveReceived _ => true
  | .bulkreqReceived _ => true
  | .bulkackReceived _ => true
  | .badFrame _ => true
  | .lossOfMaster => true
  | .electionWaitEnd => true
  | .claimRoundEnd => true
  | .masterSilence => true
  | .linkEnable _ => true
  | .leaveRequest => true
  | .timeCommand => true
  | .acttxCommit _ => true
  | .bulkreqTimeout => true
  | .authRequest _ => true
  | .authComplete => true
  | .allowListCheck => true
  | .allowListCheckDone => true
  | .partitionWipe => true
  | .slotWrite _ _ => true
  | .tariffBoundary => true
  | .tariffRequestDeferred => true
  | .hfEnable _ _ => true
  | .hfDisable => true
  | .antennaRetune _ _ => true
  | .reqaPoll _ => true
  | .cardActivation _ _ _ _ uid ats _ => decide (uid.length ≤ 10) && decide (ats.length ≤ 32)
  | .cardExchange _ => true
  | .exchangeDone _ answer _ => decide (answer.length ≤ 1024)
  | .cardRelease => true
  | .haltwatchProbe _ => true
  | .activeTimeout => true
  | .cardLeftField => true
  | .inventoryRound _ tags _ => tags.all fun t => t.epc.length % 2 == 0 && decide (t.epc.length ≤ 62) && (t.tid.all fun l => l.length == 12)
  | .uhfReflectionFault _ => true
  | .uhfPop => true
  | .frameBoundary _ _ => true
  | .panelRequest _ _ => true
  | .railsGood _ => true
  | .railFault _ _ => true
  | .railHoldExpiry => true
  | .panelTemperature _ => true
  | .panelNeutralFrame => true
  | .audioEnable _ => true
  | .audioSample => true
  | .audioFault _ _ => true
  | .audioRestart => true
  | .recoveryHello _ => true
  | .recoveryManbuf _ _ data => decide (data.length + 4 ≤ 65544)
  | .recoveryOpen _ _ => true
  | .recoveryData _ _ _ data => decide (data.length + 8 ≤ 65544)
  | .recoveryPrepare _ => true
  | .recoveryActivate _ => true
  | .recoveryAbort _ => true
  | .recoveryRetry _ _ => true
  | .recoveryBadMessage _ => true
  | .serviceShello => true
  | .serviceRdreg _ _ => true
  | .serviceWrreg _ words => decide (4 * words.length + 4 ≤ 65544)
  | .servicePtenter => true
  | .servicePtexit _ => true
  | .serviceFlprog _ data _ => decide (data.length + 4 ≤ 65544)
  | .serviceFlread _ _ => true
  | .serviceBadMessage => true

end Sys2Proof
end

