-- ==== Sys2Proof/Tests/Slice0.lean ====
section
/-!
SUPPORT. Tests/Slice0.lean: the smoke test of WellFormed; single steps whose results are worked examples of the spec; and for every
obligation with hypotheses, states and operands that meet them.
-/

set_option maxRecDepth 10000
set_option Elab.async false
set_option linter.unusedVariables false

/-- Several fields put in turn. -/
def Sys2Proof.Machine.State.puts (s : State) (l : List (Field × Nat)) : State := l.foldl (fun t e => t.put e.1 e.2) s

namespace Sys2Proof.Tests

open Sys2Proof Sys2Proof.Machine Sys2Proof.Claims

/-- A block with its first words, the channel word and the check words. -/
def goodBlock : List Word :=
  let w : Nat → Word := fun i => if i = 0 then 0x53585653 else if i = 1 then 1 else if i = 2 then 100 + 50 * 65536 else if i = 20 then 3
    else if i = 64 then 0x45585653 else if i = 65 then 1 else 0
  let l := (List.range 128).map w
  let l1 := l.set 63 (BitVec.ofNat 32 (sectionCrc l 0))
  l1.set 127 (BitVec.ofNat 32 (sectionCrc l1 64))

/-- The module as reset leaves it, with its supply valid and both domains running. -/
def on0 : State := { State.reset with boot := { State.reset.boot with powered := true, legalRuns := true, appRuns := true } }

/-- A late instant: times since an event count from an `angle.now` of 0 in the small states. -/
def late16 (s : State) : State := { s with angle := { s.angle with now := 2 ^ 31 } }

/-- A cold start. -/
def z0 : ColdCheck := ⟨0⟩
/-- S1 finds the contacts at rest and the signing engine good. -/
def c1 : S1Check := ⟨false, false, true, false⟩
/-- A Llyn frame from the master to address 1. -/
def f0 : LlynFrame := ⟨1, 0, 0, 0, 0, 0⟩
/-- A Llyn frame from the master to every address. -/
def fAll : LlynFrame := ⟨63, 0, 0, 0, 0, 0⟩
/-- A Llyn frame from address 1 to the master. -/
def fUp : LlynFrame := ⟨0, 1, 0, 0, 0, 0⟩

/-- Flash with the TOTAL field of bank Spring's manifest 0: a manifest without bytes. -/
def noManifest : List Host.Cell := (List.range 4).map fun k => (bankBase 0 + 216 + k, 0)
/-- Flash cells that hold the bytes from an address on. -/
def cellsFrom : Nat → List Byte → List Host.Cell
  | _, [] => []
  | a, b :: l => (a, b) :: cellsFrom (a + 1) l
/-- The bytes of that block. -/
def blockBytes : List Byte := goodBlock.flatMap fun w => toBytes 4 w.toNat
/-- The SHA-256 digest of those bytes, as a number whose lowest byte is the first. -/
def blockDigest : Nat := 40414905870427596580496174309178639072438961204130334276677682465536600889585
/-- A manifest of 288 bytes whose one application entry is a safety parameter block. -/
def blockManifest : List Host.Cell :=
  cellsFrom 208 [0, 0, 0, 0, 0, 1, 0, 0, 32, 1, 0, 0, 0, 0, 0, 0, 4, 0, 0, 0, 0, 0, 0, 0, 0, 2, 0, 0, 0, 0, 0xC8, 0x0B] ++ cellsFrom 240 (toBytes 48 (blockDigest * 2 ^ 64))
/-- At the end of S1, with that manifest and that block in the flash die. -/
def blockBank : State := { on0.puts [(F.BOOT_STAT_STAGE, 1)] with flash := blockManifest ++ cellsFrom 0xBC80000 blockBytes }
/-- The entry of the block. -/
def blockEntry : PartEntry := ⟨4, 0, 0, 0, 512, 0xBC80000, 0, blockDigest, List.replicate 4 (0, 0), 0⟩
/-- Flash with an application image of one line and its tag under the key of sixteen zero bytes. -/
def imageFlash : List Host.Cell :=
  (List.range 16).map (fun k => (0x100000 + k, 0)) ++ (List.range 4).map fun k => (0x9700000 + k,
    byteOf (lineTag (List.replicate 16 0) 0 (List.replicate 16 0)) k)
/-- Flash with a TOTAL field of 256, no application entry, and otherwise erased. -/
def bareManifest : List Host.Cell :=
  [(bankBase 0 + 213, 0), (bankBase 0 + 216, 0), (bankBase 0 + 217, 1), (bankBase 0 + 218, 0), (bankBase 0 + 219, 0)]

/-- At a stage, with a manifest without bytes and its recorded digest. -/
def bareBank (st : Nat) : State :=
  { on0.puts [(F.BOOT_STAT_STAGE, st)] with flash := noManifest, update := { State.reset.update with digestSpr := sha256 [] } }

/-! ### A safety parameter block in the flash die -/

theorem read_cellsFrom (d : Nat → Byte) : ∀ (l : List Byte) (a i : Nat) (h : i < l.length), storeRead d (cellsFrom a l) (a + i) = l[i]
  | b :: l, a, 0, _ => by simp [cellsFrom, storeRead]
  | b :: l, a, i + 1, h => by
    have := read_cellsFrom d l (a + 1) i (by simpa using h)
    rw [Nat.add_assoc, Nat.add_comm 1 i] at this
    simpa [cellsFrom, storeRead] using this

theorem read_past (d : Nat → Byte) (k : Nat) (n : List Host.Cell) : ∀ m : List Host.Cell, (∀ e ∈ m, e.1 ≠ k) → storeRead d (m ++ n) k = storeRead d n k
  | [], _ => rfl
  | e :: m, h => by
    have h0 := h e (by simp)
    have := read_past d k n m fun f hf => h f (by simp [hf])
    simpa [storeRead, h0] using this

theorem blockManifest_low : ∀ e ∈ blockManifest, e.1 < 0xBC80000 := by decide +kernel
theorem blockBytes_length : blockBytes.length = 512 := by decide +kernel

/-- The die delivers the bytes of the block. -/
theorem blockBank_bytes : blockBank.partBytes 0 blockEntry = blockBytes := by
  refine List.ext_getElem (by simp [State.partBytes, State.flashBytes, blockEntry, blockBytes_length]) fun i h1 h2 => ?_
  simp only [State.partBytes, State.flashBytes, List.getElem_map, List.getElem_range]
  exact (read_past _ _ _ _ fun e he => by have := blockManifest_low e he; simp only [blockEntry, bankBase]; omega).trans (read_cellsFrom _ _ _ _ h2)

theorem blockBank_entry : blockBank.blockPart ⟨true⟩ = some blockEntry := by decide +kernel
theorem blockBytes_digest : sha256 blockBytes = blockDigest := by decide +kernel
theorem blockBytes_words : ((List.range 128).map fun k => BitVec.ofNat 32 (leAt blockBytes (4 * k) 4)) = goodBlock := by decide +kernel
theorem goodBlock_passes : blockFailure goodBlock blockBank.headTypes = none := by decide +kernel

/-- The block passes the checks of S2 (R123). -/
theorem blockBank_passes : blockBank.blockError ⟨true⟩ = none := by
  have hw : blockBank.blockWords blockEntry = goodBlock := by
    unfold State.blockWords
    rw [show blockBank.update.active = 0 from rfl, blockBank_bytes]
    exact blockBytes_words
  have hd : blockBank.partDigestOk blockBank.update.active blockEntry = true := by
    unfold State.partDigestOk
    rw [show blockBank.update.active = 0 from rfl, blockBank_bytes, blockBytes_digest]
    rfl
  unfold State.blockError
  rw [blockBank_entry]
  simp only [hd, hw, goodBlock_passes]
  rfl

/-! ### Well-formedness -/

/-- An ill-formed command for each check. -/
theorem test_wellFormed_refuses :
    ([.registerWrite .legal 0x40000008 3 0, .rcFieldRead .legal ⟨0x40001000, 3⟩, .wideSnapshotRead .legal ⟨0x40001000, 16⟩, .unmappedAccess .legal 0x10000000 false, .faultClear .legal 0x40001001 0,
      .ownerTransfer 0x10000000 0, .alarmFire [3, 3], .outputSample [], .patternGeneratorStart 0x40001001 5,
      .patternGeneratorStop 0x40001001, .patternCheckerStart 0x40001001 6, .patternInject 0x40001001,
      .cardActivation true false 0 0 (List.replicate 11 0) [] 0, .exchangeDone 0 (List.replicate 1025 0) 0,
      .inventoryRound 0 [⟨0, [1], 0, none⟩] 0, .inventoryRound 0 [⟨0, [], 0, some [1]⟩] 0] : List Instr).all (fun i => !i.wellFormed) = true := by
  decide +kernel

/-- A message longer than 65 544 bytes. -/
theorem test_wellFormed_refuses_long (l : List Byte) (w : List Word) (h : l.length = 65541) (hw : w.length = 16386) :
    Instr.wellFormed (.recoveryManbuf true 0 l) = false ∧ Instr.wellFormed (.recoveryData true 0 0 l) = false
    ∧ Instr.wellFormed (.serviceWrreg 0 w) = false ∧ Instr.wellFormed (.serviceFlprog 0 l true) = false :=
  ⟨show decide (l.length + 4 ≤ 65544) = false by rw [h]; decide, show decide (l.length + 8 ≤ 65544) = false by rw [h]; decide,
   show decide (4 * w.length + 4 ≤ 65544) = false by rw [hw]; decide, show decide (l.length + 4 ≤ 65544) = false by rw [h]; decide⟩

/-! ### Algorithms the spec names: the vectors of their standards -/

/-- FIPS 180-4: SHA-256 of "abc". -/
theorem test_sha256 : ofBytesBE (sha256Bytes [0x61, 0x62, 0x63]) = 0xBA7816BF8F01CFEA414140DE5DAE2223B00361A396177A9CB410FF61F20015AD := by decide +kernel

/-- RFC 4493, example 2: AES-128-CMAC of one block. -/
theorem test_cmac : ofBytesBE (cmac (toBytesBE 16 0x2B7E151628AED2A6ABF7158809CF4F3C) (toBytesBE 16 0x6BC1BEE22E409F96E93D7E117393172A))
    = 0x070A16B46B4D4144F79BDD9DD04A287C := by decide +kernel

/-! ### Worked examples of the spec -/

/-- The state that a step answers, the given one where it answers none. -/
def after (o : Host.Outcome State Fault Refusal) (s : State) : State :=
  match o with
  | .next t => t
  | _ => s

/-- Chapter 3: the application stores to CAL at 0x4002_1120 while SEALED. -/
theorem test_store_to_cal :
    (after (exec (.registerWrite (.hart 0) 0x40021120 4 5) (on0.puts [(F.SEAL_STAT_STATE, 1)])) on0).shown (Page.CAL + 0x24) = 0x0048010B := by
  decide +kernel

/-- Chapter 2: 20 cycles after the snapshot of the worked example, less 0.5 angle step, ALM16 has its target at 1 330 175.5 steps. -/
def harrowby : State :=
  let s := (on0.puts [(F.ANG_CTL_EN, 1), (F.ANG_INC, 0x33333333), (F.ANG_STAT_STATE, 2), (F.TMR_ALM_ARM, 1), (F.TMR_ALM_LATEPOL, 1),
    (F.TMR_ALM_LOCKREQ, 1), (F.TMR_ALM_ACT, 2), (F.TMR_ALM_ANGLE, 0x7C00)]).putW F.ANG_CYCLES 0x13C4A2A7F
  { s.putW F.TMR_ALM_TARGET 0x13C4A2A93 with angle := { s.angle with phase := 0x300080000000 } }

/-- Chapter 2, Table 2-9: ANG.STAMP, and the firing after 405.937 ms. -/
theorem test_stamp_and_alarm :
    (List.range 4).map (fun k => harrowby.shown (F.ANG_STAMP.addr + 4 * k)) = [0x80000000, 0x2A7F3000, 0x3C4A2A7F, 1]
    ∧ harrowby.almWait 16 * 1000 / 16384 = 405937 := by decide +kernel

/-- R816: a jump of 704 steps is removed in LOCKED, one of 705 steps takes the clock to ACQUIRE; four comparisons, 64 steps less each. -/
theorem test_phase_jump :
    (let run (j : Nat) : State := (List.range 4).foldl (fun (t : State) (k : Nat) =>
        ({ t with angle := { t.angle with phase := (j - 64 * k) * 2 ^ 32 } } : State).compareZero 62500000)
      { on0.puts [(F.ANG_STAT_PRESENT, 1), (F.ANG_STAT_STATE, 2)] with angle := { on0.angle with loopInc := 2 ^ 30 } }
     ((run 704).get F.ANG_STAT_STATE, (run 705).get F.ANG_STAT_STATE)) = (2, 1) := by decide +kernel

/-- Table 6-10: at 320 % of Iref the gain is 121.333 ppm and the phase -390.667 µrad. -/
theorem test_segment_correction :
    interpolate [(50, 420, -610), (100, 260, -520), (1000, 180, -420), (10000, -60, -300), (25000, -150, -280)] (3200 * 4096)
      = (31061, -100011) := by decide +kernel

/-- Chapter 6: at 50 Hz this phase is an advance of -652 / 65 536 sample. -/
theorem test_advance : (on0.puts [(F.ANG_INC, 0x33333333)]).advanceOf 0 (-100011) = -652 := by decide +kernel

/-- Table 7-6: the first pulse of window 1 comes 162 437 ticks after its start, the second pulse of window 3 after 319 260. -/
theorem test_pulse_placement :
    PulseOut.place { r0 := 400000000 * 2 ^ 64, d := 1210368000 * 2 ^ 64 } 327680 1 = 162437
    ∧ PulseOut.place { r0 := 820736000 * 2 ^ 64, d := 1210368000 * 2 ^ 64 } 327680 2 = 319260 := by decide +kernel

/-- Table 8-17: session slot 1 507 begins at line 0x2_9F78, and MSEQ 0x98_A3C2 goes to slot 2 at line 0x500. -/
theorem test_ledger_places : sessionLineOf 1507 = 0x29F78 ∧ mirrorLine (0x98A3C2 % 64) = 0x500 := by decide +kernel

/-- Chapter 9: 333 ‰ signifies 19.98 A, 266 ‰ 15.96 A and 150 ‰ 9.00 A. -/
theorem test_signified : signified 333 = 1998 ∧ signified 266 = 1596 ∧ signified 150 = 900 := by decide +kernel

/-- Chapter 14: the allocation at the end of round 0x9064: the configuration, and the GRANT to M1 of 9 A,
curtailed by SHARE. -/
def pellingford : State :=
  let run : AllocMember := { k := 59, mask := 7, lastMask := 7, grants := [(59, 0x9000, true)], a := 59, g := 59, running := true, since := 0x8000 }
  let s := on0.puts ([(F.CLU_CTL_EN, 1), (F.CLU_STAT_LSTATE, 6), (F.CLU_CFG_ADDR, 1)]
    ++ (List.range 3).flatMap (fun p => [(F.PWA_LIM_LIM.i p, 128), (F.PWA_LIM_RESV.i p, 10), (F.CLU_MEM_ADMITTED.i (p + 1), 1)])
    ++ [(F.PWA_CTL_EN, 1), (F.PWA_MDEMAND_DEMAND, 64), (F.PWA_MDEMAND_CLASS, 2), (F.PWA_MDEMAND_PHMASK, 7), (F.PWA_MEM_DEMAND.i 1, 64), (F.PWA_MEM_CLASS.i 1, 2),
        (F.PWA_MEM_PHMASK.i 1, 7), (F.PWA_MEM_DEMAND.i 2, 64), (F.PWA_MEM_CLASS.i 2, 1), (F.PWA_MEM_PHMASK.i 2, 7), (F.PWA_MEM_DEMAND.i 3, 32),
        (F.PWA_MEM_CLASS.i 3, 2), (F.PWA_MEM_PHMASK.i 3, 2)])
  (((s.setAmem 1 run).setAmem 2 run).setAmem 3 { mask := 7, lastMask := 7 }).setAmem 4 { mask := 2, lastMask := 2 }

theorem test_allocation : (pellingford.allocate 0x9064).grantPayload 1 0x9065 = 0x4B8024CC0 := by decide +kernel

/-- Table 17-12: at the second boundary, after a grant to ring 37, ring 64 is granted; at the eighth, after four turns of C2, ring 200. -/
theorem test_arbitration :
    let s := on0.puts [(F.RING_CTL_C3.i 200, 1)]
    (({ s with dma := { grants := [1], last := [none, some 37, none, none] } } : State).arbitrate [64, 200]).map (·.1) = some 64
    ∧ (({ s with dma := { grants := [2, 2, 2, 0, 0, 2, 1], last := [some 5, some 37, some 64, none], turnN := 4 } } : State).arbitrate
      [64, 200]).map (·.1) = some 200 := by decide +kernel

/-! ### Witnesses for the statements about every step -/

/-- The front command of a queue; the tick of an empty one. -/
theorem test_witness_EmptyQueueTicks :
    on0.pending = [] ∧ on0.boot.powered = true ∧ State.reset.pending = [] ∧ State.reset.boot.powered = false ∧ State.reset.boot.pfail = false := by
  decide +kernel

/-- A canonical state with a command in its queue, whose step answers a next state. -/
theorem test_witness_CanonicalKept : ∃ s t : State, step s = .next t ∧ Canonical s :=
  ⟨{ State.reset with pending := [.coverOpen] }, _, rfl, by unfold Canonical; decide +kernel⟩

/-- A module SEALED with its cover open and the push contact pressed: UNSEAL leaves SEALED. -/
theorem test_witness_SealedUntilUnsealed :
    ∃ s t : State, exec .unseal s = .next t ∧ s.sealSt.cell = 1 ∧ s.on F.SEAL_STAT_COVER = true ∧ s.on F.SEAL_STAT_PUSH = true
      ∧ t.sealSt.cell = 2 :=
  ⟨{ on0.puts [(F.SEAL_STAT_STATE, 1), (F.SEAL_STAT_COVER, 1), (F.SEAL_STAT_PUSH, 1)] with sealSt := { on0.sealSt with cell := 1 } }, _, rfl,
    by decide +kernel⟩

/-! ### Witnesses of the hypotheses -/

/-- A state and operands for the hypotheses of each claim of RegisterWritesFollowTheTable, and of each of its cases. -/
theorem test_witness_RegisterWritesFollowTheTable :
    (∃ (s : State) (who : Initiator), (domainOf who).code = s.get (F.OWNER_DOMAIN.on Page.DMA))
    ∧ (∃ (s : State) (p : PageRow), p ∈ pageRows ∧ s.get (F.OWNER_DOMAIN.on p.base) = 0 ∧ s.on (F.LOCKSTAT_DENIED.on p.base) = false)
    ∧ (∃ (s : State) (k : Fin 24), (s.stalled.head?.any fun e => e.who == .legal && e.addr == (0x400210E0 + 4 * k.val)) = true ∧ s.rwsStalls =
        false ∧ s.rwsLocked = false ∧ s.get (F.OWNER_DOMAIN.on Page.CAL) = 0)
    ∧ (∃ (s : State) (who : Initiator) (p : PageRow), p ∈ pageRows ∧ (domainOf who).code = s.get (F.OWNER_DOMAIN.on p.base) ∧ s.get
        (F.OWNER_DOMAIN.on p.base) ≠ 1)
    ∧ (∃ (s : State) (p : Nat) (d : BitVec 2), p ∈ xferPages ∧ s.boot.appRuns = false ∧ (d = 0 ∨ d = 2) ∧ s.get (F.OWNER_DOMAIN.on p) ≠ d.toNat) :=
  ⟨⟨on0.puts [((F.OWNER_DOMAIN.on Page.DMA), 0)], .legal, by decide +kernel⟩,
   ⟨on0.puts [((F.OWNER_DOMAIN.on (pageRows.headD ⟨0, 0, 0, 0, .legal, false, false, 0⟩ : PageRow).base), 0), ((F.LOCKSTAT_DENIED.on (pageRows.headD ⟨0,
     0, 0, 0, .legal, false, false, 0⟩ : PageRow).base), 0)], pageRows.headD ⟨0, 0, 0, 0, .legal, false, false, 0⟩, by decide +kernel⟩,
   ⟨{ on0 with stalled := [⟨.legal, 0x400210E0, 1⟩] }, 0, by decide +kernel⟩,
   ⟨on0, (if on0.get (F.OWNER_DOMAIN.on 0x40000000) = 0 then .legal else .hart 0), pageRows.headD ⟨0, 0, 0, 0, .legal, false, false, 0⟩,
     by decide +kernel⟩,
   ⟨{ (on0.puts [((F.OWNER_DOMAIN.on Page.DMA), 2)]) with boot := { on0.boot with appRuns := false } }, Page.DMA, 0, by decide +kernel⟩⟩

/-- A state and operands for the hypotheses of each claim of ReadsAndWideRegisters, and of each of its cases. -/
theorem test_witness_ReadsAndWideRegisters :
    (∃ (s : State) (who : Initiator) (a : Word), 0x40000000 ≤ a.toNat ∧ a.toNat < 0x40100000 ∧ mappedReg a.toNat = false ∧ LogRoom 1 s ∧
        s.log.refusedRuns.any (fun e => e.1 == initiatorKey who) = false)
    ∧ (∃ (s : State) (c : Fin 4), s.get (F.OWNER_DOMAIN.on Page.DMA) ≠ 1)
    ∧ (∃ (s : State) (who : Initiator) (a : Word), ((wideOf a.toNat).any fun w => decide (a.toNat + 4 < w.1 + 4 * w.2)) = true ∧ mappedReg a.toNat
        = true ∧ a.toNat % 4 = 0 ∧ ringPage a.toNat = none ∧ 0x24 < a.toNat - pageBase a.toNat ∧ s.ownerCode a.toNat ≠ 1 ∧ s.mayWrite
        (domainOf who) a.toNat = true) :=
  ⟨⟨on0, .legal, 0x400FF000, by unfold LogRoom; decide +kernel⟩,
   ⟨on0.puts [((F.OWNER_DOMAIN.on Page.DMA), 1 + 1), ((F.OWNER_DOMAIN.on Page.DMA), 0)], 0, by decide +kernel⟩,
   ⟨on0, .legal, 0x40001050, by decide +kernel⟩⟩

/-- A state and operands for the hypotheses of each claim of SealingSteps, and of each of its cases. -/
theorem test_witness_SealingSteps :
    (∃ (s : State), s.sealed = false ∧ s.on F.SEAL_STAT_ARMED = false ∧ s.on F.SEAL_STAT_LECSAT = false ∧ s.on F.LDG_STAT_CLOGFULL = false ∧
        s.boot.productionTest = false)
    ∧ (∃ (s : State), s.on F.SEAL_STAT_ARMED = true ∧ s.on F.SEAL_STAT_PUSHED = false ∧ s.on F.SEAL_STAT_PUSH = true ∧ s.sealSt.freshPress = true)
    ∧ (∃ (s : State), s.on F.SEAL_STAT_ARMED = true ∧ s.on F.SEAL_STAT_PUSHED = true ∧ s.sealSt.recorded = true ∧
        s.on F.SEAL_STAT_LECSAT = false)
    ∧ (∃ (s : State), s.on F.SEAL_STAT_ARMED = true)
    ∧ (∃ (s : State), s.on F.SEAL_STAT_ARMED = true ∧ s.on F.SEAL_STAT_PUSHED = false ∧ LogRoom 1 s)
    ∧ (∃ (s : State), s.on F.SEAL_STAT_PUSHED = true ∧ LogRoom 1 s)
    ∧ (∃ (s : State), s.sealed = true ∧ s.on F.SEAL_STAT_COVER = true ∧ s.on F.SEAL_STAT_PUSH = true ∧ s.sealSt.stalePress = false ∧
        s.boot.powered = true)
    ∧ (∃ (s : State), s.boot.powered = true ∧ s.on F.SEAL_STAT_COVER = false ∧ s.sealed = true ∧ LogRoom 1 s)
    ∧ (∃ (s : State), s.boot.powered = true ∧ s.on F.SEAL_STAT_COVER = true ∧ LogRoom 1 s) :=
  ⟨⟨{ on0.puts [(F.SEAL_STAT_STATE, 2), (F.SEAL_STAT_ARMED, 0), (F.SEAL_STAT_LECSAT, 0), (F.LDG_STAT_CLOGFULL, 0)] with boot := { on0.boot with productionTest := false } },
     by decide +kernel⟩,
   ⟨{ on0.puts [(F.SEAL_STAT_ARMED, 1), (F.SEAL_STAT_PUSHED, 0), (F.SEAL_STAT_PUSH, 1)] with sealSt := { State.reset.sealSt with freshPress := true } },
     by decide +kernel⟩,
   ⟨{ on0.puts [(F.SEAL_STAT_ARMED, 1), (F.SEAL_STAT_PUSHED, 1)] with sealSt := { State.reset.sealSt with recorded := true } }, by decide +kernel⟩,
   ⟨on0.puts [(F.SEAL_STAT_ARMED, 1)], by decide +kernel⟩,
   ⟨on0.puts [(F.SEAL_STAT_ARMED, 1), (F.SEAL_STAT_PUSHED, 0)], by unfold LogRoom; decide +kernel⟩,
   ⟨on0.puts [(F.SEAL_STAT_PUSHED, 1)], by unfold LogRoom; decide +kernel⟩,
   ⟨{ on0.puts [(F.SEAL_STAT_STATE, 1), (F.SEAL_STAT_COVER, 1), (F.SEAL_STAT_PUSH, 1)] with sealSt := { State.reset.sealSt with stalePress := false } },
     by decide +kernel⟩,
   ⟨{ on0.puts [(F.SEAL_STAT_COVER, 0), (F.SEAL_STAT_STATE, 1)] with boot := { on0.boot with powered := true } }, by unfold LogRoom; decide +kernel⟩,
   ⟨{ on0.puts [(F.SEAL_STAT_COVER, 1)] with boot := { on0.boot with powered := true } }, by unfold LogRoom; decide +kernel⟩⟩

/-- A state and operands for the hypotheses of each claim of StartStages, and of each of its cases. -/
theorem test_witness_StartStages :
    (∃ (s : State), s.boot.powered = false ∧ (s.boot.pfail = false ∨ s.commitOpen = false))
    ∧ (∃ (s : State) (c : S1Check), s.boot.legalRuns = true ∧ s.get F.BOOT_STAT_STAGE = 0)
    ∧ (∃ (s : State) (c : S1Check), s.boot.legalRuns = true ∧ s.get F.BOOT_STAT_STAGE = 0 ∧ s.copyVerifies = false ∧ s.inWinter = false ∧
        s.bankConfirmed (1 - s.update.active) = false)
    ∧ (∃ (s : State) (c : S1Check), s.boot.legalRuns = true ∧ s.get F.BOOT_STAT_STAGE = 0 ∧ s.copyVerifies = false ∧ s.inWinter = false ∧
        s.bankConfirmed (1 - s.update.active) = true ∧ s.boot.fellBack = false)
    ∧ (∃ (s : State) (c : S2Check), s.get F.BOOT_STAT_STAGE = 1 ∧ s.blockError c = none)
    ∧ (∃ (s : State) (c : S2Check), s.get F.BOOT_STAT_STAGE = 1 ∧ s.blockPart c = none ∧ s.inWinter = false)
    ∧ (∃ (s : State) (c : S3Check), s.get F.BOOT_STAT_STAGE = 2 ∧ s.inWinter = false ∧ s.get F.BOOT_STARTS_CONSEC < 3 ∧ s.on F.UPD_STAT_PENDING =
        false ∧ s.manifestAgrees c = true ∧ s.on (suspField s.update.active) = false)
    ∧ (∃ (s : State), s.get F.BOOT_STAT_STAGE = 3 ∧ s.boot.ready = true)
    ∧ (∃ (s : State) (c : S3Check), s.get F.BOOT_STAT_STAGE = 3 ∧ s.boot.ready = false ∧ s.boot.standby = false ∧ s.inWinter = false ∧ s.get
        F.BOOT_STARTS_CONSEC < 3 ∧ s.on F.UPD_STAT_PENDING = false ∧ s.manifestAgrees c = true ∧ s.on (suspField s.update.active) = false) :=
  ⟨⟨{ on0 with boot := { on0.boot with powered := false } }, by decide +kernel⟩,
   ⟨{ on0.puts [(F.BOOT_STAT_STAGE, 0)] with boot := { on0.boot with legalRuns := true } }, c1, by decide +kernel⟩,
   ⟨on0.puts [(F.BOOT_STAT_STAGE, 0)], c1, by decide +kernel⟩,
   ⟨on0.puts [(F.BOOT_STAT_STAGE, 0), (F.UPD_BANKS_CONF_AUT, 1), (F.UPD_BANKS_COMPL_AUT, 1)], c1, by decide +kernel⟩,
   ⟨blockBank, ⟨true⟩, by decide +kernel, blockBank_passes⟩,
   ⟨on0.puts [(F.BOOT_STAT_STAGE, 1), (F.BOOT_STAT_STAGE, 1)], ⟨false⟩, by decide +kernel⟩,
   ⟨bareBank 2, ⟨true⟩, by decide +kernel⟩,
   ⟨{ on0.puts [(F.BOOT_STAT_STAGE, 3)] with boot := { on0.boot with ready := true } }, by decide +kernel⟩,
   ⟨bareBank 3, ⟨true⟩, by decide +kernel⟩⟩

/-- A state and operands for the hypotheses of each claim of RestartsAndConfirmation, and of each of its cases. -/
theorem test_witness_RestartsAndConfirmation :
    (∃ (s : State), s.boot.legalRuns = true ∧ s.boot.powered = true)
    ∧ (∃ (s : State), s.boot.legalRuns = true ∧ s.boot.powered = true)
    ∧ (∃ (s : State), s.boot.legalRuns = true ∧ s.boot.powered = true ∧ 2 ≤ s.get F.BOOT_STAT_STAGE ∧ s.romLevel = false)
    ∧ (∃ (s : State), s.boot.appRuns = true ∧ LogRoom 1 s)
    ∧ (∃ (s : State), s.boot.mismatch = true)
    ∧ (∃ (s : State), s.boot.appRuns = true ∧ s.on F.BOOT_STAT_START_OK = false ∧ s.get F.BOOT_DEADLINE_MS ≠ 0)
    ∧ (∃ (s : State), s.boot.appRuns = true ∧ s.boot.powered = true ∧ s.on F.BOOT_STAT_START_OK = false)
    ∧ (∃ (s : State), s.boot.appRuns = true ∧ s.boot.powered = true ∧ s.on F.BOOT_STAT_START_OK = true ∧ s.on F.BOOT_STAT_GOOD = false ∧ LogRoom 1 s) :=
  ⟨⟨{ on0 with boot := { on0.boot with legalRuns := true, powered := true } }, by decide +kernel⟩,
   ⟨{ on0 with boot := { on0.boot with legalRuns := true, powered := true } }, by decide +kernel⟩,
   ⟨{ on0.puts [(F.BOOT_STAT_STAGE, 2), (F.BOOT_STAT_ROMW, 0)] with boot := { on0.boot with legalRuns := true } }, by decide +kernel⟩,
   ⟨{ on0 with boot := { on0.boot with appRuns := true } }, by unfold LogRoom; decide +kernel⟩,
   ⟨{ on0 with boot := { on0.boot with mismatch := true } }, by decide +kernel⟩,
   ⟨{ on0.puts [(F.BOOT_STAT_START_OK, 0), (F.BOOT_DEADLINE_MS, 1)] with boot := { on0.boot with appRuns := true } }, by decide +kernel⟩,
   ⟨{ on0.puts [(F.BOOT_STAT_START_OK, 0)] with boot := { on0.boot with appRuns := true } }, by decide +kernel⟩,
   ⟨{ on0.puts [(F.BOOT_STAT_START_OK, 1), (F.BOOT_STAT_GOOD, 0)] with boot := { on0.boot with appRuns := true } }, by unfold LogRoom; decide +kernel⟩⟩

/-- A state and operands for the hypotheses of each claim of ModeRequests, and of each of its cases. -/
theorem test_witness_ModeRequests :
    (∃ (s : State), s.boot.appRuns = true ∧ s.standbyAdmits = true)
    ∧ (∃ (s : State) (src : WakeSource), s.boot.standby = true ∧ (match src with
        | .alarm n => decide ((List.range 64).filter s.almDue = [n.val]) && s.on (almWake n.val) && s.get (almAct n.val) == 0 && !s.on (almPer n.val)
        | _ => true) = true ∧ src ≠ .pilot)
    ∧ (∃ (s : State), s.boot.appRuns = true ∧ s.on F.VEH_STAT_VROLE = true)
    ∧ (∃ (s : State), s.boot.appRuns = true ∧ s.roleAdmits = true) :=
  ⟨⟨{ on0.puts [(F.SYS_MODE_MODE, 0), (F.VEH_STAT_STATE, 1), (F.UPD_STAT_ENGIDLE, 1)] with boot := { on0.boot with appRuns := true } },
     by decide +kernel⟩,
   ⟨{ on0.puts [(almArm 20, 1), (almWake 20, 1)] with boot := { on0.boot with standby := true } }, .alarm 20, by decide +kernel⟩,
   ⟨{ on0.puts [(F.VEH_STAT_VROLE, 1)] with boot := { on0.boot with appRuns := true } }, by decide +kernel⟩,
   ⟨{ on0.puts [(F.SYS_MODE_MODE, 0), (F.VEH_STAT_STATE, 1), (F.UPD_STAT_ENGIDLE, 1)] with boot := { on0.boot with appRuns := true } },
     by decide +kernel⟩⟩

/-- A state and operands for the hypotheses of each claim of AngleClockLock, and of each of its cases. -/
theorem test_witness_AngleClockLock :
    (∃ (s : State), s.on F.ANG_CTL_EN = true ∧ s.get F.ANG_INC ≠ 0 ∧ s.angle.phase < 2 ^ 48
        ∧ (∀ k : Fin 64, s.on (almArm k.val) = true → (s.cycles + 1) * 2 ^ 48 + s.get F.ANG_INC < s.almAt k.val) ∧ s.on (almArm 3) = true)
    ∧ (∃ (s : State) (freq : Word), s.on F.ANG_CTL_SRC = false ∧ s.on F.ANG_STAT_PRESENT = true ∧ freq ≠ 0 ∧ s.get F.ANG_STAT_STATE = 1)
    ∧ (∃ (s : State) (freq : Word), s.on F.ANG_CTL_SRC = false ∧ s.on F.ANG_STAT_PRESENT = true ∧ freq ≠ 0 ∧ s.get F.ANG_STAT_STATE = 2)
    ∧ (∃ (s : State) (freq : Word), inRange freq.toNat = true)
    ∧ (∃ (s : State) (freq : Word), inRange freq.toNat = true ∧ s.on F.ANG_CTL_SRC = false ∧ s.on F.ANG_CTL_EN = true ∧ (s.get F.ANG_STAT_STATE = 0
        ∨ s.get F.ANG_STAT_STATE = 3))
    ∧ (∃ (s : State), (s.get F.ANG_STAT_STATE = 1 ∨ s.get F.ANG_STAT_STATE = 2))
    ∧ (∃ (s : State) (freq : Word), s.on F.ANG_STAT_PRESENT = true ∧ inRange freq.toNat = false ∧ 1 ≤ s.angle.offRange ∧ (s.get F.ANG_STAT_STATE =
        1 ∨ s.get F.ANG_STAT_STATE = 2))
    ∧ (∃ (s : State), s.get F.ANG_STAT_STATE = 3)
    ∧ (∃ (s : State), s.on F.ANG_CTL_EN = false)
    ∧ (∃ (s : State), s.on F.ANG_CTL_EN = true)
    ∧ (∃ (s : State) (freeRun : Bool), freeRun = true)
    ∧ (∃ (s : State) (v : Word), s.on F.ANG_CTL_EN = false ∧ s.cycles ≤ (((s.staged .legal F.ANG_CYCLES.addr).getD (s.word
        F.ANG_CYCLES.addr)).toNat + 2 ^ 32 * v.toNat)) :=
  ⟨⟨(on0.puts [(F.ANG_CTL_EN, 1), (F.ANG_INC, 1), (almArm 3, 1)]).putW (almTarget 3) 7, by decide +kernel⟩,
   ⟨on0.puts [(F.ANG_CTL_SRC, 0), (F.ANG_STAT_PRESENT, 1), (F.ANG_STAT_STATE, 1)], 50000000, by decide +kernel⟩,
   ⟨on0.puts [(F.ANG_CTL_SRC, 0), (F.ANG_STAT_PRESENT, 1), (F.ANG_STAT_STATE, 2)], 50000000, by decide +kernel⟩,
   ⟨on0, 50000000, by decide +kernel⟩,
   ⟨on0.puts [(F.ANG_CTL_SRC, 0), (F.ANG_CTL_EN, 1), (F.ANG_STAT_STATE, 0)], 50000000, by decide +kernel⟩,
   ⟨on0.puts [(F.ANG_STAT_STATE, 1)], by decide +kernel⟩,
   ⟨{ on0.puts [(F.ANG_STAT_PRESENT, 1), (F.ANG_STAT_STATE, 1)] with angle := { State.reset.angle with offRange := 1 } }, 0, by decide +kernel⟩,
   ⟨on0.puts [(F.ANG_STAT_STATE, 3)], by decide +kernel⟩,
   ⟨on0.puts [(F.ANG_CTL_EN, 0)], by decide +kernel⟩,
   ⟨on0.puts [(F.ANG_CTL_EN, 1)], by decide +kernel⟩,
   ⟨on0, true, by decide +kernel⟩,
   ⟨on0.puts [(F.ANG_CTL_EN, 0)], 0, by decide +kernel⟩⟩

/-- A state and operands for the hypotheses of each claim of AlarmsTimersWatchdog, and of each of its cases. -/
theorem test_witness_AlarmsTimersWatchdog :
    (∃ (s : State) (n : Fin 64), (List.range 64).filter s.almDue = [n.val] ∧ s.on (almLockreq n.val) = false ∧ s.get (almAct n.val) = 0 ∧ s.on
        (almPer n.val) = false ∧ s.boot.standby = false)
    ∧ (∃ (s : State) (n : Fin 64), s.boot.powered = true ∧ (List.range 64).filter (s.advance 1).almDue = [n.val] ∧ (s.advance 1).on (almLockreq n.val) = false
        ∧ (s.advance 1).get (almAct n.val) = 0 ∧ (s.advance 1).on (almPer n.val) = false ∧ s.boot.standby = false)
    ∧ (∃ (s : State) (n : Fin 8), s.on (F.TMR_T_CTL_EN.i n) = true ∧ s.get (F.TMR_T_COUNT.i n) ≠ 0 ∧ s.on (F.TMR_T_CTL_PER.i n) = true)
    ∧ (∃ (s : State) (n : Fin 8), s.on (F.TMR_T_CTL_EN.i n) = true ∧ s.get (F.TMR_T_COUNT.i n) ≠ 0 ∧ s.on (F.TMR_T_CTL_PER.i n) = false)
    ∧ (∃ (s : State) (v : Word), s.on F.TMR_WDG_CTL_EN = false ∧ bit v.toNat 0 = true ∧ bits v.toNat 16 16 ≠ 0)
    ∧ (∃ (s : State), s.on F.TMR_WDG_CTL_EN = true ∧ (s.on F.TMR_WDG_CTL_WIN = false ∨ 2 * s.get F.TMR_WDG_LEFT_MS ≤ s.get F.TMR_WDG_CTL_TIMEOUT))
    ∧ (∃ (s : State), s.on F.TMR_WDG_CTL_EN = true)
    ∧ (∃ (s : State), s.boot.powered = true ∧ s.on F.TMR_WDG_CTL_EN = true) :=
  ⟨⟨on0.puts [(almArm 0, 1)], 0, by decide +kernel⟩,
   ⟨on0.puts [(almArm 0, 1)], 0, by decide +kernel⟩,
   ⟨on0.puts [((F.TMR_T_CTL_EN.i (0 : Fin 8)), 1), ((F.TMR_T_COUNT.i (0 : Fin 8)), 1), ((F.TMR_T_CTL_PER.i (0 : Fin 8)), 1)], 0, by decide +kernel⟩,
   ⟨on0.puts [((F.TMR_T_CTL_EN.i (0 : Fin 8)), 1), ((F.TMR_T_COUNT.i (0 : Fin 8)), 1), ((F.TMR_T_CTL_PER.i (0 : Fin 8)), 0)], 0, by decide +kernel⟩,
   ⟨on0.puts [(F.TMR_WDG_CTL_EN, 0)], 0x00640001, by decide +kernel⟩,
   ⟨on0.puts [(F.TMR_WDG_CTL_EN, 1), (F.TMR_WDG_CTL_WIN, 0)], by decide +kernel⟩,
   ⟨on0.puts [(F.TMR_WDG_CTL_EN, 1)], by decide +kernel⟩,
   ⟨on0.puts [(F.TMR_WDG_CTL_EN, 1)], by decide +kernel⟩⟩

/-- A state and operands for the hypotheses of each claim of RealTimeClock, and of each of its cases. -/
theorem test_witness_RealTimeClock :
    (∃ (s : State) (src : BitVec 8) (seq : BitVec 8) (utc : BitVec 64) (at_ : BitVec 64) (build : BitVec 64), s.utcReq = some ⟨src.toNat,
        seq.toNat, utc.toNat, at_.toNat⟩ ∧ ((src == 0 || decide (utc.toNat < build.toNat) : Bool)) = false ∧ ((!s.on F.RTC_STAT_VALID ||
        decide ((((utc.toNat : Int) - at_.toNat : Int)).natAbs > 2000) : Bool)) = true)
    ∧ (∃ (s : State) (src : BitVec 8) (seq : BitVec 8) (utc : BitVec 64) (at_ : BitVec 64) (build : BitVec 64), s.utcReq = some ⟨src.toNat,
        seq.toNat, utc.toNat, at_.toNat⟩ ∧ ((src == 0 || decide (utc.toNat < build.toNat) : Bool)) = false ∧ ((!s.on F.RTC_STAT_VALID ||
        decide ((((utc.toNat : Int) - at_.toNat : Int)).natAbs > 2000) : Bool)) = false)
    ∧ (∃ (s : State) (src : BitVec 8) (seq : BitVec 8) (utc : BitVec 64) (at_ : BitVec 64) (build : BitVec 64), s.utcReq = some ⟨src.toNat,
        seq.toNat, utc.toNat, at_.toNat⟩ ∧ ((src == 0 || decide (utc.toNat < build.toNat) : Bool)) = true)
    ∧ (∃ (s : State), s.on F.RTC_STAT_SLEWING = true ∧ toSigned 32 (s.get F.RTC_SLEWLEFT) ≠ 0 ∧ s.angle.slewFrac < 1638400
        ∧ (∀ k : Fin 64, s.on (almArm k.val) = false))
    ∧ (∃ (s : State), s.on F.ANG_STAT_REFOK = true)
    ∧ (∃ (s : State), s.on F.ANG_CTL_EN = true ∧ s.on F.ANG_STAT_REFOK = false)
    ∧ (∃ (s : State), s.on F.ANG_CTL_EN = true ∧ s.on F.ANG_STAT_REFOK = true ∧ s.angle.refBad = true ∧ (∀ k : Fin 64, s.on (almArm k.val) = false)) :=
  ⟨⟨{ on0 with utcReq := some ⟨(1 : BitVec 8).toNat, (0 : BitVec 8).toNat, (0 : BitVec 64).toNat, (0 : BitVec 64).toNat⟩ }, 1, 0, 0, 0, 0,
     by decide +kernel⟩,
   ⟨{ on0.puts [(F.RTC_STAT_VALID, 1)] with utcReq := some ⟨(1 : BitVec 8).toNat, (0 : BitVec 8).toNat, (0 : BitVec 64).toNat, (0 : BitVec 64).toNat⟩ },
     1, 0, 0, 0, 0, by decide +kernel⟩,
   ⟨{ on0 with utcReq := some ⟨(0 : BitVec 8).toNat, (0 : BitVec 8).toNat, (0 : BitVec 64).toNat, (0 : BitVec 64).toNat⟩ }, 0, 0, 0, 0, 0,
     by decide +kernel⟩,
   ⟨on0.puts [(F.RTC_STAT_SLEWING, 1), (F.RTC_SLEWLEFT, 5)], by decide +kernel⟩,
   ⟨on0.puts [(F.ANG_STAT_REFOK, 1)], by decide +kernel⟩,
   ⟨on0.puts [(F.ANG_CTL_EN, 1)], by decide +kernel⟩,
   ⟨{ on0.puts [(F.ANG_CTL_EN, 1), (F.ANG_STAT_REFOK, 1)] with angle := { on0.angle with refBad := true } }, by decide +kernel⟩⟩

/-- A state and operands for the hypotheses of each claim of SramAccesses, and of each of its cases. -/
theorem test_witness_SramAccesses :
    (∃ (s : State) (who : Initiator) (d : Domain) (a : BitVec 40), sramOf (a.toNat / 16 * 16) = some d ∧ sramAllowed who d false = true ∧
        s.boot.standby = false ∧ s.sramTag (a.toNat / 16 * 16) = ⟨0, false⟩)
    ∧ (∃ (s : State) (who : Initiator) (d : Domain) (a : BitVec 40) (mask : BitVec 16), sramOf (a.toNat / 16 * 16) = some d ∧ sramAllowed who d
        true = true ∧ s.boot.standby = false ∧ (mask = 0xFFFF ∨ s.sramTag (a.toNat / 16 * 16) = ⟨0, false⟩))
    ∧ (∃ (s : State) (d : Domain) (a : BitVec 40), sramOf (a.toNat / 16 * 16) = some d ∧ (s.sramTag (a.toNat / 16 * 16)).poison = true)
    ∧ (∃ (s : State) (who : Initiator) (a : Word), sramOf (a.toNat / 16 * 16) = some (domainOf who))
    ∧ (∃ (s : State) (a : BitVec 40), inExecWindow (a.toNat / 16 * 16) = true ∧ s.fetchTagOk (a.toNat / 16 * 16 - 0x100000000)
        (s.imageLine (a.toNat / 16 * 16 - 0x100000000)) 0 = true)
    ∧ (∃ (s : State) (a : BitVec 40), inExecWindow (a.toNat / 16 * 16) = true ∧ s.boot.tagKey ≠ [] ∧ s.fetchTagOk (a.toNat / 16 * 16 - 0x100000000)
        (s.imageLine (a.toNat / 16 * 16 - 0x100000000)) 0 = false ∧ s.boot.appRuns = true ∧ LogRoom 1 s) :=
  ⟨⟨{ on0 with boot := { on0.boot with standby := false } }, .legal, .legal, 0x10000000, by decide +kernel⟩,
   ⟨{ on0 with boot := { on0.boot with standby := false } }, .legal, .legal, 0x10000000, 0xFFFF, by decide +kernel⟩,
   ⟨on0.setSramTag 0x10000000 ⟨0, true⟩, .legal, 0x10000000, by decide +kernel⟩,
   ⟨on0, .legal, 0x10000000, by decide +kernel⟩,
   ⟨{ on0 with flash := imageFlash, boot := { on0.boot with tagKey := List.replicate 16 0, imageSize := 16 } }, 0x100000000, by decide +kernel⟩,
   ⟨{ on0 with flash := [], boot := { on0.boot with tagKey := List.replicate 16 0, imageSize := 16 } }, 0x100000000,
     by unfold LogRoom; decide +kernel⟩⟩

/-- A state and operands for the hypotheses of each claim of LedgerLines, and of each of its cases. -/
theorem test_witness_LedgerLines :
    (∃ (s : State) (i : BitVec 18), (checkLine (ledgerOwner i.toNat) (some i.toNat) (s.line i.toNat)) = .good)
    ∧ (∃ (s : State) (i : BitVec 18) (b : BitVec 18), b ≠ i)
    ∧ (∃ (s : State) (i : BitVec 18), (checkLine (ledgerOwner i.toNat) (some i.toNat) (s.line i.toNat)) = .good)
    ∧ (∃ (s : State) (i : BitVec 18) (b : BitVec 18), b ≠ i)
    ∧ (∃ (s : State), ledgerLegal (s.get F.SYS_LQ_IDX_LINE) = false ∧ s.commit.appQ.length < 16 ∧ s.boot.pfail = false)
    ∧ (∃ (s : State), (ledgerLegal (s.get F.SYS_LQ_IDX_LINE) = true ∨ 16 ≤ s.commit.appQ.length ∨ s.boot.pfail = true) ∧ LogRoom 1 s)
    ∧ (∃ (s : State) (w : LineWrite) (q : List LineWrite), s.commit.legalQ = w :: q ∧ w.mask = 0xFFFF ∧ s.on F.LDG_CTL_EN = true ∧ s.on
        F.LDG_STAT_LOCKED = false ∧ s.boot.pfail = false)
    ∧ (∃ (s : State), s.on F.LDG_CTL_SCRUB = true ∧ s.boot.pfail = false ∧ s.commit.legalQ = [] ∧ s.commit.appQ = [] ∧ s.log.counted = [] ∧
        s.log.ring = [] ∧ checkLine (ledgerOwner (s.get F.LDG_SCRUBPOS_LINE)) (some (s.get F.LDG_SCRUBPOS_LINE)) (s.line (s.get
        F.LDG_SCRUBPOS_LINE)) = .good) :=
  ⟨⟨on0, 0, by decide +kernel⟩,
   ⟨on0, 0, 1, by decide +kernel⟩,
   ⟨on0, 0, by decide +kernel⟩,
   ⟨on0, 0, 1, by decide +kernel⟩,
   ⟨{ on0.puts [(F.SYS_LQ_IDX_LINE, 0x2F400)] with boot := { on0.boot with pfail := false } }, by decide +kernel⟩,
   ⟨on0, by unfold LogRoom; decide +kernel⟩,
   ⟨{ on0.puts [(F.LDG_CTL_EN, 1), (F.LDG_STAT_LOCKED, 0)] with commit := { State.reset.commit with legalQ := (⟨0x2F400, 0xFFFF, 0⟩ : LineWrite) :: ([] : List LineWrite) } },
     ⟨0x2F400, 0xFFFF, 0⟩, [], by decide +kernel⟩,
   ⟨on0.puts [(F.LDG_CTL_SCRUB, 1), (F.LDG_CTL_EN, 1), (F.LDG_STAT_LOCKED, 0)], by decide +kernel⟩⟩

/-- A state and operands for the hypotheses of each claim of MirrorConfigEventCommits, and of each of its cases. -/
theorem test_witness_MirrorConfigEventCommits :
    (∃ (s : State), s.on F.LDG_CTL_EN = true ∧ s.on F.LDG_STAT_LOCKED = false ∧ s.boot.pfail = false ∧
        s.angle.now - s.commit.lastMirror < 250 * tickMs)
    ∧ (∃ (s : State), s.on F.LDG_CTL_EN = true ∧ s.on F.LDG_STAT_LOCKED = false ∧ s.boot.pfail = false ∧
        250 * tickMs ≤ s.angle.now - s.commit.lastMirror ∧ s.commit.mirrorReq = true)
    ∧ (∃ (s : State), s.on F.LDG_CTL_EN = true ∧ s.on F.LDG_STAT_LOCKED = false ∧ s.boot.pfail = false ∧ s.commit.mirrorReq = false ∧
        250 * tickMs ≤ s.angle.now - s.commit.lastMirror ∧ s.get F.LDG_MIRPER_MS * tickMs ≤ s.angle.now - s.commit.lastMirror)
    ∧ (∃ (s : State), s.on F.LDG_CTL_EN = true ∧ s.on F.LDG_STAT_LOCKED = false ∧ s.boot.pfail = false ∧ s.commit.configDirty = true ∧
        s.commit.configAt + 1000 * tickMs ≤ s.angle.now)
    ∧ (∃ (s : State) (e : EventRec) (r : List EventRec), s.on F.LDG_CTL_EN = true ∧ s.on F.LDG_STAT_LOCKED = false ∧ s.boot.pfail = false ∧
        s.log.counted = [] ∧ s.log.ring = e :: r ∧ s.log.dropped = 0) :=
  ⟨⟨on0.puts [(F.LDG_CTL_EN, 1), (F.LDG_STAT_LOCKED, 0)], by decide +kernel⟩,
   ⟨{ on0.puts [(F.LDG_CTL_EN, 1), (F.LDG_MIRPER_MS, 60000)] with
      angle := { State.reset.angle with now := 250 * tickMs }, commit := { State.reset.commit with mirrorReq := true } }, by decide +kernel⟩,
   ⟨{ on0.puts [(F.LDG_CTL_EN, 1), (F.LDG_MIRPER_MS, 1000)] with angle := { State.reset.angle with now := 1000 * tickMs } }, by decide +kernel⟩,
   ⟨{ on0.puts [(F.LDG_CTL_EN, 1), (F.LDG_STAT_LOCKED, 0)] with
      angle := { State.reset.angle with now := 1000 * tickMs }, commit := { State.reset.commit with configDirty := true } }, by decide +kernel⟩,
   ⟨{ on0.puts [(F.LDG_CTL_EN, 1), (F.LDG_STAT_LOCKED, 0)] with log := { State.reset.log with counted := [], ring := (⟨0, 0x0409, 18, false, 0, 0, 0, 0⟩ : EventRec) :: ([] : List EventRec), dropped := 0 } },
     ⟨0, 0x0409, 18, false, 0, 0, 0, 0⟩, [], by decide +kernel⟩⟩

/-- A state and operands for the hypotheses of each claim of SessionsAndReadings, and of each of its cases. -/
theorem test_witness_SessionsAndReadings :
    (∃ (s : State), s.get F.UPD_STAT_STATE ≠ 6 ∧ s.boot.pfail = false ∧ s.openResult = 1 ∧ Claims.slotGood s)
    ∧ (∃ (s : State), s.get F.UPD_STAT_STATE ≠ 6 ∧ s.boot.pfail = false ∧ s.openResult ≠ 1 ∧ Claims.slotGood s)
    ∧ (∃ (s : State), s.boot.pfail = false ∧ s.get F.SIG_STAT_SESS = 2)
    ∧ (∃ (s : State), s.boot.pfail = false ∧ s.get F.SIG_STAT_SESS = 0)
    ∧ (∃ (s : State), s.boot.pfail = false ∧ s.get F.SIG_STAT_SESS ≠ 3 ∧ s.on F.SIG_STAT_KEYOK = true)
    ∧ (∃ (s : State), s.get F.SIG_STAT_SESS = 1 ∧ s.session.startTaken = false ∧ s.get F.SIG_STAT_BUSY = 0 ∧ s.boot.pfail = false)
    ∧ (∃ (s : State), s.get F.SIG_STAT_SESS = 1 ∧ s.session.startTaken = true ∧ s.session.signing = false ∧ s.boot.pfail = false ∧
        s.session.closeHeld = none)
    ∧ (∃ (s : State), s.get F.SIG_STAT_SESS = 3 ∧ s.session.deferred = false ∧ s.boot.pfail = false ∧
        s.session.withdrawnAt + 200 * tickMs ≤ s.angle.now ∧ s.get F.SIG_STAT_BUSY = 0 ∧ LogRoom 1 s)
    ∧ (∃ (s : State), s.session.readReq = true ∧ s.get F.SIG_STAT_BUSY = 0 ∧ s.boot.pfail = false)
    ∧ (∃ (s : State), s.on F.SIG_STAT_BUSY = true ∧ s.boot.pfail = false ∧ s.session.signing = false)
    ∧ (∃ (s : State), s.on F.SIG_STAT_BUSY = true ∧ s.boot.pfail = false ∧ s.session.signing = true ∧ LogRoom 1 s ∧
        s.recordExists (sessionLineOf s.session.slot) = true) :=
  ⟨⟨{ on0.puts [(F.UPD_STAT_STATE, 6 + 1), (F.SYS_MODE_MODE, 0), (F.SIG_STAT_KEYOK, 1), (F.MET_STAT_RUN, 1)] with
     energy := { State.reset.energy with br := [0x40] } }, by unfold Claims.slotGood; decide +kernel⟩,
   ⟨on0.puts [(F.UPD_STAT_STATE, 6 + 1)], by unfold Claims.slotGood; decide +kernel⟩,
   ⟨on0.puts [(F.SIG_STAT_SESS, 2)], by decide +kernel⟩,
   ⟨on0.puts [(F.SIG_STAT_SESS, 0)], by decide +kernel⟩,
   ⟨on0.puts [(F.SIG_STAT_SESS, 3 + 1), (F.SIG_STAT_KEYOK, 1)], by decide +kernel⟩,
   ⟨{ on0.puts [(F.SIG_STAT_SESS, 1), (F.SIG_STAT_BUSY, 0)] with session := { State.reset.session with startTaken := false } }, by decide +kernel⟩,
   ⟨{ on0.puts [(F.SIG_STAT_SESS, 1), (F.SIG_STAT_BUSY, 0)] with session := { State.reset.session with startTaken := true, closeHeld := none } },
     by decide +kernel⟩,
   ⟨{ on0.puts [(F.SIG_STAT_SESS, 3)] with angle := { State.reset.angle with now := 200 * tickMs } }, by unfold LogRoom; decide +kernel⟩,
   ⟨{ on0 with session := { State.reset.session with readReq := true } }, by decide +kernel⟩,
   ⟨on0.puts [(F.SIG_STAT_BUSY, 1)], by decide +kernel⟩,
   ⟨{ (on0.puts [(F.SIG_STAT_BUSY, 1)]).setLine 0x1B400 0x52585653 with session := { State.reset.session with signing := true } },
     by unfold LogRoom; decide +kernel⟩⟩

/-- A state and operands for the hypotheses of each claim of PowerFailAndEnvironment, and of each of its cases. -/
theorem test_witness_PowerFailAndEnvironment :
    (∃ (s : State), s.boot.powered = true)
    ∧ (∃ (s : State), s.boot.pfail = true ∧ s.on F.LDG_CTL_EN = true ∧ s.on F.LDG_STAT_LOCKED = false)
    ∧ (∃ (s : State), s.boot.pfail = true)
    ∧ (∃ (s : State), s.get F.SYS_ENVEXT_VMIN ≠ 0) :=
  ⟨⟨{ on0 with boot := { on0.boot with powered := true } }, by decide +kernel⟩,
   ⟨{ on0.puts [(F.LDG_CTL_EN, 1), (F.LDG_STAT_LOCKED, 0)] with boot := { on0.boot with pfail := true } }, by decide +kernel⟩,
   ⟨{ on0 with boot := { on0.boot with pfail := true } }, by decide +kernel⟩,
   ⟨on0.puts [(F.SYS_ENVEXT_VMIN, 1)], by decide +kernel⟩⟩

/-- A state and operands for the hypotheses of each claim of HeadPortLife, and of each of its cases. -/
theorem test_witness_HeadPortLife :
    (∃ (s : State) (p : Fin 8), s.portState p = 0)
    ∧ (∃ (s : State) (p : Fin 8), s.portState p = 1)
    ∧ (∃ (s : State) (p : Fin 8), s.portState p ∈ [2, 3, 4, 6])
    ∧ (∃ (s : State) (p : Fin 8) (w : Word), s.portState p = 3 ∧ (s.port p).checked = true ∧ (s.port p).runSent = false ∧ (s.port p).due = []
        ∧ goodWord w.toNat false (s.port p).lastSlot = true ∧ bits w.toNat 20 4 = 15 ∧ (s.port p).nonce = some (bits w.toNat 8 12))
    ∧ (∃ (s : State) (p : Fin 8), s.portState p = 3 ∧ (s.port p).checked = true ∧ (s.port p).nonce.isSome = true ∧ (s.port p).runSent = false ∧
        LogRoom 1 s)
    ∧ (∃ (s : State) (p : Fin 8), s.portState p = 3 ∧ (s.port p).checked = true ∧ (s.port p).nonce = none)
    ∧ (∃ (s : State) (p : Fin 8), s.portPowered p = true ∧ LogRoom 4 s)
    ∧ (∃ (s : State) (p : Fin 8), s.portState p = 5) :=
  ⟨⟨on0.puts [((F.HEAD_STAT_STATE.i (0 : Fin 8)), 0)], 0, by decide +kernel⟩,
   ⟨on0.puts [((F.HEAD_STAT_STATE.i (0 : Fin 8)), 1)], 0, by decide +kernel⟩,
   ⟨on0.puts [((F.HEAD_STAT_STATE.i (0 : Fin 8)), 2)], 0, by decide +kernel⟩,
   ⟨(on0.puts [((F.HEAD_STAT_STATE.i (0 : Fin 8)), 3)]).setPort (0 : Fin 8)
     { State.reset.port (0 : Fin 8) with checked := true, nonce := some 0 }, 0, 0xB4F0000C, by decide +kernel⟩,
   ⟨(on0.puts [((F.HEAD_STAT_STATE.i (0 : Fin 8)), 3)]).setPort (0 : Fin 8)
     { State.reset.port (0 : Fin 8) with checked := true, nonce := some 0, runSent := false }, 0, by unfold LogRoom; decide +kernel⟩,
   ⟨(on0.puts [((F.HEAD_STAT_STATE.i (0 : Fin 8)), 3)]).setPort (0 : Fin 8) { State.reset.port (0 : Fin 8) with checked := true, nonce := none }, 0,
     by decide +kernel⟩,
   ⟨on0.puts [((F.HEAD_STAT_STATE.i (0 : Fin 8)), 4)], 0, by unfold LogRoom; decide +kernel⟩,
   ⟨on0.puts [((F.HEAD_STAT_STATE.i (0 : Fin 8)), 5)], 0, by decide +kernel⟩⟩

/-- A state and operands for the hypotheses of each claim of HeadWords, and of each of its cases. -/
theorem test_witness_HeadWords :
    (∃ (s : State) (p : Fin 8) (w : Word), s.portState p = 2 ∧ goodWord w.toNat false (s.port p).lastSlot = true ∧ 3 ≤ (s.port p).goodRun)
    ∧ (∃ (s : State) (p : Fin 8), s.portState p = 4)
    ∧ (∃ (s : State) (p : Fin 8) (w : Word), s.portState p = 4 ∧ goodWord w.toNat false (s.port p).lastSlot = true ∧ bit w.toNat 4 = true ∧ bits
        w.toNat 20 4 = 11)
    ∧ (∃ (s : State) (p : Fin 8) (w : Word) (c : Fin 6), (s.port p).plugged = true ∧ goodCommand w.toNat c = true ∧ (c = 5 → (bits w.toNat 4 12) % 16 ≤ 6)) :=
  ⟨⟨(on0.puts [((F.HEAD_STAT_STATE.i (0 : Fin 8)), 2)]).setPort (0 : Fin 8) { State.reset.port (0 : Fin 8) with goodRun := 3 }, 0, 0xB4000008,
     by decide +kernel⟩,
   ⟨on0.puts [((F.HEAD_STAT_STATE.i (0 : Fin 8)), 4)], 0, by decide +kernel⟩,
   ⟨on0.puts [((F.HEAD_STAT_STATE.i (0 : Fin 8)), 4)], 0, 0xB4B00014, by decide +kernel⟩,
   ⟨(on0).setPort (0 : Fin 8) { State.reset.port (0 : Fin 8) with plugged := true }, 0, 0x4B20000F, 2, by decide +kernel⟩⟩

/-- A state and operands for the hypotheses of each claim of SampleChain, and of each of its cases. -/
theorem test_witness_SampleChain :
    (∃ (s : State) (c : Fin 24), s.on F.FIL_STAT_RUN = true ∧ s.getBit F.FIL_CHEN_MASK c = false)
    ∧ (∃ (s : State), s.rwsLocked = false ∧ s.rwsStalls = false) :=
  ⟨⟨on0.puts [(F.FIL_STAT_RUN, 1)], 0, by decide +kernel⟩,
   ⟨on0, by decide +kernel⟩⟩

/-- A state and operands for the hypotheses of each claim of EnergyEngine, and of each of its cases. -/
theorem test_witness_EnergyEngine :
    (∃ (s : State), s.engineRuns = true ∧ (s.energy.clear && s.get F.SEAL_STAT_STATE == 0) = true)
    ∧ (∃ (s : State) (n : Fin 64), s.engineRuns = true ∧ s.energy.clear = false ∧ bit (s.energy.accCfg.getD n 0) 14 = false)
    ∧ (∃ (s : State) (n : Fin 8) (v : Word), s.rwsLocked = false ∧ s.rwsStalls = false ∧ s.on (F.MET_ME_CFG_BILLABLE.i n) = false ∧ (cfgEn
        (s.meCfgWord n v.toNat) && !(s.pairingOk (s.meCfgWord n v.toNat) && s.istartOk n (s.meCfgWord n v.toNat))) = false)
    ∧ (∃ (s : State) (n : Fin 8) (v : Word), s.rwsLocked = false ∧ s.rwsStalls = false ∧ (cfgEn (s.meCfgWord n v.toNat) && !(s.pairingOk
        (s.meCfgWord n v.toNat) && s.istartOk n (s.meCfgWord n v.toNat))) = true ∧ LogRoom 1 s)
    ∧ (∃ (s : State) (v : Word), s.rwsLocked = false ∧ s.rwsStalls = false ∧ bits v.toNat 8 4 ≤ 10 ∧ (bit v.toNat 14 = false ∨ s.elemsOk (bits
        v.toNat 0 8) = true))
    ∧ (∃ (s : State) (v : Word), s.rwsLocked = false ∧ s.rwsStalls = false ∧ bits v.toNat 8 4 ≤ 10 ∧ bit v.toNat 14 = true ∧ s.elemsOk (bits
        v.toNat 0 8) = false ∧ LogRoom 1 s)
    ∧ (∃ (s : State) (v : Word), s.rwsLocked = false ∧ s.rwsStalls = false ∧ s.get F.SIG_STAT_SESS = 0 ∧ bits v.toNat 8 3 ≤ 6 ∧ (bit v.toNat 6 =
        false ∨ s.mayBillAcc (bits v.toNat 0 6) = true))
    ∧ (∃ (s : State) (v : Word), s.rwsLocked = false ∧ s.rwsStalls = false ∧ s.get F.SIG_STAT_SESS = 0 ∧ bits v.toNat 8 3 ≤ 6 ∧ bit v.toNat 6 =
        true ∧ s.mayBillAcc (bits v.toNat 0 6) = false ∧ LogRoom 1 s)
    ∧ (∃ (s : State), s.sealed = false ∧ ((List.range 8).find? fun e => !s.tableOk s.calTables e) = none)
    ∧ (∃ (s : State), s.sealed = false ∧ ((List.range 8).find? fun e => !s.tableOk s.calTables e).isSome = true)
    ∧ (∃ (s : State) (n : Fin 8), s.on (F.MET_ME_STAT_HELD.i n) = true ∧ s.on (F.MET_ME_STAT_HOLDEXP.i n) = false ∧ s.boot.pfail = false ∧ LogRoom 1 s ∧ s.billedElem n =
        false)
    ∧ (∃ (s : State) (n : Fin 8), s.on (F.MET_ME_STAT_HELD.i n) = true ∧ s.on (F.MET_ME_STAT_HOLDEXP.i n) = false ∧ s.boot.pfail = false ∧ LogRoom 1 s ∧ s.billedElem n =
        true)
    ∧ (∃ (x : List Int), x.length = 255) :=
  ⟨⟨{ on0.puts [(F.SEAL_STAT_STATE, 0), (F.MET_STAT_RUN, 1)] with energy := { State.reset.energy with clear := true } }, by decide +kernel⟩,
   ⟨{ on0.puts [(F.MET_STAT_RUN, 1)] with energy := { State.reset.energy with clear := false } }, 0, by decide +kernel⟩,
   ⟨on0.puts [((F.MET_ME_CFG_BILLABLE.i (0 : Fin 8)), 0)], 0, 0, by decide +kernel⟩,
   ⟨on0, 0, 1, by unfold LogRoom; decide +kernel⟩,
   ⟨on0, 0, by decide +kernel⟩,
   ⟨on0, 0x4000, by unfold LogRoom; decide +kernel⟩,
   ⟨on0.puts [(F.SIG_STAT_SESS, 0)], 0, by decide +kernel⟩,
   ⟨on0.puts [(F.SIG_STAT_SESS, 0)], 0x40, by unfold LogRoom; decide +kernel⟩,
   ⟨on0.puts [(F.SEAL_STAT_STATE, 2)], by decide +kernel⟩,
   ⟨on0.puts [(F.SEAL_STAT_STATE, 2), ((F.CAL_ME_BP_BP.i 0), 0)], by decide +kernel⟩,
   ⟨on0.puts [((F.MET_ME_STAT_HELD.i (0 : Fin 8)), 1), ((F.MET_ME_STAT_HOLDEXP.i (0 : Fin 8)), 0)], 0, by unfold LogRoom; decide +kernel⟩,
   ⟨{ on0.puts [((F.MET_ME_STAT_HELD.i (0 : Fin 8)), 1), ((F.MET_ME_STAT_HOLDEXP.i (0 : Fin 8)), 0)] with energy := { State.reset.energy with br := [0x40], accCfg := [1] } },
     0, by unfold LogRoom; decide +kernel⟩,
   ⟨List.replicate 255 0, by decide +kernel⟩⟩

/-- A state and operands for the hypotheses of each claim of PulseOutputs, and of each of its cases. -/
theorem test_witness_PulseOutputs :
    (∃ (s : State), s.pulsesRun = true ∧ s.pulses.next = some (1024, some 327680) ∧ Claims.noAlarm s)
    ∧ (∃ (s : State), s.pulses.next = none)
    ∧ (∃ (s : State) (n : Fin 4), s.nextPulse n = some 1024 ∧ Claims.noAlarm s)
    ∧ (∃ (s : State) (n : Fin 4), s.nextPulse n = none)
    ∧ (∃ (s : State) (n : Fin 4), s.getBit F.PLS_STAT_ACTIVE n = false)
    ∧ (∃ (s : State) (n : Fin 4), s.getBit F.PLS_STAT_ACTIVE n = true ∧ Claims.noAlarm s)
    ∧ (∃ (s : State) (n : Fin 4) (v : Word), s.rwsLocked = false ∧ s.rwsStalls = false ∧ (decide (n = 0) && bit v.toNat 6 && !billedBy s.energy.br
        (bits v.toNat 0 6)) = true ∧ LogRoom 1 s)
    ∧ (∃ (s : State), s.sealed = true)
    ∧ (∃ (s : State), s.sealed = false) :=
  ⟨⟨{ on0.puts [(F.PLS_CTL_EN, 1)] with pulses := { State.reset.pulses with next := some (1024, some 327680) } }, by
     unfold Claims.noAlarm; decide +kernel⟩,
   ⟨on0, by decide +kernel⟩,
   ⟨({ on0.puts [(F.PLS_CTL_EN, 1)] with pulses := { State.reset.pulses with start := 1024, windowOn := true } } : State).setPo (0 : Fin 4)
     { State.reset.po (0 : Fin 4) with en := true, r0 := onePulse }, 0, by unfold Claims.noAlarm; decide +kernel⟩,
   ⟨on0, 0, by decide +kernel⟩,
   ⟨on0, 0, by decide +kernel⟩,
   ⟨on0.puts [(F.PLS_STAT_ACTIVE, 1)], 0, by unfold Claims.noAlarm; decide +kernel⟩,
   ⟨on0, 0, 0x40, by unfold LogRoom; decide +kernel⟩,
   ⟨on0.puts [(F.SEAL_STAT_STATE, 1)], by decide +kernel⟩,
   ⟨on0.puts [(F.SEAL_STAT_STATE, 2)], by decide +kernel⟩⟩

/-- A state and operands for the hypotheses of each claim of IslandSupervision, and of each of its cases. -/
theorem test_witness_IslandSupervision :
    (∃ (s : State) (src : Fin 2) (low : Bool) (high : Bool), (low && high) = false ∧ 2 ≤ s.safety.island.srcBad.get src ∧
        s.safety.island.srcFault.get src = false)
    ∧ (∃ (s : State) (src : Fin 2) (low : Bool) (high : Bool), (low && high) = true ∧ s.safety.island.srcGood.get src = 2 ∧
        s.safety.island.srcFault.get src = true)
    ∧ (∃ (s : State) (agree : Bool), agree = false ∧ s.safety.island.laneBad = 2)
    ∧ (∃ (s : State) (agree : Bool), agree = true)
    ∧ (∃ (s : State) (dev : BitVec 16), 300 < dev.toInt.natAbs ∧ s.safety.island.oscBad = false)
    ∧ (∃ (s : State) (dev : BitVec 16), dev.toInt.natAbs ≤ 300)
    ∧ (∃ (s : State), s.get F.SAF_STAT_STATE ≠ 3 ∧ LogRoom 9 s)
    ∧ (∃ (s : State) (w : Fin 128), s.get F.SAF_STAT_STATE = 0)
    ∧ (∃ (s : State) (w : Fin 128), s.get F.SAF_STAT_STATE ≠ 0) :=
  ⟨⟨{ on0 with safety := { on0.safety with island := { on0.safety.island with srcBad := Vector.replicate 2 2 } } }, 0, false, false, by decide +kernel⟩,
   ⟨{ on0 with safety := { on0.safety with island := { on0.safety.island with srcGood := Vector.replicate 2 2, srcFault := Vector.replicate 2 true } } },
     0, true, true, by decide +kernel⟩,
   ⟨{ on0 with safety := { on0.safety with island := { on0.safety.island with laneBad := 2 } } }, false, by decide +kernel⟩,
   ⟨on0, true, by decide +kernel⟩,
   ⟨on0, 301, by decide +kernel⟩,
   ⟨on0, 0, by decide +kernel⟩,
   ⟨on0.puts [(F.SAF_STAT_STATE, 3 + 1)], by unfold LogRoom; decide +kernel⟩,
   ⟨on0.puts [(F.SAF_STAT_STATE, 0)], 0, by decide +kernel⟩,
   ⟨on0.puts [(F.SAF_STAT_STATE, 1)], 0, by decide +kernel⟩⟩

/-- A state and operands for the hypotheses of each claim of IslandPairs, and of each of its cases. -/
theorem test_witness_IslandPairs :
    (∃ (s : State) (p : Fin 16), s.pairType p = 1 ∧ s.on (pairField p 0) = false ∧ s.on (pairField p 2) = false ∧ LogRoom 2 s)
    ∧ (∃ (s : State) (p : Fin 16), s.on (pairField p 0) = s.on (pairField p 1) ∧ s.pairType p ≠ 0 ∧ (s.sp p).causes.contains 1 = false)
    ∧ (∃ (s : State) (p : Fin 16), s.pairType p = 2 ∧ s.on (pairField p 0) = false ∧ s.on (pairField p 1) = true)
    ∧ (∃ (s : State) (p : Fin 16), (s.sp p).assumed = true ∧ s.on (pairField p 0) = false ∧ s.on (pairField p 1) = true ∧ (s.sp p).causes = [] ∧
        s.pairType p = 1)
    ∧ (∃ (s : State) (v : Word), (¬ (v.toNat = 0x5AF1 ∧ (bit (s.par 3) 0 = true ∨ bit (s.efPar 2) 8 = true))))
    ∧ (∃ (s : State) (v : Word), (v.toNat = 0x5AF1 ∧ (bit (s.par 3) 0 = true ∨ bit (s.efPar 2) 8 = true))) :=
  ⟨⟨on0.puts [((pairField (0 : Fin 16) 0), 0), ((pairField (0 : Fin 16) 2), 0), ((F.SAF_PAR.i 4), 1)], 0, by unfold LogRoom; decide +kernel⟩,
   ⟨on0.puts [((F.SAF_PAR.i 4), 1)], 0, by decide +kernel⟩,
   ⟨on0.puts [((pairField (0 : Fin 16) 0), 0), ((pairField (0 : Fin 16) 1), 1), ((F.SAF_PAR.i 4), 2)], 0, by decide +kernel⟩,
   ⟨(on0.puts [((pairField (0 : Fin 16) 0), 0), ((pairField (0 : Fin 16) 1), 1), ((F.SAF_PAR.i 4), 1)]).setSp (0 : Fin 16)
     { State.reset.sp (0 : Fin 16) with assumed := true, causes := [] }, 0, by decide +kernel⟩,
   ⟨on0, 0, by decide +kernel⟩,
   ⟨on0.puts [((F.SAF_PAR.i 3), 1)], 0x5AF1, by decide +kernel⟩⟩

/-- A state and operands for the hypotheses of each claim of IslandFeedbackAndWeld, and of each of its cases. -/
theorem test_witness_IslandFeedbackAndWeld :
    (∃ (s : State) (n : Fin 8), (s.chUsed n && s.chFben n && s.on (chField n 3) && !(s.sc n).seen0) = true ∧ (s.sc n).causes.contains 1 = false
        ∧ LogRoom 9 s)
    ∧ (∃ (s : State) (n : Fin 8), (s.chUsed n && s.chFben n && s.on (chField n 3) && !(s.sc n).seen0) = false)
    ∧ (∃ (s : State) (n : Fin 8), (s.sc n).opening = true ∧ (s.sw (swOf n)).legs = false ∧ (s.chFben n && !(s.sc n).opened) = true
        ∧ (s.sc n).causes.contains 2 = false ∧ LogRoom 9 s)
    ∧ (∃ (s : State) (n : Fin 8), (s.sc n).opening = true ∧ (s.sw (swOf n)).legs = false ∧ (s.chFben n && !(s.sc n).opened) = false)
    ∧ (∃ (s : State) (n : Fin 8), (s.sc n).opening = false)
    ∧ (∃ (s : State) (q : Fin 8), s.get F.SAF_STAT_STATE ≠ 0 ∧ s.weldChans q = [])
    ∧ (∃ (s : State) (q n : Fin 8), s.get F.SAF_STAT_STATE ≠ 0 ∧ (s.weldChans q).head? = some n ∧ s.weldWindow q (s.chDcWeld n) = none)
    ∧ (∃ (s : State) (n : Fin 8), s.get F.SAF_STAT_STATE ≠ 0 ∧ s.chUsed n = true ∧ s.chPorts n ≠ 0 ∧ (s.sc n).post = some 0 ∧
        (s.sw (swOf n)).legs = false ∧ s.chDcWeld n = false)
    ∧ (∃ (s : State) (n : Fin 8), s.get F.SAF_STAT_STATE ≠ 0 ∧ s.chUsed n = true ∧ s.chPorts n ≠ 0 ∧ (s.sc n).post = some 0 ∧
        (s.sw (swOf n)).legs = false ∧ s.chDcWeld n = true) :=
  ⟨⟨(on0.puts [((chField (0 : Fin 8) 3), 1), ((F.SAF_PAR.i 20), 5), ((chField (0 : Fin 8) 3), 1)]).setSc (0 : Fin 8)
     { State.reset.sc (0 : Fin 8) with seen0 := false }, 0, by unfold LogRoom; decide +kernel⟩,
   ⟨on0, 0, by decide +kernel⟩,
   ⟨(on0.puts [(F.SAF_PAR.i 20, 5)]).setSc (0 : Fin 8) { on0.sc (0 : Fin 8) with opening := true }, 0, by unfold LogRoom; decide +kernel⟩,
   ⟨on0.setSc (0 : Fin 8) { on0.sc (0 : Fin 8) with opening := true }, 0, by decide +kernel⟩,
   ⟨on0, 0, by decide +kernel⟩,
   ⟨on0.puts [(F.SAF_STAT_STATE, 1)], 0, by decide +kernel⟩,
   ⟨on0.puts [(F.SAF_STAT_STATE, 1), ((F.SAF_PAR.i 20), 1), ((F.SAF_PAR.i 21), 1)], 0, 0, by decide +kernel⟩,
   ⟨(on0.puts [(F.SAF_STAT_STATE, 1), (F.SAF_PAR.i 20, 1), (F.SAF_PAR.i 21, 1)]).setSc (0 : Fin 8) { on0.sc (0 : Fin 8) with post := some 0 }, 0,
     by decide +kernel⟩,
   ⟨(on0.puts [(F.SAF_STAT_STATE, 1), (F.SAF_PAR.i 20, 1), (F.SAF_PAR.i 21, 0x101)]).setSc (0 : Fin 8) { on0.sc (0 : Fin 8) with post := some 0 }, 0,
     by decide +kernel⟩⟩

/-- A state and operands for the hypotheses of each claim of SwitchRequests, and of each of its cases. -/
theorem test_witness_SwitchRequests :
    (∃ (s : State) (x : Fin 2) (mask : BitVec 12) (k : Fin 3) (n : Fin 24), swX n = x.val ∧ (s.on F.VEH_CTL_AUTOOFF = false ∨ 8 ≤ n.val))
    ∧ (∃ (s : State) (n : Fin 8) (hsHigh : Bool), (s.sw (swOf n)).ls = true ∧ (s.sw (swOf n)).hs = false ∧ (s.sc n).causes.contains 7 = false ∧
        hsHigh = true)
    ∧ (∃ (s : State) (n : Fin 8) (hsHigh : Bool), (s.sw (swOf n)).ls = true ∧ (s.sw (swOf n)).hs = false ∧ (s.sc n).causes.contains 7 = false ∧
        hsHigh = false) :=
  ⟨⟨on0.puts [(F.VEH_CTL_AUTOOFF, 0)], 0, 0, 0, 0, by decide +kernel⟩,
   ⟨(on0).setSw (swOf (0 : Fin 8)) { State.reset.sw (swOf (0 : Fin 8)) with ls := true, hs := false }, 0, true, by decide +kernel⟩,
   ⟨(on0).setSw (swOf (0 : Fin 8)) { State.reset.sw (swOf (0 : Fin 8)) with ls := true, hs := false }, 0, false, by decide +kernel⟩⟩

/-- A state and operands for the hypotheses of each claim of SwitchTrips, and of each of its cases. -/
theorem test_witness_SwitchTrips :
    (∃ (s : State) (n : Fin 24) (k : Fin 3) (temp : BitVec 12), s.conducts n = true ∧ (k = 0 → s.chState n = 2) ∧ s.get (F.SW_CH_ST_RETRY.ij (swX
        n) (swI n)) < s.get (F.SW_CH_CFG_NRETRY.ij (swX n) (swI n)))
    ∧ (∃ (s : State) (n : Fin 24) (k : Fin 3) (temp : BitVec 12), s.conducts n = true ∧ (k = 0 → s.chState n = 2) ∧ s.get (F.SW_CH_CFG_NRETRY.ij
        (swX n) (swI n)) ≤ s.get (F.SW_CH_ST_RETRY.ij (swX n) (swI n)))
    ∧ (∃ (s : State) (n : Fin 24), (s.sw n).pausing = true ∧ (s.sw n).waitCool = false ∧ (s.sw n).retryAt ≤ s.angle.now ∧ ((s.sw n).hot && s.reqOn n) = true)
    ∧ (∃ (s : State) (n : Fin 24), (s.sw n).pausing = true ∧ (s.sw n).waitCool = false ∧ (s.sw n).retryAt ≤ s.angle.now ∧ ((s.sw n).hot && s.reqOn n) = false)
    ∧ (∃ (s : State) (n : Fin 24), (s.sw n).pausing = true ∧ (s.sw n).waitCool = true)
    ∧ (∃ (s : State) (x : Fin 2) (mask : BitVec 12) (n : Fin 24), swX n = x.val ∧ s.latched n = true ∧ bit mask.toNat (swI n) = true) :=
  ⟨⟨(on0.puts [(F.SW_CH_CFG_NRETRY.ij (swX (0 : Fin 24)) (swI (0 : Fin 24)), 2)]).setSw (0 : Fin 24) { on0.sw (0 : Fin 24) with hs := true }, 0, 1, 0,
     by decide +kernel⟩,
   ⟨(on0.puts [(F.SW_CH_CFG_NRETRY.ij (swX (0 : Fin 24)) (swI (0 : Fin 24)), 2), (F.SW_CH_ST_RETRY.ij (swX (0 : Fin 24)) (swI (0 : Fin 24)), 2)]).setSw
     (0 : Fin 24) { on0.sw (0 : Fin 24) with hs := true }, 0, 1, 0, by decide +kernel⟩,
   ⟨(on0.puts [(F.SW_REQ_MASK.i 0, 1)]).setSw (0 : Fin 24) { on0.sw (0 : Fin 24) with pausing := true, hot := true }, 0, by decide +kernel⟩,
   ⟨(on0).setSw (0 : Fin 24) { State.reset.sw (0 : Fin 24) with pausing := true, waitCool := false }, 0, by decide +kernel⟩,
   ⟨(on0).setSw (0 : Fin 24) { State.reset.sw (0 : Fin 24) with pausing := true, waitCool := true }, 0, by decide +kernel⟩,
   ⟨on0.puts [((F.SW_LATCH_MASK.i 0), 1)], 0, 1, 0, by decide +kernel⟩⟩

/-- A state and operands for the hypotheses of each claim of SwitchSupply, and of each of its cases. -/
theorem test_witness_SwitchSupply :
    (∃ (s : State) (n : Fin 8), (s.sw (swOf n)).legs = false)
    ∧ (∃ (s : State) (n : Fin 24) (hs ms : BitVec 16), LogRoom 1 s ∧ s.clampBeyond n hs.toNat 0 ms.toNat = true)
    ∧ (∃ (s : State) (n : Fin 24) (hs ms : BitVec 16), LogRoom 1 s ∧ s.clampBeyond n hs.toNat 0 ms.toNat = false)
    ∧ (∃ (s : State) (cur : BitVec 16), 4400 < cur.toNat)
    ∧ (∃ (s : State) (cur : BitVec 16), cur.toNat ≤ 4000)
    ∧ (∃ (s : State) (mv : BitVec 16), s.safety.vswOk = true ∧ (mv.toNat < 8500 ∨ 33000 < mv.toNat) ∧ LogRoom 9 s)
    ∧ (∃ (s : State) (mv : BitVec 16), s.safety.vswOk = false ∧ 9000 ≤ mv.toNat ∧ mv.toNat ≤ 32000 ∧ s.safety.vswLeft = true ∧ LogRoom 9 s)
    ∧ (∃ (s : State) (n : Fin 24), (s.sw n).vswWait = true ∧ s.safety.vswBackAt + staggerTicks n ≤ s.angle.now)
    ∧ (∃ (s : State) (x : Fin 2) (temp : BitVec 12), LogRoom 1 s ∧ 2000 < temp.toInt ∧ s.on (F.SW_STAT_HOT.i x) = false)
    ∧ (∃ (s : State) (n : Fin 24), n.val < 8) :=
  ⟨⟨on0, 0, by decide +kernel⟩,
   ⟨on0, 0, 1501, 0, by unfold LogRoom; decide +kernel⟩,
   ⟨on0, 0, 1500, 0, by unfold LogRoom; decide +kernel⟩,
   ⟨on0, 4401, by decide +kernel⟩,
   ⟨on0, 0, by decide +kernel⟩,
   ⟨{ on0 with safety := { on0.safety with vswOk := true } }, 0, by unfold LogRoom; decide +kernel⟩,
   ⟨{ on0 with safety := { on0.safety with vswLeft := true } }, 12000, by unfold LogRoom; decide +kernel⟩,
   ⟨(on0).setSw (0 : Fin 24) { State.reset.sw (0 : Fin 24) with vswWait := true }, 0, by decide +kernel⟩,
   ⟨on0.puts [((F.SW_STAT_HOT.i (0 : Fin 2)), 0)], 0, 2001, by unfold LogRoom; decide +kernel⟩,
   ⟨on0, 0, by decide +kernel⟩⟩

/-- A state and operands for the hypotheses of each claim of EarthFaultAndInsulation, and of each of its cases. -/
theorem test_witness_EarthFaultAndInsulation :
    (∃ (s : State), (s.earthRuns && s.rcOn) = false)
    ∧ (∃ (s : State), (s.earthRuns && s.rcOn) = true ∧ s.on F.EFM_RCLATCH_LATCHED = true ∧ s.chUsed 0 = true ∧ bit s.rcMask 0 = true)
    ∧ (∃ (s : State), (s.earthRuns && s.rcOn) = true ∧ s.on F.EFM_RCLATCH_LATCHED = false ∧ s.tripOf s.residual = some (2, 0))
    ∧ (∃ (s : State), (s.earthRuns && s.insOn) = true ∧ s.get F.EFM_INSCYC_STEP = 0 ∧ ((decide ((s.samplesOf (3 * s.insPort) 160).length = 160) &&
        (s.samplesOf (3 * s.insPort) 160).all (fun x => x.2.1)) && (decide (sumOf (s.samplesOf (3 * s.insPort) 160) * s.get
        (F.HEAD_RATING_VFS.i s.insPort) ≥ 50 * 160 * 2 ^ 30))) = true ∧ 20 ≤ s.safety.earth.above)
    ∧ (∃ (s : State), (s.earthRuns && s.insOn) = true ∧ s.get F.EFM_INSCYC_STEP = 0 ∧ ((decide ((s.samplesOf (3 * s.insPort) 160).length = 160) &&
        (s.samplesOf (3 * s.insPort) 160).all (fun x => x.2.1)) && (decide (sumOf (s.samplesOf (3 * s.insPort) 160) * s.get
        (F.HEAD_RATING_VFS.i s.insPort) ≥ 50 * 160 * 2 ^ 30))) = false)
    ∧ (∃ (s : State), (s.earthRuns && s.insOn) = true ∧ s.get F.EFM_INSCYC_STEP = 2 ∧ (decide ((s.samplesOf (3 * s.insPort) 160).length = 160) &&
        (s.samplesOf (3 * s.insPort) 160).all (fun x => x.2.1)) = true ∧ decide (sumOf (s.samplesOf (3 * s.insPort) 160) * s.get
        (F.HEAD_RATING_VFS.i s.insPort) ≥ 50 * 160 * 2 ^ 30) = false ∧ 19 ≤ s.safety.earth.below)
    ∧ (∃ (s : State), (s.earthRuns && s.insOn) = true ∧ s.get F.EFM_INSCYC_STEP ≠ 0 ∧ s.safety.earth.bad = true ∧ LogRoom 9 s)
    ∧ (∃ (s : State), (s.earthRuns && s.insOn) = true ∧ s.get F.EFM_INSCYC_STEP = 1 ∧ s.safety.earth.bad = false ∧ (s.safety.earth.samples - 6 *
        bits (s.efPar 5) 0 14) ≠ 0)
    ∧ (∃ (s : State), (s.earthRuns && s.insOn) = true ∧ s.get F.EFM_INSCYC_STEP = 2 ∧ s.on F.EFM_STAT_TESTING = false ∧
        s.safety.earth.testDone = false ∧ s.safety.earth.bad = false ∧ (s.safety.earth.samples - 6 * bits (s.efPar 5) 0 14) ≠ 0 ∧
        differ5 ((s.safety.earth.u1 : Rat) / (s.safety.earth.n1 : Rat))
          ((s.safety.earth.sumU : Rat) / ((s.safety.earth.samples - 6 * bits (s.efPar 5) 0 14 : Nat) : Rat)) = false ∧
        s.safety.earth.u1 ≠ 0 ∧ s.safety.earth.sumU ≠ 0)
    ∧ (∃ (s : State), (s.insOn && !s.on (F.HEAD_AUXST_ECHO.i s.insPort)) = false)
    ∧ (∃ (s : State), (s.insOn && !s.on (F.HEAD_AUXST_ECHO.i s.insPort)) = true ∧ s.on F.EFM_STAT_INSMF = false ∧ LogRoom 9 s) :=
  ⟨⟨on0, by decide +kernel⟩,
   ⟨on0.puts [(F.SAF_STAT_STATE, 1), (F.SAF_PAR.i 20, 1), (F.EFM_PAR.i 2, 8), (F.EFM_PAR.i 3, 0x10000), (F.EFM_RCLATCH_LATCHED, 1)], by decide +kernel⟩,
   ⟨{ (on0.puts [(F.SAF_STAT_STATE, 1), (F.EFM_PAR.i 2, 8)]) with chans := Vector.replicate 24 { hist := List.replicate 160 (0, true, false) }, safety := { on0.safety with earth := { on0.safety.earth with tiers := List.replicate 4 ⟨30, 0⟩ } } },
     by decide +kernel⟩,
   ⟨{ (on0.puts [(F.SAF_STAT_STATE, 1), (F.EFM_PAR.i 4, 1), (F.HEAD_RATING_VFS.i 0, 1000)]) with chans := Vector.replicate 24 { hist := List.replicate 160 (1000000000, true, false) }, safety := { on0.safety with earth := { on0.safety.earth with above := 20 } } },
     by decide +kernel⟩,
   ⟨on0.puts [(F.EFM_INSCYC_STEP, 0), (F.SAF_STAT_STATE, 1), ((F.EFM_PAR.i 4), 1)], by decide +kernel⟩,
   ⟨{ (on0.puts [(F.SAF_STAT_STATE, 1), (F.EFM_PAR.i 4, 1), (F.EFM_INSCYC_STEP, 2)]) with chans := Vector.replicate 24 { hist := List.replicate 160 (0, true, false) }, safety := { on0.safety with earth := { on0.safety.earth with below := 19 } } },
     by decide +kernel⟩,
   ⟨{ (on0.puts [(F.SAF_STAT_STATE, 1), (F.EFM_PAR.i 4, 1), (F.EFM_INSCYC_STEP, 1)]) with safety := { on0.safety with earth := { on0.safety.earth with bad := true } } },
     by unfold LogRoom; decide +kernel⟩,
   ⟨{ (on0.puts [(F.SAF_STAT_STATE, 1), (F.EFM_PAR.i 4, 1), (F.EFM_INSCYC_STEP, 1)]) with safety := { on0.safety with earth := { on0.safety.earth with samples := 4 } } },
     by decide +kernel⟩,
   ⟨{ (on0.puts [(F.SAF_STAT_STATE, 1), (F.EFM_PAR.i 4, 1), (F.EFM_INSCYC_STEP, 2)]) with safety := { on0.safety with earth := { on0.safety.earth with samples := 4, sumU := 4, u1 := 4, n1 := 4 } } },
     by norm_num [differ5]; decide +kernel⟩,
   ⟨on0, by decide +kernel⟩,
   ⟨on0.puts [(F.EFM_PAR.i 4, 1)], by unfold LogRoom; decide +kernel⟩⟩

/-- A state and operands for the hypotheses of each claim of PilotAndProximity, and of each of its cases. -/
theorem test_witness_PilotAndProximity :
    (∃ (s : State), s.forcedGen = none ∧ s.get F.VEH_GEN_MODE = 2 ∧ s.cableLimit = none)
    ∧ (∃ (s : State), s.forcedGen = none ∧ s.get F.VEH_GEN_MODE ≠ 2)
    ∧ (∃ (s : State), s.vehicle.skip = true ∧ s.on F.VEH_STAT_VROLE = false)
    ∧ (∃ (s : State) (high : BitVec 16), s.vehicle.skip = false ∧ s.on F.VEH_STAT_VROLE = false ∧ (pilotWindow (s.get F.VEH_STAT_STATE) high.toInt)
        ≠ s.get F.VEH_STAT_STATE ∧ s.vehicle.cand = (pilotWindow (s.get F.VEH_STAT_STATE) high.toInt) ∧ s.get F.VEH_TIMING_DEB ≤
        s.vehicle.candN + 1 ∧ s.get F.VEH_TIMING_DEB ≤ 20)
    ∧ (∃ (s : State) (stuck : Bool), s.get F.VEH_TIMING_INVT ≤ (if stuck then s.vehicle.stuckFor else s.vehicle.invalFor) ∧ s.on (if stuck then F.VEH_STAT_STUCK else
        F.VEH_STAT_INVAL) = false)
    ∧ (∃ (s : State) (v : Word), (dutyOk (bits v.toNat 0 13) (bit v.toNat 13)) = true)
    ∧ (∃ (s : State) (v : Word), (dutyOk (bits v.toNat 0 13) (bit v.toNat 13)) = false ∧ LogRoom 1 s)
    ∧ (∃ (s : State) (ohms : BitVec 24), s.get F.VEH_PPCFG_MODE ≠ 0 ∧ s.vehicle.ppCand = (ppCode (s.get F.VEH_PPCFG_MODE) (s.get F.VEH_PPCFG_THR)
        ohms.toNat) ∧ 9 ≤ s.vehicle.ppN ∧ s.get F.VEH_PPSTAT_CODE ≠ (ppCode (s.get F.VEH_PPCFG_MODE) (s.get F.VEH_PPCFG_THR) ohms.toNat))
    ∧ (∃ (s : State), s.on F.VEH_STAT_VROLE = false)
    ∧ (∃ (s : State), s.on F.VEH_STAT_VROLE = true)
    ∧ (∃ (s : State), s.stepOver = false)
    ∧ (∃ (s : State), s.on F.VEH_STAT_VROLE = true ∧ s.on F.VEH_VR_PROFCTL_RUN = true ∧ s.on F.VEH_VR_STAT_DONE = false ∧ s.stepOver = true ∧ LogRoom 1 s ∧ (s.get
        F.VEH_VR_STAT_STEP) + 1 < (s.get F.VEH_VR_PROFCTL_STEPS) ∧ (s.get F.VEH_VR_STAT_STEP) < 31)
    ∧ (∃ (s : State), s.on F.VEH_STAT_VROLE = true ∧ s.on F.VEH_VR_PROFCTL_RUN = true ∧ s.on F.VEH_VR_STAT_DONE = false ∧ s.stepOver = true ∧ LogRoom 1 s ∧ (s.get
        F.VEH_VR_PROFCTL_STEPS) ≤ (s.get F.VEH_VR_STAT_STEP) + 1) :=
  ⟨⟨on0.puts [(F.VEH_GEN_MODE, 2), (F.SYS_MODE_MODE, 0)], by decide +kernel⟩,
   ⟨on0.puts [(F.VEH_GEN_MODE, 2 + 1), (F.SYS_MODE_MODE, 0)], by decide +kernel⟩,
   ⟨{ on0.puts [(F.VEH_STAT_VROLE, 0)] with vehicle := { State.reset.vehicle with skip := true } }, by decide +kernel⟩,
   ⟨{ on0 with vehicle := { on0.vehicle with cand := pilotWindow 0 0, candN := 20 } }, 0, by decide +kernel⟩,
   ⟨{ on0 with vehicle := { on0.vehicle with invalFor := 2000 } }, false, by decide +kernel⟩,
   ⟨on0, 100, by decide +kernel⟩,
   ⟨on0, 0, by unfold LogRoom; decide +kernel⟩,
   ⟨{ (on0.puts [(F.VEH_PPCFG_MODE, 1), (F.VEH_PPSTAT_CODE, 7)]) with vehicle := { on0.vehicle with ppCand := ppCode 1 0 0, ppN := 9 } }, 0,
     by decide +kernel⟩,
   ⟨on0.puts [(F.VEH_STAT_VROLE, 0)], by decide +kernel⟩,
   ⟨on0.puts [(F.VEH_STAT_VROLE, 1)], by decide +kernel⟩,
   ⟨on0, by decide +kernel⟩,
   ⟨{ on0.puts [(F.VEH_STAT_VROLE, 1), (F.VEH_VR_PROFCTL_RUN, 1), (F.VEH_VR_PROFCTL_STEPS, 2)] with
      vehicle := { State.reset.vehicle with stepFrom := some 0 } }, by unfold LogRoom; decide +kernel⟩,
   ⟨{ on0.puts [(F.VEH_STAT_VROLE, 1), (F.VEH_VR_PROFCTL_RUN, 1)] with
      vehicle := { State.reset.vehicle with stepFrom := some 0 } }, by unfold LogRoom; decide +kernel⟩⟩

/-- A state and operands for the hypotheses of each claim of PilotLineModem, and of each of its cases. -/
theorem test_witness_PilotLineModem :
    (∃ (s : State) (en : Bool), en = true)
    ∧ (∃ (s : State) (en : Bool), en = false)
    ∧ (∃ (s : State), s.get F.GPM_STAT_MSTATE = 1 ∧ LogRoom 1 s)
    ∧ (∃ (s : State) (silent : BitVec 16), 1 ≤ s.get F.GPM_STAT_MSTATE ∧ s.get F.GPM_STAT_MSTATE ≤ 5 ∧ 1000 ≤ silent.toNat ∧ LogRoom 1 s)
    ∧ (∃ (s : State), s.get F.GPM_STAT_MSTATE = 2)
    ∧ (∃ (s : State), s.slacRun 0 = true ∧ s.modem.parm = false ∧ s.parmInTime = true)
    ∧ (∃ (s : State) (mac : BitVec 48) (r : BitVec 64), s.slacRun 0 = true ∧ s.modem.parm = true ∧ s.modem.peer = mac.toNat ∧ s.modem.run =
        r.toNat)
    ∧ (∃ (s : State) (ok : Bool), s.get F.GPM_STAT_MSTATE = 3 ∧ s.modem.matched = true ∧ LogRoom 1 s ∧ ok = true)
    ∧ (∃ (s : State) (ok : Bool), s.get F.GPM_STAT_MSTATE = 3 ∧ s.modem.matched = true ∧ LogRoom 1 s ∧ ok = false)
    ∧ (∃ (s : State) (announced : BitVec 8) (toggles : BitVec 8), s.slacRun 0 = true ∧ s.on F.GPM_CTL_VALEN = true ∧ announced ≠ toggles)
    ∧ (∃ (s : State) (announced : BitVec 8) (toggles : BitVec 8), s.slacRun 0 = true ∧ (s.on F.GPM_CTL_VALEN = false ∨ announced = toggles))
    ∧ (∃ (s : State), s.slacRun 1 = true)
    ∧ (∃ (s : State) (mac : BitVec 48) (att : BitVec 8), s.slacRun 1 = true ∧ bestProfile s.modem.profiles = some (mac.toNat, att.toNat) ∧
        att.toNat ≤ s.get F.GPM_SLACCFG_ATTMAX)
    ∧ (∃ (s : State), s.get F.GPM_STAT_MSTATE = 4 ∧ LogRoom 1 s)
    ∧ (∃ (s : State) (frame : List Byte) (fcsOk : Bool), s.modemRuns = true ∧ s.loopOf Page.GPM = 0 ∧ (fcsOk = false ∨ (s.chkOn Page.GPM = false ∧
        s.on F.GPM_CTL_SLACEN = true ∧ etherType frame = 0x88E1)))
    ∧ (∃ (s : State) (r : Fin 256), s.modemRuns = true ∧ s.loopOf Page.GPM = 0 ∧ s.chkOn Page.GPM = false ∧ s.on F.GPM_CTL_SLACEN = false ∧
        s.ringFor 2 = some r.val ∧ s.elemRoom r = true)
    ∧ (∃ (s : State) (frame : List Byte) (r : Fin 256) (aux : Nat), s.modemRuns = true ∧ s.genOn Page.GPM = false ∧ s.txFrame 3 = some (r.val,
        frame, aux)) :=
  ⟨⟨on0, true, by decide +kernel⟩,
   ⟨on0, false, by decide +kernel⟩,
   ⟨on0.puts [(F.GPM_STAT_MSTATE, 1)], by unfold LogRoom; decide +kernel⟩,
   ⟨on0.puts [(F.GPM_STAT_MSTATE, 1)], 1000, by unfold LogRoom; decide +kernel⟩,
   ⟨on0.puts [(F.GPM_STAT_MSTATE, 2)], by decide +kernel⟩,
   ⟨{ on0.puts [(F.GPM_STAT_MSTATE, 3)] with modem := { State.reset.modem with parm := false } }, by decide +kernel⟩,
   ⟨{ on0.puts [(F.GPM_STAT_MSTATE, 3)] with modem := { State.reset.modem with parm := true, peer := (0 : BitVec 48).toNat, run := (0 : BitVec 64).toNat } },
     0, 0, by decide +kernel⟩,
   ⟨{ on0.puts [(F.GPM_STAT_MSTATE, 3)] with modem := { State.reset.modem with matched := true } }, true, by unfold LogRoom; decide +kernel⟩,
   ⟨{ on0.puts [(F.GPM_STAT_MSTATE, 3)] with modem := { State.reset.modem with matched := true } }, false, by unfold LogRoom; decide +kernel⟩,
   ⟨on0.puts [(F.GPM_CTL_VALEN, 1), (F.GPM_STAT_MSTATE, 3)], 1, 0, by decide +kernel⟩,
   ⟨on0.puts [(F.GPM_CTL_VALEN, 0), (F.GPM_STAT_MSTATE, 3)], 0, 0, by decide +kernel⟩,
   ⟨on0.puts [(F.GPM_STAT_MSTATE, 3), (F.GPM_STAT_ROLE, 1)], by decide +kernel⟩,
   ⟨{ (on0.puts [(F.GPM_STAT_MSTATE, 3), (F.GPM_STAT_ROLE, 1), (F.GPM_SLACCFG_ATTMAX, 20)]) with modem := { on0.modem with profiles := [(5, 7)] } }, 5,
     7, by decide +kernel⟩,
   ⟨on0.puts [(F.GPM_STAT_MSTATE, 4)], by unfold LogRoom; decide +kernel⟩,
   ⟨on0.puts [(F.GPM_STAT_MSTATE, 2)], [], false, by decide +kernel⟩,
   ⟨(on0.puts [(F.GPM_STAT_MSTATE, 2), (F.RING_CTL_EN.i 40, 1), (F.RING_STAT_PORT.i 40, 2), (F.RING_STAT_STATE.i 40, 1)]).setRing 40
     { on0.ring 40 with desc := some (0, 2 ^ 40) }, 40, by decide +kernel⟩,
   ⟨(on0.puts [(F.GPM_STAT_MSTATE, 2), (F.RING_CTL_EN.i 40, 1), (F.RING_STAT_PORT.i 40, 3), (F.RING_STAT_STATE.i 40, 1)]).setRing 40
     { on0.ring 40 with desc := some (0, 2 ^ 32), moved := 1, out := [1] }, [1], 40, 0, by decide +kernel⟩⟩

/-- A state and operands for the hypotheses of each claim of RingCommands, and of each of its cases. -/
theorem test_witness_RingCommands :
    (∃ (s : State) (r : Fin 256), s.on (F.RING_CTL_EN.i r) = true)
    ∧ (∃ (s : State) (r : Fin 256) (v : Word), s.on (F.RING_CTL_EN.i r) = false ∧ ((((s.put (F.RING_CTL_STREAM.i r) (bits v.toNat 1 1)).when
        (decide (64 ≤ r.val)) fun t => t.put (F.RING_CTL_C3.i r) (bits v.toNat 2 1)).when (decide (2 ≤ bits v.toNat 8 4 ∧ bits v.toNat 8 4 ≤
        12)) fun t => t.put (F.RING_CTL_SIZE.i r) (bits v.toNat 8 4)).enableCheck r).1 ≠ 0 ∧ LogRoom 1 s)
    ∧ (∃ (s : State) (r : Fin 256), s.ringState r ∉ [1, 2, 3])
    ∧ (∃ (s : State) (r : Fin 256), s.ringState r = 0)
    ∧ (∃ (s : State) (r : Fin 256), s.ringState r ≠ 4)
    ∧ (∃ (s : State) (r : Fin 256), s.ringState r ∉ [0, 4])
    ∧ (∃ (s : State) (r : Fin 256) (v : Word), s.on (F.RING_CTL_EN.i r) = false ∧ ((((s.put (F.RING_CTL_STREAM.i r) (bits v.toNat 1 1)).when
        (decide (64 ≤ r.val)) fun t => t.put (F.RING_CTL_C3.i r) (bits v.toNat 2 1)).when (decide (2 ≤ bits v.toNat 8 4 ∧ bits v.toNat 8 4 ≤
        12)) fun t => t.put (F.RING_CTL_SIZE.i r) (bits v.toNat 8 4)).enableCheck r).1 = 0 ∧ 2 ≤ bits v.toNat 8 4 ∧ bits v.toNat 8 4 ≤ 12)
    ∧ (∃ (s : State) (r : Fin 256), s.ringState r ∈ [1, 2, 3] ∧ s.ringState r ≠ 1)
    ∧ (∃ (s : State) (r : Fin 256), s.ringState r ∈ [1, 2, 3] ∧ (s.ring r).desc = none ∧ (s.ring r).inbox = [] ∧ LogRoom 1 s)
    ∧ (∃ (s : State) (r : Fin 256), s.ringState r = 4)
    ∧ (∃ (s : State) (r : Fin 256) (k : Nat) (d : Nat), 32 ≤ r.val ∧ s.ringState r ∈ [1, 2, 3] ∧ (s.ring r).desc = some (k, d) ∧ (s.ring r).inbox =
        [] ∧ (s.descAddr r k) % 32 = 0 ∧ sramOf (s.descAddr r k) = some .app ∧ s.boot.standby = false)
    ∧ (∃ (s : State) (r : Fin 256), s.ringState r = 4)
    ∧ (∃ (s : State) (r : Fin 256), s.ringState r ∈ [0, 4]) :=
  ⟨⟨on0.puts [(F.RING_CTL_EN.i 40, 1)], 40, by decide +kernel⟩,
   ⟨on0, 40, 0, by unfold LogRoom; decide +kernel⟩,
   ⟨on0, 40, by decide +kernel⟩,
   ⟨on0, 40, by decide +kernel⟩,
   ⟨on0, 40, by decide +kernel⟩,
   ⟨on0.puts [(F.RING_STAT_STATE.i 40, 2)], 40, by decide +kernel⟩,
   ⟨(on0.setWord (F.RING_BASE_A.i 40).addr 0x20000000).puts [(F.GPM_RINGS_RXRING, 32), (F.GPM_RINGS_TXRING, 33), (F.CLU_RINGS_RXRING, 34),
     (F.CLU_RINGS_TXRING, 35), (F.AUD_CFG_RING, 36)], 40, 0x401, by decide +kernel⟩,
   ⟨on0.puts [(F.RING_STAT_STATE.i 40, 2)], 40, by decide +kernel⟩,
   ⟨(on0.puts [((F.RING_STAT_STATE.i (0 : Fin 256)), 1)]).setRing (0 : Fin 256) { State.reset.ring (0 : Fin 256) with desc := none, inbox := [] }, 0,
     by unfold LogRoom; decide +kernel⟩,
   ⟨on0.puts [((F.RING_STAT_STATE.i (0 : Fin 256)), 4)], 0, by decide +kernel⟩,
   ⟨((on0.setWord (F.RING_BASE_A.i 40).addr 0x20000000).puts [(F.RING_STAT_STATE.i 40, 1)]).setRing 40 { on0.ring 40 with desc := some (0, 2 ^ 33) }, 40, 0, 2 ^ 33,
     by decide +kernel⟩,
   ⟨on0.puts [((F.RING_STAT_STATE.i (0 : Fin 256)), 4)], 0, by decide +kernel⟩,
   ⟨on0.puts [((F.RING_STAT_STATE.i (0 : Fin 256)), 0)], 0, by decide +kernel⟩⟩

/-- A state and operands for the hypotheses of each claim of RingData, and of each of its cases. -/
theorem test_witness_RingData :
    (∃ (s : State) (r : Fin 256) (b : DmaArb), s.boot.legalRuns = true ∧ s.boot.powered = true ∧ (s.rings.all fun e => !e.2.portChanged) = true ∧
        s.arbitrate s.readyRings = some (r.val, b) ∧ (s.ring r).desc = none ∧ (s.ring r).kick = false ∧ sramOf (s.descAddr r (s.get
        (F.RING_HEAD_IDX.i r))) = some (ringDom r) ∧ sramOf ((s.descAddr r (s.get (F.RING_HEAD_IDX.i r))) + 16) = some (ringDom r) ∧
        s.sramTag (s.descAddr r (s.get (F.RING_HEAD_IDX.i r))) = ⟨0, false⟩ ∧ s.sramTag ((s.descAddr r (s.get (F.RING_HEAD_IDX.i r))) + 16)
        = ⟨0, false⟩ ∧ bit (s.memNat (s.descAddr r (s.get (F.RING_HEAD_IDX.i r))) 16) 0 = false)
    ∧ (∃ (s : State) (r : Fin 256) (a : DmaArb) (k : Nat) (d : Nat) (n : Nat) (src : Nat) (dst : Nat), s.boot.legalRuns = true ∧ s.boot.powered =
        true ∧ s.boot.standby = false ∧ (s.rings.all fun e => !e.2.portChanged) = true ∧ s.arbitrate s.readyRings = some (r.val, a) ∧ 32 ≤
        r.val ∧ s.ringPort r = 0 ∧ (s.ring r).desc = some (k, d) ∧ (s.ring r).fin = none ∧ (s.ring r).moved = 0 ∧ descLen d = n ∧ descSrc d
        = src ∧ descDst d = dst ∧ descXform d = 0 ∧ 1 ≤ n ∧ n ≤ 16 ∧ src % 16 = 0 ∧ dst % 16 = 0 ∧ src ≠ dst ∧ sramOf src = some .app ∧
        sramOf dst = some .app ∧ s.sramTag src = ⟨0, false⟩ ∧ s.sramTag dst = ⟨0, false⟩)
    ∧ (∃ (s : State) (r : Fin 256), s.on (F.RING_CTL_EN.i r) = true ∧ rxPort (s.ringPort r) = true ∧ s.ringPort r < 9 ∧ s.elemRoom r = true)
    ∧ (∃ (s : State) (r : Fin 256), s.on (F.RING_CTL_EN.i r) = true ∧ rxPort (s.ringPort r) = true ∧ s.ringPort r < 9 ∧ s.elemRoom r = false)
    ∧ (∃ (s : State), s.boot.legalRuns = false ∨ (s.boot.powered = false ∧ s.boot.pfail = false) ∨ ((s.rings.all fun e => !e.2.portChanged) = true ∧ s.readyRings = []))
    ∧ (∃ (s : State) (r : Fin 256) (b : DmaArb) (k d : Nat), s.boot.legalRuns = true ∧ s.boot.powered = true ∧ (s.rings.all fun e => !e.2.portChanged) = true ∧
        s.arbitrate s.readyRings = some (r.val, b) ∧ (s.ring r).desc = some (k, d) ∧ s.nextBurst r = some .back ∧ (s.ring r).inbox = [] ∧
        sramOf (s.descAddr r k + 16) = none ∧ LogRoom 1 s ∧ s.get (F.RING_WAIT_N.i r) = 0)
    ∧ (∃ (s : State) (r : Fin 256), (s.ring r).posted = false)
    ∧ (∃ (s : State) (r : Fin 256) (cause : BitVec 3), (s.ring r).posted = true ∧ s.ringState r ∈ [1, 2, 3] ∧ (s.ring r).inbox = [] ∧ cause ∈ [1#3, 2#3, 3#3]
        ∧ LogRoom 1 s) :=
  ⟨⟨((on0.setWord (F.RING_BASE_A.i 40).addr 0x20000000).puts [(F.RING_CTL_EN.i 40, 1), (F.RING_STAT_STATE.i 40, 2), (F.RING_CTL_SIZE.i 40, 4)]), 40,
     { grants := [1], last := [none, some 40, none, none] }, by decide +kernel⟩,
   ⟨((on0.setWord (F.RING_BASE_A.i 40).addr 0x20000000).puts [(F.RING_CTL_EN.i 40, 1), (F.RING_STAT_STATE.i 40, 2), (F.RING_CTL_SIZE.i 40, 4)]).setRing
     40 { on0.ring 40 with desc := some (0, 2 ^ 36 + 2 ^ 64 * 0x20000100 + 2 ^ 128 * 0x20000200) }, 40,
     { grants := [1], last := [none, some 40, none, none] }, 0, (2 ^ 36 + 2 ^ 64 * 0x20000100 + 2 ^ 128 * 0x20000200), 16, 0x20000100, 0x20000200,
     by decide +kernel⟩,
   ⟨(on0.puts [(F.RING_CTL_EN.i 40, 1), (F.RING_STAT_PORT.i 40, 2), (F.RING_STAT_STATE.i 40, 1)]).setRing 40
     { on0.ring 40 with desc := some (0, 2 ^ 40) }, 40, by decide +kernel⟩,
   ⟨on0.puts [(F.RING_CTL_EN.i 40, 1), (F.RING_STAT_PORT.i 40, 2), (F.RING_STAT_STATE.i 40, 1)], 40, by decide +kernel⟩,
   ⟨on0, by decide +kernel⟩,
   ⟨(on0.puts [(F.RING_CTL_EN.i 40, 1), (F.RING_STAT_STATE.i 40, 2)]).setRing 40 { on0.ring 40 with desc := some (0, 1) }, 40,
     { grants := [1], last := [none, some 40, none, none] }, 0, 1, by unfold LogRoom; decide +kernel⟩,
   ⟨on0, 40, by decide +kernel⟩,
   ⟨(on0.puts [(F.RING_STAT_STATE.i 40, 1)]).setRing 40 { on0.ring 40 with posted := true }, 40, 1, by unfold LogRoom; decide +kernel⟩⟩

/-- A state and operands for the hypotheses of each claim of LinkPatterns, and of each of its cases. -/
theorem test_witness_LinkPatterns :
    (∃ (s : State) (page : Word) (v : Word), patWrite (page.toNat) v.toNat ∧ patOpen s (page.toNat) ∧ s.on (F.PAT_CTL_GEN.on (page.toNat)) =
        false ∧ bit v.toNat 1 = s.chkOn (page.toNat) ∧ LogRoom 2 s ∧ ((s.patFields (page.toNat) v.toNat).genBlocked (page.toNat) (bits
        v.toNat 7 2)).isNone = true)
    ∧ (∃ (s : State) (n : Fin 4) (v : Word), patWrite (Page.U n) v.toNat ∧ s.on (F.PAT_CTL_GEN.on (Page.U n)) = false ∧ bit v.toNat 1 =
        s.chkOn (Page.U n) ∧ s.on (F.U_CTL_EN.i n) = true ∧ LogRoom 2 s ∧ (s.uart n).cur = none ∧ (s.uart n).brkNow = false ∧ s.txMay n = true)
    ∧ (∃ (s : State) (page : Word), linkPage page.toNat = true ∧ patOpen s page.toNat ∧ s.on (F.PAT_CTL_GEN.on page.toNat) = true
        ∧ s.genOn page.toNat = true ∧ s.on (F.PAT_STAT_LOOPON.on page.toNat) = false ∧ headOf page.toNat = some 0)
    ∧ (∃ (s : State) (page : Word), linkPage page.toNat = true ∧ patOpen s page.toNat ∧ s.on (F.PAT_CTL_GEN.on page.toNat) = true
        ∧ headOf page.toNat = none)
    ∧ (∃ (s : State) (page : Word) (v : Word), patWrite (page.toNat) v.toNat ∧ patOpen s (page.toNat) ∧ s.chkOn (page.toNat) = false ∧ bit v.toNat
        0 = s.on (F.PAT_CTL_GEN.on (page.toNat)))
    ∧ (∃ (s : State) (page : Word), linkPage page.toNat = true)
    ∧ (∃ (s : State) (page : Nat) (lane : Fin 3) (rx : Bool) (n k : Nat) (i : Bool), patInfo (s.get (F.PAT_CTL_PATTERN.on page)) = some (n, k, i)
        ∧ linkPage page = true ∧ (s.pat page).lanes.length = 3 ∧ n ≤ ((s.pat page).lanes.getD lane.val {}).load
        ∧ ((s.pat page).lanes.getD lane.val {}).sync = false ∧ ((s.pat page).lanes.getD lane.val {}).good = 63
        ∧ patNext n k ((s.pat page).lanes.getD lane.val {}).reg = (rx != s.patInv page))
    ∧ (∃ (s : State) (page : Nat) (lane : Fin 3) (rx : Bool) (n k : Nat) (i : Bool), patInfo (s.get (F.PAT_CTL_PATTERN.on page)) = some (n, k, i)
        ∧ linkPage page = true ∧ (s.pat page).lanes.length = 3 ∧ n ≤ ((s.pat page).lanes.getD lane.val {}).load
        ∧ ((s.pat page).lanes.getD lane.val {}).sync = true ∧ 15 ≤ (((s.pat page).lanes.getD lane.val {}).wrong.take 63).count true
        ∧ patNext n k ((s.pat page).lanes.getD lane.val {}).reg ≠ (rx != s.patInv page) ∧ LogRoom 1 s) :=
  ⟨⟨on0.puts [(F.U_CTL_EN.i 0, 1)], (BitVec.ofNat 32 (Page.U 0)), 5, by unfold LogRoom patWrite patOpen; decide +kernel⟩,
   ⟨on0.puts [(F.U_CTL_EN.i 0, 1), (F.U_CTL_TXEN.i 0, 1)], 0, 5, by unfold LogRoom patWrite; decide +kernel⟩,
   ⟨on0.puts [(F.PAT_CTL_GEN.on (Page.HEAD 0), 1), (F.PAT_STAT_GENON.on (Page.HEAD 0), 1)], (BitVec.ofNat 32 (Page.HEAD 0)), by unfold patOpen; decide +kernel⟩,
   ⟨on0.puts [(F.PAT_CTL_GEN.on (Page.U 0), 1)], (BitVec.ofNat 32 (Page.U 0)), by unfold patOpen; decide +kernel⟩,
   ⟨on0, (BitVec.ofNat 32 (Page.U 0)), 6, by unfold patWrite patOpen; decide +kernel⟩,
   ⟨on0, (BitVec.ofNat 32 (Page.U 0)), by decide +kernel⟩,
   ⟨(on0.puts [(F.PAT_CTL_PATTERN.on (Page.U 0), 1)]).setPat (Page.U 0) { lanes := List.replicate 3 { load := 9, reg := 0, good := 63 } }, Page.U 0, 0, false,
     9, 5, false, by decide +kernel⟩,
   ⟨(on0.puts [(F.PAT_CTL_PATTERN.on (Page.U 0), 1)]).setPat (Page.U 0)
     { lanes := List.replicate 3 { load := 9, reg := 0, sync := true, wrong := List.replicate 15 true } }, Page.U 0, 0, true, 9, 5, false,
     by unfold LogRoom; decide +kernel⟩⟩

/-- A state and operands for the hypotheses of each claim of Uarts, and of each of its cases. -/
theorem test_witness_Uarts :
    (∃ (s : State) (n : Fin 4) (data : BitVec 8) (fe : Bool) (pe : Bool) (brk : Bool), s.uartOn n = true ∧ s.on (F.U_CTL_RXEN.i n) = true ∧
        s.loopOf (Page.U n) ≠ 1 ∧ s.chkOn (Page.U n) = false ∧ (rs485 n = false ∨ s.on (F.U_STAT_DE.i n) = false ∨ s.on (F.U_RS485_ECHO.i n)
        = true) ∧ LogRoom 2 s ∧ s.uartSize n ≤ (s.uart n).rxq.length ∧ (s.uart n).ovwRun = false ∧ brk = true)
    ∧ (∃ (s : State) (n : Fin 4) (at_ : Nat), s.uartOn n = true ∧ s.get (F.U_TRIG_IDLEG.i n) ≠ 0 ∧ (s.uart n).rxAt = some at_
        ∧ Claims.gapAt s n at_ ≤ 192 * s.angle.now)
    ∧ (∃ (s : State) (n : Fin 4), (s.uart n).cur = none ∧ (s.uart n).brkNow = false)
    ∧ (∃ (s : State) (n : Fin 4), ((s.uart n).cur.isSome = true ∨ (s.uart n).brkNow = true) ∧ 192 * s.angle.now < (s.uart n).lineEnd)
    ∧ (∃ (s : State) (n : Fin 4), (s.uart n).rxAt = none ∨ s.uartOn n = false ∨ s.get (F.U_TRIG_IDLEG.i n) = 0)
    ∧ (∃ (s : State) (n : Fin 4) (at_ : Nat), (s.uart n).rxAt = some at_ ∧ s.uartOn n = true ∧ s.get (F.U_TRIG_IDLEG.i n) ≠ 0
        ∧ 192 * s.angle.now < Claims.gapAt s n at_)
    ∧ (∃ (s : State) (n : Fin 4), s.driverIdle n = false)
    ∧ (∃ (s : State) (n : Fin 4), s.driverIdle n = true ∧ 192 * s.angle.now < (s.uart n).lineEnd + s.get (F.U_RS485_DEPOST.i n) * s.get (F.U_BAUD_BRD.i n))
    ∧ (∃ (s : State) (n : Fin 4) (back : BitVec 8), rs485 n = true ∧ (s.uart n).cur.isSome = true ∧ (s.uart n).cur ≠ some (back.toNat % 2 ^ s.charBits n)
        ∧ s.on (F.U_STAT_DE.i n) = true ∧ (s.uart n).lineEnd ≤ 192 * s.angle.now ∧ s.genOn (Page.U n) = false ∧ s.loopOf (Page.U n) ≠ 1 ∧ LogRoom 1 s
        ∧ (s.uart n).collRun = false ∧ s.on (F.U_RS485_CDSTOP.i n) = true)
    ∧ (∃ (s : State) (n : Fin 4) (back : BitVec 8), rs485 n = true ∧ (s.uart n).cur.isSome = true ∧ (s.uart n).cur ≠ some (back.toNat % 2 ^ s.charBits n)
        ∧ s.on (F.U_STAT_DE.i n) = true ∧ (s.uart n).lineEnd ≤ 192 * s.angle.now ∧ s.genOn (Page.U n) = false ∧ s.loopOf (Page.U n) ≠ 1 ∧ LogRoom 1 s
        ∧ s.on (F.U_RS485_CDSTOP.i n) = false)
    ∧ (∃ (s : State) (n : Fin 4), (decide (s.uartSize n ≤ (s.uart n).txq.length) || s.on (F.U_RINGS_TXR.i n) || s.on (F.U_STAT_TXHOLD.i n) ||
        s.genOn (Page.U n)) = true)
    ∧ (∃ (s : State) (n : Fin 4), (decide (s.uartSize n ≤ (s.uart n).txq.length) || s.on (F.U_RINGS_TXR.i n) || s.on (F.U_STAT_TXHOLD.i n) ||
        s.genOn (Page.U n)) = false ∧ ((s.uart n).cur.isSome = true ∨ (s.uart n).brkNow = true ∨ s.txMay n = false))
    ∧ (∃ (s : State) (n : Fin 4), (decide (s.uartSize n ≤ (s.uart n).txq.length) || s.on (F.U_RINGS_TXR.i n) || s.on (F.U_STAT_TXHOLD.i n) ||
        s.genOn (Page.U n)) = false ∧ (s.uart n).cur = none ∧ (s.uart n).brkNow = false ∧ s.txMay n = true ∧ (s.uart n).txq = [] ∧ s.on
        (F.U_FLOW_CTSEN.i n) = false ∧ (s.uart n).lineEnd ≤ 192 * s.angle.now)
    ∧ (∃ (s : State) (n : Fin 4) (back : BitVec 8), (s.uart n).cur.isSome = true ∧ (s.uart n).lineEnd ≤ 192 * s.angle.now ∧ s.genOn (Page.U n) = false
        ∧ s.loopOf (Page.U n) ≠ 1 ∧ (s.on (F.U_STAT_DE.i n) = false ∨ rs485 n = false ∨ (s.uart n).cur = some (back.toNat % 2 ^ s.charBits n))
        ∧ (s.uart n).txq = [] ∧ (s.uart n).brkDue = false)
    ∧ (∃ (s : State) (n : Fin 4) (back : BitVec 8), (s.uart n).cur.isSome = true ∧ (s.uart n).lineEnd ≤ 192 * s.angle.now ∧ s.genOn (Page.U n) = false
        ∧ s.loopOf (Page.U n) ≠ 1 ∧ (s.on (F.U_STAT_DE.i n) = false ∨ rs485 n = false ∨ (s.uart n).cur = some (back.toNat % 2 ^ s.charBits n))
        ∧ s.txMay n = true ∧ s.on (F.U_FLOW_CTSEN.i n) = false)
    ∧ (∃ (s : State) (n : Fin 4), (s.uart n).cur = none ∧ (s.uart n).brkNow = false ∧ s.txMay n = true ∧ s.genOn (Page.U n) = false ∧ (s.uart
        n).txq = [])
    ∧ (∃ (s : State) (n : Fin 4), (s.uart n).cur.isSome = true ∨ s.txMay n = false)
    ∧ (∃ (s : State) (tx : Bool), tx = false)
    ∧ (∃ (s : State) (tx : Bool), tx = true)
    ∧ (∃ (s : State) (n : Fin 4), rs485 n = true ∧ s.on (F.U_STAT_DE.i n) = true ∧ (s.uart n).txq = [] ∧ (s.uart n).cur = none
        ∧ (s.uart n).brkNow = false ∧ s.genOn (Page.U n) = false
        ∧ (s.uart n).lineEnd + s.get (F.U_RS485_DEPOST.i n) * s.get (F.U_BAUD_BRD.i n) ≤ 192 * s.angle.now)
    ∧ (∃ (s : State) (n : Fin 4), rs485 n = false ∨ s.on (F.U_STAT_DE.i n) = false)
    ∧ (∃ (s : State) (n : Fin 4), rs485 n = true ∧ s.on (F.U_STAT_DE.i n) = true ∧ LogRoom 1 s)
    ∧ (∃ (s : State) (n : Fin 4) (ready : Bool), rs485 n = false ∧ ready = true ∧ s.txMay n = true ∧ (s.uart n).cur = none ∧ (s.uart n).brkNow =
        false ∧ s.genOn (Page.U n) = false) :=
  ⟨⟨(on0.puts [(F.U_CTL_EN.i 0, 1), (F.U_CTL_RXEN.i 0, 1)]).setUart (0 : Fin 4) { on0.uart (0 : Fin 4) with rxq := List.replicate 16 0 }, 0, 0, false,
     false, true, by unfold LogRoom; decide +kernel⟩,
   ⟨late16 ((on0.puts [((F.U_CTL_EN.i (0 : Fin 4)), 1), ((F.U_TRIG_IDLEG.i (0 : Fin 4)), 1)]).setUart (0 : Fin 4) { on0.uart (0 : Fin 4) with rxAt := some 0 }),
     0, 0, by decide +kernel⟩,
   ⟨on0, 0, by decide +kernel⟩,
   ⟨on0.setUart (0 : Fin 4) { on0.uart (0 : Fin 4) with cur := some 0, lineEnd := 2 ^ 40 }, 0, by decide +kernel⟩,
   ⟨on0, 0, by decide +kernel⟩,
   ⟨(on0.puts [((F.U_CTL_EN.i (0 : Fin 4)), 1), ((F.U_TRIG_IDLEG.i (0 : Fin 4)), 1)]).setUart (0 : Fin 4) { on0.uart (0 : Fin 4) with rxAt := some (2 ^ 40) },
     0, 2 ^ 40, by decide +kernel⟩,
   ⟨on0, 0, by decide +kernel⟩,
   ⟨(on0.puts [((F.U_STAT_DE.i (2 : Fin 4)), 1)]).setUart (2 : Fin 4) { on0.uart (2 : Fin 4) with lineEnd := 2 ^ 40 }, 2, by decide +kernel⟩,
   ⟨(on0.puts [((F.U_STAT_DE.i (2 : Fin 4)), 1), ((F.U_RS485_CDSTOP.i (2 : Fin 4)), 1)]).setUart (2 : Fin 4) { on0.uart (2 : Fin 4) with cur := some 1 }, 2, 0,
     by unfold LogRoom; decide +kernel⟩,
   ⟨(on0.puts [((F.U_STAT_DE.i (2 : Fin 4)), 1)]).setUart (2 : Fin 4) { on0.uart (2 : Fin 4) with cur := some 1 }, 2, 0,
     by unfold LogRoom; decide +kernel⟩,
   ⟨on0.puts [((F.U_STAT_TXHOLD.i 0), 1)], 0, by decide +kernel⟩,
   ⟨on0, 0, by decide +kernel⟩,
   ⟨(on0.puts [((F.U_FLOW_CTSEN.i (0 : Fin 4)), 0), ((F.U_CTL_EN.i 0), 1), ((F.U_CTL_TXEN.i 0), 1)]).setUart (0 : Fin 4)
     { State.reset.uart (0 : Fin 4) with cur := none, brkNow := false, txq := [] }, 0, by decide +kernel⟩,
   ⟨(on0.puts [((F.U_STAT_DE.i (0 : Fin 4)), 0)]).setUart (0 : Fin 4) { State.reset.uart (0 : Fin 4) with cur := some 0, txq := [], brkDue := false }, 0, 0,
     by decide +kernel⟩,
   ⟨(on0.puts [((F.U_STAT_DE.i (0 : Fin 4)), 0), ((F.U_FLOW_CTSEN.i (0 : Fin 4)), 0), ((F.U_CTL_EN.i 0), 1), ((F.U_CTL_TXEN.i 0), 1)]).setUart (0 : Fin
     4) { State.reset.uart (0 : Fin 4) with cur := some 0 }, 0, 0, by decide +kernel⟩,
   ⟨(on0.puts [((F.U_CTL_EN.i 0), 1), ((F.U_CTL_TXEN.i 0), 1)]).setUart (0 : Fin 4)
     { State.reset.uart (0 : Fin 4) with cur := none, brkNow := false, txq := [] }, 0, by decide +kernel⟩,
   ⟨on0, 0, by decide +kernel⟩,
   ⟨on0, false, by decide +kernel⟩,
   ⟨on0, true, by decide +kernel⟩,
   ⟨late16 (on0.puts [((F.U_STAT_DE.i (2 : Fin 4)), 1)]), 2, by decide +kernel⟩,
   ⟨on0, 0, by decide +kernel⟩,
   ⟨on0.puts [((F.U_STAT_DE.i (2 : Fin 4)), 1)], 2, by unfold LogRoom; decide +kernel⟩,
   ⟨(on0.puts [((F.U_CTL_EN.i 0), 1), ((F.U_CTL_TXEN.i 0), 1)]).setUart (0 : Fin 4) { State.reset.uart (0 : Fin 4) with cur := none, brkNow := false },
     0, true, by decide +kernel⟩⟩

/-- A state and operands for the hypotheses of each claim of TwoWireController, and of each of its cases. -/
theorem test_witness_TwoWireController :
    (∃ (s : State) (n : Fin 2) (v : Word), s.on (F.TW_XFER_GO.i n) = false ∧ bit v.toNat 21 = true ∧ ¬ (bit v.toNat 11 = true ∧ bits v.toNat 12 8
        = 0) ∧ s.twOn n = true ∧ s.on (F.TW_CTL_CTLEN.i n) = true ∧ (s.tw n).target = 0 ∧ (s.tw n).phase = 0 ∧ s.genOn (Page.TW n) = false ∧
        (s.tw n).free = true)
    ∧ (∃ (s : State) (n : Fin 2), s.twOn n = true ∧ (s.tw n).phase ≠ 1)
    ∧ (∃ (s : State) (n : Fin 2), s.twOn n = true ∧ (s.tw n).phase = 1)
    ∧ (∃ (s : State) (n : Fin 2), s.twOn n = true ∧ s.twHold n = false ∧ s.genOn (Page.TW n) = false ∧ (s.tw n).phase = 3 ∧ s.on (F.TW_XFER_READ.i
        n) = true ∧ (s.tw n).count + 1 < s.get (F.TW_XFER_LEN.i n))
    ∧ (∃ (s : State) (n : Fin 2), s.twOn n = true ∧ s.twHold n = false ∧ s.genOn (Page.TW n) = false ∧ (s.tw n).phase = 2)
    ∧ (∃ (s : State) (n : Fin 2), s.twOn n = true ∧ s.twHold n = false ∧ s.genOn (Page.TW n) = false ∧ (s.tw n).phase = 3
        ∧ s.on (F.TW_XFER_READ.i n) = false ∧ decide (s.get (F.TW_XFER_LEN.i n) ≤ (s.tw n).count + 1) = true)
    ∧ (∃ (s : State) (n : Fin 2), s.twOn n = true ∧ s.twHold n = false ∧ s.genOn (Page.TW n) = false ∧ (s.tw n).phase = 3
        ∧ s.on (F.TW_XFER_READ.i n) = false ∧ decide (s.get (F.TW_XFER_LEN.i n) ≤ (s.tw n).count + 1) = false ∧ (s.tw n).txq ≠ [])
    ∧ (∃ (s : State) (n : Fin 2), ((s.tw n).phase = 2 ∨ (s.tw n).phase = 3) ∧ s.on (F.TW_CTL_TGTEN.i n) = false ∧ (s.tw n).retries < s.get
        (F.TW_CFG_RETRY.i n))
    ∧ (∃ (s : State) (n : Fin 2), ((s.tw n).phase = 2 ∨ (s.tw n).phase = 3) ∧ s.on (F.TW_CTL_TGTEN.i n) = false ∧ s.get (F.TW_CFG_RETRY.i n) ≤ (s.tw
        n).retries)
    ∧ (∃ (s : State) (n : Fin 2), s.twOn n = false ∨ s.on (F.TW_XFER_GO.i n) = true)
    ∧ (∃ (s : State) (n : Fin 2), s.twOn n = true ∧ s.on (F.TW_XFER_GO.i n) = false ∧ (s.tw n).target < 3 ∧ LogRoom 1 s)
    ∧ (∃ (s : State) (n : Fin 2), s.on (F.TW_XFER_GO.i n) = true)
    ∧ (∃ (s : State) (n : Fin 2), s.twOn n = true ∧ s.on (F.TW_XFER_GO.i n) = true)
    ∧ (∃ (s : State) (n : Fin 2), (s.on (F.TW_RINGS_RXR.i n) || (s.tw n).rxq.isEmpty) = true)
    ∧ (∃ (s : State) (n : Fin 2), (s.on (F.TW_RINGS_RXR.i n) || (s.tw n).rxq.isEmpty) = false ∧ s.twHold n = false)
    ∧ (∃ (s : State) (n : Fin 2), (decide (32 ≤ (s.tw n).txq.length) || s.on (F.TW_RINGS_TXR.i n) || s.genOn (Page.TW n)) = true)
    ∧ (∃ (s : State) (n : Fin 2), (decide (32 ≤ (s.tw n).txq.length) || s.on (F.TW_RINGS_TXR.i n) || s.genOn (Page.TW n)) = false ∧ s.twHold n =
        false) :=
  ⟨⟨(on0.puts [((F.TW_XFER_GO.i (0 : Fin 2)), 0), ((F.TW_CTL_EN.i (0 : Fin 2)), 1), ((F.TW_CTL_CTLEN.i (0 : Fin 2)), 1)]).setTw (0 : Fin 2)
     { State.reset.tw (0 : Fin 2) with target := 0, phase := 0, free := true }, 0, 0x00200000, by decide +kernel⟩,
   ⟨on0.puts [((F.TW_CTL_EN.i (0 : Fin 2)), 1)], 0, by decide +kernel⟩,
   ⟨(on0.puts [((F.TW_CTL_EN.i (0 : Fin 2)), 1)]).setTw (0 : Fin 2) { State.reset.tw (0 : Fin 2) with phase := 1 }, 0, by decide +kernel⟩,
   ⟨(on0.puts [((F.TW_CTL_EN.i (0 : Fin 2)), 1), ((F.TW_XFER_READ.i (0 : Fin 2)), 1), ((F.TW_XFER_LEN.i (0 : Fin 2)), 2)]).setTw (0 : Fin 2)
     { State.reset.tw (0 : Fin 2) with phase := 3 }, 0, by decide +kernel⟩,
   ⟨(on0.puts [((F.TW_CTL_EN.i (0 : Fin 2)), 1)]).setTw (0 : Fin 2) { State.reset.tw (0 : Fin 2) with phase := 2 }, 0, by decide +kernel⟩,
   ⟨(on0.puts [((F.TW_CTL_EN.i (0 : Fin 2)), 1), ((F.TW_XFER_LEN.i (0 : Fin 2)), 1)]).setTw (0 : Fin 2) { on0.tw (0 : Fin 2) with phase := 3 }, 0,
     by decide +kernel⟩,
   ⟨(on0.puts [((F.TW_CTL_EN.i (0 : Fin 2)), 1), ((F.TW_XFER_LEN.i (0 : Fin 2)), 2)]).setTw (0 : Fin 2) { on0.tw (0 : Fin 2) with phase := 3, txq := [7] }, 0,
     by decide +kernel⟩,
   ⟨(on0.puts [(F.TW_CFG_RETRY.i (0 : Fin 2), 1)]).setTw (0 : Fin 2) { on0.tw (0 : Fin 2) with phase := 2 }, 0, by decide +kernel⟩,
   ⟨(on0.puts [(F.TW_CFG_RETRY.i (0 : Fin 2), 0)]).setTw (0 : Fin 2) { on0.tw (0 : Fin 2) with phase := 3 }, 0, by decide +kernel⟩,
   ⟨on0, 0, by decide +kernel⟩,
   ⟨on0.puts [((F.TW_CTL_EN.i (0 : Fin 2)), 1), ((F.TW_XFER_GO.i (0 : Fin 2)), 0)], 0, by unfold LogRoom; decide +kernel⟩,
   ⟨on0.puts [((F.TW_XFER_GO.i (0 : Fin 2)), 1)], 0, by decide +kernel⟩,
   ⟨on0.puts [((F.TW_CTL_EN.i (0 : Fin 2)), 1), ((F.TW_XFER_GO.i (0 : Fin 2)), 1)], 0, by decide +kernel⟩,
   ⟨on0, 0, by decide +kernel⟩,
   ⟨on0.setTw (0 : Fin 2) { on0.tw (0 : Fin 2) with rxq := [7] }, 0, by decide +kernel⟩,
   ⟨on0.puts [((F.TW_RINGS_TXR.i (0 : Fin 2)), 1)], 0, by decide +kernel⟩,
   ⟨on0, 0, by decide +kernel⟩⟩

/-- A state and operands for the hypotheses of each claim of TwoWireTarget, and of each of its cases. -/
theorem test_witness_TwoWireTarget :
    (∃ (s : State) (n : Fin 2), s.twOn n = true ∧ (s.tw n).phase ∉ [2, 3, 4])
    ∧ (∃ (s : State) (n : Fin 2) (data : BitVec 8), s.twOn n = true ∧ s.twHold n = false ∧ s.genOn (Page.TW n) = false ∧ (s.tw n).phase = 0 ∧ (s.tw
        n).target = 1 ∧ s.on (F.TW_OWNADDR_TEN10.i n) = false ∧ data ≠ 0 ∧ bit data.toNat 0 = false ∧ data.toNat / 2 = s.get
        (F.TW_OWNADDR_ADDR.i n) % 128)
    ∧ (∃ (s : State) (n : Fin 2), s.twOn n = true ∧ s.twHold n = false ∧ s.genOn (Page.TW n) = false ∧ s.chkOn (Page.TW n) = false ∧ (s.tw n).phase = 0
        ∧ (s.tw n).target = 3 ∧ LogRoom 1 s ∧ decide ((s.tw n).rxq.length < 32) = true)
    ∧ (∃ (s : State) (n : Fin 2), s.twOn n = true ∧ s.twHold n = false ∧ s.genOn (Page.TW n) = false ∧ s.chkOn (Page.TW n) = false ∧ (s.tw n).phase = 0
        ∧ (s.tw n).target = 3 ∧ LogRoom 1 s ∧ decide ((s.tw n).rxq.length < 32) = false ∧ s.on (F.TW_CFG_STRETCH.i n) = true)
    ∧ (∃ (s : State) (n : Fin 2), s.twOn n = true ∧ s.twHold n = false ∧ s.genOn (Page.TW n) = false ∧ s.chkOn (Page.TW n) = false ∧ (s.tw n).phase = 0
        ∧ (s.tw n).target = 3 ∧ LogRoom 1 s ∧ decide ((s.tw n).rxq.length < 32) = false ∧ s.on (F.TW_CFG_STRETCH.i n) = false ∧ (s.tw n).subRun = false)
    ∧ (∃ (s : State) (n : Fin 2), s.twOn n = true ∧ s.twHold n = false ∧ s.genOn (Page.TW n) = false ∧ (s.tw n).phase = 0 ∧ (s.tw n).target = 4
        ∧ LogRoom 1 s ∧ (s.tw n).txq ≠ [])
    ∧ (∃ (s : State) (n : Fin 2), s.twOn n = true ∧ s.twHold n = false ∧ s.genOn (Page.TW n) = false ∧ (s.tw n).phase = 0 ∧ (s.tw n).target = 4
        ∧ LogRoom 1 s ∧ (s.tw n).txq = [] ∧ s.on (F.TW_CFG_STRETCH.i n) = false)
    ∧ (∃ (s : State) (n : Fin 2) (sampled : BitVec 8), (s.tw n).phase = 2 ∧ s.on (F.TW_CTL_TGTEN.i n) = true ∧ s.on (F.TW_XFER_TEN10.i n) = false
        ∧ s.on (F.TW_OWNADDR_TEN10.i n) = false ∧ sampled ≠ 0 ∧ sampled.toNat / 2 = s.get (F.TW_OWNADDR_ADDR.i n) % 128
        ∧ (s.tw n).retries < s.get (F.TW_CFG_RETRY.i n) ∧ LogRoom 3 s)
    ∧ (∃ (s : State) (n : Fin 2), s.twOn n = true ∧ (s.tw n).phase ∉ [2, 3, 4] ∧ 3 ≤ (s.tw n).target)
    ∧ (∃ (s : State) (n : Fin 2), s.twOn n = true ∧ s.twPart n = true ∧ LogRoom 1 s ∧ s.on (F.TW_XFER_GO.i n) = true)
    ∧ (∃ (s : State) (n : Fin 2) (busError : Bool), s.twOn n = true ∧ s.twPart n = true ∧ LogRoom 1 s ∧ busError = false) :=
  ⟨⟨on0.puts [((F.TW_CTL_EN.i (0 : Fin 2)), 1)], 0, by decide +kernel⟩,
   ⟨(on0.puts [((F.TW_CTL_EN.i (0 : Fin 2)), 1), ((F.TW_OWNADDR_TEN10.i (0 : Fin 2)), 0), ((F.TW_OWNADDR_ADDR.i (0 : Fin 2)), 0x2A)]).setTw (0 : Fin 2)
     { State.reset.tw (0 : Fin 2) with phase := 0, target := 1 }, 0, 0x54, by decide +kernel⟩,
   ⟨(on0.puts [((F.TW_CTL_EN.i (0 : Fin 2)), 1)]).setTw (0 : Fin 2) { on0.tw (0 : Fin 2) with target := 3 }, 0, by unfold LogRoom; decide +kernel⟩,
   ⟨(on0.puts [((F.TW_CTL_EN.i (0 : Fin 2)), 1)]).setTw (0 : Fin 2) { on0.tw (0 : Fin 2) with target := 3, rxq := List.replicate 32 0 }, 0,
     by unfold LogRoom; decide +kernel⟩,
   ⟨(on0.puts [((F.TW_CTL_EN.i (0 : Fin 2)), 1), ((F.TW_CFG_STRETCH.i (0 : Fin 2)), 0)]).setTw (0 : Fin 2)
     { on0.tw (0 : Fin 2) with target := 3, rxq := List.replicate 32 0 }, 0, by unfold LogRoom; decide +kernel⟩,
   ⟨(on0.puts [((F.TW_CTL_EN.i (0 : Fin 2)), 1)]).setTw (0 : Fin 2) { on0.tw (0 : Fin 2) with target := 4, txq := [1] }, 0,
     by unfold LogRoom; decide +kernel⟩,
   ⟨(on0.puts [((F.TW_CTL_EN.i (0 : Fin 2)), 1), ((F.TW_CFG_STRETCH.i (0 : Fin 2)), 0)]).setTw (0 : Fin 2) { on0.tw (0 : Fin 2) with target := 4 }, 0,
     by unfold LogRoom; decide +kernel⟩,
   ⟨(on0.puts [((F.TW_CTL_EN.i (0 : Fin 2)), 1), ((F.TW_CTL_TGTEN.i (0 : Fin 2)), 1), ((F.TW_OWNADDR_ADDR.i (0 : Fin 2)), 0x2A)]).setTw (0 : Fin 2)
     { on0.tw (0 : Fin 2) with phase := 2 }, 0, 0x54, by unfold LogRoom; decide +kernel⟩,
   ⟨(on0.puts [((F.TW_CTL_EN.i (0 : Fin 2)), 1)]).setTw (0 : Fin 2) { State.reset.tw (0 : Fin 2) with target := 3 }, 0, by decide +kernel⟩,
   ⟨(on0.puts [((F.TW_CTL_EN.i (0 : Fin 2)), 1), ((F.TW_XFER_GO.i (0 : Fin 2)), 1)]).setTw (0 : Fin 2) { State.reset.tw (0 : Fin 2) with target := 3 },
     0, by unfold LogRoom; decide +kernel⟩,
   ⟨(on0.puts [((F.TW_CTL_EN.i (0 : Fin 2)), 1)]).setTw (0 : Fin 2) { State.reset.tw (0 : Fin 2) with target := 3 }, 0, false,
     by unfold LogRoom; decide +kernel⟩⟩

/-- A state and operands for the hypotheses of each claim of EthernetPort, and of each of its cases. -/
theorem test_witness_EthernetPort :
    (∃ (s : State) (frame : List Byte) (fcsOk : Bool), s.ethOn = true ∧ s.on F.ETH_CTL_RXEN = true ∧ s.on F.ETH_STAT_LINK = true ∧
        s.loopOf Page.ETH = 0 ∧ s.chkOn Page.ETH = false ∧ s.pauses frame fcsOk = false ∧ s.ethAccepts (frameDest
        frame) = true ∧ s.ringFor 7 = none ∧ LogRoom 1 s ∧ (fcsOk = false ∨ (frame.length + 4 < 64 ∨ (if vlanTagged frame then 1522 else
        1518) < frame.length + 4) ∨ s.ringFor 7 = none))
    ∧ (∃ (s : State) (frame : List Byte) (fcsOk : Bool), (s.ethOn && s.on F.ETH_CTL_RXEN && s.on F.ETH_STAT_LINK) = false
        ∨ (s.ethAccepts (frameDest frame) = false ∧ s.pauses frame fcsOk = false))
    ∧ (∃ (s : State) (frame : List Byte), 64 ≤ frame.length + 4 ∧ frame.length + 4 ≤ 1518
        ∧ (frameDest frame = 0x010000C28001 ∨ frameDest frame = s.getW F.ETH_ADDR_ADDR) ∧ s.ethOn = true ∧ s.on F.ETH_CTL_RXEN = true ∧ s.on F.ETH_STAT_LINK = true ∧ s.loopOf Page.ETH =
        0 ∧ pauseFrame frame = true ∧ s.on F.ETH_CTL_PAUSEEN = true ∧ s.on F.ETH_STAT_FULL = true)
    ∧ (∃ (s : State), s.genOn Page.ETH = false ∧ (s.ethOn = false ∨ s.on F.ETH_CTL_TXEN = false ∨ s.on F.ETH_STAT_PAUSED = true ∨
        s.txFrame 8 = none))
    ∧ (∃ (s : State) (r : Fin 256) (k : Nat) (d : Nat), s.ethOn = true ∧ s.on F.ETH_CTL_TXEN = true ∧ s.on F.ETH_STAT_PAUSED = false ∧
        s.genOn Page.ETH = false ∧ (s.txFrame 8).isSome = true ∧ (s.txFrame 8).map (·.1) = some r.val ∧ (s.ring r).desc = some (k, d) ∧
        LogRoom 2 s ∧ s.on F.ETH_STAT_LINK = true)
    ∧ (∃ (s : State) (r : Fin 256) (k : Nat) (d : Nat) (sent : Bool), s.ethOn = true ∧ s.on F.ETH_CTL_TXEN = true ∧ s.on
        F.ETH_STAT_PAUSED = false ∧ s.genOn Page.ETH = false ∧ (s.txFrame 8).isSome = true ∧ (s.txFrame 8).map (·.1) = some r.val ∧ (s.ring
        r).desc = some (k, d) ∧ LogRoom 2 s ∧ ((s.on F.ETH_STAT_FULL || sent) && s.on F.ETH_STAT_LINK) = true)
    ∧ (∃ (s : State) (r : Fin 256) (k : Nat) (d : Nat) (sent : Bool), s.ethOn = true ∧ s.on F.ETH_CTL_TXEN = true ∧ s.on
        F.ETH_STAT_PAUSED = false ∧ s.genOn Page.ETH = false ∧ (s.txFrame 8).isSome = true ∧ (s.txFrame 8).map (·.1) = some r.val ∧ (s.ring
        r).desc = some (k, d) ∧ LogRoom 2 s ∧ ((s.on F.ETH_STAT_FULL || sent) && s.on F.ETH_STAT_LINK) = false)
    ∧ (∃ (s : State), s.ethOn = true ∧ s.on F.ETH_STAT_LINK = false ∧ LogRoom 1 s)
    ∧ (∃ (s : State), s.on F.ETH_STAT_LINK = true ∧ LogRoom 1 s ∧ s.get (F.FAULT_CODE.on Page.ETH) = 0)
    ∧ (∃ (s : State) (v : Word), LogRoom 1 s ∧ s.on F.ETH_CTL_EN = false ∧ (s.commitValue (s.ownerOf Page.ETH) F.ETH_ADDR_ADDR.addr 2 v.toNat % 2 ^
        48) ≠ s.getW F.ETH_ADDR_ADDR)
    ∧ (∃ (s : State), (s.put F.ETH_CTL_TXEN 0).txFrame 8 = none)
    ∧ (∃ (s : State), s.on F.ETH_CTL_EN = true ∧ s.on F.ETH_CTL_TXEN = true ∧ ((s.put F.ETH_CTL_TXEN 0).txFrame 8).isSome = true)
    ∧ (∃ (s : State), s.on F.ETH_STAT_PAUSED = false)
    ∧ (∃ (s : State), s.on F.ETH_STAT_PAUSED = true) :=
  ⟨⟨on0.puts [(F.ETH_CTL_EN, 1), (F.ETH_CTL_RXEN, 1), (F.ETH_STAT_LINK, 1), (F.ETH_CTL_PROMISC, 1)], [], false, by unfold LogRoom; decide +kernel⟩,
   ⟨on0, [], false, by decide +kernel⟩,
   ⟨on0.puts [(F.ETH_CTL_EN, 1), (F.ETH_CTL_RXEN, 1), (F.ETH_STAT_LINK, 1), (F.ETH_CTL_PAUSEEN, 1), (F.ETH_STAT_FULL, 1)], ([1, 0x80, 0xC2, 0, 0, 1]
     ++ List.replicate 6 0 ++ [0x88, 8, 0, 1] ++ List.replicate 44 0), by decide +kernel⟩,
   ⟨on0.puts [(F.ETH_CTL_EN, 0)], by decide +kernel⟩,
   ⟨(on0.puts [(F.ETH_CTL_EN, 1), (F.ETH_CTL_TXEN, 1), (F.ETH_STAT_LINK, 1), (F.RING_CTL_EN.i 0, 1), (F.RING_STAT_PORT.i 0, 8), (F.RING_STAT_STATE.i 0,
     1)]).setRing 0 { on0.ring 0 with desc := some (0, 2 ^ 32), moved := 1, out := [1] }, 0, 0, 2 ^ 32, by unfold LogRoom; decide +kernel⟩,
   ⟨(on0.puts [(F.ETH_CTL_EN, 1), (F.ETH_CTL_TXEN, 1), (F.ETH_STAT_LINK, 1), (F.RING_CTL_EN.i 0, 1), (F.RING_STAT_PORT.i 0, 8), (F.RING_STAT_STATE.i 0,
     1)]).setRing 0 { on0.ring 0 with desc := some (0, 2 ^ 32), moved := 1, out := [1] }, 0, 0, 2 ^ 32, true, by unfold LogRoom; decide +kernel⟩,
   ⟨(on0.puts [(F.ETH_CTL_EN, 1), (F.ETH_CTL_TXEN, 1), (F.ETH_STAT_LINK, 0), (F.RING_CTL_EN.i 0, 1), (F.RING_STAT_PORT.i 0, 8), (F.RING_STAT_STATE.i 0,
     1)]).setRing 0 { on0.ring 0 with desc := some (0, 2 ^ 32), moved := 1, out := [1] }, 0, 0, 2 ^ 32, true, by unfold LogRoom; decide +kernel⟩,
   ⟨on0.puts [(F.ETH_CTL_EN, 1), (F.ETH_STAT_LINK, 0)], by unfold LogRoom; decide +kernel⟩,
   ⟨on0.puts [(F.ETH_STAT_LINK, 1), ((F.FAULT_CODE.on Page.ETH), 0)], by unfold LogRoom; decide +kernel⟩,
   ⟨{ on0 with regs := [(F.ETH_ADDR_ADDR.addr, 1), (F.ETH_ADDR_ADDR.addr + 4, 0)] }, 5, by unfold LogRoom; decide +kernel⟩,
   ⟨on0, by decide +kernel⟩,
   ⟨(on0.puts [(F.ETH_CTL_EN, 1), (F.ETH_CTL_TXEN, 1), (F.ETH_STAT_LINK, 1), (F.RING_CTL_EN.i 0, 1), (F.RING_STAT_PORT.i 0, 8), (F.RING_STAT_STATE.i 0,
     1)]).setRing 0 { on0.ring 0 with desc := some (0, 2 ^ 32), moved := 1, out := [1] }, by decide +kernel⟩,
   ⟨on0, by decide +kernel⟩, ⟨on0.puts [(F.ETH_STAT_PAUSED, 1)], by decide +kernel⟩⟩

/-- A state and operands for the hypotheses of each claim of UpdateEngine, and of each of its cases. -/
theorem test_witness_UpdateEngine :
    (∃ (s : State) (c : Fin 5), s.on F.UPD_STAT_BUSY = true)
    ∧ (∃ (s : State) (m : List Byte), s.on F.UPD_STAT_BUSY = false ∧ s.updSource s.updSrc (s.get F.UPD_LEN_N) false = some m ∧ LogRoom 2 s ∧
        s.updState ≠ 0)
    ∧ (∃ (s : State) (m : List Byte), s.on F.UPD_STAT_BUSY = false ∧ s.updSource s.updSrc (s.get F.UPD_LEN_N) false = some m ∧ LogRoom 2 s ∧
        s.updState = 0 ∧ s.on F.UPD_STAT_PENDING = true)
    ∧ (∃ (s : State) (m : List Byte), s.on F.UPD_STAT_BUSY = false ∧ s.updSource s.updSrc (s.get F.UPD_LEN_N) false = some m ∧ LogRoom 2 s ∧
        s.updState = 0 ∧ s.on F.UPD_STAT_PENDING = false ∧ (s.openCheck m false) ≠ 1)
    ∧ (∃ (s : State) (m : List Byte), s.on F.UPD_STAT_BUSY = false ∧ s.updSource s.updSrc (s.get F.UPD_LEN_N) false = some m ∧ LogRoom 2 s ∧
        s.update.active ≤ 1)
    ∧ (∃ (s : State), s.update.asked = 0 ∧ (s.update.op ≠ 1 ∨ s.updState ≠ 1))
    ∧ (∃ (s : State) (err : Option Word), s.update.op = 1 ∧ s.updState = 1 ∧ s.update.asked = 0 ∧ LogRoom 2 s ∧ err.isSome = true)
    ∧ (∃ (s : State) (err : Option Word), s.update.op = 1 ∧ s.updState = 1 ∧ s.update.asked = 0 ∧ LogRoom 2 s ∧ err = none
        ∧ (manParts (s.bankManifest s.targetBank)).all (fun p => !p.keep) = true)
    ∧ (∃ (s : State) (l : List Byte), s.on F.UPD_STAT_BUSY = false ∧ s.updSource s.updSrc (s.get F.UPD_LEN_N) true = some l ∧ s.updState ≠ 2)
    ∧ (∃ (s : State) (l : List Byte), s.on F.UPD_STAT_BUSY = false ∧ s.updSource s.updSrc (s.get F.UPD_LEN_N) true = some l ∧ s.updState = 2 ∧
        (((manParts (s.bankManifest s.targetBank))[(s.get F.UPD_ARG_PART)]?).any fun p => decide (l.length ≠ 0) && decide (l.length ≤ 65536)
        && decide ((s.get F.UPD_OFS) = s.get (F.UPD_PART_BYTES.i (s.get F.UPD_ARG_PART))) && decide ((s.get F.UPD_OFS) + l.length ≤ p.size)
        && (p.type != 3 || l.length % 16 == 0 || (s.get F.UPD_OFS) + l.length == p.size)) = false)
    ∧ (∃ (s : State) (l : List Byte), s.on F.UPD_STAT_BUSY = false ∧ s.updSource s.updSrc (s.get F.UPD_LEN_N) true = some l ∧ s.updState = 2 ∧
        (((manParts (s.bankManifest s.targetBank))[(s.get F.UPD_ARG_PART)]?).any fun p => decide (l.length ≠ 0) && decide (l.length ≤ 65536)
        && decide ((s.get F.UPD_OFS) = s.get (F.UPD_PART_BYTES.i (s.get F.UPD_ARG_PART))) && decide ((s.get F.UPD_OFS) + l.length ≤ p.size)
        && (p.type != 3 || l.length % 16 == 0 || (s.get F.UPD_OFS) + l.length == p.size)) = true)
    ∧ (∃ (s : State) (err : Option Word), s.update.op = 2 ∧ s.updState = 2 ∧ s.update.asked = 0 ∧ (s.update.part) < 64 ∧ s.update.ofs +
        s.update.len < 2 ^ 28 ∧ LogRoom 2 s ∧ ((manParts (s.bankManifest s.targetBank))[(s.update.part)]?.any fun p => p.size ==
        s.update.ofs + s.update.len) = false ∧ err = none)
    ∧ (∃ (s : State) (err : Option Word), s.update.op = 2 ∧ s.updState = 2 ∧ s.update.asked = 0 ∧ (s.update.part) < 64 ∧ s.update.ofs +
        s.update.len < 2 ^ 28 ∧ LogRoom 2 s ∧ ((manParts (s.bankManifest s.targetBank))[(s.update.part)]?.any fun p => p.size ==
        s.update.ofs + s.update.len) = false ∧ err.isSome = true)
    ∧ (∃ (s : State) (err : Option Word), s.update.op = 2 ∧ s.updState = 2 ∧ s.update.asked = 0 ∧ (s.update.part) < 64 ∧ s.update.ofs +
        s.update.len < 2 ^ 28 ∧ LogRoom 2 s ∧ ((manParts (s.bankManifest s.targetBank))[(s.update.part)]?.any fun p => p.size ==
        s.update.ofs + s.update.len) = false ∧ err.isSome = true)
    ∧ (∃ (s : State) (p : PartEntry), s.update.op = 2 ∧ s.updState = 2 ∧ s.update.asked = 0
        ∧ (manParts (s.bankManifest s.targetBank))[s.update.part]? = some p ∧ s.update.part < 64 ∧ s.update.ofs + s.update.len = p.size ∧ LogRoom 1 s)
    ∧ (∃ (s : State), s.on F.UPD_STAT_BUSY = false ∧ (decide (s.updState = 2) && (List.range (manParts (s.bankManifest s.targetBank)).length).all
        (fun i => s.get (F.UPD_PART_ST.i i) == 2)) = true)
    ∧ (∃ (s : State), s.on F.UPD_STAT_BUSY = false ∧ (decide (s.updState = 2) && (List.range (manParts (s.bankManifest s.targetBank)).length).all
        (fun i => s.get (F.UPD_PART_ST.i i) == 2)) = false)
    ∧ (∃ (s : State) (err : Option Word), s.updState = 3 ∧ s.update.asked = 0 ∧ LogRoom 2 s ∧ (s.isMaster || s.isAdmitted) = false ∧ (err.or
        s.badPart).isSome = true)
    ∧ (∃ (s : State) (err : Option Word), s.updState = 3 ∧ s.update.asked = 0 ∧ LogRoom 2 s ∧ (s.isMaster || s.isAdmitted) = false ∧ (err.or
        s.badPart).isSome = true)
    ∧ (∃ (s : State), s.isMaster = false ∧ LogRoom 1 s ∧ (decide (1 ≤ s.updState ∧ s.updState ≤ 5)) = true)
    ∧ (∃ (s : State), s.isMaster = false ∧ LogRoom 1 s ∧ s.updState = 5)
    ∧ (∃ (s : State), s.on F.UPD_STAT_BUSY = false ∧ (s.get F.UPD_OFS % 32768) < 28672 ∧ s.updSource s.updSrc 4096 false = some (s.bytes s.updSrc
        4096) ∧ LogRoom 1 s ∧ (s.get F.UPD_OFS % 32768) < 4096 ∧ s.on F.UPD_STAT_SETBLK = true)
    ∧ (∃ (s : State), s.on F.UPD_STAT_BUSY = false ∧ (s.get F.UPD_OFS % 32768) < 28672 ∧ s.updSource s.updSrc 4096 false = some (s.bytes s.updSrc
        4096) ∧ LogRoom 1 s ∧ (4096 ≤ (s.get F.UPD_OFS % 32768) ∨ s.on F.UPD_STAT_SETBLK = false))
    ∧ (∃ (s : State) (a : Nat), s.on F.UPD_STAT_BUSY = false ∧ (s.get F.UPD_OFS % 32768) < 28672 ∧ s.updSource s.updSrc 4096 false = some (s.bytes
        s.updSrc 4096) ∧ LogRoom 1 s ∧ ¬ ((s.sectorAt (s.get F.UPD_OFS % 32768)) ≤ a ∧ a < (s.sectorAt (s.get F.UPD_OFS % 32768)) + 4096))
    ∧ (∃ (s : State) (err : Option Word), s.update.op = 6 ∧ LogRoom 1 s ∧ err.isSome = true) :=
  ⟨⟨on0.puts [(F.UPD_STAT_BUSY, 1)], 0, by decide +kernel⟩,
   ⟨((on0.setWord F.UPD_SRC_A.addr 0x20000000).puts [(F.OWNER_DOMAIN.on Page.UPD, 2), (F.UPD_LEN_N, 16), (F.UPD_STAT_STATE, 1)]), List.replicate 16 0,
     by unfold LogRoom; decide +kernel⟩,
   ⟨((on0.setWord F.UPD_SRC_A.addr 0x20000000).puts [(F.OWNER_DOMAIN.on Page.UPD, 2), (F.UPD_LEN_N, 16), (F.UPD_STAT_PENDING, 1)]), List.replicate 16 0,
     by unfold LogRoom; decide +kernel⟩,
   ⟨((on0.setWord F.UPD_SRC_A.addr 0x20000000).puts [(F.OWNER_DOMAIN.on Page.UPD, 2), (F.UPD_LEN_N, 16)]), List.replicate 16 0,
     by unfold LogRoom; decide +kernel⟩,
   ⟨((on0.setWord F.UPD_SRC_A.addr 0x20000000).puts [(F.OWNER_DOMAIN.on Page.UPD, 2), (F.UPD_LEN_N, 16)]), List.replicate 16 0,
     by unfold LogRoom; decide +kernel⟩,
   ⟨on0, by decide +kernel⟩,
   ⟨{ on0.puts [(F.UPD_STAT_STATE, 1)] with update := { State.reset.update with op := 1, asked := 0 }, flash := noManifest }, some 0,
     by unfold LogRoom; decide +kernel⟩,
   ⟨{ on0.puts [(F.UPD_STAT_STATE, 1)] with update := { State.reset.update with op := 1, asked := 0 }, flash := noManifest }, none,
     by unfold LogRoom; decide +kernel⟩,
   ⟨((on0.setWord F.UPD_SRC_A.addr 0x20000000).puts [(F.OWNER_DOMAIN.on Page.UPD, 2), (F.UPD_LEN_N, 16)]), List.replicate 16 0, by decide +kernel⟩,
   ⟨{ ((on0.setWord F.UPD_SRC_A.addr 0x20000000).puts [(F.OWNER_DOMAIN.on Page.UPD, 2), (F.UPD_LEN_N, 16), (F.UPD_STAT_STATE, 2)]) with flash := noManifest },
     List.replicate 16 0, by decide +kernel⟩,
   ⟨{ ((on0.setWord F.UPD_SRC_A.addr 0x20000000).puts [(F.OWNER_DOMAIN.on Page.UPD, 2), (F.UPD_LEN_N, 16), (F.UPD_STAT_STATE, 2)]) with flash := bareManifest },
     List.replicate 16 0, by decide +kernel⟩,
   ⟨{ on0.puts [(F.UPD_STAT_STATE, 2)] with update := { State.reset.update with op := 2, asked := 0 } }, none, by unfold LogRoom; decide +kernel⟩,
   ⟨{ on0.puts [(F.UPD_STAT_STATE, 2)] with update := { State.reset.update with op := 2, asked := 0 } }, some 0, by unfold LogRoom; decide +kernel⟩,
   ⟨{ on0.puts [(F.UPD_STAT_STATE, 2)] with update := { State.reset.update with op := 2, asked := 0 } }, some 0, by unfold LogRoom; decide +kernel⟩,
   ⟨{ on0.puts [(F.UPD_STAT_STATE, 2)] with update := { State.reset.update with op := 2 }, flash := noManifest }, ⟨0, 0, 0, 0, 0, 0, 0, 0, [(0, 0), (0, 0), (0, 0), (0, 0)], 0⟩,
     by unfold LogRoom; decide +kernel⟩,
   ⟨{ (on0.puts [(F.UPD_STAT_STATE, 2), (F.UPD_PART_ST.i 0, 2), (F.UPD_PART_ST.i 1, 2)]) with flash := noManifest }, by decide +kernel⟩,
   ⟨on0.puts [(F.UPD_STAT_BUSY, 0)], by decide +kernel⟩,
   ⟨{ on0.puts [(F.UPD_STAT_STATE, 3)] with update := { State.reset.update with asked := 0 } }, some 0, by unfold LogRoom; decide +kernel⟩,
   ⟨{ on0.puts [(F.UPD_STAT_STATE, 3)] with update := { State.reset.update with asked := 0 } }, some 0, by unfold LogRoom; decide +kernel⟩,
   ⟨on0.puts [(F.UPD_STAT_STATE, 2)], by unfold LogRoom; decide +kernel⟩,
   ⟨on0.puts [(F.UPD_STAT_STATE, 5)], by unfold LogRoom; decide +kernel⟩,
   ⟨((on0.setWord F.UPD_SRC_A.addr 0x20000000).puts [(F.OWNER_DOMAIN.on Page.UPD, 2), (F.UPD_LEN_N, 16), (F.UPD_STAT_SETBLK, 1)]),
     by unfold LogRoom; decide +kernel⟩,
   ⟨((on0.setWord F.UPD_SRC_A.addr 0x20000000).puts [(F.OWNER_DOMAIN.on Page.UPD, 2), (F.UPD_LEN_N, 16), (F.UPD_OFS, 4096)]),
     by unfold LogRoom; decide +kernel⟩,
   ⟨((on0.setWord F.UPD_SRC_A.addr 0x20000000).puts [(F.OWNER_DOMAIN.on Page.UPD, 2), (F.UPD_LEN_N, 16)]), 0, by unfold LogRoom; decide +kernel⟩,
   ⟨{ on0 with update := { State.reset.update with op := 6 } }, some 0, by unfold LogRoom; decide +kernel⟩⟩

/-- A state and operands for the hypotheses of each claim of Activation, and of each of its cases. -/
theorem test_witness_Activation :
    (∃ (s : State), s.on F.UPD_STAT_BUSY = false ∧ s.get F.SIG_STAT_SESS = 0 ∧ s.updState ≠ 4)
    ∧ (∃ (s : State), s.on F.UPD_STAT_BUSY = false ∧ s.get F.SIG_STAT_SESS = 0 ∧ s.updState = 4 ∧ s.on F.UPD_ARG_AMODE = false)
    ∧ (∃ (s : State), s.on F.UPD_STAT_BUSY = false ∧ s.get F.SIG_STAT_SESS = 0 ∧ s.updState = 4 ∧ s.on F.UPD_ARG_AMODE = true ∧ s.getW F.UPD_ACTCYC
        ≤ s.cycles + 1)
    ∧ (∃ (s : State), s.on F.UPD_STAT_BUSY = false ∧ s.get F.SIG_STAT_SESS = 0 ∧ s.updState = 4 ∧ s.on F.UPD_ARG_AMODE = true ∧ s.cycles + 1 <
        s.getW F.UPD_ACTCYC)
    ∧ (∃ (s : State), (s.isMaster && s.on F.CLU_ACTTX_SEND) = false)
    ∧ (∃ (s : State), s.isMaster = true ∧ s.on F.CLU_ACTTX_SEND = true ∧ 0 < ((s.get F.CLU_ACTTX_TARGET + 2 ^ 32 - 256) % 2 ^ 32 + 2 ^ 32 - s.ccn) % 2 ^ 32
        ∧ ((s.get F.CLU_ACTTX_TARGET + 2 ^ 32 - 256) % 2 ^ 32 + 2 ^ 32 - s.ccn) % 2 ^ 32 < 2 ^ 31)
    ∧ (∃ (s : State), s.isMaster = true ∧ s.on F.CLU_ACTTX_SEND = true ∧ (((s.get F.CLU_ACTTX_TARGET + 2 ^ 32 - 256) % 2 ^ 32 + 2 ^ 32 - s.ccn) % 2 ^ 32 = 0
        ∨ 2 ^ 31 ≤ ((s.get F.CLU_ACTTX_TARGET + 2 ^ 32 - 256) % 2 ^ 32 + 2 ^ 32 - s.ccn) % 2 ^ 32) ∧ s.cluster.decided = false ∧ LogRoom 2 s
        ∧ (s.get F.UPD_REQMAP) &&& (s.get F.UPD_ARMMAP) = (s.get F.UPD_REQMAP))
    ∧ (∃ (s : State), s.isMaster = true ∧ s.on F.CLU_ACTTX_SEND = true ∧ (((s.get F.CLU_ACTTX_TARGET + 2 ^ 32 - 256) % 2 ^ 32 + 2 ^ 32 - s.ccn) % 2 ^ 32 = 0
        ∨ 2 ^ 31 ≤ ((s.get F.CLU_ACTTX_TARGET + 2 ^ 32 - 256) % 2 ^ 32 + 2 ^ 32 - s.ccn) % 2 ^ 32) ∧ s.cluster.decided = false ∧ LogRoom 2 s
        ∧ (s.get F.UPD_REQMAP) &&& (s.get F.UPD_ARMMAP) ≠ (s.get F.UPD_REQMAP) ∧ s.updState = 5 ∧ s.update.cluster = true
        ∧ s.update.armId = s.get F.CLU_ACTTX_ACTID ∧ s.update.armTarget = s.get F.CLU_ACTTX_TARGET)
    ∧ (∃ (s : State), s.isMaster = true ∧ s.on F.CLU_ACTTX_SEND = true ∧ (s.get F.CLU_ACTTX_TARGET + 2 ^ 32 - s.ccn) % 2 ^ 32 = 0)
    ∧ (∃ (s : State), s.isMaster = true ∧ s.on F.CLU_ACTTX_SEND = true ∧ 0 < (s.get F.CLU_ACTTX_TARGET + 2 ^ 32 - s.ccn) % 2 ^ 32
        ∧ (s.get F.CLU_ACTTX_TARGET + 2 ^ 32 - s.ccn) % 2 ^ 32 < 2 ^ 31)
    ∧ (∃ (s : State), s.boot.pfail = false ∧ LogRoom 1 s ∧ (s.on F.UPD_STAT_PENDING && s.on F.BOOT_STAT_START_OK) = true)
    ∧ (∃ (s : State), s.boot.pfail = false ∧ LogRoom 1 s ∧ (s.on F.UPD_STAT_PENDING && s.on F.BOOT_STAT_START_OK) = false)
    ∧ (∃ (s : State), s.windowOpen = false)
    ∧ (∃ (s : State), s.windowOpen = true ∧ s.angle.now < s.update.windowAt + 60 * 16384000)
    ∧ (∃ (s : State), s.boot.legalRuns = true ∧ s.boot.pfail = false ∧ s.on F.UPD_STAT_PENDING = true
        ∧ s.update.windowAt + 60 * 16384000 ≤ s.angle.now ∧ 60 < s.get F.UPD_PEND_SLEFT)
    ∧ (∃ (s : State), s.boot.pfail = false ∧ s.on F.UPD_STAT_PENDING = false) :=
  ⟨⟨on0.puts [(F.UPD_STAT_BUSY, 0), (F.SIG_STAT_SESS, 0), (F.UPD_STAT_STATE, 0)], by decide +kernel⟩,
   ⟨on0.puts [(F.UPD_STAT_BUSY, 0), (F.SIG_STAT_SESS, 0), (F.UPD_STAT_STATE, 4), (F.UPD_ARG_AMODE, 0)], by decide +kernel⟩,
   ⟨on0.puts [(F.UPD_STAT_BUSY, 0), (F.SIG_STAT_SESS, 0), (F.UPD_STAT_STATE, 4), (F.UPD_ARG_AMODE, 1)], by decide +kernel⟩,
   ⟨(on0.puts [(F.UPD_STAT_STATE, 4), (F.UPD_ARG_AMODE, 1)]).putW F.UPD_ACTCYC 100, by decide +kernel⟩,
   ⟨on0, by decide +kernel⟩,
   ⟨on0.puts [(F.CLU_STAT_LSTATE, 6), (F.CLU_ACTTX_SEND, 1), (F.CLU_ACTTX_TARGET, 300)], by decide +kernel⟩,
   ⟨on0.puts [(F.CLU_STAT_LSTATE, 6), (F.CLU_ACTTX_SEND, 1), (F.CLU_ACTTX_TARGET, 256)], by unfold LogRoom; decide +kernel⟩,
   ⟨{ on0.puts [(F.CLU_STAT_LSTATE, 6), (F.CLU_ACTTX_SEND, 1), (F.CLU_ACTTX_TARGET, 256), (F.UPD_REQMAP, 1), (F.UPD_STAT_STATE, 5)] with
       update := { on0.update with cluster := true, armTarget := 256 } }, by unfold LogRoom; decide +kernel⟩,
   ⟨on0.puts [(F.CLU_STAT_LSTATE, 6), (F.CLU_ACTTX_SEND, 1)], by decide +kernel⟩,
   ⟨on0.puts [(F.CLU_STAT_LSTATE, 6), (F.CLU_ACTTX_SEND, 1), (F.CLU_ACTTX_TARGET, 300)], by decide +kernel⟩,
   ⟨on0.puts [(F.UPD_STAT_PENDING, 1), (F.BOOT_STAT_START_OK, 1)], by unfold LogRoom; decide +kernel⟩,
   ⟨on0, by unfold LogRoom; decide +kernel⟩,
   ⟨on0, by decide +kernel⟩,
   ⟨on0.puts [(F.UPD_STAT_PENDING, 1)], by decide +kernel⟩,
   ⟨late16 (on0.puts [(F.UPD_STAT_PENDING, 1), (F.UPD_PEND_SLEFT, 61)]), by decide +kernel⟩,
   ⟨on0.puts [(F.UPD_STAT_PENDING, 0)], by decide +kernel⟩⟩

/-- A state and operands for the hypotheses of each claim of BankSwitches, and of each of its cases. -/
theorem test_witness_BankSwitches :
    (∃ (s : State) (z : ColdCheck), s.boot.pfail = false ∧ s.on F.UPD_STAT_PENDING = true ∧ s.update.active ≤ 1 ∧ genRoom s)
    ∧ (∃ (s : State) (z : ColdCheck), genRoom s ∧ (s.updState ≠ 6 ∨ s.get F.SIG_STAT_SESS ≠ 0 ∨ s.boot.pfail = true))
    ∧ (∃ (s : State) (z : ColdCheck), genRoom s ∧ s.updState = 6 ∧ s.get F.SIG_STAT_SESS = 0 ∧ s.boot.pfail = false) :=
  ⟨⟨on0.puts [(F.UPD_STAT_PENDING, 1)], z0, by unfold genRoom; decide +kernel⟩,
   ⟨on0.puts [(F.UPD_STAT_STATE, 6), (F.SIG_STAT_SESS, 1)], z0, by unfold genRoom; decide +kernel⟩,
   ⟨on0.puts [(F.UPD_STAT_STATE, 6), (F.SIG_STAT_SESS, 0)], z0, by unfold genRoom; decide +kernel⟩⟩

/-- A state and operands for the hypotheses of each claim of LlynFrames, and of each of its cases. -/
theorem test_witness_LlynFrames :
    (∃ (s : State) (f : LlynFrame) (c : Fin 15) (b : Bool), s.on F.CLU_CTL_EN = false)
    ∧ (∃ (s : State) (f : LlynFrame) (c : Fin 15) (b : Bool), s.on F.CLU_CTL_EN = true ∧ s.locked = false)
    ∧ (∃ (s : State) (f : LlynFrame), listening s false ∧ toMember f = true ∧ f.dst.toNat = s.ownAddr)
    ∧ (∃ (s : State) (f : LlynFrame), listening s false ∧ toMember f = true ∧ f.dst.toNat ≠ s.ownAddr)
    ∧ (∃ (s : State) (f : LlynFrame), listening s false ∧ toMember f = true ∧ f.dst.toNat = s.ownAddr ∧ s.on F.CLU_STAT_DUP = false ∧ s.isAdmitted
        = true ∧ s.on F.CLU_STAT_CCNOK = true ∧ s.bulkWaiting = none)
    ∧ (∃ (s : State) (f : LlynFrame), listening s false ∧ toMember f = true ∧ f.dst.toNat = s.ownAddr ∧ s.on F.CLU_ACTRX_VALID = false ∧ LogRoom 2
        s ∧ (f.pay.toNat % 2 ^ 32) ≠ s.ownKey)
    ∧ (∃ (s : State) (f : LlynFrame), listening s false ∧ toMember f = true ∧ f.dst.toNat = s.ownAddr ∧ s.on F.CLU_ACTRX_VALID = false ∧ LogRoom 2
        s ∧ (f.pay.toNat % 2 ^ 32) = s.ownKey ∧ s.lstate = 2 ∧ s.on F.CLU_STAT_DUP = false)
    ∧ (∃ (s : State) (f : LlynFrame), s.on F.CLU_CTL_EN = true ∧ s.locked = true ∧ toAll f = true ∧ LogRoom 2 s ∧ s.isMaster = false)
    ∧ (∃ (s : State) (f : LlynFrame), s.on F.CLU_CTL_EN = true ∧ s.locked = true ∧ toAll f = true ∧ LogRoom 2 s ∧ s.isMaster = true ∧ s.listens =
        true ∧ bits f.pay.toNat 32 4 ≤ s.get F.CLU_CFG_PRIO)
    ∧ (∃ (s : State) (f : LlynFrame), s.on F.CLU_CTL_EN = true ∧ s.locked = true ∧ toAll f = true ∧ LogRoom 2 s ∧ s.isMaster = true ∧ (s.listens =
        false ∨ s.get F.CLU_CFG_PRIO < bits f.pay.toNat 32 4))
    ∧ (∃ (s : State) (f : LlynFrame), listening s false ∧ toAll f = true ∧ LogRoom 2 s)
    ∧ (∃ (s : State) (f : LlynFrame), listening s false ∧ toAll f = true ∧ LogRoom 3 s ∧ s.on F.CLU_ACTRX_VALID = false)
    ∧ (∃ (s : State) (f : LlynFrame), listening s false ∧ toAll f = true ∧ LogRoom 3 s ∧ bit f.pay.toNat 35 = true ∧ s.updState = 5 ∧
        s.update.cluster = true ∧ s.update.armId = (bits f.pay.toNat 32 3) ∧ s.update.armTarget = (f.pay.toNat % 2 ^ 32))
    ∧ (∃ (s : State) (f : LlynFrame), listening s false ∧ toAll f = true ∧ s.cluster.mine = none ∧ bits f.pay.toNat 20 4 ≠ 0)
    ∧ (∃ (s : State) (f : LlynFrame), listening s false ∧ toAll f = true ∧ s.cluster.mine = none ∧ bits f.pay.toNat 20 4 = 0)
    ∧ (∃ (s : State) (f : LlynFrame), s.on F.CLU_CTL_EN = true ∧ s.locked = true ∧ toAll f = true)
    ∧ (∃ (s : State) (f : LlynFrame) (g : BulkGrant) (pos : Nat) (i : Nat), s.on F.CLU_CTL_EN = true ∧ s.locked = true ∧ (f.dst = 63 ∨ memberAddr
        f.dst.toNat = true) ∧ s.bulkCycle = some (g, pos / 2 + 1) ∧ s.bulkMine g.receiver = true ∧ s.bulkMine f.dst.toNat = true ∧ g.sender
        ≠ s.ownAddr ∧ f.src.toNat = g.sender ∧ bits f.pay.toNat 32 4 = g.tid ∧ f.seq.toNat = pos % 16 ∧ pos ≤ 28 ∧ s.cluster.rx.length = 116 ∧ i / 4 ≠ pos)
    ∧ (∃ (s : State) (f : LlynFrame) (g : BulkGrant) (pos : Nat) (i : Nat), s.on F.CLU_CTL_EN = true ∧ s.locked = true ∧ (f.dst = 63 ∨ memberAddr
        f.dst.toNat = true) ∧ s.bulkCycle = some (g, pos / 2 + 1) ∧ s.bulkMine g.receiver = true ∧ s.bulkMine f.dst.toNat = true ∧ g.sender
        ≠ s.ownAddr ∧ f.src.toNat = g.sender ∧ bits f.pay.toNat 32 4 = g.tid ∧ f.seq.toNat = pos % 16 ∧ pos ≤ 28 ∧ s.cluster.rx.length = 116 ∧ i ≠ pos)
    ∧ (∃ (s : State) (cause : BitVec 2), s.on F.CLU_CTL_EN = true ∧ s.locked = true ∧ LogRoom 1 s ∧ cause = 3)
    ∧ (∃ (s : State) (cause : BitVec 2), s.on F.CLU_CTL_EN = true ∧ s.locked = true ∧ LogRoom 1 s ∧ cause = 0)
    ∧ (∃ (s : State) (cause : BitVec 2), s.on F.CLU_CTL_EN = true ∧ s.locked = true ∧ LogRoom 1 s ∧ (cause = 1 ∨ cause = 2)) :=
  ⟨⟨on0.puts [(F.CLU_CTL_EN, 0)], f0, 0, false, by decide +kernel⟩,
   ⟨on0.puts [(F.CLU_CTL_EN, 1)], f0, 0, false, by decide +kernel⟩,
   ⟨on0.puts [(F.CLU_CTL_EN, 1), (F.ANG_STAT_STATE, 2), (F.CLU_STAT_LSTATE, 3), (F.CLU_CFG_ADDR, 1)], f0, by unfold listening; decide +kernel⟩,
   ⟨on0.puts [(F.CLU_CTL_EN, 1), (F.ANG_STAT_STATE, 2), (F.CLU_STAT_LSTATE, 3), (F.CLU_CFG_ADDR, 1)], { f0 with dst := 2 },
     by unfold listening; decide +kernel⟩,
   ⟨on0.puts [(F.CLU_CTL_EN, 1), (F.ANG_STAT_STATE, 2), (F.CLU_STAT_LSTATE, 3), (F.CLU_CFG_ADDR, 1), (F.CLU_STAT_DUP, 0), (F.CLU_STAT_LSTATE, 3),
     (F.CLU_STAT_CCNOK, 1)], f0, by unfold listening; decide +kernel⟩,
   ⟨({ on0 with regs := [(F.CLU_EKEY.addr, 2)] } : State).puts [(F.CLU_CTL_EN, 1), (F.ANG_STAT_STATE, 2), (F.CLU_STAT_LSTATE, 2), (F.CLU_CFG_ADDR, 1)],
     { f0 with pay := 1 }, by unfold LogRoom listening; decide +kernel⟩,
   ⟨({ on0 with regs := [(F.CLU_EKEY.addr, 2)] } : State).puts [(F.CLU_CTL_EN, 1), (F.ANG_STAT_STATE, 2), (F.CLU_STAT_LSTATE, 2), (F.CLU_CFG_ADDR, 1)],
     { f0 with pay := 2 }, by unfold LogRoom listening; decide +kernel⟩,
   ⟨on0.puts [(F.CLU_CTL_EN, 1), (F.ANG_STAT_STATE, 2)], fAll, by unfold LogRoom; decide +kernel⟩,
   ⟨{ (on0.puts [(F.CLU_CTL_EN, 1), (F.ANG_STAT_STATE, 2), (F.CLU_STAT_LSTATE, 6), (F.CLU_CFG_ADDR, 1)]) with cluster := { on0.cluster with slotCcn := 96 } },
     fAll, by unfold LogRoom; decide +kernel⟩,
   ⟨on0.puts [(F.CLU_CTL_EN, 1), (F.ANG_STAT_STATE, 2), (F.CLU_STAT_LSTATE, 6), (F.CLU_CFG_ADDR, 1)], fAll, by unfold LogRoom; decide +kernel⟩,
   ⟨on0.puts [(F.CLU_CTL_EN, 1), (F.ANG_STAT_STATE, 2), (F.CLU_STAT_LSTATE, 3), (F.CLU_CFG_ADDR, 1)], fAll, by unfold LogRoom listening; decide +kernel⟩,
   ⟨on0.puts [(F.CLU_CTL_EN, 1), (F.ANG_STAT_STATE, 2), (F.CLU_STAT_LSTATE, 3), (F.CLU_CFG_ADDR, 1), (F.CLU_ACTRX_VALID, 0)], fAll,
     by unfold LogRoom listening; decide +kernel⟩,
   ⟨{ (on0.puts [(F.CLU_CTL_EN, 1), (F.ANG_STAT_STATE, 2), (F.CLU_STAT_LSTATE, 3), (F.CLU_CFG_ADDR, 1), (F.UPD_STAT_STATE, 5)]) with update := { on0.update with cluster := true, armId := 1, armTarget := 5 } },
     { fAll with pay := 0x900000005#36 }, by unfold LogRoom listening; decide +kernel⟩,
   ⟨{ on0.puts [(F.CLU_CTL_EN, 1), (F.ANG_STAT_STATE, 2), (F.CLU_STAT_LSTATE, 3), (F.CLU_CFG_ADDR, 1)] with cluster := { State.reset.cluster with mine := none } },
     { fAll with pay := 0x100000 }, by unfold listening; decide +kernel⟩,
   ⟨{ on0.puts [(F.CLU_CTL_EN, 1), (F.ANG_STAT_STATE, 2), (F.CLU_STAT_LSTATE, 3), (F.CLU_CFG_ADDR, 1)] with cluster := { State.reset.cluster with mine := none } },
     fAll, by unfold listening; decide +kernel⟩,
   ⟨on0.puts [(F.CLU_CTL_EN, 1), (F.ANG_STAT_STATE, 2)], fAll, by decide +kernel⟩,
   ⟨{ (on0.puts [(F.CLU_CTL_EN, 1), (F.ANG_STAT_STATE, 2), (F.CLU_STAT_LSTATE, 3), (F.CLU_CFG_ADDR, 2)]) with cluster := { on0.cluster with grant := some ⟨1, 2, 1, 0, 0, 0⟩, slotCcn := 1, rx := List.replicate 116 0 } },
     ⟨2, 1, 0, 0, 0, 0⟩, ⟨1, 2, 1, 0, 0, 0⟩, 0, 4, by decide +kernel⟩,
   ⟨{ (on0.puts [(F.CLU_CTL_EN, 1), (F.ANG_STAT_STATE, 2), (F.CLU_STAT_LSTATE, 3), (F.CLU_CFG_ADDR, 2)]) with cluster := { on0.cluster with grant := some ⟨1, 2, 1, 0, 0, 0⟩, slotCcn := 1, rx := List.replicate 116 0 } },
     ⟨2, 1, 0, 0, 0, 0⟩, ⟨1, 2, 1, 0, 0, 0⟩, 0, 1, by decide +kernel⟩,
   ⟨on0.puts [(F.CLU_CTL_EN, 1), (F.ANG_STAT_STATE, 2)], 3, by unfold LogRoom; decide +kernel⟩,
   ⟨on0.puts [(F.CLU_CTL_EN, 1), (F.ANG_STAT_STATE, 2)], 0, by unfold LogRoom; decide +kernel⟩,
   ⟨on0.puts [(F.CLU_CTL_EN, 1), (F.ANG_STAT_STATE, 2)], 1, by unfold LogRoom; decide +kernel⟩⟩

/-- A state and operands for the hypotheses of each claim of LlynAnswers, and of each of its cases. -/
theorem test_witness_LlynAnswers :
    (∃ (s : State) (f : LlynFrame) (c : Fin 4), s.on F.CLU_CTL_EN = true ∧ s.locked = true ∧ toMaster f = true ∧ s.isMaster = true ∧ s.cluster.inB = true ∧
        s.cluster.awaits ≠ some (f.src.toNat, f.seq.toNat))
    ∧ (∃ (s : State) (f : LlynFrame), listening s true ∧ s.cluster.inB = true ∧ toMaster f = true ∧ s.cluster.awaits = some ((f.src.toNat), f.seq.toNat) ∧ ((s.on
        (F.CLU_MEM_JOINING.i ((f.src.toNat) - 1))) = true ∨ s.on (F.CLU_MEM_ADMITTED.i ((f.src.toNat) - 1)) = true) ∧ LogRoom 2 s ∧
        s.alloc.mem.length = 32 ∧ (s.on (F.CLU_MEM_JOINING.i ((f.src.toNat) - 1))) = true)
    ∧ (∃ (s : State) (f : LlynFrame), listening s true ∧ s.cluster.inB = true ∧ toMaster f = true ∧ s.cluster.awaits = some ((f.src.toNat), f.seq.toNat) ∧ ((s.on
        (F.CLU_MEM_JOINING.i ((f.src.toNat) - 1))) = true ∨ s.on (F.CLU_MEM_ADMITTED.i ((f.src.toNat) - 1)) = true) ∧ LogRoom 2 s ∧
        s.alloc.mem.length = 32 ∧ (s.on (F.CLU_MEM_JOINING.i ((f.src.toNat) - 1))) = false)
    ∧ (∃ (s : State) (f : LlynFrame), listening s true ∧ s.cluster.inB = true ∧ toMaster f = true ∧ s.cluster.awaits = some ((f.src.toNat), f.seq.toNat) ∧ ((!s.on
        (F.CLU_MEM_ADMITTED.i ((f.src.toNat) - 1)) && !s.on (F.CLU_MEM_JOINING.i ((f.src.toNat) - 1))) = true ∨ (f.pay.toNat % 2 ^ 32) =
        (s.get (F.CLU_MEM_EKEY.i ((f.src.toNat) - 1)))))
    ∧ (∃ (s : State) (f : LlynFrame), listening s true ∧ s.cluster.inB = true ∧ toMaster f = true ∧ s.cluster.awaits = some ((f.src.toNat), f.seq.toNat) ∧ (!s.on
        (F.CLU_MEM_ADMITTED.i ((f.src.toNat) - 1)) && !s.on (F.CLU_MEM_JOINING.i ((f.src.toNat) - 1))) = false ∧ (f.pay.toNat % 2 ^ 32) ≠
        (s.get (F.CLU_MEM_EKEY.i ((f.src.toNat) - 1))))
    ∧ (∃ (s : State) (f : LlynFrame), listening s true ∧ s.cluster.inB = true ∧ toMaster f = true ∧ s.cluster.awaits = some ((f.src.toNat), f.seq.toNat) ∧ s.on
        (F.CLU_MEM_ADMITTED.i ((f.src.toNat) - 1)) = true ∧ f.pay.toNat % 2 ^ 32 = s.get (F.CLU_MEM_EKEY.i ((f.src.toNat) - 1)) ∧ LogRoom 1
        s)
    ∧ (∃ (s : State) (f : LlynFrame), listening s true ∧ s.cluster.inB = true ∧ toMaster f = true ∧ s.cluster.awaits = some ((f.src.toNat), f.seq.toNat) ∧ s.on
        (F.CLU_MEM_ADMITTED.i ((f.src.toNat) - 1)) = true ∧ 1 ≤ (bits f.pay.toNat 24 5) ∧ (bits f.pay.toNat 24 5) ≤ 29)
    ∧ (∃ (s : State) (f : LlynFrame) (g : BulkGrant), s.on F.CLU_CTL_EN = true ∧ s.locked = true ∧ (memberAddr f.dst.toNat && memberAddr
        f.src.toNat) = true ∧ s.bulkCycle = some (g, g.ncyc) ∧ f.dst.toNat = g.sender ∧ f.src.toNat = g.receiver ∧ bits f.pay.toNat 32 4 =
        g.tid ∧ s.cluster.acked = false ∧ s.cluster.won = false ∧ LogRoom 1 s ∧ s.isMaster = true)
    ∧ (∃ (s : State) (f : LlynFrame) (g : BulkGrant), s.on F.CLU_CTL_EN = true ∧ s.locked = true ∧ (memberAddr f.dst.toNat && memberAddr
        f.src.toNat) = true ∧ s.bulkCycle = some (g, g.ncyc) ∧ f.dst.toNat = g.sender ∧ f.src.toNat = g.receiver ∧ bits f.pay.toNat 32 4 =
        g.tid ∧ s.cluster.acked = false ∧ s.cluster.won = false ∧ LogRoom 1 s ∧ s.isMaster = false) :=
  ⟨⟨{ on0.puts [(F.CLU_CTL_EN, 1), (F.ANG_STAT_STATE, 2), (F.CLU_STAT_LSTATE, 6)] with cluster := { on0.cluster with inB := true } }, fUp, 0,
     by decide +kernel⟩,
   ⟨{ (on0.puts [(F.CLU_CTL_EN, 1), (F.ANG_STAT_STATE, 2), (F.CLU_STAT_LSTATE, 6), (F.CLU_CFG_ADDR, 2), (F.CLU_MEM_JOINING.i 0, 1)]) with cluster := { on0.cluster with awaits := some (1, 0), inB := true } },
     fUp, by unfold LogRoom listening; decide +kernel⟩,
   ⟨{ (on0.puts [(F.CLU_CTL_EN, 1), (F.ANG_STAT_STATE, 2), (F.CLU_STAT_LSTATE, 6), (F.CLU_CFG_ADDR, 2), (F.CLU_MEM_ADMITTED.i 0, 1)]) with cluster := { on0.cluster with awaits := some (1, 0), inB := true } },
     fUp, by unfold LogRoom listening; decide +kernel⟩,
   ⟨{ (on0.puts [(F.CLU_CTL_EN, 1), (F.ANG_STAT_STATE, 2), (F.CLU_STAT_LSTATE, 6), (F.CLU_CFG_ADDR, 2)]) with cluster := { on0.cluster with awaits := some (1, 0), inB := true } },
     fUp, by unfold listening; decide +kernel⟩,
   ⟨{ (on0.puts [(F.CLU_CTL_EN, 1), (F.ANG_STAT_STATE, 2), (F.CLU_STAT_LSTATE, 6), (F.CLU_CFG_ADDR, 2), (F.CLU_MEM_ADMITTED.i 0, 1)]) with cluster := { on0.cluster with awaits := some (1, 0), inB := true } },
     { fUp with pay := 5 }, by unfold listening; decide +kernel⟩,
   ⟨{ (on0.puts [(F.CLU_CTL_EN, 1), (F.ANG_STAT_STATE, 2), (F.CLU_STAT_LSTATE, 6), (F.CLU_CFG_ADDR, 2), (F.CLU_MEM_ADMITTED.i 0, 1)]) with cluster := { on0.cluster with awaits := some (1, 0), inB := true } },
     fUp, by unfold LogRoom listening; decide +kernel⟩,
   ⟨{ (on0.puts [(F.CLU_CTL_EN, 1), (F.ANG_STAT_STATE, 2), (F.CLU_STAT_LSTATE, 6), (F.CLU_CFG_ADDR, 2), (F.CLU_MEM_ADMITTED.i 0, 1)]) with cluster := { on0.cluster with awaits := some (1, 0), inB := true } },
     { fUp with pay := 0x1000000 }, by unfold listening; decide +kernel⟩,
   ⟨{ (on0.puts [(F.CLU_CTL_EN, 1), (F.ANG_STAT_STATE, 2), (F.CLU_STAT_LSTATE, 6), (F.CLU_CFG_ADDR, 2)]) with cluster := { on0.cluster with grant := some ⟨1, 2, 1, 0, 0, 0⟩, slotCcn := 1 } },
     ⟨1, 2, 0, 0, 0, 0⟩, ⟨1, 2, 1, 0, 0, 0⟩, by unfold LogRoom; decide +kernel⟩,
   ⟨{ (on0.puts [(F.CLU_CTL_EN, 1), (F.ANG_STAT_STATE, 2), (F.CLU_STAT_LSTATE, 3), (F.CLU_CFG_ADDR, 2)]) with cluster := { on0.cluster with grant := some ⟨1, 2, 1, 0, 0, 0⟩, slotCcn := 1 } },
     ⟨1, 2, 0, 0, 0, 0⟩, ⟨1, 2, 1, 0, 0, 0⟩, by unfold LogRoom; decide +kernel⟩⟩

/-- A state and operands for the hypotheses of each claim of LlynRoles, and of each of its cases. -/
theorem test_witness_LlynRoles :
    (∃ (s : State), s.on F.CLU_CTL_EN = true ∧ s.lstate ∈ [1, 2, 3, 7] ∧ s.cluster.lost = false ∧ s.cluster.masterAt + 96 ≤ s.cycles ∧ LogRoom 2 s)
    ∧ (∃ (s : State), s.lstate = 4 ∧ s.cluster.waitFrom + s.get F.CLU_CFG_PRIO * 32 + s.ownKey % 32 ≤ s.cycles
        ∧ (if s.on F.CLU_STAT_CCNOK then s.ccn else s.cycles) % 32 = 0)
    ∧ (∃ (s : State), s.lstate ≠ 4)
    ∧ (∃ (s : State) (k : Nat), s.lstate = 5 ∧ s.cluster.claimFrom + 32 ≤ s.cycles ∧ LogRoom 2 s ∧ 1 ≤ s.ownAddr ∧ s.ownAddr ≤ 32 ∧ k < 32)
    ∧ (∃ (s : State), s.lstate = 5 ∧ s.cluster.claimFrom + 32 ≤ s.cycles ∧ LogRoom 2 s ∧ 1 ≤ s.ownAddr ∧ s.ownAddr ≤ 32 ∧ s.on F.CLU_STAT_CCNOK = true)
    ∧ (∃ (s : State), s.lstate = 5 ∧ s.cluster.claimFrom + 32 ≤ s.cycles ∧ LogRoom 2 s ∧ 1 ≤ s.ownAddr ∧ s.ownAddr ≤ 32 ∧ s.on F.CLU_STAT_CCNOK = false)
    ∧ (∃ (s : State) (k : Nat), s.isMaster = true ∧ s.cluster.sentAt + 96 ≤ s.cycles ∧ LogRoom 1 s ∧ k < 32)
    ∧ (∃ (s : State) (en : Bool), LogRoom 1 s ∧ en = false)
    ∧ (∃ (s : State) (en : Bool), LogRoom 1 s ∧ en = true ∧ s.lstate = 0)
    ∧ (∃ (s : State), LogRoom 1 s ∧ s.isAdmitted = true)
    ∧ (∃ (s : State), s.on F.CLU_CTL_EN = true)
    ∧ (∃ (s : State), s.on F.CLU_CTL_EN = false)
    ∧ (∃ (s : State) (v : Word), s.isMaster = true)
    ∧ (∃ (s : State) (v : Word), s.isMaster = false)
    ∧ (∃ (s : State) (b : BulkReq), s.cluster.mine = some b ∧ s.cluster.won = false ∧ s.txFrame 5 = none ∧
        LogRoom (s.cluster.requests.length + 1) s ∧ s.cycles < b.at_ + 128)
    ∧ (∃ (s : State) (b : BulkReq), s.cluster.mine = some b ∧ s.cluster.won = false ∧ s.txFrame 5 = none ∧
        LogRoom (s.cluster.requests.length + 1) s ∧ b.at_ + 128 ≤ s.cycles) :=
  ⟨⟨{ (on0.puts [(F.CLU_CTL_EN, 1), (F.CLU_STAT_LSTATE, 1)]).putW F.ANG_CYCLES 96 with cluster := { State.reset.cluster with lost := false } },
     by unfold LogRoom; decide +kernel⟩,
   ⟨({ on0 with regs := [(F.CLU_EKEY.addr, 2)] } : State).puts [(F.CLU_STAT_LSTATE, 4)] |>.putW F.ANG_CYCLES 32, by decide +kernel⟩,
   ⟨on0.puts [(F.CLU_STAT_LSTATE, 0)], by decide +kernel⟩,
   ⟨(on0.puts [(F.CLU_STAT_LSTATE, 5)]).putW F.ANG_CYCLES 32, 0, by unfold LogRoom; decide +kernel⟩,
   ⟨(on0.puts [(F.CLU_STAT_LSTATE, 5), (F.CLU_STAT_CCNOK, 1)]).putW F.ANG_CYCLES 32, by unfold LogRoom; decide +kernel⟩,
   ⟨(on0.puts [(F.CLU_STAT_LSTATE, 5), (F.CLU_STAT_CCNOK, 0)]).putW F.ANG_CYCLES 32, by unfold LogRoom; decide +kernel⟩,
   ⟨(on0.puts [(F.CLU_STAT_LSTATE, 6)]).putW F.ANG_CYCLES 96, 0, by unfold LogRoom; decide +kernel⟩,
   ⟨on0, false, by unfold LogRoom; decide +kernel⟩,
   ⟨on0.puts [(F.CLU_STAT_LSTATE, 0)], true, by unfold LogRoom; decide +kernel⟩,
   ⟨on0.puts [(F.CLU_STAT_LSTATE, 3)], by unfold LogRoom; decide +kernel⟩,
   ⟨on0.puts [(F.CLU_CTL_EN, 1)], by decide +kernel⟩,
   ⟨on0.puts [(F.CLU_CTL_EN, 0)], by decide +kernel⟩,
   ⟨on0.puts [(F.CLU_STAT_LSTATE, 6)], 0, by decide +kernel⟩,
   ⟨on0, 0, by decide +kernel⟩,
   ⟨{ on0 with cluster := { State.reset.cluster with mine := some (⟨1, 2, 1, 0, 0⟩ : BulkReq), won := false } }, ⟨1, 2, 1, 0, 0⟩,
     by unfold LogRoom; decide +kernel⟩,
   ⟨{ on0.putW F.ANG_CYCLES 128 with cluster := { State.reset.cluster with mine := some (⟨1, 2, 1, 0, 0⟩ : BulkReq), won := false } }, ⟨1, 2, 1, 0, 0⟩,
     by unfold LogRoom; decide +kernel⟩⟩

/-- A module whose angle clock stands at the start of slot A or B. -/
def slotOf (b : Bool) : State :=
  { on0.puts [(F.ANG_CTL_EN, 1), (F.ANG_INC, 1)] with
    angle := { on0.angle with now := 30000, phase := (if b then 2 ^ 47 else 0) + 24576, carry := some 5424 } }

/-- A state and operands for the hypotheses of each claim of LlynSlots, and of each of its cases. -/
theorem test_witness_LlynSlots :
    (∃ (s : State) (t : Nat), s.slotTick false = some t ∧ s.angle.now < t)
    ∧ (∃ (s : State) (c : Nat), s.angleRuns = true ∧ s.angle.carry = some c ∧ s.angle.now < c + 24576 ∧ s.cluster.slotAt ≠ some (c + 24576))
    ∧ (∃ (s : State) (t : Nat), s.cluster.inB = true ∧ s.cluster.slotAt = some t)
    ∧ (∃ (s : State), slotNow s false ∧ s.on F.CLU_CTL_EN = true ∧ s.isMaster = true ∧ s.on F.CLU_STAT_TXOK = true ∧ (s.ccn % 32 + 1) ≠ s.ownAddr ∧
        s.cluster.requests = [] ∧ s.cluster.grant = none ∧ s.bulkWaiting = none)
    ∧ (∃ (s : State), slotNow s false ∧ s.on F.CLU_CTL_EN = true ∧ s.lstate = 5 ∧ s.on F.CLU_STAT_TXOK = true)
    ∧ (∃ (s : State) (q : BitVec 4), slotNow s true ∧ s.on F.CLU_CTL_EN = true ∧ s.on F.CLU_STAT_TXOK = true ∧ s.cluster.grant = none ∧ s.cluster.answer = some (9,
        q.toNat))
    ∧ (∃ (s : State), slotNow s true ∧ s.on F.CLU_CTL_EN = true ∧ s.on F.CLU_STAT_TXOK = true ∧ s.cluster.grant = none ∧ s.cluster.answer = none)
    ∧ (∃ (s : State) (b : Bool), slotNow s b ∧ s.on F.CLU_CTL_EN = false ∧ s.genOn Page.CLU = false)
    ∧ (∃ (s : State) (k : Nat) (seq : Nat), slotEndsNow s ∧ s.on F.CLU_CTL_EN = true ∧ s.isMaster = true ∧ s.cluster.awaits = some (k, seq) ∧ 1 ≤ k ∧ k ≤ 32 ∧
        s.cluster.answered = false ∧ (s.on (F.CLU_MEM_ADMITTED.i (k - 1)) || s.on (F.CLU_MEM_JOINING.i (k - 1))) = true ∧ s.cluster.grant =
        none ∧ s.cluster.slotCcn % 32 ≠ 31 ∧ s.alloc.mem.length = 32 ∧ (s.get (F.CLU_MEM_MISSES.i (k - 1)) + 1) < 2 ^ (F.CLU_MEM_MISSES.i (k
        - 1)).width ∧ LogRoom 1 s ∧ (s.get (F.CLU_MEM_MISSES.i (k - 1)) + 1) < 3)
    ∧ (∃ (s : State) (k : Nat) (seq : Nat), slotEndsNow s ∧ s.on F.CLU_CTL_EN = true ∧ s.isMaster = true ∧ s.cluster.awaits = some (k, seq) ∧ 1 ≤ k ∧ k ≤ 32 ∧
        s.cluster.answered = false ∧ (s.on (F.CLU_MEM_ADMITTED.i (k - 1)) || s.on (F.CLU_MEM_JOINING.i (k - 1))) = true ∧ s.cluster.grant =
        none ∧ s.cluster.slotCcn % 32 ≠ 31 ∧ s.alloc.mem.length = 32 ∧ (s.get (F.CLU_MEM_MISSES.i (k - 1)) + 1) < 2 ^ (F.CLU_MEM_MISSES.i (k
        - 1)).width ∧ LogRoom 1 s ∧ 3 ≤ (s.get (F.CLU_MEM_MISSES.i (k - 1)) + 1)) :=
  ⟨⟨{ (slotOf false) with angle := { (slotOf false).angle with now := 20000, phase := 14576 } }, 30000, by decide +kernel⟩,
   ⟨{ (slotOf false) with angle := { (slotOf false).angle with now := 20000, phase := 14576 } }, 5424, by decide +kernel⟩,
   ⟨{ on0 with cluster := { on0.cluster with inB := true, slotAt := some 0 } }, 0, by decide +kernel⟩,
   ⟨{ (slotOf false).puts [(F.CLU_CTL_EN, 1), (F.CLU_STAT_LSTATE, 6), (F.CLU_STAT_TXOK, 1), (F.CLU_CFG_ADDR, 2)] with cluster := { State.reset.cluster with requests := [], grant := none } },
     by unfold slotNow; decide +kernel⟩,
   ⟨(slotOf false).puts [(F.CLU_CTL_EN, 1), (F.CLU_STAT_LSTATE, 5), (F.CLU_STAT_TXOK, 1)], by unfold slotNow; decide +kernel⟩,
   ⟨{ (slotOf true).puts [(F.CLU_CTL_EN, 1), (F.CLU_STAT_TXOK, 1)] with cluster := { State.reset.cluster with grant := none, answer := some (9, (0 : BitVec 4).toNat) } },
     0, by unfold slotNow; decide +kernel⟩,
   ⟨{ (slotOf true).puts [(F.CLU_CTL_EN, 1), (F.CLU_STAT_TXOK, 1)] with cluster := { State.reset.cluster with grant := none, answer := none } }, by unfold slotNow; decide +kernel⟩,
   ⟨(slotOf false).puts [(F.CLU_CTL_EN, 0)], false, by unfold slotNow; decide +kernel⟩,
   ⟨{ ((slotOf false).puts [(F.CLU_CTL_EN, 1), (F.ANG_STAT_STATE, 2), (F.CLU_STAT_LSTATE, 6), (F.CLU_CFG_ADDR, 2), (F.CLU_MEM_ADMITTED.i 0, 1)]) with cluster := { on0.cluster with awaits := some (1, 0), inB := true, slotAt := some 30000 }, angle := { on0.angle with now := 144688 } },
     1, 0, by unfold LogRoom slotEndsNow; decide +kernel⟩,
   ⟨{ ((slotOf false).puts [(F.CLU_CTL_EN, 1), (F.ANG_STAT_STATE, 2), (F.CLU_STAT_LSTATE, 6), (F.CLU_CFG_ADDR, 2), (F.CLU_MEM_ADMITTED.i 0, 1), (F.CLU_MEM_MISSES.i 0, 2)]) with cluster := { on0.cluster with awaits := some (1, 0), inB := true, slotAt := some 30000 }, angle := { on0.angle with now := 144688 } },
     1, 0, by unfold LogRoom slotEndsNow; decide +kernel⟩⟩

/-- A state and operands for the hypotheses of each claim of PowerAllocation, and of each of its cases. -/
theorem test_witness_PowerAllocation :
    (∃ (s : State) (pay : Nat) (at_ : Nat), s.cluster.held = some (pay, at_) ∧ at_ ≤ s.cycles ∧ (s.isAdmitted || s.isMaster) = true ∧ s.on F.CLU_CTL_EN = true ∧
        s.on F.CLU_STAT_DUP = false ∧ grantCurrent pay ≠ s.get F.PWA_ALLOW_ALLOW)
    ∧ (∃ (s : State) (pay at_ : Nat), s.cluster.held = some (pay, at_) ∧ s.cycles < at_)
    ∧ (∃ (s : State), s.cluster.held = none)
    ∧ (∃ (s : State), s.atCrossing = false)
    ∧ (∃ (s : State), s.atCrossing = true ∧ (s.on F.CLU_CTL_EN = false ∨ s.lstate ∈ [1, 4, 5]))
    ∧ (∃ (s : State), s.atCrossing = true ∧ (¬ (s.on F.CLU_CTL_EN = false ∨ s.lstate ∈ [1, 4, 5])) ∧ (s.lstate ∉ [3, 6] ∨ s.on F.CLU_STAT_DUP = true))
    ∧ (∃ (s : State) (k : Nat), slotEndsNow s ∧ s.on F.CLU_CTL_EN = true ∧ s.isMaster = true ∧ s.cluster.awaits = none ∧ s.cluster.grant = none ∧ s.cluster.slotCcn
        % 32 = 31 ∧ s.alloc.mem.length = 32 ∧ 1 ≤ k ∧ k ≤ 32 ∧ k ≠ s.ownAddr ∧ s.memAdmitted k = true ∧ s.get (F.PWA_MEM_DEMAND.i (k - 1)) = 0 ∧ (s.amem
        k).refused = none)
    ∧ (∃ (s : State) (k : Nat), slotEndsNow s ∧ s.on F.CLU_CTL_EN = true ∧ s.isMaster = true ∧ s.cluster.awaits = none ∧ s.cluster.grant = none ∧ s.cluster.slotCcn
        % 32 = 31 ∧ s.alloc.mem.length = 32 ∧ 1 ≤ k ∧ k ≤ 32 ∧ k ≠ s.ownAddr ∧ s.memAdmitted k = true ∧ s.get (F.PWA_MEM_DEMAND.i (k - 1)) ≠ 0 ∧ s.get
        (F.PWA_MEM_CLASS.i (k - 1)) = 0 ∧ (s.amem k).refused = none) :=
  ⟨⟨{ (on0.puts [(F.CLU_CTL_EN, 1), (F.CLU_STAT_LSTATE, 3)]) with cluster := { on0.cluster with held := some (2 ^ 13, 0) } }, 2 ^ 13, 0,
     by decide +kernel⟩,
   ⟨{ on0 with cluster := { on0.cluster with held := some (2 ^ 13, 5) } }, 2 ^ 13, 5, by decide +kernel⟩,
   ⟨on0, by decide +kernel⟩,
   ⟨on0, by decide +kernel⟩,
   ⟨{ on0 with angle := { on0.angle with carry := some 0 } }, by decide +kernel⟩,
   ⟨{ on0.puts [(F.CLU_CTL_EN, 1), (F.CLU_STAT_LSTATE, 2)] with angle := { on0.angle with carry := some 0 } }, by decide +kernel⟩,
   ⟨{ (on0.puts [(F.CLU_CTL_EN, 1), (F.ANG_STAT_STATE, 2), (F.CLU_STAT_LSTATE, 6), (F.CLU_CFG_ADDR, 2), (F.CLU_MEM_ADMITTED.i 0, 1)]) with cluster := { on0.cluster with slotCcn := 31, inB := true, slotAt := some 0 }, angle := { on0.angle with now := 114688 } },
     1, by unfold slotEndsNow; decide +kernel⟩,
   ⟨{ (on0.puts [(F.CLU_CTL_EN, 1), (F.ANG_STAT_STATE, 2), (F.CLU_STAT_LSTATE, 6), (F.CLU_CFG_ADDR, 2), (F.CLU_MEM_ADMITTED.i 0, 1), (F.PWA_MEM_DEMAND.i 0, 8), (F.PWA_MEM_CLASS.i 0, 0)]) with cluster := { on0.cluster with slotCcn := 31, inB := true, slotAt := some 0 }, angle := { on0.angle with now := 114688 } },
     1, by unfold slotEndsNow; decide +kernel⟩⟩

/-- A state and operands for the hypotheses of each claim of Authorisations, and of each of its cases. -/
theorem test_witness_Authorisations :
    (∃ (s : State), s.on F.TEN_STAT_BUSY = true)
    ∧ (∃ (s : State), s.on F.TEN_STAT_BUSY = false)
    ∧ (∃ (s : State) (q : AuthReq), s.tenants.req = some q ∧ q.auto_ = false ∧ q.tenant < 16 ∧ q.method < 8 ∧ q.method ≠ 4 ∧ q.seq < 256 ∧
        s.tenants.checkHeld = none ∧ s.tenants.auto_ = none ∧ s.tenants.check = none ∧ LogRoom 2 s ∧ ¬ (lenOk q.method q.len = true ∧
        (s.slotEn q.tenant && bit (s.slotMethods q.tenant) q.method) = true ∧ (bit (s.slotAlmask q.tenant) q.method) = true ∧ bit
        s.tenants.alok q.tenant = true) ∧ (lenOk q.method q.len && (s.slotEn q.tenant && bit (s.slotMethods q.tenant) q.method)) = true ∧
        (bit (s.slotAlmask q.tenant) q.method) = false)
    ∧ (∃ (s : State) (q : AuthReq), s.tenants.req = some q ∧ q.auto_ = false ∧ q.tenant < 16 ∧ q.method < 8 ∧ q.method ≠ 4 ∧ q.seq < 256 ∧
        s.tenants.checkHeld = none ∧ s.tenants.auto_ = none ∧ s.tenants.check = none ∧ LogRoom 2 s ∧ ¬ (lenOk q.method q.len = true ∧
        (s.slotEn q.tenant && bit (s.slotMethods q.tenant) q.method) = true ∧ (bit (s.slotAlmask q.tenant) q.method) = true ∧ bit
        s.tenants.alok q.tenant = true) ∧ (lenOk q.method q.len && (s.slotEn q.tenant && bit (s.slotMethods q.tenant) q.method)) = true ∧
        (bit (s.slotAlmask q.tenant) q.method) = true)
    ∧ (∃ (s : State) (q : AuthReq), s.tenants.req = some q ∧ q.auto_ = false ∧ q.tenant < 16 ∧ q.method < 8 ∧ q.method ≠ 4 ∧ q.seq < 256 ∧
        s.tenants.checkHeld = none ∧ s.tenants.auto_ = none ∧ s.tenants.check = none ∧ LogRoom 2 s ∧ ¬ (lenOk q.method q.len = true ∧
        (s.slotEn q.tenant && bit (s.slotMethods q.tenant) q.method) = true ∧ (bit (s.slotAlmask q.tenant) q.method) = true ∧ bit
        s.tenants.alok q.tenant = true) ∧ (lenOk q.method q.len && (s.slotEn q.tenant && bit (s.slotMethods q.tenant) q.method) && !(bit
        (s.slotAlmask q.tenant) q.method)) = false)
    ∧ (∃ (s : State) (q : AuthReq), s.tenants.req = some q ∧ q.auto_ = false ∧ q.tenant < 16 ∧ q.method < 8 ∧ q.method ≠ 4 ∧ q.seq < 256 ∧
        s.tenants.checkHeld = none ∧ s.tenants.auto_ = none ∧ s.tenants.check = none ∧ lenOk q.method q.len = true ∧ s.slotEn q.tenant = true ∧
        bit (s.slotMethods q.tenant) q.method = true ∧ bit (s.slotAlmask q.tenant) q.method = true ∧ bit s.tenants.alok q.tenant = true ∧
        LogRoom 1 (s.lookUp q.tenant (beLine (authDigest q % 2 ^ 128)) 1 (s.listCount q.tenant + 1) 12).2)
    ∧ (∃ (s : State) (q : AuthReq), s.tenants.req = some q ∧ q.auto_ = true ∧ q.method < 8 ∧ q.method ≠ 4 ∧ q.seq < 256 ∧ lenOk q.method q.len = true ∧
        s.tenants.checkHeld = none ∧ s.tenants.auto_ = none ∧ s.tenants.check = none ∧ (∀ k : Nat, k < 16 → bit (s.slotAlmask k) q.method = false) ∧
        LogRoom 1 s ∧ ((List.range 16).filter fun k => s.slotEn k && bit (s.slotMethods k) q.method) ≠ [])
    ∧ (∃ (s : State) (q : AuthReq), s.tenants.req = some q ∧ q.auto_ = true ∧ q.method < 8 ∧ q.method ≠ 4 ∧ q.seq < 256 ∧ lenOk q.method q.len = true ∧
        s.tenants.checkHeld = none ∧ s.tenants.auto_ = none ∧ s.tenants.check = none ∧ (∀ k : Nat, k < 16 → bit (s.slotAlmask k) q.method = false) ∧
        LogRoom 1 s ∧ ((List.range 16).filter fun k => s.slotEn k && bit (s.slotMethods k) q.method) = [])
    ∧ (∃ (s : State) (q : AuthReq), s.tenants.req = some q ∧ q.auto_ = false ∧ q.tenant < 16 ∧ q.method = 4 ∧ q.len = 16 ∧ q.seq < 256 ∧
        s.tenants.checkHeld = none ∧ s.tenants.auto_ = none ∧ s.slotEn q.tenant = true ∧ bit (s.slotMethods q.tenant) 4 = true ∧ LogRoom 1 s
        ∧ (s.checkToken q.tenant q.data) ≠ 3)
    ∧ (∃ (s : State), s.on F.TEN_STAT_BUSY = true)
    ∧ (∃ (s : State), s.on F.TEN_STAT_BUSY = false)
    ∧ (∃ (s : State) (k : Nat), s.tenants.check = some k ∧ s.tenants.checkHeld = none ∧ s.tenants.auto_ = none ∧ s.tenants.req = none ∧ k < 16 ∧
        LogRoom 1 (s.checkList k).2 ∧ ((s.checkList k).1.isNone && !s.tenants.checkHit) = false) :=
  ⟨⟨on0.puts [(F.TEN_STAT_BUSY, 1)], by decide +kernel⟩,
   ⟨on0.puts [(F.TEN_STAT_BUSY, 0)], by decide +kernel⟩,
   ⟨{ on0 with tenants := { on0.tenants with req := some ⟨0, false, 0, 0, 0, []⟩, words := [(0, 3)] } }, ⟨0, false, 0, 0, 0, []⟩,
     by unfold LogRoom; decide +kernel⟩,
   ⟨{ on0 with tenants := { on0.tenants with req := some ⟨0, false, 0, 0, 0, []⟩, words := [(0, 0x103)] } }, ⟨0, false, 0, 0, 0, []⟩,
     by unfold LogRoom; decide +kernel⟩,
   ⟨{ on0 with tenants := { State.reset.tenants with req := some (⟨0, false, 0, 4, 0, []⟩ : AuthReq), checkHeld := none, auto_ := none, check := none } },
     ⟨0, false, 0, 4, 0, []⟩, by unfold LogRoom; decide +kernel⟩,
   ⟨{ on0 with tenants := { on0.tenants with req := some ⟨5, false, 0, 1, 0, [7]⟩, words := [(0, 0x2041)], alok := 1 } }, ⟨5, false, 0, 1, 0, [7]⟩,
     by unfold LogRoom; decide +kernel⟩,
   ⟨{ on0 with tenants := { on0.tenants with req := some ⟨5, true, 0, 1, 0, [7]⟩, words := [(0, 0x41)] } }, ⟨5, true, 0, 1, 0, [7]⟩,
     by unfold LogRoom; decide +kernel⟩,
   ⟨{ on0 with tenants := { on0.tenants with req := some ⟨5, true, 0, 1, 0, [7]⟩ } }, ⟨5, true, 0, 1, 0, [7]⟩, by unfold LogRoom; decide +kernel⟩,
   ⟨{ on0 with tenants := { on0.tenants with req := some ⟨4, false, 0, 16, 0, []⟩, words := [(0, 0x21)] } }, ⟨4, false, 0, 16, 0, []⟩,
     by unfold LogRoom; decide +kernel⟩,
   ⟨on0.puts [(F.TEN_STAT_BUSY, 1)], by decide +kernel⟩,
   ⟨on0.puts [(F.TEN_STAT_BUSY, 0)], by decide +kernel⟩,
   ⟨{ on0 with tenants := { State.reset.tenants with check := some (0 : Nat), checkHeld := none, auto_ := none, req := none } }, 0,
     by unfold LogRoom; decide +kernel⟩⟩

/-- A state and operands for the hypotheses of each claim of TenantSlots, and of each of its cases. -/
theorem test_witness_TenantSlots :
    (∃ (s : State), (s.slotEn (s.get F.TEN_SLOTSEL_SLOT) = true ∨ s.slotOpen (s.get F.TEN_SLOTSEL_SLOT) = true ∨ s.tenants.wipe.isSome = true))
    ∧ (∃ (s : State), s.slotEn (s.get F.TEN_SLOTSEL_SLOT) = false ∧ s.slotOpen (s.get F.TEN_SLOTSEL_SLOT) = false ∧ s.tenants.wipe = none ∧
        s.commit.appQ.length ≤ 16)
    ∧ (∃ (s : State) (w : BitVec 6), LogRoom 1 s ∧ (w.toNat) = 1)
    ∧ (∃ (s : State) (w : BitVec 6), LogRoom 1 s ∧ (w.toNat) = 2)
    ∧ (∃ (s : State) (w : BitVec 6), LogRoom 1 s ∧ (!s.slotEn (s.get F.TEN_SLOTSEL_SLOT) && !s.slotOpen (s.get F.TEN_SLOTSEL_SLOT)) = true ∧
        (w.toNat) ∈ [4, 5, 6, 7, 8, 9, 10, 11, 12, 13] ++ (List.range 24).map (· + 16))
    ∧ (∃ (s : State) (w : BitVec 6) (v : Word), LogRoom 1 s ∧ (!s.slotEn (s.get F.TEN_SLOTSEL_SLOT) && !s.slotOpen (s.get F.TEN_SLOTSEL_SLOT)) =
        true ∧ (w.toNat) ∈ [4, 5, 6, 7] ∧ s.slotWord (s.get F.TEN_SLOTSEL_SLOT) (w.toNat) ≠ v.toNat)
    ∧ (∃ (s : State) (w : BitVec 6) (v : Word), LogRoom 1 s ∧ (!s.slotEn (s.get F.TEN_SLOTSEL_SLOT) && !s.slotOpen (s.get F.TEN_SLOTSEL_SLOT)) =
        true ∧ (w.toNat) ∈ (List.range 16).map (· + 16) ∧ s.slotWord (s.get F.TEN_SLOTSEL_SLOT) (w.toNat) ≠ v.toNat)
    ∧ (∃ (s : State) (w : BitVec 6), LogRoom 1 s ∧ (!s.slotEn (s.get F.TEN_SLOTSEL_SLOT) && !s.slotOpen (s.get F.TEN_SLOTSEL_SLOT)) = true ∧
        (w.toNat) ∈ (List.range 8).map (· + 32))
    ∧ (∃ (s : State) (w : BitVec 6), LogRoom 1 s ∧ (!s.slotEn (s.get F.TEN_SLOTSEL_SLOT) && !s.slotOpen (s.get F.TEN_SLOTSEL_SLOT)) = false ∧
        (w.toNat) ∉ [0, 1, 2])
    ∧ (∃ (s : State) (w : BitVec 6) (v : Word), LogRoom 1 s ∧ (!s.slotEn (s.get F.TEN_SLOTSEL_SLOT) && !s.slotOpen (s.get F.TEN_SLOTSEL_SLOT)) =
        false ∧ (w.toNat) = 0 ∧ s.scfgOf (s.get F.TEN_SLOTSEL_SLOT) v.toNat / 2 = s.slotWord (s.get F.TEN_SLOTSEL_SLOT) 0 / 2)
    ∧ (∃ (s : State) (w : BitVec 6) (v : Word), LogRoom 1 s ∧ (!s.slotEn (s.get F.TEN_SLOTSEL_SLOT) && !s.slotOpen (s.get F.TEN_SLOTSEL_SLOT)) =
        false ∧ (w.toNat) = 0 ∧ s.scfgOf (s.get F.TEN_SLOTSEL_SLOT) v.toNat / 2 ≠ s.slotWord (s.get F.TEN_SLOTSEL_SLOT) 0 / 2)
    ∧ (∃ (s : State) (w : BitVec 6), LogRoom 1 s ∧ (w.toNat) ≠ 0)
    ∧ (∃ (s : State), s.on F.TEN_CTL_AUTOINT = true ∧ s.get F.SIG_STAT_SESS = 2 ∧ s.tenants.period ≠ some (s.get F.SIG_SESSST_SLOT, (s.periodNow
        (s.get F.SIG_SESSST_TENANT))) ∧ LogRoom 2 s ∧ s.get F.SYS_SESS_REQ_OP = 0)
    ∧ (∃ (s : State), s.on F.TEN_CTL_AUTOINT = true ∧ s.get F.SIG_STAT_SESS = 2 ∧ s.tenants.period ≠ some (s.get F.SIG_SESSST_SLOT, (s.periodNow
        (s.get F.SIG_SESSST_TENANT))) ∧ LogRoom 2 s ∧ s.get F.SYS_SESS_REQ_OP ≠ 0)
    ∧ (∃ (s : State), LogRoom 2 s ∧ s.on F.TEN_CTL_AUTOINT = false ∧ s.get F.SIG_STAT_SESS = 2)
    ∧ (∃ (s : State), LogRoom 2 s ∧ s.get F.SIG_STAT_SESS ≠ 2)
    ∧ (∃ (s : State) (k : Nat) (j : Nat), s.tenants.boundary = some (k, j) ∧ j < 8 ∧ LogRoom 2 s ∧ s.get F.SYS_SESS_REQ_OP ≠ 0)
    ∧ (∃ (s : State) (k : Nat) (j : Nat), s.tenants.boundary = some (k, j) ∧ j < 8 ∧ LogRoom 2 s ∧ s.get F.SYS_SESS_REQ_OP = 0 ∧ s.get
        F.SIG_STAT_SESS = 2)
    ∧ (∃ (s : State) (k : Nat) (j : Nat), s.tenants.boundary = some (k, j) ∧ j < 8 ∧ LogRoom 2 s ∧ s.get F.SYS_SESS_REQ_OP = 0 ∧ s.get
        F.SIG_STAT_SESS ≠ 2) :=
  ⟨⟨{ on0 with tenants := { on0.tenants with words := [(0, 1)] } }, by decide +kernel⟩,
   ⟨{ on0 with tenants := { State.reset.tenants with wipe := none } }, by decide +kernel⟩,
   ⟨on0, 1, by unfold LogRoom; decide +kernel⟩,
   ⟨on0, 2, by unfold LogRoom; decide +kernel⟩,
   ⟨on0, 16, by unfold LogRoom; decide +kernel⟩,
   ⟨on0, 4, 1, by unfold LogRoom; decide +kernel⟩,
   ⟨on0, 16, 1, by unfold LogRoom; decide +kernel⟩,
   ⟨on0, 32, by unfold LogRoom; decide +kernel⟩,
   ⟨{ on0 with tenants := { on0.tenants with words := [(0, 1)] } }, 4, by unfold LogRoom; decide +kernel⟩,
   ⟨{ on0 with tenants := { on0.tenants with words := [(0, 1)] } }, 0, 0, by unfold LogRoom; decide +kernel⟩,
   ⟨{ on0 with tenants := { on0.tenants with words := [(0, 1)] } }, 0, 2, by unfold LogRoom; decide +kernel⟩,
   ⟨on0, 1, by unfold LogRoom; decide +kernel⟩,
   ⟨on0.puts [(F.TEN_CTL_AUTOINT, 1), (F.SIG_STAT_SESS, 2), (F.SYS_SESS_REQ_OP, 0)], by unfold LogRoom; decide +kernel⟩,
   ⟨on0.puts [(F.TEN_CTL_AUTOINT, 1), (F.SIG_STAT_SESS, 2), (F.SYS_SESS_REQ_OP, 1)], by unfold LogRoom; decide +kernel⟩,
   ⟨on0.puts [(F.SIG_STAT_SESS, 2)], by unfold LogRoom; decide +kernel⟩,
   ⟨on0, by unfold LogRoom; decide +kernel⟩,
   ⟨{ on0.puts [(F.SYS_SESS_REQ_OP, 1)] with tenants := { State.reset.tenants with boundary := some ((0 : Nat), (0 : Nat)) } }, 0, 0,
     by unfold LogRoom; decide +kernel⟩,
   ⟨{ on0.puts [(F.SYS_SESS_REQ_OP, 0), (F.SIG_STAT_SESS, 2)] with tenants := { State.reset.tenants with boundary := some ((0 : Nat), (0 : Nat)) } }, 0,
     0, by unfold LogRoom; decide +kernel⟩,
   ⟨{ on0.puts [(F.SYS_SESS_REQ_OP, 0), (F.SIG_STAT_SESS, 2 + 1)] with tenants := { State.reset.tenants with boundary := some ((0 : Nat), (0 : Nat)) } },
     0, 0, by unfold LogRoom; decide +kernel⟩⟩

/-- A state and operands for the hypotheses of each claim of HfReader, and of each of its cases. -/
theorem test_witness_HfReader :
    (∃ (s : State), LogRoom 1 s ∧ (s.hfState = 0 ∨ s.hfState = 6))
    ∧ (∃ (s : State), LogRoom 1 s ∧ s.hfState ≠ 0 ∧ s.hfState ≠ 6)
    ∧ (∃ (s : State), s.hfState ≠ 6 ∧ s.get F.RDR_HFCMD_OP = 1)
    ∧ (∃ (s : State), LogRoom 1 s ∧ s.hfState = 1 ∧ s.reader.tunedAt + 60000 * tickMs ≤ s.angle.now)
    ∧ (∃ (s : State), LogRoom 1 s ∧ s.hfState ≠ 1)
    ∧ (∃ (s : State), (s.hfState = 1 ∧ (s.reader.reqaAt.all fun t => decide (t + 100 * tickMs ≤ s.angle.now)) = true))
    ∧ (∃ (s : State), ¬ (s.hfState = 1 ∧ (s.reader.reqaAt.all fun t => decide (t + 100 * tickMs ≤ s.angle.now)) = true))
    ∧ (∃ (s : State) (answered : Bool) (collision : Bool) (sak : Byte) (uid : List Byte), s.hfState = 2 ∧ uid.length < 16 ∧ LogRoom 1 s ∧ answered
        = false)
    ∧ (∃ (s : State) (answered : Bool) (collision : Bool) (sak : Byte) (uid : List Byte), s.hfState = 2 ∧ uid.length < 16 ∧ LogRoom 1 s ∧ answered
        = true ∧ collision = true)
    ∧ (∃ (s : State) (answered : Bool) (collision : Bool) (sak : Byte) (uid : List Byte), s.hfState = 2 ∧ uid.length < 16 ∧ LogRoom 1 s ∧ answered
        = true ∧ (collision && s.on F.RDR_HFCFG_ONECARD) = true)
    ∧ (∃ (s : State) (answered : Bool) (collision : Bool) (sak : Byte) (uid : List Byte), s.hfState = 2 ∧ uid.length < 16 ∧ LogRoom 1 s ∧ answered
        = true ∧ (collision && s.on F.RDR_HFCFG_ONECARD) = false)
    ∧ (∃ (s : State), s.get F.RDR_HFCMD_OP ≠ 0)
    ∧ (∃ (s : State), s.get F.RDR_HFCMD_OP = 0)
    ∧ (∃ (s : State) (xres : BitVec 3) (answer : List Byte), s.get F.RDR_HFCMD_OP = 1 ∧ s.hfState = 4 ∧ (if xres = 1 ∧ 1024 < answer.length then 5
        else xres.toNat) ∈ [1, 2, 3, 5] ∧ LogRoom 1 s ∧ (if xres = 1 ∧ 1024 < answer.length then 5 else xres.toNat) = 1)
    ∧ (∃ (s : State) (xres : BitVec 3) (answer : List Byte), s.get F.RDR_HFCMD_OP = 1 ∧ s.hfState = 4 ∧ (if xres = 1 ∧ 1024 < answer.length then 5
        else xres.toNat) ∈ [1, 2, 3, 5] ∧ LogRoom 1 s ∧ (if xres = 1 ∧ 1024 < answer.length then 5 else xres.toNat) = 3)
    ∧ (∃ (s : State) (xres : BitVec 3) (answer : List Byte), s.get F.RDR_HFCMD_OP = 1 ∧ s.hfState = 4 ∧ (if xres = 1 ∧ 1024 < answer.length then 5
        else xres.toNat) ∈ [1, 2, 3, 5] ∧ LogRoom 1 s ∧ (if xres = 1 ∧ 1024 < answer.length then 5 else xres.toNat) ≠ 3)
    ∧ (∃ (s : State), s.get F.RDR_HFCMD_OP = 0 ∧ (s.hfState = 3 ∨ s.hfState = 4))
    ∧ (∃ (s : State), s.get F.RDR_HFCMD_OP ≠ 0)
    ∧ (∃ (s : State) (answer : Bool), s.hfState = 5 ∧ s.reader.probeAt + 500 * tickMs ≤ s.angle.now ∧ LogRoom 1 s ∧ answer = true)
    ∧ (∃ (s : State) (answer : Bool), s.hfState = 5 ∧ s.reader.probeAt + 500 * tickMs ≤ s.angle.now ∧ LogRoom 1 s ∧ answer = false ∧ s.reader.silent = 0)
    ∧ (∃ (s : State) (answer : Bool), s.hfState = 5 ∧ s.reader.probeAt + 500 * tickMs ≤ s.angle.now ∧ LogRoom 1 s ∧ answer = false ∧ 1 ≤ s.reader.silent)
    ∧ (∃ (s : State), (s.hfState = 3 ∨ s.hfState = 4) ∧ s.reader.cmdAt + s.get F.RDR_HFCFG_ACTTO * 1000 * tickMs ≤ s.angle.now ∧ LogRoom 1 s)
    ∧ (∃ (s : State), (s.hfState = 3 ∨ s.hfState = 4) ∧ LogRoom 1 s ∧ s.get F.RDR_HFCMD_OP = 1) :=
  ⟨⟨on0.puts [(F.RDR_STAT_HFSTATE, 0)], by unfold LogRoom; decide +kernel⟩,
   ⟨on0.puts [(F.RDR_STAT_HFSTATE, 1)], by unfold LogRoom; decide +kernel⟩,
   ⟨on0.puts [(F.RDR_HFCMD_OP, 1)], by decide +kernel⟩,
   ⟨{ on0.puts [(F.RDR_STAT_HFSTATE, 1)] with angle := { on0.angle with now := 1000000000 } }, by unfold LogRoom; decide +kernel⟩,
   ⟨on0.puts [(F.RDR_STAT_HFSTATE, 0)], by unfold LogRoom; decide +kernel⟩,
   ⟨on0.puts [(F.RDR_STAT_HFSTATE, 1)], by decide +kernel⟩,
   ⟨on0.puts [(F.RDR_STAT_HFSTATE, 0)], by decide +kernel⟩,
   ⟨on0.puts [(F.RDR_STAT_HFSTATE, 2)], false, false, 0, [], by unfold LogRoom; decide +kernel⟩,
   ⟨on0.puts [(F.RDR_STAT_HFSTATE, 2)], true, true, 0, [], by unfold LogRoom; decide +kernel⟩,
   ⟨on0.puts [(F.RDR_STAT_HFSTATE, 2), (F.RDR_HFCFG_ONECARD, 1)], true, true, 0, [], by unfold LogRoom; decide +kernel⟩,
   ⟨on0.puts [(F.RDR_STAT_HFSTATE, 2)], true, false, 0, [], by unfold LogRoom; decide +kernel⟩,
   ⟨on0.puts [(F.RDR_HFCMD_OP, 1)], by decide +kernel⟩,
   ⟨on0.puts [(F.RDR_HFCMD_OP, 0)], by decide +kernel⟩,
   ⟨on0.puts [(F.RDR_HFCMD_OP, 1), (F.RDR_STAT_HFSTATE, 4)], 1, [], by unfold LogRoom; decide +kernel⟩,
   ⟨on0.puts [(F.RDR_HFCMD_OP, 1), (F.RDR_STAT_HFSTATE, 4)], 3, [], by unfold LogRoom; decide +kernel⟩,
   ⟨on0.puts [(F.RDR_HFCMD_OP, 1), (F.RDR_STAT_HFSTATE, 4)], 2, [], by unfold LogRoom; decide +kernel⟩,
   ⟨on0.puts [(F.RDR_HFCMD_OP, 0), (F.RDR_STAT_HFSTATE, 3)], by decide +kernel⟩,
   ⟨on0.puts [(F.RDR_HFCMD_OP, 1)], by decide +kernel⟩,
   ⟨{ on0.puts [(F.RDR_STAT_HFSTATE, 5)] with angle := { on0.angle with now := 1000000000 } }, true, by unfold LogRoom; decide +kernel⟩,
   ⟨{ on0.puts [(F.RDR_STAT_HFSTATE, 5)] with reader := { State.reset.reader with silent := 0 }, angle := { on0.angle with now := 1000000000 } }, false, by unfold LogRoom; decide +kernel⟩,
   ⟨{ on0.puts [(F.RDR_STAT_HFSTATE, 5)] with reader := { State.reset.reader with silent := 1 }, angle := { on0.angle with now := 1000000000 } }, false, by unfold LogRoom; decide +kernel⟩,
   ⟨{ on0.puts [(F.RDR_STAT_HFSTATE, 3)] with angle := { on0.angle with now := 1000000000 } }, by unfold LogRoom; decide +kernel⟩,
   ⟨on0.puts [(F.RDR_STAT_HFSTATE, 3), (F.RDR_HFCMD_OP, 1)], by unfold LogRoom; decide +kernel⟩⟩

/-- A state and operands for the hypotheses of each claim of UhfReader, and of each of its cases. -/
theorem test_witness_UhfReader :
    (∃ (s : State), s.on F.RDR_UHFCFG_REGION = false)
    ∧ (∃ (s : State), s.on F.RDR_UHFCFG_REGION = true ∧ s.reader.hopped.length < 50)
    ∧ (∃ (s : State) (r : Nat), s.uhfState = 1 ∧ s.reader.roundAt = some r ∧ s.angle.now < r + s.get F.RDR_UHFPER_MS * tickMs)
    ∧ (∃ (s : State) (tags : List UhfTag), s.roundDue = true ∧ s.reader.tags = [] ∧ tags.length ≤ 1 ∧ LogRoom 1 s ∧ tags = [])
    ∧ (∃ (s : State) (tags : List UhfTag), s.roundDue = true ∧ s.reader.tags = [] ∧ tags.length ≤ 1 ∧ LogRoom 1 s ∧ tags ≠ [] ∧ (s.get F.RDR_UHFQ_N) <
        8)
    ∧ (∃ (s : State) (tags : List UhfTag), s.roundDue = true ∧ s.reader.tags = [] ∧ tags.length ≤ 1 ∧ LogRoom 1 s ∧ tags ≠ [] ∧ 8 ≤ (s.get
        F.RDR_UHFQ_N))
    ∧ (∃ (s : State), LogRoom 1 s ∧ (s.uhfState = 1 ∨ s.uhfState = 2))
    ∧ (∃ (s : State), LogRoom 1 s ∧ (s.uhfState = 0 ∨ s.uhfState = 3))
    ∧ (∃ (s : State), s.get F.RDR_UHFQ_N = 0)
    ∧ (∃ (s : State), s.get F.RDR_UHFQ_N ≠ 0) :=
  ⟨⟨on0, by decide +kernel⟩,
   ⟨on0.puts [(F.RDR_UHFCFG_REGION, 1)], by decide +kernel⟩,
   ⟨{ on0.puts [(F.RDR_STAT_UHFSTATE, 1), (F.RDR_UHFPER_MS, 500)] with reader := { State.reset.reader with roundAt := some 0 } }, 0, by decide +kernel⟩,
   ⟨{ on0.puts [(F.RDR_STAT_UHFSTATE, 1)] with reader := { State.reset.reader with tags := [] } }, [], by unfold LogRoom; decide +kernel⟩,
   ⟨{ on0.puts [(F.RDR_STAT_UHFSTATE, 1)] with reader := { State.reset.reader with tags := [] } }, [⟨0, [], 0, none⟩], by unfold LogRoom; decide +kernel⟩,
   ⟨{ on0.puts [(F.RDR_STAT_UHFSTATE, 1), (F.RDR_UHFQ_N, 8)] with reader := { State.reset.reader with tags := [] } }, [⟨0, [], 0, none⟩],
     by unfold LogRoom; decide +kernel⟩,
   ⟨on0.puts [(F.RDR_STAT_UHFSTATE, 1)], by unfold LogRoom; decide +kernel⟩,
   ⟨on0.puts [(F.RDR_STAT_UHFSTATE, 0)], by unfold LogRoom; decide +kernel⟩,
   ⟨on0.puts [(F.RDR_UHFQ_N, 0)], by decide +kernel⟩,
   ⟨on0.puts [(F.RDR_UHFQ_N, 1)], by decide +kernel⟩⟩

/-- A state and operands for the hypotheses of each claim of PanelFrames, and of each of its cases. -/
theorem test_witness_PanelFrames :
    (∃ (s : State), s.boundaryAt = none)
    ∧ (∃ (s : State) (k : Nat), Claims.boundaryNow s ∧ s.considered = [] ∧ (∀ n : Nat, n < 3 → s.layerOpen n = false) ∧ s.panel.slots.length = 8 ∧ k
        < 8)
    ∧ (∃ (s : State), s.panelRuns = true ∧ s.get F.EPD_STAT_RAILST ≠ 1 ∧ 1 ≤ s.get F.EPD_RATE_HZ)
    ∧ (∃ (s : State) (u : Nat), s.boundaryAt = some u ∧ s.angle.now < u)
    ∧ (∃ (s : State) (n k : Nat), Claims.boundaryNow s ∧ s.considered = [] ∧ n < 3 ∧ s.layerOpen n = true ∧ (∀ j : Nat, j < 3 → j ≠ n → s.layerOpen j = false)
        ∧ k < 3 ∧ k ≠ n ∧ LogRoom 2 s ∧ s.damagedPanel = [] ∧ s.get (F.EPD_LQ_CONSEC.i n) = 0)
    ∧ (∃ (s : State) (n k : Nat), Claims.boundaryNow s ∧ s.considered = [] ∧ n = 0 ∧ s.layerOpen n = true ∧ (∀ j : Nat, j < 3 → j ≠ n → s.layerOpen j = false)
        ∧ k < 3 ∧ k ≠ n ∧ LogRoom 2 s ∧ s.damagedPanel = [] ∧ s.get (F.EPD_LQ_CONSEC.i n) = 3 ∧ s.on F.EPD_STAT_LEGALSTALE = false)
    ∧ (∃ (s : State) (q : PanelReq), Claims.boundaryNow s ∧ s.on F.EPD_CTL_EN = true ∧ s.panel.queue = [q] ∧ s.panel.stale = false ∧ (q.layer = 1 ∨
        q.layer = 2) ∧ (∀ n : Nat, n < 3 → s.layerOpen n = false) ∧ s.panel.slots = List.replicate 8 none ∧ s.get F.EPD_STAT_RAILST = 2)
    ∧ (∃ (s : State) (q : PanelReq), Claims.boundaryNow s ∧ s.on F.EPD_CTL_EN = true ∧ s.panel.queue = [q] ∧ s.panel.stale = false ∧ (q.layer = 1 ∨
        q.layer = 2) ∧ (∀ n : Nat, n < 3 → s.layerOpen n = false) ∧ s.panel.slots = List.replicate 8 none ∧ s.get F.EPD_STAT_RAILST = 0
        ∧ (s.railsRetry && !s.on F.EPD_STAT_RAILHELD) = true)
    ∧ (∃ (s : State) (q : PanelReq), Claims.boundaryNow s ∧ s.on F.EPD_CTL_EN = true ∧ s.panel.queue = [q] ∧ s.panel.stale = false ∧ (q.layer = 1 ∨
        q.layer = 2) ∧ (∀ n : Nat, n < 3 → s.layerOpen n = false) ∧ s.panel.slots = List.replicate 8 none ∧ s.get F.EPD_STAT_RAILST = 0
        ∧ (s.railsRetry && !s.on F.EPD_STAT_RAILHELD) = false)
    ∧ (∃ (s : State) (n : Fin 3) (v : Word), LogRoom 1 s ∧ (s.panelRefusal ((⟨n.val, ⟨bits (s.commitValue (if n.val = 0 then .legal else s.ownerOf
        Page.EPD) (F.EPD_LREQ_X.i n.val).addr 2 v.toNat) 0 11, bits (s.commitValue (if n.val = 0 then .legal else s.ownerOf Page.EPD)
        (F.EPD_LREQ_X.i n.val).addr 2 v.toNat) 16 11, bits (s.commitValue (if n.val = 0 then .legal else s.ownerOf Page.EPD) (F.EPD_LREQ_X.i
        n.val).addr 2 v.toNat) 32 11, bits (s.commitValue (if n.val = 0 then .legal else s.ownerOf Page.EPD) (F.EPD_LREQ_X.i n.val).addr 2
        v.toNat) 48 11⟩, bits (s.commitValue (if n.val = 0 then .legal else s.ownerOf Page.EPD) (F.EPD_LREQ_X.i n.val).addr 2 v.toNat) 60 2⟩
        : PanelReq))) = 0)
    ∧ (∃ (s : State) (n : Fin 3) (v : Word), LogRoom 1 s ∧ (s.panelRefusal ((⟨n.val, ⟨bits (s.commitValue (if n.val = 0 then .legal else s.ownerOf
        Page.EPD) (F.EPD_LREQ_X.i n.val).addr 2 v.toNat) 0 11, bits (s.commitValue (if n.val = 0 then .legal else s.ownerOf Page.EPD)
        (F.EPD_LREQ_X.i n.val).addr 2 v.toNat) 16 11, bits (s.commitValue (if n.val = 0 then .legal else s.ownerOf Page.EPD) (F.EPD_LREQ_X.i
        n.val).addr 2 v.toNat) 32 11, bits (s.commitValue (if n.val = 0 then .legal else s.ownerOf Page.EPD) (F.EPD_LREQ_X.i n.val).addr 2
        v.toNat) 48 11⟩, bits (s.commitValue (if n.val = 0 then .legal else s.ownerOf Page.EPD) (F.EPD_LREQ_X.i n.val).addr 2 v.toNat) 60 2⟩
        : PanelReq))) ≠ 0)
    ∧ (∃ (s : State), s.get F.EPD_STAT_RAILST ≠ 1)
    ∧ (∃ (s : State), s.get F.EPD_STAT_RAILST = 1 ∧ s.angle.now < s.panel.railsAt + 81920)
    ∧ (∃ (s : State), s.get F.EPD_STAT_RAILST = 1 ∧ s.panel.railsAt + 81920 ≤ s.angle.now ∧ s.considered = [] ∧ (∀ n : Nat, n < 3 → s.layerOpen n = false)) :=
  ⟨⟨on0, by decide +kernel⟩,
   ⟨late16 (on0.puts [(F.EPD_STAT_WAVEOK, 1), (F.EPD_CTL_EN, 1)]), 0, by unfold Claims.boundaryNow; decide +kernel⟩,
   ⟨on0.puts [(F.EPD_STAT_WAVEOK, 1), (F.EPD_CTL_EN, 1), (F.EPD_RATE_HZ, 50)], by decide +kernel⟩,
   ⟨on0.puts [(F.EPD_STAT_WAVEOK, 1), (F.EPD_CTL_EN, 1), (F.EPD_RATE_HZ, 50)], 327680, by decide +kernel⟩,
   ⟨late16 (on0.puts [(F.EPD_STAT_WAVEOK, 1), (F.EPD_CTL_EN, 1), (F.EPD_LCTL_OPEN.i 2, 1)]), 2, 0, by unfold Claims.boundaryNow LogRoom; decide +kernel⟩,
   ⟨late16 (on0.puts [(F.EPD_STAT_WAVEOK, 1), (F.EPD_CTL_EN, 1), (F.EPD_LCTL_OPEN.i 0, 1), (F.EPD_LQ_CONSEC.i 0, 3)]), 0, 1,
     by unfold Claims.boundaryNow LogRoom; decide +kernel⟩,
   ⟨late16 { on0.puts [(F.EPD_CTL_EN, 1), (F.EPD_STAT_RAILST, 2), (F.EPD_STAT_WAVEOK, 1)] with panel := { State.reset.panel with queue := [(⟨1, ⟨0, 0, 8, 8⟩, 0⟩ : PanelReq)] } },
     ⟨1, ⟨0, 0, 8, 8⟩, 0⟩, by unfold Claims.boundaryNow; decide +kernel⟩,
   ⟨late16 { on0.puts [(F.EPD_CTL_EN, 1), (F.EPD_STAT_WAVEOK, 1)] with panel := { State.reset.panel with queue := [(⟨1, ⟨0, 0, 8, 8⟩, 0⟩ : PanelReq)] } },
     ⟨1, ⟨0, 0, 8, 8⟩, 0⟩, by unfold Claims.boundaryNow; decide +kernel⟩,
   ⟨late16 { on0.puts [(F.EPD_CTL_EN, 1), (F.EPD_STAT_WAVEOK, 1)] with panel := { State.reset.panel with queue := [(⟨1, ⟨0, 0, 8, 8⟩, 0⟩ : PanelReq)], railFaults := [2 ^ 31] } },
     ⟨1, ⟨0, 0, 8, 8⟩, 0⟩, by unfold Claims.boundaryNow; decide +kernel⟩,
   ⟨((on0.puts [((F.OWNER_DOMAIN.on Page.EPD), 2), (F.EPD_PANEL_W, 64), (F.EPD_PANEL_H, 64), (F.EPD_STAT_WAVEOK, 1)])), 1, 0x00080008,
     by unfold LogRoom; decide +kernel⟩,
   ⟨on0, 0, 0, by unfold LogRoom; decide +kernel⟩,
   ⟨on0, by decide +kernel⟩,
   ⟨on0.puts [(F.EPD_STAT_RAILST, 1)], by decide +kernel⟩,
   ⟨late16 (on0.puts [(F.EPD_STAT_RAILST, 1)]), by decide +kernel⟩⟩

/-- A state and operands for the hypotheses of each claim of PanelRails, and of each of its cases. -/
theorem test_witness_PanelRails :
    (∃ (s : State), (s.get F.EPD_STAT_RAILST = 0 ∨ s.get F.EPD_STAT_RAILST = 3))
    ∧ (∃ (s : State), (s.get F.EPD_STAT_RAILST = 2 ∨ (s.get F.EPD_STAT_RAILST = 1 ∧ s.panel.railsAt + 16384 ≤ s.angle.now)) ∧ s.panel.slots.length = 8 ∧ LogRoom 2 s
        ∧ ((s.inflight.any fun u => u.layer == 0) && s.boot.legalRuns) = true ∧ (s.on F.EPD_STAT_RAILHELD || decide (2 ≤ Claims.priorFaults s)) = true)
    ∧ (∃ (s : State), (s.get F.EPD_STAT_RAILST = 1 ∧ s.panel.railsAt + 81920 ≤ s.angle.now) ∧ s.panel.slots.length = 8 ∧ LogRoom 2 s
        ∧ ((s.inflight.any fun u => u.layer == 0) && s.boot.legalRuns) = true ∧ (s.on F.EPD_STAT_RAILHELD || decide (2 ≤ Claims.priorFaults s)) = false)
    ∧ (∃ (s : State), s.get F.EPD_STAT_RAILST = 2 ∧ s.inflight = [] ∧ s.boot.pfail = false ∧ s.panel.idleAt + s.get F.EPD_FRAMECFG_RAILHOLD * 16384 ≤ s.angle.now)
    ∧ (∃ (s : State), ¬ (s.get F.EPD_STAT_RAILST = 2 ∧ s.inflight = [] ∧ s.boot.pfail = false ∧ s.panel.idleAt + s.get F.EPD_FRAMECFG_RAILHOLD * 16384 ≤ s.angle.now))
    ∧ (∃ (s : State), (s.panel.tempAt.all fun a => decide (a + 16384000 ≤ s.angle.now)) = false)
    ∧ (∃ (s : State) (v : BitVec 12), (s.panel.tempAt.all fun a => decide (a + 16384000 ≤ s.angle.now)) = true ∧ LogRoom 1 s
        ∧ (decide (toSigned 12 v.toNat < -640 ∨ 1360 < toSigned 12 v.toNat)) = true ∧ (s.on F.EPD_TEMP_TFAULT) = false ∧ 2 ≤ s.panel.tBad)
    ∧ (∃ (s : State) (v : BitVec 12), (s.panel.tempAt.all fun a => decide (a + 16384000 ≤ s.angle.now)) = true ∧ LogRoom 1 s
        ∧ (decide (toSigned 12 v.toNat < -640 ∨ 1360 < toSigned 12 v.toNat)) = false ∧ (s.on F.EPD_TEMP_TFAULT) = true ∧ 2 ≤ s.panel.tGood)
    ∧ (∃ (s : State) (v : BitVec 12), (s.panel.tempAt.all fun a => decide (a + 16384000 ≤ s.angle.now)) = true ∧ LogRoom 1 s
        ∧ (decide (toSigned 12 v.toNat < -640 ∨ 1360 < toSigned 12 v.toNat)) = false ∧ (s.on F.EPD_TEMP_TFAULT) = false ∧ s.panel.banded = false)
    ∧ (∃ (s : State), (s.boot.pfail && s.get F.EPD_STAT_RAILST == 2) = false)
    ∧ (∃ (s : State), (s.boot.pfail && s.get F.EPD_STAT_RAILST == 2) = true ∧ s.angle.now < s.panel.failAt + 180224)
    ∧ (∃ (s : State), (s.boot.pfail && s.get F.EPD_STAT_RAILST == 2) = true ∧ s.panel.failAt + 180224 ≤ s.angle.now ∧ s.panel.slots.length = 8) :=
  ⟨⟨on0, by decide +kernel⟩,
   ⟨{ on0.puts [(F.EPD_STAT_RAILST, 2)] with panel := { State.reset.panel with railFaults := [0, 0], slots := (List.replicate 8 none).set 0 (some ⟨0, ⟨0, 0, 8, 8⟩, 0, 0, 0, 1, [], []⟩) }, boot := { on0.boot with legalRuns := true } }, by unfold LogRoom; decide +kernel⟩,
   ⟨late16 { on0.puts [(F.EPD_STAT_RAILST, 1)] with panel := { State.reset.panel with slots := (List.replicate 8 none).set 0 (some ⟨0, ⟨0, 0, 8, 8⟩, 0, 0, 0, 1, [], []⟩) }, boot := { on0.boot with legalRuns := true } }, by unfold LogRoom; decide +kernel⟩,
   ⟨late16 (on0.puts [(F.EPD_STAT_RAILST, 2)]), by decide +kernel⟩,
   ⟨on0, by decide +kernel⟩,
   ⟨{ on0 with panel := { State.reset.panel with tempAt := some on0.angle.now } }, by decide +kernel⟩,
   ⟨{ on0 with panel := { State.reset.panel with tBad := 2 } }, 0x7FF, by unfold LogRoom; decide +kernel⟩,
   ⟨{ on0.puts [(F.EPD_TEMP_TFAULT, 1)] with panel := { State.reset.panel with tGood := 2 } }, 0, by unfold LogRoom; decide +kernel⟩,
   ⟨on0, 0, by unfold LogRoom; decide +kernel⟩,
   ⟨on0, by decide +kernel⟩,
   ⟨{ on0.puts [(F.EPD_STAT_RAILST, 2)] with boot := { on0.boot with pfail := true } }, by decide +kernel⟩,
   ⟨late16 { on0.puts [(F.EPD_STAT_RAILST, 2)] with boot := { on0.boot with pfail := true } }, by decide +kernel⟩⟩

/-- A state and operands for the hypotheses of each claim of PromptAudio, and of each of its cases. -/
theorem test_witness_PromptAudio :
    (∃ (s : State) (en : Bool), en = true ∧ s.on F.AUD_CTL_EN = false)
    ∧ (∃ (s : State) (en : Bool), en = true ∧ s.on F.AUD_CTL_EN = true)
    ∧ (∃ (s : State) (en : Bool), en = false)
    ∧ (∃ (s : State) (r : Fin 256), s.audioRuns = true ∧ s.audio.last + 1024 ≤ s.angle.now ∧ s.ringFor 6 = some r.val ∧ LogRoom 1 s ∧ 4 ≤ (s.ring r).out.length)
    ∧ (∃ (s : State) (r : Fin 256), s.audioRuns = true ∧ s.audio.last + 1024 ≤ s.angle.now ∧ s.ringFor 6 = some r.val ∧ LogRoom 1 s ∧ (s.ring r).out.length < 4
        ∧ s.audio.started = false)
    ∧ (∃ (s : State) (r : Fin 256), s.audioRuns = true ∧ s.audio.last + 1024 ≤ s.angle.now ∧ s.ringFor 6 = some r.val ∧ LogRoom 1 s ∧ (s.ring r).out.length < 4
        ∧ s.audio.started = true)
    ∧ (∃ (s : State), s.audioRuns = false)
    ∧ (∃ (s : State), s.audioRuns = true ∧ s.angle.now < s.audio.last + 1024)
    ∧ (∃ (s : State) (heat : Bool), s.audioRuns = true ∧ (false = true ∨ heat = true) ∧ LogRoom 1 s)
    ∧ (∃ (s : State), (s.on F.AUD_STAT_FAULT && !s.on F.AUD_STAT_HELD) = false)
    ∧ (∃ (s : State), (s.on F.AUD_STAT_FAULT && !s.on F.AUD_STAT_HELD) = true ∧ s.angle.now < s.audio.faults.headD 0 + 16384000)
    ∧ (∃ (s : State), (s.on F.AUD_STAT_FAULT && !s.on F.AUD_STAT_HELD) = true ∧ s.audio.faults.headD 0 + 16384000 ≤ s.angle.now) :=
  ⟨⟨on0.puts [(F.AUD_CTL_EN, 0)], true, by decide +kernel⟩,
   ⟨on0.puts [(F.AUD_CTL_EN, 1)], true, by decide +kernel⟩,
   ⟨on0, false, by decide +kernel⟩,
   ⟨late16 ((on0.puts [(F.AUD_CTL_EN, 1), (F.RING_CTL_EN.i 40, 1), (F.RING_STAT_PORT.i 40, 6)]).setRing 40 { on0.ring 40 with out := [0, 0, 0, 0] }), 40,
     by unfold LogRoom; decide +kernel⟩,
   ⟨late16 (on0.puts [(F.AUD_CTL_EN, 1), (F.RING_CTL_EN.i 40, 1), (F.RING_STAT_PORT.i 40, 6)]), 40, by unfold LogRoom; decide +kernel⟩,
   ⟨late16 { (on0.puts [(F.AUD_CTL_EN, 1), (F.RING_CTL_EN.i 40, 1), (F.RING_STAT_PORT.i 40, 6)]) with audio := { on0.audio with started := true } }, 40,
     by unfold LogRoom; decide +kernel⟩,
   ⟨on0, by decide +kernel⟩,
   ⟨on0.puts [(F.AUD_CTL_EN, 1)], by decide +kernel⟩,
   ⟨on0.puts [(F.AUD_CTL_EN, 1)], true, by unfold LogRoom; decide +kernel⟩,
   ⟨on0, by decide +kernel⟩,
   ⟨on0.puts [(F.AUD_STAT_FAULT, 1)], by decide +kernel⟩,
   ⟨late16 (on0.puts [(F.AUD_STAT_FAULT, 1)]), by decide +kernel⟩⟩

/-- A state and operands for the hypotheses of each claim of RecoveryProtocol, and of each of its cases. -/
theorem test_witness_RecoveryProtocol :
    (∃ (s : State) (eth : Bool) (c : Fin 9) (v : Word) (l : List Byte) (p : Byte) (q : BitVec 768), (s.recovers eth = false ∨ c = 8 ∨ (c = 1 ∧ eth = true ∧ 1491 < l.length)
        ∨ (c = 3 ∧ eth = true ∧ 1016 < l.length) ∨ (c = 3 ∧ 65536 < l.length)))
    ∧ (∃ (s : State) (eth : Bool), s.recovers eth = true)
    ∧ (∃ (s : State) (eth : Bool) (v : Word) (l : List Byte), s.recovers eth = true ∧ l.length + 9 ≤ (if eth then 1500 else 65549)
        ∧ (decide (v.toNat + l.length ≤ 65536)) = true)
    ∧ (∃ (s : State) (eth : Bool) (v : Word) (l : List Byte), s.recovers eth = true ∧ l.length + 9 ≤ (if eth then 1500 else 65549)
        ∧ (decide (v.toNat + l.length ≤ 65536)) = false)
    ∧ (∃ (s : State) (eth : Bool) (total : Word), s.recovers eth = true ∧ (if s.on F.UPD_STAT_BUSY then 2 else if s.updState ≠ 0 then 3 else if
        s.on F.UPD_STAT_PENDING then 14 else (s.openCheck (s.update.manbuf.take total.toNat) s.romLevel)) ≠ 1)
    ∧ (∃ (s : State) (eth : Bool) (total : Word), s.recovers eth = true ∧ (if s.on F.UPD_STAT_BUSY then 2 else if s.updState ≠ 0 then 3 else if
        s.on F.UPD_STAT_PENDING then 14 else (s.openCheck (s.update.manbuf.take total.toNat) s.romLevel)) ≠ 1 ∧ s.on
        F.UPD_STAT_BUSY = false)
    ∧ (∃ (s : State) (eth : Bool) (l : List Byte), s.recovers eth = true ∧ l.length ≤ 1016 ∧ s.on F.UPD_STAT_BUSY = false ∧ s.updState ≠ 2)
    ∧ (∃ (s : State) (eth : Bool) (p : Byte) (v : Word) (l : List Byte), s.recovers eth = true ∧ 1 ≤ l.length ∧ l.length ≤ 1016 ∧ s.on
        F.UPD_STAT_BUSY = false ∧ s.updState = 2 ∧ v.toNat = s.get (F.UPD_PART_BYTES.i p.toNat) ∧ ((manParts (s.bankManifest
        s.targetBank))[p.toNat]?).any (fun e => decide (v.toNat + l.length ≤ e.size) && e.type != 3) = true)
    ∧ (∃ (s : State) (eth : Bool), s.recovers eth = true ∧ s.on F.UPD_STAT_BUSY = false ∧ (decide (s.updState = 2) && (List.range (manParts
        (s.bankManifest s.targetBank)).length).all (fun i => s.get (F.UPD_PART_ST.i i) == 2)) = true)
    ∧ (∃ (s : State) (eth : Bool), s.recovers eth = true ∧ s.on F.UPD_STAT_BUSY = false ∧ (decide (s.updState = 2) && (List.range (manParts
        (s.bankManifest s.targetBank)).length).all (fun i => s.get (F.UPD_PART_ST.i i) == 2)) = false)
    ∧ (∃ (s : State) (eth : Bool), s.recovers eth = true ∧ s.on F.UPD_STAT_BUSY = false ∧ s.get F.SIG_STAT_SESS = 0 ∧ s.updState = 4)
    ∧ (∃ (s : State) (eth : Bool), s.recovers eth = true ∧ s.on F.UPD_STAT_BUSY = false ∧ s.get F.SIG_STAT_SESS = 0 ∧ s.updState ≠ 4)
    ∧ (∃ (s : State) (eth : Bool), s.recovers eth = true ∧ s.isMaster = false ∧ LogRoom 1 s ∧ (decide (1 ≤ s.updState ∧ s.updState ≤ 5)) = true)
    ∧ (∃ (s : State) (eth : Bool) (q : BitVec 768), s.recovers eth = true ∧ LogRoom 1 s ∧ s.romLevel = true)
    ∧ (∃ (s : State) (eth : Bool) (q : BitVec 768), s.recovers eth = true ∧ LogRoom 1 s ∧ s.romLevel = false ∧ s.retryOk (toBytes 96
        q.toNat) = false) :=
  ⟨⟨on0, false, 0, 0, [], 0, 0, by decide +kernel⟩,
   ⟨on0.puts [(F.BOOT_WINTER_REASON, 1)], true, by decide +kernel⟩,
   ⟨on0.puts [(F.BOOT_WINTER_REASON, 1)], true, 0, [], by decide +kernel⟩,
   ⟨on0.puts [(F.BOOT_WINTER_REASON, 1)], true, 65536, [0], by decide +kernel⟩,
   ⟨on0.puts [(F.BOOT_WINTER_REASON, 1)], true, 0, by decide +kernel⟩,
   ⟨on0.puts [(F.UPD_STAT_BUSY, 0), (F.BOOT_WINTER_REASON, 1)], true, 0, by decide +kernel⟩,
   ⟨on0.puts [(F.UPD_STAT_BUSY, 0), (F.UPD_STAT_STATE, 0), (F.BOOT_WINTER_REASON, 1)], true, [], by decide +kernel⟩,
   ⟨{ (on0.puts [(F.BOOT_WINTER_REASON, 1), (F.UPD_STAT_STATE, 2)]) with flash := bareManifest }, true, 0, 0, [0], by decide +kernel⟩,
   ⟨{ (on0.puts [(F.BOOT_WINTER_REASON, 1), (F.UPD_STAT_STATE, 2), (F.UPD_PART_ST.i 0, 2), (F.UPD_PART_ST.i 1, 2)]) with flash := noManifest }, true,
     by decide +kernel⟩,
   ⟨on0.puts [(F.UPD_STAT_BUSY, 0), (F.BOOT_WINTER_REASON, 1)], true, by decide +kernel⟩,
   ⟨on0.puts [(F.UPD_STAT_BUSY, 0), (F.SIG_STAT_SESS, 0), (F.UPD_STAT_STATE, 4), (F.BOOT_WINTER_REASON, 1)], true, by decide +kernel⟩,
   ⟨on0.puts [(F.UPD_STAT_BUSY, 0), (F.SIG_STAT_SESS, 0), (F.UPD_STAT_STATE, 0), (F.BOOT_WINTER_REASON, 1)], true, by decide +kernel⟩,
   ⟨on0.puts [(F.BOOT_WINTER_REASON, 1), (F.UPD_STAT_STATE, 2)], true, by unfold LogRoom; decide +kernel⟩,
   ⟨on0.puts [(F.BOOT_WINTER_REASON, 1), (F.BOOT_STAT_ROMW, 1)], false, 0, by unfold LogRoom; decide +kernel⟩,
   ⟨on0.puts [(F.BOOT_WINTER_REASON, 1)], true, 0, by unfold LogRoom; decide +kernel⟩⟩

/-- A state and operands for the hypotheses of each claim of ServiceLink, and of each of its cases. -/
theorem test_witness_ServiceLink :
    (∃ (s : State) (c : Fin 8) (a : Word) (n : Word) (k : BitVec 16) (ws : List Word) (l : List Byte) (ok : Bool) (z : ColdCheck), (s.serviceOn =
        false ∨ c = 7))
    ∧ (∃ (s : State), s.serviceOn = true)
    ∧ (∃ (s : State) (a : Word) (k : BitVec 16), s.serviceOn = true ∧ LogRoom 1 s ∧ (k.toNat < 1 ∨ 256 < k.toNat))
    ∧ (∃ (s : State) (a : Word) (w : Word), s.serviceOn = true ∧ LogRoom 1 s)
    ∧ (∃ (s : State), s.serviceOn = true ∧ LogRoom 2 s ∧ s.ptCondition ≠ 0)
    ∧ (∃ (s : State), s.serviceOn = true ∧ LogRoom 2 s ∧ s.ptCondition = 0)
    ∧ (∃ (s : State), s.serviceOn = true ∧ LogRoom 1 s ∧ s.boot.productionTest = false)
    ∧ (∃ (s : State), s.serviceOn = true ∧ LogRoom 1 s ∧ s.boot.productionTest = true)
    ∧ (∃ (s : State) (ofs : Word) (l : List Byte), s.serviceOn = true ∧ LogRoom 1 s ∧ (s.boot.productionTest && !(decide (l.length < 1 ∨ 65536 <
        l.length ∨ 0x20000000 < ofs.toNat + l.length))) = false)
    ∧ (∃ (s : State) (ofs : Word) (l : List Byte), s.serviceOn = true ∧ LogRoom 1 s ∧ (s.boot.productionTest && !(decide (l.length < 1 ∨ 65536 <
        l.length ∨ 0x20000000 < ofs.toNat + l.length))) = true)
    ∧ (∃ (s : State) (ofs : Word) (n : Word), s.serviceOn = true ∧ LogRoom 1 s) :=
  ⟨⟨on0.puts [(F.SEAL_STAT_STATE, 1)], 0, 0, 0, 0, [], [], false, z0, by decide +kernel⟩,
   ⟨on0, by decide +kernel⟩,
   ⟨on0, 0, 0, by unfold LogRoom; decide +kernel⟩,
   ⟨on0, 0, 0, by unfold LogRoom; decide +kernel⟩,
   ⟨on0, by unfold LogRoom; decide +kernel⟩,
   ⟨on0.puts [(F.SYS_MODE_MODE, 0), (F.UPD_STAT_ENGIDLE, 1)], by unfold LogRoom; decide +kernel⟩,
   ⟨{ on0 with boot := { on0.boot with productionTest := false } }, by unfold LogRoom; decide +kernel⟩,
   ⟨{ on0 with boot := { on0.boot with productionTest := true } }, by unfold LogRoom; decide +kernel⟩,
   ⟨on0, 0, [], by unfold LogRoom; decide +kernel⟩,
   ⟨{ on0 with boot := { on0.boot with productionTest := true } }, 0, [0], by unfold LogRoom; decide +kernel⟩,
   ⟨on0, 0, 0, by unfold LogRoom; decide +kernel⟩⟩

/-- A state and operands for the hypotheses of each claim of UtcRequestRefused, and of each of its cases. -/
theorem test_witness_UtcRequestRefused :
    (∃ (s : State) (src : BitVec 8) (seq : BitVec 8) (utc : BitVec 64) (at_ : BitVec 64) (build : BitVec 64), s.utcReq = some ⟨src.toNat,
        seq.toNat, utc.toNat, at_.toNat⟩ ∧ (src = 0 ∨ utc.toNat < build.toNat)) :=
⟨{ on0 with utcReq := some ⟨(0 : BitVec 8).toNat, (0 : BitVec 8).toNat, (0 : BitVec 64).toNat, (0 : BitVec 64).toNat⟩ }, 0, 0, 0, 0, 0,
     by decide +kernel⟩

/-- A state and operands for the hypotheses of each claim of TwoWireDisabled, and of each of its cases. -/
theorem test_witness_TwoWireDisabled :
    (∃ (s : State) (n : Fin 2), s.twOn n = true ∧ s.on (F.TW_XFER_GO.i n) = true) :=
⟨on0.puts [((F.TW_CTL_EN.i (0 : Fin 2)), 1), ((F.TW_XFER_GO.i (0 : Fin 2)), 1)], 0, by decide +kernel⟩

end Sys2Proof.Tests
end

section
/-!
Proofs about register writes: pages and addresses, and what an access does under each row of Table 3-3 (chapter 3).
-/

namespace Sys2Proof.Machine

/-! ### Pages and addresses -/

/-- The bases of Table 3-1 are multiples of a page, lie in the register space, and keep clear of the ring pages. -/
theorem pageRows_base : ∀ p ∈ pageRows, p.base % 4096 = 0 ∧ p.base < 0x40100000 ∧ (p.base + 4096 ≤ 0x40061000 ∨ 0x40065000 ≤ p.base) := by
  decide

theorem pageRow_base : ∀ p ∈ pageRows, pageRow p.base = some p := by
  decide

section
variable {p : PageRow} (hp : p ∈ pageRows) {k : Nat} (hk : k < 4096)
include hp hk

theorem pageBase_base_add : pageBase (p.base + k) = p.base := by
  obtain ⟨h, -, -⟩ := pageRows_base p hp
  unfold pageBase
  omega

theorem ringPage_base_add : ringPage (p.base + k) = none := by
  obtain ⟨-, -, h⟩ := pageRows_base p hp
  unfold ringPage
  exact if_neg (by omega)

theorem mappedReg_base_add : mappedReg (p.base + k) = true := by
  have h : pageRow (p.base + k) = pageRow (pageBase (p.base + k)) := by
    unfold pageRow pageBase
    rw [Nat.mul_div_cancel _ (by decide)]
  rw [mappedReg, h, pageBase_base_add hp hk, pageRow_base p hp]
  rfl

theorem toNat_ofNat_base_add : (BitVec.ofNat 32 (p.base + k)).toNat = p.base + k := by
  obtain ⟨-, h, -⟩ := pageRows_base p hp
  rw [BitVec.toNat_ofNat]
  omega
end

theorem xferPages_pageRows : ∀ p ∈ xferPages, ∃ r ∈ pageRows, r.base = p := by
  decide

/-- No agent acts for the safety island. -/
theorem domainOf_code_ne_one (who : Initiator) : (domainOf who).code ≠ 1 := by
  cases who with
  | legal => simp [domainOf, Domain.code]
  | hart _ => simp [domainOf, Domain.code]
  | ring r => by_cases h : r.val < 32 <;> simp [domainOf, Domain.code, h]

/-! ### Commands and their meanings -/

section
variable (s : State) (who : Initiator)
theorem exec_registerWrite (a : Word) (n : Nat) (v : BitVec 64) : exec (.registerWrite who a n v) s = .next (s.writeAccess who a.toNat n v.toNat) := rfl
theorem exec_stalledWriteResume : exec (.stalledWriteResume who) s = .next (s.resumeStalled who) := rfl
theorem exec_unmappedAccess (a : Word) (w : Bool) : exec (.unmappedAccess who a w) s
    = .next (if 0x40000000 ≤ a.toNat ∧ a.toNat < 0x40100000 ∧ !mappedReg a.toNat then s.refuseAccess who a.toNat else s) := rfl
theorem exec_rcFieldRead (a : ReadAt) : exec (.rcFieldRead who a) s = .next (s.readAccess who a.addr.toNat a.size) := rfl
theorem exec_wideSnapshotRead (a : ReadAt) : exec (.wideSnapshotRead who a) s = .next (s.readAccess who a.addr.toNat a.size) := rfl
theorem exec_wideStagingWrite (a v : Word) : exec (.wideStagingWrite who a v) s = .next (s.writeAccess who a.toNat 4 v.toNat) := rfl
theorem exec_faultClear (page v : Word) : exec (.faultClear who page v) s = .next (s.writeAccess who (pageBase page.toNat + 0x1C) 4 v.toNat) := rfl
theorem exec_ownerTransfer (page : Word) (d : BitVec 2) : exec (.ownerTransfer page d) s = .next (s.writeOwner .legal (pageBase page.toNat) d.toNat) := rfl
end

theorem completes_next {t : State} {P : State → Prop} (h : P t) : Completes (.next t) P := ⟨t, rfl, h⟩

/-! ### The access itself -/

@[simp] theorem State.noteMapped_get (s : State) (who : Initiator) (f : Field) : (s.noteMapped who).get f = s.get f := rfl

theorem State.ownerCode_page (s : State) {a : Nat} (h : ringPage a = none) : s.ownerCode a = s.get (F.OWNER_DOMAIN.on (pageBase a)) := by
  unfold State.ownerCode
  rw [h]

section
variable (s : State) (who : Initiator) {a : Nat} (v : Nat)

/-- R92: an aligned access of 4 bytes to a page is one write of the word. -/
theorem State.writeAccess_word (hm : mappedReg a = true) (ha : a % 4 = 0) :
    s.writeAccess who a 4 v = (s.noteMapped who).writeWord who a (v % 2 ^ 32) := by
  simp [State.writeAccess, hm, ha]

/-- Table 3-3: a word of a page that the island does not own, written by a domain that may. -/
theorem State.writeWord_permitted (hr : ringPage a = none) (ho : s.ownerCode a ≠ 1) (h : s.mayWrite (domainOf who) a = true) :
    s.writeWord who a v = (s.permittedWrite who a v).busOk 0 := by
  unfold State.writeWord
  simp only [hr, ho, h, if_true, if_false]

/-- The first row of Table 3-3: the same by a domain that may not. -/
theorem State.writeWord_denied (hr : ringPage a = none) (ho : s.ownerCode a ≠ 1) (h : s.mayWrite (domainOf who) a = false) :
    s.writeWord who a v = s.denyWrite (domainOf who) a v := by
  unfold State.writeWord
  simp only [hr, ho, h, if_false, Bool.false_eq_true]

/-- A write of a word that Table 3-3 permits. -/
theorem State.writeAccess_permitted (hm : mappedReg a = true) (ha : a % 4 = 0) (hr : ringPage a = none) (ho : s.ownerCode a ≠ 1)
    (h : s.mayWrite (domainOf who) a = true) :
    s.writeAccess who a 4 v = ((s.noteMapped who).permittedWrite who a (v % 2 ^ 32)).busOk 0 := by
  rw [s.writeAccess_word who v hm ha]
  exact (s.noteMapped who).writeWord_permitted who _ hr ho h

/-- A write of a word that the first row of Table 3-3 refuses. -/
theorem State.writeAccess_denied (hm : mappedReg a = true) (ha : a % 4 = 0) (hr : ringPage a = none) (ho : s.ownerCode a ≠ 1)
    (h : s.mayWrite (domainOf who) a = false) :
    s.writeAccess who a 4 v = (s.noteMapped who).denyWrite (domainOf who) a (v % 2 ^ 32) := by
  rw [s.writeAccess_word who v hm ha]
  exact (s.noteMapped who).writeWord_denied who _ hr ho h

/-- Table 3-3 on a page of the legal domain: no other domain writes a word of it. -/
theorem State.mayWrite_of_legal (d : Domain) (h : s.ownerCode a = 0) : s.mayWrite d a = (d == .legal) := by
  unfold State.mayWrite
  split
  · rfl
  · rw [h]
    cases d <;> rfl

/-- A word past the common registers is none of them. -/
theorem State.writeCommon_none (h : 0x24 < a - pageBase a) : s.writeCommon who a v = none := by
  unfold State.writeCommon
  dsimp only
  split
  · omega
  · omega
  · omega
  · omega
  · omega
  · rfl

/-- A permitted write of a common register. -/
theorem State.permittedWrite_common {t : State} (hr : ringPage a = none) (h : s.writeCommon who a v = some t) : s.permittedWrite who a v = t := by
  simp [State.permittedWrite, hr, h]

/-- A permitted write of a word of its own that starts nothing. -/
theorem State.permittedWrite_plain (hr : ringPage a = none) (hc : 0x24 < a - pageBase a) (hw : wideOf a = none)
    (he : s.effectOf who a v = none) : s.permittedWrite who a v = s.plain who a v := by
  simp [State.permittedWrite, hr, s.writeCommon_none who v hc, hw, he]

/-- R99: a permitted write of a word of a wide register below its highest. -/
theorem State.permittedWrite_staging {w : Nat × Nat} (hr : ringPage a = none) (hc : 0x24 < a - pageBase a) (hw : wideOf a = some w)
    (hl : a + 4 < w.1 + 4 * w.2) : s.permittedWrite who a v = s.setStaged (domainOf who) a (some (BitVec.ofNat 32 v)) := by
  simp [State.permittedWrite, hr, s.writeCommon_none who v hc, hw, hl]

end

/-! ### Fields of a word -/

theorem setBits_whole (n v : Nat) (h : n < 2 ^ 32) : setBits n 0 32 v = v % 2 ^ 32 := by
  simp only [setBits, Nat.zero_add, Nat.div_eq_of_lt h]
  omega

theorem bits_idem (n lo w : Nat) : bits n lo w % 2 ^ w = bits n lo w := Nat.mod_mod _ _

theorem State.get_setWord_ofNat (s : State) {a n : Nat} (f : Field) (hf : f.addr = a) (h : n < 2 ^ 32) :
    (s.setWord a (BitVec.ofNat 32 n)).get f = bits n f.lo f.width := by
  rw [State.get, hf, State.word_setWord_same, BitVec.toNat_ofNat, Nat.mod_eq_of_lt h]

/-! ### What a permitted write makes of a field (R13, R17) -/

theorem FieldRow.admits_range (b lo n : Nat) (acc : Access) (reps : List (Nat × Nat)) (x y v : Nat) :
    FieldRow.admits ⟨b, lo, n, acc, reps, [(x, y)]⟩ v = decide (x ≤ v ∧ v ≤ y) := by
  simp [FieldRow.admits]

section
variable (s : State) {a : Nat} (v w : Nat) {b lo n : Nat} {reps legal : List (Nat × Nat)} (ha : a < Page.U 0)
include ha

/-- R17 below the serial pages, which have ranges of their own: a RW field takes a value that its table lists. -/
theorem State.fieldWrite_rw : s.fieldWrite a v w ⟨b, lo, n, .rw, reps, legal⟩
    = if FieldRow.admits ⟨b, lo, n, .rw, reps, legal⟩ (bits v lo n) then setBits w lo n (bits v lo n) else w := by
  have hg : s.ranged a v ⟨b, lo, n, .rw, reps, legal⟩ = true := by
    unfold State.ranged
    exact if_neg (by omega)
  simp [State.fieldWrite, State.accOf, hg]

theorem State.bits_fieldWrite_same : bits (s.fieldWrite a v w ⟨b, lo, n, .rw, reps, legal⟩) lo n
    = if FieldRow.admits ⟨b, lo, n, .rw, reps, legal⟩ (bits v lo n) then bits v lo n else bits w lo n := by
  rw [s.fieldWrite_rw v w ha]
  split
  · rw [bits_setBits_same, bits_idem]
  · rfl

theorem State.bits_fieldWrite_other {lo' n' : Nat} (h : lo' + n' ≤ lo ∨ lo + n ≤ lo') :
    bits (s.fieldWrite a v w ⟨b, lo, n, .rw, reps, legal⟩) lo' n' = bits w lo' n' := by
  rw [s.fieldWrite_rw v w ha]
  split
  · rcases h with h | h
    · exact bits_setBits_below _ _ _ _ _ _ h
    · exact bits_setBits_above _ _ _ _ _ _ h
  · rfl

theorem State.fieldWrite_lt (hw : w < 2 ^ 32) (h : lo + n ≤ 32) : s.fieldWrite a v w ⟨b, lo, n, .rw, reps, legal⟩ < 2 ^ 32 := by
  rw [s.fieldWrite_rw v w ha]
  split
  · exact setBits_lt _ _ _ _ _ hw h
  · exact hw
end

/-! ### DMA.ARB (chapter 17, section 8.2) -/

theorem rowsAt_dmaArb : rowsAt 0x40060040 =
    [⟨0x40060040, 0, 3, .rw, [], [(0, 4)]⟩, ⟨0x40060040, 4, 4, .rw, [], [(1, 15)]⟩, ⟨0x40060040, 8, 4, .rw, [], [(1, 15)]⟩,
     ⟨0x40060040, 16, 8, .rw, [], [(8, 255)]⟩] := by
  decide +kernel

/-- The content that DMA.ARB takes from a write of `v`, field by field. -/
theorem State.newWord_dmaArb (s : State) (v : Nat) :
    s.newWord 0x40060040 v < 2 ^ 32
    ∧ bits (s.newWord 0x40060040 v) 0 3 = (if bits v 0 3 ≤ 4 then bits v 0 3 else s.get F.DMA_ARB_C1SHARE)
    ∧ bits (s.newWord 0x40060040 v) 4 4 = (if bits v 4 4 = 0 then s.get F.DMA_ARB_W2 else bits v 4 4)
    ∧ bits (s.newWord 0x40060040 v) 8 4 = (if bits v 8 4 = 0 then s.get F.DMA_ARB_W3 else bits v 8 4)
    ∧ bits (s.newWord 0x40060040 v) 16 8 = (if bits v 16 8 < 8 then s.get F.DMA_ARB_DEFLIM else bits v 16 8) := by
  have ha : 0x40060040 < Page.U 0 := by decide
  have h4 : bits v 4 4 < 16 := Nat.mod_lt _ (by decide)
  have h8 : bits v 8 4 < 16 := Nat.mod_lt _ (by decide)
  have h16 : bits v 16 8 < 256 := Nat.mod_lt _ (by decide)
  simp only [State.newWord, rowsAt_dmaArb, List.foldl]
  refine ⟨?_, ?_, ?_, ?_, ?_⟩
  · exact s.fieldWrite_lt v _ ha (s.fieldWrite_lt v _ ha (s.fieldWrite_lt v _ ha (s.fieldWrite_lt v _ ha (s.word _).isLt
      (by decide)) (by decide)) (by decide)) (by decide)
  all_goals
    simp (disch := decide) only [State.bits_fieldWrite_other, State.bits_fieldWrite_same, FieldRow.admits_range, decide_eq_true_eq, State.get,
      F.DMA_ARB_C1SHARE, F.DMA_ARB_W2, F.DMA_ARB_W3, F.DMA_ARB_DEFLIM]
    split_ifs <;> omega

/-- A permitted write of DMA.ARB is a write of its fields. -/
theorem State.permittedWrite_dmaArb (s : State) (who : Initiator) (v : Nat) :
    s.permittedWrite who 0x40060040 v = s.setWord 0x40060040 (BitVec.ofNat 32 (s.newWord 0x40060040 v)) := by
  have hr : ringPage 0x40060040 = none := by decide
  have he : s.effectOf who 0x40060040 v = none := by
    have ht : (pageRow 0x40060040).map (·.type) = some 0x0050 := by decide
    have hl : linkPage (pageBase 0x40060040) = false := by decide
    simp [State.effectOf, hr, ht, hl]
  have hs : s.hasRws 0x40060040 = false := by simp [State.hasRws, rowsAt_dmaArb, State.accOf]
  rw [s.permittedWrite_plain who v hr (by decide) (by decide +kernel) he, State.plain, hs]
  rfl

/-- The owner of the DMA common page may write DMA.ARB: it has no field of the legal domain. -/
theorem State.mayWrite_dmaArb (s : State) (d : Domain) (h : d.code = s.get (F.OWNER_DOMAIN.on Page.DMA)) : s.mayWrite d 0x40060040 = true := by
  have hl : s.hasRwl 0x40060040 = false := by simp [State.hasRwl, rowsAt_dmaArb, State.accOf]
  have ho : s.ownerCode 0x40060040 = s.get (F.OWNER_DOMAIN.on Page.DMA) := s.ownerCode_page (by decide)
  have hp : (0x40060040 == pageBase 0x40060040 + 0x20) = false := by decide
  simp [State.mayWrite, hl, hp, ho, h]

theorem dmaArb_takes_listed_values (s : State) (who : Initiator) (v : Word) : Claims.registerWrite s who v := by
  intro hown
  have ho : s.ownerCode 0x40060040 = s.get (F.OWNER_DOMAIN.on Page.DMA) := s.ownerCode_page (by decide)
  have hv : (v.setWidth 64).toNat % 2 ^ 32 = v.toNat := by
    rw [BitVec.toNat_setWidth]
    omega
  have ha : (BitVec.ofNat 32 F.DMA_ARB_W2.addr).toNat = 0x40060040 := by decide
  rw [exec_registerWrite, ha, s.writeAccess_permitted who _ (by decide) (by decide) (by decide)
    (by rw [ho, ← hown]; exact domainOf_code_ne_one who) (s.mayWrite_dmaArb _ hown), hv, State.permittedWrite_dmaArb]
  obtain ⟨hlt, h0, h4, h8, h16⟩ := (s.noteMapped who).newWord_dmaArb v.toNat
  have hf (f : Field) (h : f.addr = 0x40060040) := State.get_setWord_ofNat (s.noteMapped who) f h hlt
  exact completes_next ⟨(hf F.DMA_ARB_C1SHARE rfl).trans h0, (hf F.DMA_ARB_W2 rfl).trans h4, (hf F.DMA_ARB_W3 rfl).trans h8,
    (hf F.DMA_ARB_DEFLIM rfl).trans h16, rfl, fun b hb => State.word_setWord_ne _ _ (List.ne_of_not_mem_cons hb), rfl⟩

/-! ### Logging and nothing else -/

/-- From `s` to `t` events of the page at `page` have been logged, and nothing else has been done. -/
def OnlyLogged (page : Nat) (s t : State) : Prop := t.rest = s.rest ∧ WordsIn (logWords page) s t

theorem OnlyLogged.refl (page : Nat) (s : State) : OnlyLogged page s s := ⟨rfl, WordsIn.refl _ s⟩

theorem OnlyLogged.trans {page : Nat} {s t u : State} (h : OnlyLogged page s t) (k : OnlyLogged page t u) : OnlyLogged page s u :=
  ⟨k.1.trans h.1, (h.2.trans k.2).mono (by simp)⟩

theorem State.logE_onlyLogged (s : State) (page code arg : Nat) : OnlyLogged page s (s.logE page code arg) :=
  ⟨by rw [s.logE_frame page code arg]; rfl, s.logE_words page code arg⟩

theorem OnlyLogged.get {page : Nat} {s t : State} (h : OnlyLogged page s t) (f : Field) (hf : f.addr ∉ logWords page) : t.get f = s.get f := by
  rw [State.get, h.2 f.addr hf, State.get]

/-- Logging leaves a word of the page other than FAULT, IRQ_RAW and EVRING alone. -/
theorem not_mem_logWords {p o : Nat} (hp : p % 4096 = 0) (ho : o < 4096) (h : o ≠ 0x10 ∧ o ≠ 0x1C ∧ o ≠ 0x58) : p + o ∉ logWords p := by
  have h1 : F.LDG_EVRING_EVLOST.addr = Page.LDG + 0x58 := rfl
  have h2 : Page.LDG = 0x40024000 := rfl
  simp only [logWords, List.mem_cons, List.not_mem_nil, or_false, h1, h2]
  omega

/-! ### Denied writes (R89, R91) -/

section
variable (s : State) (a : Nat) (d : Domain)

/-- LOCKSTAT of the page of `a` as the first denied write, by domain `d`, leaves it. -/
def State.noteDenied : State :=
  (((s.put (F.LOCKSTAT_DENIED.on (pageBase a)) 1).put (F.LOCKSTAT_DDOM.on (pageBase a)) d.code).put (F.LOCKSTAT_DWORD.on (pageBase a))
    ((a - pageBase a) / 4)).put (F.LOCKSTAT_DCOUNT.on (pageBase a)) 1

theorem State.recordDenied_first (code : Nat) (h : s.on (F.LOCKSTAT_DENIED.on (pageBase a)) = false) :
    s.recordDenied a d code = (s.noteDenied a d).logE (pageBase a) code (a - pageBase a) := by
  simp [State.recordDenied, State.noteDenied, h]

theorem State.noteDenied_rest : (s.noteDenied a d).rest = s.rest := by
  simp only [State.noteDenied, State.put_rest]

theorem State.noteDenied_words : WordsIn [pageBase a + 0x24] s (s.noteDenied a d) := by
  intro b hb
  have hb' : b ≠ pageBase a + 0x24 := List.ne_of_not_mem_cons hb
  unfold State.noteDenied
  rw [State.word_put_ne _ _ _ hb', State.word_put_ne _ _ _ hb', State.word_put_ne _ _ _ hb', State.word_put_ne _ _ _ hb']

theorem State.noteDenied_fields : (s.noteDenied a d).get (F.LOCKSTAT_DENIED.on (pageBase a)) = 1
    ∧ (s.noteDenied a d).get (F.LOCKSTAT_DDOM.on (pageBase a)) = d.code
    ∧ (s.noteDenied a d).get (F.LOCKSTAT_DWORD.on (pageBase a)) = (a - pageBase a) / 4
    ∧ (s.noteDenied a d).get (F.LOCKSTAT_DCOUNT.on (pageBase a)) = 1 := by
  have hd : d.code % 4 = d.code := by cases d <;> rfl
  have hw : (a - pageBase a) / 4 % 1024 = (a - pageBase a) / 4 := by unfold pageBase; omega
  simp only [State.noteDenied, Field.on, F.LOCKSTAT_DENIED, F.LOCKSTAT_DDOM, F.LOCKSTAT_DWORD, F.LOCKSTAT_DCOUNT]
  simp [State.get_put_same, State.get_put_disjoint, hd, hw]

/-- After LOCKSTAT is set, a denied write logs event 0x0209, and 0x0211 where it is one of OWNER (R95), and ends in a bus error. -/
theorem State.denyWrite_first (v : Nat) (h : s.on (F.LOCKSTAT_DENIED.on (pageBase a)) = false) :
    ∃ t, s.denyWrite d a v = t.busErr ∧ OnlyLogged (pageBase a) (s.noteDenied a d) t := by
  unfold State.denyWrite
  rw [s.recordDenied_first a d _ h]
  have hl := (s.noteDenied a d).logE_onlyLogged (pageBase a) 0x0209 (a - pageBase a)
  refine ⟨_, rfl, ?_⟩
  split
  · exact hl.trans (State.logE_onlyLogged _ _ _ _)
  · exact hl

/-- The first denied write of a page: what it leaves in LOCKSTAT, and that only events are logged beside it. -/
theorem State.denyWrite_first_fields (v : Nat) (h : s.on (F.LOCKSTAT_DENIED.on (pageBase a)) = false) :
    (s.denyWrite d a v).bus = ⟨true, 0⟩ ∧ (s.denyWrite d a v).on (F.LOCKSTAT_DENIED.on (pageBase a)) = true
    ∧ (s.denyWrite d a v).get (F.LOCKSTAT_DDOM.on (pageBase a)) = d.code
    ∧ (s.denyWrite d a v).get (F.LOCKSTAT_DWORD.on (pageBase a)) = (a - pageBase a) / 4
    ∧ (s.denyWrite d a v).get (F.LOCKSTAT_DCOUNT.on (pageBase a)) = 1
    ∧ WordsIn ((pageBase a + 0x24) :: logWords (pageBase a)) s (s.denyWrite d a v)
    ∧ s.denyWrite d a v = { s with regs := (s.denyWrite d a v).regs, bus := (s.denyWrite d a v).bus, log := (s.denyWrite d a v).log } := by
  obtain ⟨t, ht, hl⟩ := s.denyWrite_first a d v h
  obtain ⟨hden, hdom, hword, hcount⟩ := s.noteDenied_fields a d
  have hp : pageBase a % 4096 = 0 := Nat.mul_mod_left _ _
  have hget (f : Field) (hf : f.addr = 0x24) : t.get (f.on (pageBase a)) = (s.noteDenied a d).get (f.on (pageBase a)) :=
    hl.get _ (by rw [Field.on, hf]; exact not_mem_logWords hp (by decide) (by decide))
  rw [ht]
  refine ⟨rfl, ?_, ?_, ?_, ?_, ?_, ?_⟩
  · exact beq_iff_eq.2 ((hget F.LOCKSTAT_DENIED rfl).trans hden)
  · exact (hget F.LOCKSTAT_DDOM rfl).trans hdom
  · exact (hget F.LOCKSTAT_DWORD rfl).trans hword
  · exact (hget F.LOCKSTAT_DCOUNT rfl).trans hcount
  · exact (s.noteDenied_words a d).trans hl.2
  · exact congrArg State.busErr (State.eq_of_rest (hl.1.trans (s.noteDenied_rest a d)))

end

theorem hart_write_denied_on_legal_page (s : State) (h : Fin 2) (p : PageRow) (k : Fin 1024) (v : Word) : Claims.deniedWrite s h p k v := by
  intro hp hown hden
  have hk : 4 * k.val < 4096 := by omega
  have hb : pageBase (p.base + 4 * k.val) = p.base := pageBase_base_add hp hk
  have hr : ringPage (p.base + 4 * k.val) = none := ringPage_base_add hp hk
  have ho : s.ownerCode (p.base + 4 * k.val) = 0 := by rw [s.ownerCode_page hr, hb, hown]
  have ha : (p.base + 4 * k.val) % 4 = 0 := by
    obtain ⟨h, -, -⟩ := pageRows_base p hp
    omega
  rw [exec_registerWrite, toNat_ofNat_base_add hp hk,
    s.writeAccess_denied (.hart h) _ (mappedReg_base_add hp hk) ha hr (by simp [ho]) (s.mayWrite_of_legal _ ho)]
  have key := (s.noteMapped (.hart h)).denyWrite_first_fields (p.base + 4 * k.val) (domainOf (.hart h)) ((v.setWidth 64).toNat % 2 ^ 32)
    (by rw [hb]; exact hden)
  rw [hb, Nat.add_sub_cancel_left, Nat.mul_div_cancel_left _ (by decide)] at key
  exact completes_next key

/-! ### FAULT (R88) -/

/-- FAULT has no field with an access code of its own: its write is that of a common register. -/
theorem rowsAt_fault : ∀ p ∈ pageRows, rowsAt (p.base + 0x1C) = [] := by
  decide +kernel

/-- The owner of a page may write a common register other than OWNER. -/
theorem State.mayWrite_owner (s : State) {a : Nat} (d : Domain) (hrows : rowsAt a = []) (ha : a ≠ pageBase a + 0x20) (h : d.code = s.ownerCode a) :
    s.mayWrite d a = true := by
  simp [State.mayWrite, State.hasRwl, hrows, ha, h]

section
variable (s : State) (p : Nat)

/-- Writing CODE back clears CODE and COUNT. -/
theorem State.writeFault_codeBack : s.writeFault p (s.get (F.FAULT_CODE.on p)) = (s.put (F.FAULT_CODE.on p) 0).put (F.FAULT_COUNT.on p) 0 := by
  have hc : s.get (F.FAULT_CODE.on p) % 65536 = s.get (F.FAULT_CODE.on p) := bits_idem _ _ 16
  simp [State.writeFault, hc]

theorem State.clearedFault_fields : ((s.put (F.FAULT_CODE.on p) 0).put (F.FAULT_COUNT.on p) 0).get (F.FAULT_CODE.on p) = 0
    ∧ ((s.put (F.FAULT_CODE.on p) 0).put (F.FAULT_COUNT.on p) 0).get (F.FAULT_COUNT.on p) = 0 := by
  simp only [Field.on, F.FAULT_CODE, F.FAULT_COUNT]
  simp [State.get_put_same, State.get_put_disjoint]

theorem State.clearedFault_words : WordsIn [p + 0x1C] s ((s.put (F.FAULT_CODE.on p) 0).put (F.FAULT_COUNT.on p) 0) :=
  ((s.put_words _ _).trans (State.put_words _ _ _)).mono (by simp [F.FAULT_CODE, F.FAULT_COUNT, Field.on])
end

theorem fault_clears_on_code_writeback (s : State) (who : Initiator) (p : PageRow) : Claims.faultClear s who p := by
  intro hp hown hne
  have hk : 0x1C < 4096 := by decide
  have hb0 : pageBase p.base = p.base := pageBase_base_add hp (k := 0) (by decide)
  have hb : pageBase (p.base + 0x1C) = p.base := pageBase_base_add hp hk
  have hr : ringPage (p.base + 0x1C) = none := ringPage_base_add hp hk
  have hn : (BitVec.ofNat 32 p.base).toNat = p.base := toNat_ofNat_base_add hp (k := 0) (by decide)
  have ho : s.ownerCode (p.base + 0x1C) = s.get (F.OWNER_DOMAIN.on p.base) := by rw [s.ownerCode_page hr, hb]
  have ha : (p.base + 0x1C) % 4 = 0 := by
    obtain ⟨h, -, -⟩ := pageRows_base p hp
    omega
  have hv : (BitVec.ofNat 32 (s.get (F.FAULT_CODE.on p.base))).toNat % 2 ^ 32 = s.get (F.FAULT_CODE.on p.base) := by
    have : s.get (F.FAULT_CODE.on p.base) < 2 ^ 16 := Nat.mod_lt _ (Nat.two_pow_pos 16)
    rw [BitVec.toNat_ofNat]
    omega
  have hc (t : State) (v : Nat) : t.writeCommon who (p.base + 0x1C) v = some (t.writeFault p.base v) := by
    rw [State.writeCommon, hb, Nat.add_sub_cancel_left]
    rfl
  rw [exec_faultClear, hn, hb0, s.writeAccess_permitted who _ (mappedReg_base_add hp hk) ha hr (by rwa [ho])
    (s.mayWrite_owner _ (rowsAt_fault p hp) (by omega) (by rw [ho, hown])), hv, State.permittedWrite_common _ _ _ hr (hc _ _)]
  have key := (s.noteMapped who).writeFault_codeBack p.base
  rw [State.noteMapped_get] at key
  obtain ⟨hcode, hcount⟩ := (s.noteMapped who).clearedFault_fields p.base
  rw [key]
  exact completes_next ⟨hcode, hcount, (s.noteMapped who).clearedFault_words p.base, rfl⟩

/-! ### Sealed configuration: a write that goes through (R107, R300) -/

section
variable (s : State) (a w : Nat)

/-- A write of RWS fields that goes through stores the word, may make a configuration copy due, and may log events of the page. -/
theorem State.putRws_onlyLogged :
    ∃ c, OnlyLogged (pageBase a) { s.setWord a (BitVec.ofNat 32 w) with commit := c } (s.putRws a w) := by
  unfold State.putRws
  dsimp only
  split
  · exact ⟨s.commit, OnlyLogged.refl _ _⟩
  · split
    · exact ⟨_, State.logE_onlyLogged _ _ _ _⟩
    · exact ⟨_, OnlyLogged.refl _ _⟩

theorem State.putRws_word (h : a ∉ logWords (pageBase a)) : (s.putRws a w).word a = BitVec.ofNat 32 w := by
  obtain ⟨c, -, hw⟩ := s.putRws_onlyLogged a w
  exact (hw a h).trans (s.word_setWord_same a _)

theorem State.putRws_words : WordsIn (a :: logWords (pageBase a)) s (s.putRws a w) := by
  obtain ⟨c, -, hw⟩ := s.putRws_onlyLogged a w
  have hset : WordsIn [a] s { s.setWord a (BitVec.ofNat 32 w) with commit := c } :=
    fun b hb => s.word_setWord_ne _ (List.ne_of_not_mem_cons hb)
  exact hset.trans hw

theorem State.putRws_frame :
    s.putRws a w = { s with regs := (s.putRws a w).regs, commit := (s.putRws a w).commit, log := (s.putRws a w).log } := by
  obtain ⟨c, hr, -⟩ := s.putRws_onlyLogged a w
  have h : s.putRws a w = { s with regs := (s.putRws a w).regs, commit := c, log := (s.putRws a w).log } := State.eq_of_rest hr
  have hc : (s.putRws a w).commit = c := by rw [h]
  rw [hc]
  exact h

/-- A RWS write while the fields are neither locked nor held back takes effect at once. -/
theorem State.rwsWrite_free (who : Initiator) (v : Nat) (f : State → State) (hl : s.rwsLocked = false) (hs : s.rwsStalls = false) :
    s.rwsWrite who a v w f = f s := by
  simp [State.rwsWrite, hl, hs]
end

/-! ### CAL.OFS and the resumption of a stalled write (R304) -/

/-- The word of CAL.OFS of element and quantity `k`. -/
def calOfs (k : Fin 24) : Nat := 0x400210E0 + 4 * k.val

theorem calOfs_page : ∀ k : Fin 24, pageBase (calOfs k) = Page.CAL ∧ ringPage (calOfs k) = none ∧ calOfs k ∉ logWords Page.CAL
    ∧ 0x24 < calOfs k - pageBase (calOfs k) ∧ wideOf (calOfs k) = none := by
  decide +kernel

theorem rowsAt_calOfs : ∀ k : Fin 24, rowsAt (calOfs k) = [⟨0x400210E0, 0, 32, .rws, [(24, 0x4)], []⟩] := by
  decide +kernel

section
variable (s : State) (k : Fin 24)

theorem State.newWord_calOfs (v : Nat) (h : v < 2 ^ 32) : s.newWord (calOfs k) v = v := by
  have hb : bits v 0 32 = v := by simpa [bits] using h
  simpa [State.newWord, rowsAt_calOfs, State.fieldWrite, State.accOf, FieldRow.admits, hb, setBits_whole _ _ (s.word _).isLt] using h

/-- A permitted write of CAL.OFS that is neither locked nor held back stores its value. -/
theorem State.permittedWrite_calOfs (who : Initiator) (v : Nat) (h : v < 2 ^ 32) (hl : s.rwsLocked = false) (hs : s.rwsStalls = false) :
    s.permittedWrite who (calOfs k) v = s.putRws (calOfs k) v := by
  obtain ⟨hp, hr, -, hc, hw⟩ := calOfs_page k
  have ht : (pageRow (calOfs k)).map (·.type) = some 0x0013 := by
    have : ∀ k : Fin 24, (pageRow (calOfs k)).map (·.type) = some 0x0013 := by decide
    exact this k
  have hk : calOfs k ≠ Page.CAL + 0x40 := by
    simp only [calOfs, Page.CAL]
    omega
  have he : s.effectOf who (calOfs k) v = none := by
    have hlk : linkPage Page.CAL = false := by decide
    simp [State.effectOf, hr, hp, hlk, ht, State.effectCal, hk]
  have hrws : s.hasRws (calOfs k) = true := by simp [State.hasRws, rowsAt_calOfs, State.accOf]
  rw [s.permittedWrite_plain who v hr hc hw he, State.plain, if_pos hrws, s.newWord_calOfs k v h, s.rwsWrite_free _ _ who v _ hl hs]

/-- A write of CAL.OFS by the legal domain, its owner, while RWS fields are neither locked nor held back. -/
theorem State.writeWord_calOfs (v : Nat) (h : v < 2 ^ 32) (ho : s.get (F.OWNER_DOMAIN.on Page.CAL) = 0) (hl : s.rwsLocked = false)
    (hs : s.rwsStalls = false) : s.writeWord .legal (calOfs k) v = (s.putRws (calOfs k) v).busOk 0 := by
  obtain ⟨hp, hr, -, -, -⟩ := calOfs_page k
  have hown : s.ownerCode (calOfs k) = 0 := by rw [s.ownerCode_page hr, hp, ho]
  rw [s.writeWord_permitted .legal v hr (by rw [hown]; decide) (s.mayWrite_of_legal _ hown), s.permittedWrite_calOfs k .legal v h hl hs]

/-- The first write held back is the legal core's: it leaves the queue and is judged anew. -/
theorem State.resumeStalled_legal {e : StalledWrite} {l : List StalledWrite} (hq : s.stalled = e :: l) (hw : e.who = .legal)
    (hs : s.rwsStalls = false) : s.resumeStalled .legal = ({ s with stalled := l } : State).writeWord .legal e.addr e.value.toNat := by
  simp [State.resumeStalled, hq, hw, hs]
end

theorem stalled_calOfs_write_resumes (s : State) (k : Fin 24) : Claims.stalledWriteResume s k := by
  intro hhead hs hl hown
  obtain ⟨e, l, hq, hwho, haddr⟩ : ∃ e l, s.stalled = e :: l ∧ e.who = .legal ∧ e.addr = calOfs k := by
    cases hq : s.stalled with
    | nil => simp [hq] at hhead
    | cons e l =>
      have : e.who = .legal ∧ e.addr = calOfs k := by simpa [hq, calOfs] using hhead
      exact ⟨e, l, rfl, this.1, this.2⟩
  obtain ⟨hp, -, hlog, -, -⟩ := calOfs_page k
  have hwrite : s.resumeStalled .legal = (({ s with stalled := l } : State).putRws (calOfs k) e.value.toNat).busOk 0 := by
    rw [s.resumeStalled_legal hq hwho hs, haddr]
    exact State.writeWord_calOfs _ k _ e.value.isLt hown hl hs
  rw [exec_stalledWriteResume, hwrite, hq]
  have hword := State.putRws_word { s with stalled := l } (calOfs k) e.value.toNat (by rwa [hp])
  have hwords := State.putRws_words { s with stalled := l } (calOfs k) e.value.toNat
  have hframe := State.putRws_frame { s with stalled := l } (calOfs k) e.value.toNat
  rw [hp] at hwords
  refine completes_next ⟨?_, ?_, rfl, hwords, congrArg (State.busOk · 0) hframe⟩
  · rw [BitVec.ofNat_toNat, BitVec.setWidth_eq] at hword
    exact congrArg some hword
  · rw [State.busOk, hframe]
    rfl

/-! ### A change of owner (R95) -/

/-- What a change of owner leaves alone: the memories, the queue of commands, and what the blocks of the legal domain and of the island keep. -/
def State.apart (s : State) :=
  (s.mem, s.flash, s.ledger, s.pending, s.boot, s.safety, s.energy, s.session)

theorem apart_foldl {β : Type} (f : State → β → State) (hf : ∀ t b, (f t b).apart = t.apart) (l : List β) : ∀ s : State, (l.foldl f s).apart = s.apart := by
  induction l with
  | nil => exact fun _ => rfl
  | cons b l ih => exact fun s => (ih (f s b)).trans (hf s b)

section
variable (s : State)

@[simp] theorem State.regs_update_apart (r : List (Nat × Word)) : ({ s with regs := r } : State).apart = s.apart := rfl
@[simp] theorem State.panel_update_apart (p : Panel) : ({ s with panel := p } : State).apart = s.apart := rfl
@[simp] theorem State.update_update_apart (u : Update) : ({ s with update := u } : State).apart = s.apart := rfl
@[simp] theorem State.ether_update_apart (e : Ether) : ({ s with ether := e } : State).apart = s.apart := rfl
@[simp] theorem State.put_apart (f : Field) (v : Nat) : (s.put f v).apart = s.apart := rfl
@[simp] theorem State.setWord_apart (a : Nat) (w : Word) : (s.setWord a w).apart = s.apart := rfl
@[simp] theorem State.putBit_apart (f : Field) (i : Nat) (b : Bool) : (s.putBit f i b).apart = s.apart := rfl
@[simp] theorem State.incSat_apart (f : Field) : (s.incSat f).apart = s.apart := rfl
@[simp] theorem State.irq_apart (p i : Nat) : (s.irq p i).apart = s.apart := rfl
@[simp] theorem State.resetRange_apart (a b : Nat) : (s.resetRange a b).apart = s.apart := rfl
@[simp] theorem State.setPat_apart (p : Nat) (b : PatBlock) : (s.setPat p b).apart = s.apart := rfl
@[simp] theorem State.setUart_apart (n : Fin 4) (u : Uart) : (s.setUart n u).apart = s.apart := rfl
@[simp] theorem State.sendPattern_apart (p : Fin 8) (v : Nat) : (s.sendPattern p v).apart = s.apart := rfl
@[simp] theorem State.noteRings_apart (r : Nat) : (s.noteRings r).apart = s.apart := by simp [State.noteRings]
@[simp] theorem State.noteEngine_apart : s.noteEngine.apart = s.apart := by simp [State.noteEngine]
@[simp] theorem State.resetPage_apart (p : Nat) : (s.resetPage p).apart = s.apart := rfl
@[simp] theorem State.logE_apart (p c v : Nat) : (s.logE p c v).apart = s.apart := by rw [s.logE_frame p c v]; rfl

@[simp] theorem State.when_apart (b : Bool) (f : State → State) (hf : (f s).apart = s.apart) : (s.when b f).apart = s.apart := by
  unfold State.when
  split
  · exact hf
  · rfl

@[simp] theorem State.noteLegalRings_apart : s.noteLegalRings.apart = s.apart := apart_foldl _ (fun t r => t.noteRings_apart r) _ s

/-! The reset of the pattern block of a page, and of the update engine. -/

@[simp] theorem State.stopGen_apart (p : Nat) : (s.stopGen p).apart = s.apart := by
  unfold State.stopGen
  split
  · rfl
  · dsimp only
    split
    · rw [State.when_apart _ _ _ (State.sendPattern_apart _ _ _)]
      simp
    · simp

@[simp] theorem State.resetPat_apart (p : Nat) : (s.resetPat p).apart = s.apart := by
  unfold State.resetPat
  split
  · rfl
  · simp

@[simp] theorem State.toEngine_apart (st : Nat) : (s.toEngine st).apart = s.apart := by
  have hs : (if s.updState = st then s else (s.put F.UPD_STAT_STATE st).irq Page.UPD 1).apart = s.apart := by
    split
    · rfl
    · simp
  unfold State.toEngine
  dsimp only
  rw [State.noteEngine_apart]
  split
  · rw [apart_foldl _ (fun t k => by simp), State.put_apart, State.put_apart]
    exact hs
  · exact hs

@[simp] theorem State.discardUpdate_apart (c : Nat) : (s.discardUpdate c).apart = s.apart := by
  have h5 : (s.when (s.updState == 5) fun t => t.disarmAlm15.irq Page.UPD 2).apart = s.apart :=
    s.when_apart _ _ (by simp [State.disarmAlm15])
  unfold State.discardUpdate
  split
  · rfl
  · rw [State.logE_apart, State.toEngine_apart, State.update_update_apart, State.put_apart]
    exact h5

@[simp] theorem State.resetUpd_apart : s.resetUpd.apart = s.apart := by simp [State.resetUpd]

/-! The reset of EPD, with the presentation that the legal image makes after it (R621). -/

@[simp] theorem State.showQueues_apart : s.showQueues.apart = s.apart := by
  simp only [State.showQueues, State.put_apart]
  exact apart_foldl _ (fun t n => t.put_apart _ _) _ s

@[simp] theorem State.requestPanel_apart (q : PanelReq) : (s.requestPanel q).apart = s.apart := by
  unfold State.requestPanel
  split
  · simp
  · simp

@[simp] theorem State.presentRect_apart : s.presentRect.apart = s.apart := by
  unfold State.presentRect
  rw [State.when_apart _ _ _ (State.requestPanel_apart _ _)]
  simp

@[simp] theorem State.panelEnabled_apart (s0 : State) : (s.panelEnabled s0).apart = s.apart := by
  simp only [State.panelEnabled, apply_ite State.apart, State.panel_update_apart, State.presentRect_apart, State.put_apart, ite_self]

@[simp] theorem State.resetEpd_apart : s.resetEpd.apart = s.apart := by
  simp only [State.resetEpd, State.presentLegal, State.presentRect_apart, State.panelEnabled_apart, State.put_apart, State.showQueues_apart]
  rfl

/-- A change of owner leaves the memories, the queue and the blocks of the legal domain and of the island alone. -/
theorem State.setOwner_apart (p d : Nat) : (s.setOwner p d).apart = s.apart := by
  unfold State.setOwner
  rw [State.logE_apart, State.put_apart, State.put_apart]
  split
  · simp
  split
  · simp
  split
  · simp
  split
  · simp
  · simp

/-- R95: the owner that a change gives, and the count of changes. -/
theorem State.setOwner_fields {p d : Nat} (hp : p % 4096 = 0) (hd : d < 4) : (s.setOwner p d).get (F.OWNER_DOMAIN.on p) = d
    ∧ (s.setOwner p d).get (F.OWNER_XCOUNT.on p) = min 255 (s.get (F.OWNER_XCOUNT.on p) + 1) := by
  unfold State.setOwner
  extract_lets n s1
  have hn : n = min 255 (s.get (F.OWNER_XCOUNT.on p) + 1) := Nat.min_comm _ _
  have hlog (t : State) (f : Field) (hf : f.addr = 0x20) : (t.logE p 0x0210 d).get (f.on p) = t.get (f.on p) :=
    (t.logE_onlyLogged p 0x0210 d).get _ (by rw [Field.on, hf]; exact not_mem_logWords hp (by decide) (by decide))
  rw [hlog _ _ rfl, hlog _ _ rfl, ← hn]
  have hd' : d % 4 = d := Nat.mod_eq_of_lt hd
  have hn' : n % 256 = n := by omega
  simp only [Field.on, F.OWNER_DOMAIN, F.OWNER_XCOUNT]
  simp [State.get_put_same, State.get_put_disjoint, hd', hn']

/-- R95: the write of OWNER by the legal domain that gives a transferable page another owner. -/
theorem State.writeOwner_legal {p d : Nat} (hp : p ∈ xferPages) (hh : s.boot.appRuns = false) (hd : d = 0 ∨ d = 2)
    (hne : s.get (F.OWNER_DOMAIN.on p) ≠ d) : s.writeOwner .legal p d = s.setOwner p d := by
  simp [State.writeOwner, domainOf, State.appHeld, hp, hh, hd, hne]
end

theorem legal_transfers_page (s : State) (p : Nat) (d : BitVec 2) : Claims.ownerTransfer s p d := by
  intro hp hh hd hne
  obtain ⟨r, hr, rfl⟩ := xferPages_pageRows p hp
  have hn : (BitVec.ofNat 32 r.base).toNat = r.base := toNat_ofNat_base_add hr (k := 0) (by decide)
  have hb : pageBase r.base = r.base := pageBase_base_add hr (k := 0) (by decide)
  have hd' : d.toNat = 0 ∨ d.toNat = 2 := by
    rcases hd with rfl | rfl
    · exact .inl rfl
    · exact .inr rfl
  obtain ⟨hal, -, -⟩ := pageRows_base r hr
  obtain ⟨hdom, hcount⟩ := s.setOwner_fields hal d.isLt
  have h := s.setOwner_apart r.base d.toNat
  simp only [State.apart, Prod.mk.injEq] at h
  obtain ⟨hmem, hflash, hledger, hpending, hboot, hsafety, henergy, hsession⟩ := h
  rw [exec_ownerTransfer, hn, hb, s.writeOwner_legal hp hh hd' hne]
  refine completes_next ⟨hdom, hcount, ⟨?_, ?_, ?_⟩, hpending, hboot, hsafety, henergy, hsession⟩
  · exact fun a => congrArg (storeRead memDefault · a) hmem
  · exact fun a => congrArg (storeRead flashDefault · a) hflash
  · exact fun a => congrArg (storeRead ledgerDefault · a) hledger

/-- Settles O1: each kind of write is taken through the row of Table 3-3 that decides it. -/
theorem registerWritesFollowTheTable : Obligations.RegisterWritesFollowTheTable :=
  ⟨dmaArb_takes_listed_values, hart_write_denied_on_legal_page, stalled_calOfs_write_resumes, fault_clears_on_code_writeback,
    legal_transfers_page⟩

end Sys2Proof.Machine
end

section
/-!
Proofs about reads and wide registers (chapter 3): the reads that clear, the snapshot and staging buffers, and the accesses that no page answers.
-/

namespace Sys2Proof.Machine

/-! ### What a read shows -/

/-- The pages with words that a read computes. -/
def computedPages : List Nat := [Page.SYS, Page.ANG, Page.PLS, Page.CLU, Page.TEN, Page.EPD]

section
variable (s : State) (d : Domain) {a : Nat}

/-- A word past the common registers of a page without computed words is shown as it is stored. -/
theorem State.shown_stored (hr : ringPage a = none) (ho : 0x24 < a - pageBase a) (hp : pageBase a ∉ computedPages) :
    s.shown a = (s.word a).toNat := by
  have hb : pageBase a = a / 4096 * 4096 := rfl
  simp only [computedPages, List.mem_cons, List.not_mem_nil, or_false, not_or, Page.SYS, Page.ANG, Page.PLS, Page.CLU, Page.TEN, Page.EPD] at hp
  obtain ⟨hsys, hang, hpls, hclu, hten, hepd⟩ := hp
  have h1 : F.SYS_IRQLVL.addr = 0x40000050 ∧ F.ANG_ANGLE.addr = 0x40001040 ∧ F.ANG_STAMP.addr = 0x40001050 ∧ F.CLU_CCN.addr = 0x40040048
    ∧ F.PLS_PO_BACKLOG_N.addr = 0x40022074 ∧ F.EPD_STAT_RAILST.addr = 0x4005000C ∧ Page.TEN = 0x40042000 := by decide
  simp only [State.shown, hr, Option.isSome_none, Bool.false_eq_true, if_false]
  iterate 13 rw [if_neg (by omega)]

/-- R13: a read leaves a word without RC fields alone. -/
theorem State.clearRc_none (ha : a ≠ F.SYS_ENVEXT_VMIN.addr) (h : (rowsAt a).filter (fun r => r.acc == .rc) = []) : s.clearRc a = s := by
  simp [State.clearRc, ha, h]

/-- R13: a read clears a word that is one RC field. -/
theorem State.clearRc_whole (ha : a ≠ F.SYS_ENVEXT_VMIN.addr) {r : FieldRow} (h : (rowsAt a).filter (fun r => r.acc == .rc) = [r])
    (hlo : r.lo = 0) (hw : r.width = 32) : s.clearRc a = s.setWord a 0 := by
  simp [State.clearRc, ha, h, hlo, hw, setBits_whole _ _ (s.word a).isLt]

/-- R92: a read of an aligned word of a page. -/
theorem State.readAccess_word (who : Initiator) {w : Word} {t : State} (hm : mappedReg a = true) (ha : a % 4 = 0)
    (h : (s.noteMapped who).readWord (domainOf who) a = (w.toNat, t)) : s.readAccess who a 4 = t.busOk w.toNat := by
  have h4 : a / 4 * 4 = a := by omega
  have hw : bits w.toNat 0 32 = w.toNat := by
    have := w.isLt
    unfold bits
    omega
  simp [State.readAccess, hm, ha, h4, h, hw]

/-- R101: a read of 8 bytes is one of both words, the lower first. -/
theorem State.readAccess_double (who : Initiator) {m n : Nat} {t u : State} (hm : mappedReg a = true) (ha : a % 8 = 0)
    (hlow : (s.noteMapped who).readWord (domainOf who) a = (m, t)) (hhigh : t.readWord (domainOf who) (a + 4) = (n, u)) :
    s.readAccess who a 8 = u.busOk (m + 2 ^ 32 * n) := by
  have h4 : a / 4 * 4 = a := by omega
  simp [State.readAccess, hm, ha, h4, hlow, hhigh]

/-- R98: the snapshot of a word without RC fields goes into the buffer and does nothing else. -/
theorem State.snapshot_word (n : Nat) (h : ∀ t : State, t.clearRc a = t) : s.snapshot d a (n + 1)
    = ({ s with snaps := storeWrite (fun _ => 0) s.snaps (bufKey d a) (BitVec.ofNat 32 (s.shown a)) } : State).snapshot d (a + 4) n := by
  simp only [State.snapshot, h, ite_self]

/-- A read of a register word of its own by a domain, outside the receive queues (R90, R94). -/
theorem State.readWord_plain (hw : wideOf a = none) (hx : rxDataOf a = none) :
    s.readWord d a = (s.shown a, if s.ownsRead d a then s.clearRc a else s) := by
  simp only [State.readWord, hw, State.readPlain, hx]
  split <;> rfl
end

/-! ### DMA.CLASSGR -/

/-- The word of DMA.CLASSGR of class `c`. -/
def classgr (c : Fin 4) : Nat := (F.DMA_CLASSGR.i c).addr

theorem classgr_page : ∀ c : Fin 4, pageBase (classgr c) = Page.DMA ∧ ringPage (classgr c) = none ∧ mappedReg (classgr c) = true
    ∧ classgr c % 4 = 0 ∧ 0x24 < classgr c - pageBase (classgr c) ∧ classgr c < 2 ^ 32 := by
  decide

theorem classgr_kind : ∀ c : Fin 4, wideOf (classgr c) = none ∧ rxDataOf (classgr c) = none ∧ classgr c ≠ F.SYS_ENVEXT_VMIN.addr := by
  decide +kernel

theorem rowsAt_classgr : ∀ c : Fin 4, (rowsAt (classgr c)).filter (fun r => r.acc == .rc) = [⟨0x40060050, 0, 32, .rc, [(4, 0x4)], []⟩] := by
  decide +kernel

/-- R90, R94: a read of DMA.CLASSGR shows the word, and clears it for the owner of the page, which is not the island. -/
theorem State.readWord_classgr (s : State) (d : Domain) (c : Fin 4) (ho : s.get (F.OWNER_DOMAIN.on Page.DMA) ≠ 1) :
    s.readWord d (classgr c) = ((s.word (classgr c)).toNat,
      if d.code = s.get (F.OWNER_DOMAIN.on Page.DMA) then s.setWord (classgr c) 0 else s) := by
  obtain ⟨hp, hr, -, -, hoff, -⟩ := classgr_page c
  obtain ⟨hw, hx, hv⟩ := classgr_kind c
  have hown : s.ownsRead d (classgr c) = (d.code == s.get (F.OWNER_DOMAIN.on Page.DMA)) := by
    simp [State.ownsRead, s.ownerCode_page hr, hp, ho]
  rw [s.readWord_plain d hw hx, s.shown_stored hr hoff (by rw [hp]; decide), hown, s.clearRc_whole hv (rowsAt_classgr c) rfl rfl]
  simp only [beq_iff_eq]

theorem classgr_read_clears_for_owner (s : State) (who : Initiator) (c : Fin 4) : Claims.rcFieldRead s who c := by
  intro ho
  obtain ⟨-, -, hm, ha, -, hlt⟩ := classgr_page c
  have hn : (BitVec.ofNat 32 (classgr c)).toNat = classgr c := by rw [BitVec.toNat_ofNat, Nat.mod_eq_of_lt hlt]
  have hacc := s.readAccess_word who hm ha ((s.noteMapped who).readWord_classgr _ c ho)
  rw [exec_rcFieldRead]
  show Completes (.next (s.readAccess who (BitVec.ofNat 32 (classgr c)).toNat 4)) _
  rw [hn, hacc, State.noteMapped_get]
  apply completes_next
  split
  · exact ⟨rfl, State.word_setWord_same _ _ _, fun b hb => State.word_setWord_ne _ _ (List.ne_of_not_mem_cons hb), rfl⟩
  · exact ⟨rfl, rfl, fun b hb => rfl, rfl⟩

/-! ### RTC.UTC -/

/-- The words of RTC.UTC. -/
def utcWords : List Nat := [F.RTC_UTC.addr, F.RTC_UTC.addr + 4]

theorem utc_low_mem : F.RTC_UTC.addr ∈ utcWords := by decide
theorem utc_high_mem : F.RTC_UTC.addr + 4 ∈ utcWords := by decide

theorem utc_page : ∀ a ∈ utcWords, pageBase a = Page.RTC ∧ ringPage a = none ∧ mappedReg a = true ∧ 0x24 < a - pageBase a := by
  decide

theorem wideOf_utc : ∀ a ∈ utcWords, wideOf a = some (F.RTC_UTC.addr, 2) := by
  decide +kernel

theorem rowsAt_utc : ∀ a ∈ utcWords, rowsAt a = [] := by
  decide +kernel

section
variable (s : State) (d : Domain)

theorem State.shown_utc {a : Nat} (ha : a ∈ utcWords) : s.shown a = (s.word a).toNat := by
  obtain ⟨hp, hr, -, ho⟩ := utc_page a ha
  exact s.shown_stored hr ho (by rw [hp]; decide)

theorem State.clearRc_utc {a : Nat} (ha : a ∈ utcWords) : s.clearRc a = s := by
  have hne : a ≠ F.SYS_ENVEXT_VMIN.addr := fun h => absurd (h ▸ ha) (by decide)
  exact s.clearRc_none hne (by rw [rowsAt_utc a ha]; rfl)

/-- The state with both words of RTC.UTC in the snapshot buffer of domain `d`. -/
def State.snapUtc : State :=
  let low := storeWrite (fun _ => 0) s.snaps (bufKey d F.RTC_UTC.addr) (s.word F.RTC_UTC.addr)
  { s with snaps := storeWrite (fun _ => 0) low (bufKey d (F.RTC_UTC.addr + 4)) (s.word (F.RTC_UTC.addr + 4)) }

theorem State.snapUtc_snapped : (s.snapUtc d).snapped d (F.RTC_UTC.addr + 4) = (s.word (F.RTC_UTC.addr + 4)).toNat := by
  rw [State.snapped, State.snapUtc, storeRead_write, if_pos rfl]

/-- R98: a read of the lowest word of RTC.UTC shows it and loads the buffer. -/
theorem State.readWord_utc_low : s.readWord d F.RTC_UTC.addr = ((s.word F.RTC_UTC.addr).toNat, s.snapUtc d) := by
  have hs : s.snapshot d F.RTC_UTC.addr 2 = s.snapUtc d := by
    rw [s.snapshot_word d 1 (fun t => t.clearRc_utc utc_low_mem), State.snapshot_word _ d 0 (fun t => t.clearRc_utc utc_high_mem),
      s.shown_utc utc_low_mem, State.shown_utc _ utc_high_mem]
    simp only [BitVec.ofNat_toNat, BitVec.setWidth_eq]
    rfl
  simp only [State.readWord, wideOf_utc _ utc_low_mem, if_true, s.shown_utc utc_low_mem, hs]

/-- R98: a read of its higher word shows what the buffer holds. -/
theorem State.readWord_utc_high : s.readWord d (F.RTC_UTC.addr + 4) = (s.snapped d (F.RTC_UTC.addr + 4), s) := by
  have hne : F.RTC_UTC.addr + 4 ≠ F.RTC_UTC.addr := by omega
  simp only [State.readWord, wideOf_utc _ utc_high_mem, hne, if_false]
end

theorem utc_read_snapshots (s : State) (who : Initiator) : Claims.wideSnapshotRead s who := by
  obtain ⟨-, -, hmlow, -⟩ := utc_page _ utc_low_mem
  obtain ⟨-, -, hmhigh, -⟩ := utc_page _ utc_high_mem
  have hlow := (s.noteMapped who).readWord_utc_low (domainOf who)
  have hsnap := (s.noteMapped who).snapUtc_snapped (domainOf who)
  have hnlow : (BitVec.ofNat 32 F.RTC_UTC.addr).toNat = F.RTC_UTC.addr := by decide
  have hnhigh : (BitVec.ofNat 32 (F.RTC_UTC.addr + 4)).toNat = F.RTC_UTC.addr + 4 := by decide
  refine ⟨?_, ?_, ?_⟩
  · rw [exec_wideSnapshotRead, hnlow, s.readAccess_word who hmlow (by decide) hlow]
    exact completes_next ⟨rfl, hsnap, fun _ _ => rfl, rfl⟩
  · rw [exec_wideSnapshotRead, hnhigh, s.readAccess_word who hmhigh (by decide) ((s.noteMapped who).readWord_utc_high (domainOf who))]
    exact completes_next ⟨rfl, rfl⟩
  · rw [exec_wideSnapshotRead, hnlow, s.readAccess_double who hmlow (by decide) hlow (State.readWord_utc_high _ _), hsnap]
    exact completes_next ⟨rfl, fun _ _ => rfl, rfl⟩

/-! ### Staging (R99) -/

theorem State.staged_setStaged (s : State) (d : Domain) (a : Nat) (w : Option Word) : (s.setStaged d a w).staged d a = w := by
  rw [State.staged, State.setStaged, storeRead_write, if_pos rfl]

theorem staging_write_waits (s : State) (who : Initiator) (a v : Word) : Claims.wideStagingWrite s who a v := by
  intro hwide hm ha hr hoff ho hmay
  obtain ⟨w, hw, hlow⟩ : ∃ w, wideOf a.toNat = some w ∧ a.toNat + 4 < w.1 + 4 * w.2 := by
    simpa [Option.any_eq_true] using hwide
  rw [exec_wideStagingWrite, s.writeAccess_permitted who _ hm ha hr ho hmay, Nat.mod_eq_of_lt v.isLt,
    State.permittedWrite_staging _ who _ hr hoff hw hlow, BitVec.ofNat_toNat, BitVec.setWidth_eq]
  have hstaged := (s.noteMapped who).staged_setStaged (domainOf who) a.toNat (some v)
  exact completes_next ⟨hstaged, rfl, rfl⟩

/-! ### Accesses to no page (R82, R111) -/

section
variable (s : State) (who : Initiator) (a : Nat)

/-- R111: an access in the midst of a run of refused ones ends in a bus error and no more. -/
theorem State.refuseAccess_again (h : s.log.refusedRuns.any (fun e => e.1 == initiatorKey who) = true) : s.refuseAccess who a = s.busErr := by
  simp only [State.refuseAccess, h, if_true]

/-- A run of refused accesses of `who` has begun. -/
def State.noteRefused : State := { s with log := { s.log with refusedRuns := (initiatorKey who, true) :: s.log.refusedRuns } }

/-- R82: the first access of a run is noted and logged. -/
theorem State.refuseAccess_first (h : s.log.refusedRuns.any (fun e => e.1 == initiatorKey who) = false) :
    s.refuseAccess who a = ((s.noteRefused who).logE Page.SYS 0x0212 (args [a, (domainOf who).code])).busErr := by
  simp only [State.refuseAccess, State.noteRefused, h, Bool.false_eq_true, if_false]
end

theorem unmapped_access_refused (s : State) (who : Initiator) (a : Word) (write : Bool) : Claims.unmappedAccess s who a write := by
  intro hlo hhi hm hroom
  rw [exec_unmappedAccess, if_pos (by simp [hlo, hhi, hm])]
  cases hrun : s.log.refusedRuns.any (fun e => e.1 == initiatorKey who) with
  | true =>
    rw [s.refuseAccess_again who _ hrun]
    exact completes_next ⟨rfl, fun _ _ => rfl, fun h => absurd h (by decide), rfl⟩
  | false =>
    rw [s.refuseAccess_first who _ hrun]
    obtain ⟨hlogged, -, -⟩ := (s.noteRefused who).logE_logged Page.SYS 0x0212 (args [a.toNat, (domainOf who).code]) 0 hroom
    have hwords := (s.noteRefused who).logE_words Page.SYS 0x0212 (args [a.toNat, (domainOf who).code])
    have hframe := (s.noteRefused who).logE_frame Page.SYS 0x0212 (args [a.toNat, (domainOf who).code])
    exact completes_next ⟨rfl, hwords, fun _ => hlogged, congrArg State.busErr hframe⟩

/-- Settles O2: the reads and writes of each kind of register are followed through the access, and the refused access to its event. -/
theorem readsAndWideRegisters : Obligations.ReadsAndWideRegisters :=
  ⟨classgr_read_clears_for_owner, utc_read_snapshots, staging_write_waits, unmapped_access_refused⟩

end Sys2Proof.Machine
end

section
/-!
Rules for what an operation leaves alone: register words by pages, the room that logging takes, what is taken out of a state and what is kept,
and all that the switch channels do when they settle (R449).
-/

namespace Sys2Proof.Machine

/-! ### Words and pages that may change -/

theorem RegsIn.trans {ps : List Nat} {s t u : State} (h : RegsIn ps s t) (k : RegsIn ps t u) : RegsIn ps s u :=
  fun a ha => (k a ha).trans (h a ha)

theorem WordsIn.regsIn {A ps : List Nat} {s t : State} (h : WordsIn A s t) (hA : ∀ a ∈ A, InPages ps a) : RegsIn ps s t :=
  fun a ha => h a fun hm => ha (hA a hm)

theorem WordsIn.get {A : List Nat} {s t : State} (h : WordsIn A s t) (f : Field) (hf : f.addr ∉ A) : t.get f = s.get f := by
  rw [State.get, h f.addr hf, State.get]

theorem State.put_regsIn {ps : List Nat} (s : State) (f : Field) (v : Nat) (h : InPages ps f.addr) : RegsIn ps s (s.put f v) :=
  (s.put_words f v).regsIn fun a ha => by rwa [List.mem_singleton.1 ha]

/-- A page holds every word whose offset is below 0x1000. -/
theorem inPages_add {ps : List Nat} {p o : Nat} (hp : p ∈ ps) (ho : o < 0x1000) : InPages ps (p + o) :=
  ⟨p, hp, Nat.le_add_right _ _, by omega⟩

/-- Logging an event of a page changes words of that page and of LDG. -/
theorem logWords_inPages {ps : List Nat} {p : Nat} (hp : p ∈ ps) (hl : Page.LDG ∈ ps) : ∀ a ∈ logWords p, InPages ps a := by
  intro a ha
  simp only [logWords, List.mem_cons, List.not_mem_nil, or_false] at ha
  rcases ha with rfl | rfl | rfl
  · exact inPages_add hp (by decide)
  · exact inPages_add hl (by decide)
  · exact inPages_add (o := 0x58) hl (by decide)

/-! ### A flag of one bit -/

/-- A one-bit field reads the flag that was written. -/
theorem State.on_put_flag (s : State) (f : Field) (b : Bool) (hw : f.width = 1) (h : f.lo < 32) : (s.put f (b2n b)).on f = b := by
  rw [State.on, s.get_put_same f _ (by omega), hw]
  cases b <;> rfl

theorem on_congr {s t : State} {f : Field} (h : t.get f = s.get f) : t.on f = s.on f := by
  rw [State.on, State.on, h]

/-! ### The room that logging takes -/

/-- From `s` to `t` at most `n` events have been logged, as far as room goes. -/
def LogsAtMost (n : Nat) (s t : State) : Prop := ∀ m, LogRoom (m + n) s → LogRoom m t ∧ s.log.order ≤ t.log.order

theorem LogRoom.mono {m n : Nat} {s : State} (h : LogRoom n s) (hm : m ≤ n) : LogRoom m s := by
  unfold LogRoom at *
  omega

theorem LogsAtMost.of_log {s t : State} (n : Nat) (h : t.log = s.log) : LogsAtMost n s t := by
  intro m hr
  have hr' : LogRoom m s := hr.mono (Nat.le_add_right m n)
  rw [LogRoom, h]
  exact ⟨hr', le_rfl⟩

theorem LogsAtMost.trans {n k : Nat} {s t u : State} (h : LogsAtMost n s t) (g : LogsAtMost k t u) : LogsAtMost (k + n) s u := by
  intro m hr
  obtain ⟨ht, hst⟩ := h (m + k) (by rwa [Nat.add_assoc])
  obtain ⟨hu, htu⟩ := g m ht
  exact ⟨hu, hst.trans htu⟩

theorem State.logE_logsAtMost (s : State) (page code arg : Nat) : LogsAtMost 1 s (s.logE page code arg) := by
  intro m hr
  obtain ⟨-, hroom, horder⟩ := s.logE_logged page code arg m hr
  exact ⟨hroom, by omega⟩

/-- An event logged after at most `n` others is held. -/
theorem LogsAtMost.logged {n : Nat} {s t : State} (h : LogsAtMost n s t) (page code arg : Nat) (hr : LogRoom (1 + n) s) :
    Logged page code arg s (t.logE page code arg) := by
  obtain ⟨hroom, horder⟩ := h 1 hr
  obtain ⟨⟨e, he, hge, hrest⟩, -, -⟩ := t.logE_logged page code arg 0 hroom
  exact ⟨e, he, horder.trans hge, hrest⟩

/-! ### What an operation changes -/

/-- From `s` to `t` only register words in `W`, the event collector and what `e` takes out of a state have changed. -/
def Changes (e : State → State) (W : Nat → Prop) (s t : State) : Prop := e t.rest = e s.rest ∧ ∀ a, ¬ W a → t.word a = s.word a

namespace Changes

variable {e : State → State} {W : Nat → Prop}

theorem refl (s : State) : Changes e W s s := ⟨rfl, fun _ _ => rfl⟩

theorem trans {s t u : State} (h : Changes e W s t) (k : Changes e W t u) : Changes e W s u :=
  ⟨k.1.trans h.1, fun a ha => (k.2 a ha).trans (h.2 a ha)⟩

theorem ite {s t u : State} {c : Prop} [Decidable c] (ht : Changes e W s t) (hu : Changes e W s u) : Changes e W s (if c then t else u) := by
  split
  · exact ht
  · exact hu

theorem when {s t : State} (b : Bool) {f : State → State} (h : Changes e W s t) (hf : Changes e W t (f t)) : Changes e W s (t.when b f) :=
  ite (h.trans hf) h

theorem foldl {β : Type} (f : State → β → State) (hf : ∀ t b, Changes e W t (f t b)) (l : List β) : ∀ s : State, Changes e W s (l.foldl f s) := by
  induction l with
  | nil => exact refl
  | cons b l ih => exact fun s => (hf s b).trans (ih (f s b))

/-- More words may change, and more may be taken out. -/
theorem mono {e' : State → State} {V : Nat → Prop} {s t : State} (h : Changes e W s t) (he : ∀ u, e' u = e' (e u)) (hW : ∀ a, W a → V a) :
    Changes e' V s t :=
  ⟨(he _).trans ((congrArg e' h.1).trans (he _).symm), fun a ha => h.2 a fun hw => ha (hW a hw)⟩

theorem get {s t : State} (h : Changes e W s t) (f : Field) (hf : ¬ W f.addr) : t.get f = s.get f := by
  rw [State.get, h.2 f.addr hf, State.get]

/-- A component that is not taken out is as it was. -/
theorem kept {α : Type} {s t : State} (h : Changes e W s t) (π : State → α) (hπ : ∀ u, π u = π (e u.rest)) : π t = π s :=
  (hπ t).trans ((congrArg π h.1).trans (hπ s).symm)

section
variable {s t : State} (h : Changes e W s t)
include h

theorem put {f : Field} (v : Nat) (hf : W f.addr) : Changes e W s (t.put f v) :=
  h.trans ⟨congrArg e (t.put_rest f v), fun _ ha => t.word_put_ne f v fun hfa => ha (hfa ▸ hf)⟩

theorem irq {p : Nat} (i : Nat) (hp : W (p + 0x10)) : Changes e W s (t.irq p i) := h.put (f := F.IRQ_RAW.on p) _ hp

theorem logE {p : Nat} (code arg : Nat) (hp : ∀ a ∈ logWords p, W a) : Changes e W s (t.logE p code arg) :=
  h.trans ⟨congrArg e (t.logE_onlyLogged p code arg).1, fun a ha => t.logE_words p code arg a fun hm => ha (hp a hm)⟩
end

section
variable {ps : List Nat} {s t : State} (h : Changes e (InPages ps) s t) {p : Nat} (hp : p ∈ ps)
include h hp

theorem irq_page (i : Nat) : Changes e (InPages ps) s (t.irq p i) := h.irq i (inPages_add hp (by decide))

theorem logE_page (code arg : Nat) (hl : Page.LDG ∈ ps) : Changes e (InPages ps) s (t.logE p code arg) :=
  h.logE code arg (logWords_inPages hp hl)
end

end Changes

/-! ### The switch channels settle (R449) -/

/-- The pages whose words change when the channels settle. -/
def switchPages : List Nat := [Page.SAF, Page.SW 0, Page.SW 1, Page.LDG]

/-- A state with the records of the channels and the free values taken out. -/
def State.offSwitches (s : State) : State := { s with safety := {}, fresh := 0 }

/-- From `s` to `t` only channels have been switched: their words and records, the free values and the events. -/
abbrev Switched (s t : State) : Prop := Changes State.offSwitches (InPages switchPages) s t

namespace Changes

variable {W : Nat → Prop} {s t : State}

theorem setSw (h : Changes State.offSwitches W s t) (n : Fin 24) (c : SwChan) : Changes State.offSwitches W s (t.setSw n c) :=
  h.trans ⟨rfl, fun _ _ => rfl⟩

theorem setSc (h : Changes State.offSwitches W s t) (n : Fin 8) (c : SafeChan) : Changes State.offSwitches W s (t.setSc n c) :=
  h.trans ⟨rfl, fun _ _ => rfl⟩

theorem free {k : Nat → State → State} (h : ∀ v t, Changes State.offSwitches W t (k v t)) : Changes State.offSwitches W s (s.free k) :=
  trans (t := { s with fresh := s.fresh + 1 }) ⟨rfl, fun _ _ => rfl⟩ (h _ _)

end Changes

/-! The words of a channel. -/

theorem chField_inPages (n : Fin 8) (k : Nat) : InPages switchPages (chField n k).addr := by
  have h : ∀ n : Fin 8, ∃ p ∈ switchPages, p ≤ (F.SAF_CHST.i (n / 4)).addr ∧ (F.SAF_CHST.i (n / 4)).addr < p + 0x1000 := by decide
  exact h n

theorem swPage_mem (n : Fin 24) : Page.SW (swX n) ∈ switchPages := by
  have h : swX n = 0 ∨ swX n = 1 := by
    unfold swX
    omega
  rcases h with h | h
  · rw [h]; decide
  · rw [h]; decide

/-- A register of one channel lies on its page. -/
theorem swField_inPages (n : Fin 24) (f : Field) (hs : f.stride = 0x1000) (hb : 0x40034000 ≤ f.addr) (he : f.addr + 11 * f.stride2 < 0x40035000) :
    InPages switchPages (f.ij (swX n) (swI n)).addr := by
  have h : (f.ij (swX n) (swI n)).addr = Page.SW (swX n) + (f.addr - 0x40034000 + swI n * f.stride2) := by
    simp only [Field.ij, hs, Page.SW]
    omega
  have hi : swI n * f.stride2 ≤ 11 * f.stride2 := Nat.mul_le_mul_right _ (by unfold swI; omega)
  rw [h]
  exact inPages_add (swPage_mem n) (by omega)

theorem swMask_inPages (n : Fin 24) (f : Field) (hs : f.stride = 0x1000) (hb : 0x40034000 ≤ f.addr) (he : f.addr < 0x40035000) :
    InPages switchPages (f.i (swX n)).addr := by
  have h : (f.i (swX n)).addr = Page.SW (swX n) + (f.addr - 0x40034000) := by
    simp only [Field.i, hs, Page.SW]
    omega
  rw [h]
  exact inPages_add (swPage_mem n) (by omega)

section
variable (s : State)

theorem State.notePermit_switched (n : Fin 8) : Switched s (s.notePermit n) := by
  have hf (k : Nat) : InPages switchPages (chField n k).addr := chField_inPages n k
  have hsaf : Page.SAF ∈ switchPages := by decide
  unfold State.notePermit
  extract_lets base req legs asked pre c s1 permit was s2 s3
  have h2 : Switched s s2 := ((((((Changes.refl s).setSc n _).put _ (hf 0)).put _ (hf 1)).put _ (hf 2)).put _ (hf 4)).put _ (hf 6)
  have h3 : Switched s s3 := ((h2.put _ (hf 7)).when _ ((Changes.refl _).irq_page hsaf 4)).when _ ((Changes.refl _).irq_page hsaf 5)
  exact Changes.ite ((h3.put _ (inPages_add (p := Page.SAF) (o := 0x90) hsaf (by decide))).logE_page hsaf _ _ (by decide)) h3

theorem State.noteSense_switched (n : Fin 24) (old st : Nat) : Switched s (s.noteSense n old st) := by
  have hw (t : State) (g : Field) (hg : g = F.SW_CH_SENSE_SENSE ∨ g = F.SW_CH_SENSE_LSENSE) (v : Nat) :
      Switched t (t.put (g.ij (swX n) (swI n)) v) := by
    refine (Changes.refl t).put v ?_
    rcases hg with rfl | rfl
    · exact swField_inPages n _ rfl (by decide) (by decide)
    · exact swField_inPages n _ rfl (by decide) (by decide)
  unfold State.noteSense
  dsimp only
  refine Changes.ite ?_ (Changes.ite ?_ (Changes.refl s))
  · exact (hw s _ (.inl rfl) _).when _ (hw _ _ (.inr rfl) _)
  · exact Changes.free fun v t => (hw t _ (.inl rfl) (v % 4096)).when _ (hw _ _ (.inr rfl) (v / 4096 % 4096))

theorem State.putChState_switched (n : Fin 24) (st hold : Nat) : Switched s (s.putChState n st hold) := by
  unfold State.putChState
  dsimp only
  refine Changes.trans ?_ (State.noteSense_switched _ n _ st)
  exact (((Changes.refl s).put _ (swField_inPages n _ rfl (by decide) (by decide))).put _ (swField_inPages n _ rfl (by decide) (by decide))).when _
    ((Changes.refl _).irq_page (swPage_mem n) 5)

theorem State.restState_switched (n : Fin 24) : Switched s (s.restState n) := by
  have h (st hold : Nat) : Switched s (s.putChState n st hold) := s.putChState_switched n st hold
  unfold State.restState
  exact Changes.ite (h _ _) (Changes.ite (h _ _) (Changes.ite (h _ _) (Changes.ite (h _ _) (h _ _))))

theorem State.watchOpening_switched (n : Fin 8) (both : Bool) : Switched s (s.watchOpening n both) := by
  unfold State.watchOpening
  exact Changes.ite ((Changes.refl s).setSc n _) (Changes.refl s)

theorem State.legsOff_switched (n : Fin 24) : Switched s (s.legsOff n) := by
  unfold State.legsOff
  extract_lets c s1 s2
  have h2 : Switched s s2 := (((Changes.refl s).setSw n _).put _ (swMask_inPages n _ rfl (by decide) (by decide))).put _
    (swField_inPages n _ rfl (by decide) (by decide))
  refine Changes.ite ?_ (Changes.refl s)
  split
  · exact h2
  · exact (h2.put 0 (chField_inPages _ 3)).trans (State.watchOpening_switched _ _ _)

theorem State.startConduction_switched (n : Fin 24) : Switched s (s.startConduction n) := by
  unfold State.startConduction
  extract_lets x i cycles c s1 s2 s3
  have h2 : Switched s s2 := ((((Changes.refl s).setSw n _).put _ (swMask_inPages n _ rfl (by decide) (by decide))).put _
    (swField_inPages n _ rfl (by decide) (by decide))).trans (State.putChState_switched _ n _ _)
  have h3 : Switched s s3 := Changes.ite (h2.logE_page (swPage_mem n) _ _ (by decide)) h2
  split
  · exact h3
  · exact (h3.put 1 (chField_inPages _ 3)).setSc _ _

theorem State.settleChan_switched (n : Fin 24) : Switched s (s.settleChan n) := by
  unfold State.settleChan
  extract_lets s1
  have h1 : Switched s s1 := by
    unfold s1
    split
    · exact Changes.refl s
    · exact s.notePermit_switched _
  refine Changes.ite (Changes.ite h1 ?_) ((h1.trans (s1.legsOff_switched n)).trans (State.restState_switched _ n))
  split
  · exact h1.trans (s1.startConduction_switched n)
  · exact h1.setSw n _

/-- All that settling the channels does. -/
theorem State.settle_switched : Switched s s.settle :=
  (Changes.foldl _ (fun t n => t.settleChan_switched n) _ s).trans (Changes.foldl _ (fun t n => t.notePermit_switched n) _ _)
end

end Sys2Proof.Machine
end

section
/-!
Proofs about the life of a head port (chapter 5): what a change of port state does, and the commands that enable, lose and recover a port.
-/

namespace Sys2Proof.Machine

/-! ### The words of a port -/

/-- The words that ending the pattern of a head port may change: PAT.CTL and PAT.STAT of its page, and those of its events. -/
def patWords (p : Fin 8) : List Nat := [Page.HEAD p + 0xF00, Page.HEAD p + 0xF04] ++ logWords (Page.HEAD p)

/-- The words that a change of port state may change. -/
def stateWords (p : Fin 8) : List Nat := [Page.HEAD p + 0xC, Page.HEAD p + 0x10] ++ patWords p

theorem stat_addr (p : Fin 8) : (F.HEAD_STAT_STATE.i p).addr = Page.HEAD p + 0xC := by
  simp only [Field.i, F.HEAD_STAT_STATE, Page.HEAD]
  omega

/-- The fields of STAT lie in one word. -/
theorem statField_addr (p : Fin 8) (f : Field) (ha : f.addr = 0x4001000C) (hs : f.stride = 0x1000) : (f.i p).addr = Page.HEAD p + 0xC := by
  rw [← stat_addr p, Field.i, Field.i, ha, hs]
  rfl

theorem losses_addr (p : Fin 8) : (F.HEAD_LERR_LOSSES.i p).addr = Page.HEAD p + 0x64 := by
  simp only [Field.i, F.HEAD_LERR_LOSSES, Page.HEAD]
  omega

theorem ctl_addr (p : Fin 8) : (F.HEAD_CTL_EN.i p).addr = Page.HEAD p + 8 := by
  simp only [Field.i, F.HEAD_CTL_EN, Page.HEAD]
  omega

theorem headPage_aligned (p : Fin 8) : Page.HEAD p % 4096 = 0 := by
  unfold Page.HEAD
  omega

/-- A word of the page of a port is none of those of its pattern and events when its offset is none of theirs. -/
theorem not_mem_patWords (p : Fin 8) {o : Nat} (ho : o < 0x1000) (h : o ∉ [0x10, 0x1C, 0x58, 0xF00, 0xF04]) : Page.HEAD p + o ∉ patWords p := by
  simp only [List.mem_cons, List.not_mem_nil, or_false, not_or] at h
  obtain ⟨h10, h1C, h58, hctl, hstat⟩ := h
  have hlog : Page.HEAD p + o ∉ logWords (Page.HEAD p) := not_mem_logWords (headPage_aligned p) ho ⟨h10, h1C, h58⟩
  simp only [patWords, List.mem_append, List.mem_cons, List.not_mem_nil, or_false, hlog]
  omega

theorem not_mem_stateWords (p : Fin 8) {o : Nat} (ho : o < 0x1000) (h : o ∉ [0xC, 0x10, 0x1C, 0x58, 0xF00, 0xF04]) :
    Page.HEAD p + o ∉ stateWords p := by
  obtain ⟨hC, hrest⟩ : o ≠ 0xC ∧ o ∉ [0x10, 0x1C, 0x58, 0xF00, 0xF04] := by simpa [not_or] using h
  have h10 : o ≠ 0x10 := List.ne_of_not_mem_cons hrest
  simp only [stateWords, List.mem_append, List.mem_cons, List.not_mem_nil, or_false, not_mem_patWords p ho hrest]
  omega

theorem stat_not_mem_patWords (p : Fin 8) : Page.HEAD p + 0xC ∉ patWords p := not_mem_patWords p (by decide) (by decide)

/-- The interrupt bits of a page that is not LDG are none of the words of its events. -/
theorem raw_not_mem_logWords (p : Fin 8) : Page.HEAD p + 0x10 ∉ logWords (Page.HEAD p) := by
  have h1 : F.LDG_EVRING_EVLOST.addr = 0x40024058 := rfl
  simp only [logWords, List.mem_cons, List.not_mem_nil, or_false, h1, Page.HEAD, Page.LDG]
  omega

theorem stateWords_inPages (p : Fin 8) : ∀ a ∈ stateWords p, InPages (Claims.portPages p) a := by
  have hp : Page.HEAD p ∈ Claims.portPages p := List.mem_cons_self
  have hl : Page.LDG ∈ Claims.portPages p := List.mem_cons_of_mem _ List.mem_cons_self
  intro a ha
  simp only [stateWords, patWords, List.cons_append, List.nil_append, List.mem_cons] at ha
  rcases ha with rfl | rfl | rfl | rfl | ha
  · exact inPages_add hp (by decide)
  · exact inPages_add hp (by decide)
  · exact inPages_add hp (by decide)
  · exact inPages_add hp (by decide)
  · exact logWords_inPages hp hl a ha

/-! ### The end of a pattern, and a change of port state -/

/-- A state with the records of the ports and the pattern blocks taken out. -/
def State.offPorts (s : State) : State := { s with heads := Vector.replicate 8 {}, pats := [] }

/-- The same with the channels taken out too, which a link error changes. -/
def State.offLink (s : State) : State := { s.offPorts with chans := Vector.replicate 24 {} }

/-- The same with the heads taken out too, which are at rest after a loss of power. -/
def State.offPower (s : State) : State := { s.offLink with headDevs := Vector.replicate 8 {} }

namespace Changes

variable {W : Nat → Prop} {s t : State}

theorem setChans (h : Changes State.offLink W s t) (c : Vector Channel 24) : Changes State.offLink W s { t with chans := c } :=
  h.trans ⟨rfl, fun _ _ => rfl⟩

theorem linkError (h : Changes State.offLink W s t) (p : Fin 8) : Changes State.offLink W s (t.linkError p) := h.setChans _

theorem setDev (h : Changes State.offPower W s t) (p : Fin 8) (d : HeadDevice) : Changes State.offPower W s (t.setDev p d) :=
  h.trans ⟨rfl, fun _ _ => rfl⟩

theorem link_of_ports (h : Changes State.offPorts W s t) : Changes State.offLink W s t := h.mono (fun _ => rfl) fun _ => id

theorem power_of_link (h : Changes State.offLink W s t) : Changes State.offPower W s t := h.mono (fun _ => rfl) fun _ => id

theorem link_frame (h : Changes State.offLink W s t) :
    t = { s with regs := t.regs, heads := t.heads, chans := t.chans, pats := t.pats, log := t.log } := by
  have h2 : ∀ u : State, u = { u.rest.offLink with regs := u.regs, heads := u.heads, chans := u.chans, pats := u.pats, log := u.log } := fun _ => rfl
  have h3 := h2 t
  rwa [h.1] at h3

theorem power_frame (h : Changes State.offPower W s t) : t = { s with
    regs := t.regs, heads := t.heads, headDevs := t.headDevs, chans := t.chans, pats := t.pats, log := t.log } := by
  have h2 : ∀ u : State, u = { u.rest.offPower with
      regs := u.regs, heads := u.heads, headDevs := u.headDevs, chans := u.chans, pats := u.pats, log := u.log } := fun _ => rfl
  have h3 := h2 t
  rwa [h.1] at h3

section
variable (h : Changes State.offPorts W s t)
include h

theorem setPort (p : Fin 8) (v : HeadPort) : Changes State.offPorts W s (t.setPort p v) := h.trans ⟨rfl, fun _ _ => rfl⟩

theorem setPat (page : Nat) (b : PatBlock) : Changes State.offPorts W s (t.setPat page b) := h.trans ⟨rfl, fun _ _ => rfl⟩

theorem sendPattern (p : Fin 8) (arg : Nat) : Changes State.offPorts W s (t.sendPattern p arg) := h.trans ⟨rfl, fun _ _ => rfl⟩
end

end Changes

section
variable (s : State) (p : Fin 8)

/-- The page of a head port names the port. -/
theorem headOf_head : ∀ p : Fin 8, headOf (Page.HEAD p) = some p := by
  decide

theorem linkPage_head : ∀ p : Fin 8, linkPage (Page.HEAD p) = true := by
  decide

/-- R766, R768: stopping the generator of a head page clears its flags, and a head that sends is told to end. -/
theorem State.stopGen_head : Changes State.offPorts (· ∈ patWords p) s (s.stopGen (Page.HEAD p)) := by
  have hctl : Page.HEAD p + 0xF00 ∈ patWords p := by simp [patWords]
  have hstat : Page.HEAD p + 0xF04 ∈ patWords p := by simp [patWords]
  simp only [State.stopGen, linkPage_head, headOf_head, Bool.not_true, Bool.false_eq_true, if_false]
  exact ((((Changes.refl s).put 0 hctl).put 0 hstat).put 0 hstat).when _ ((Changes.refl _).sendPattern p 0)

theorem logWords_patWords : ∀ a ∈ logWords (Page.HEAD p), a ∈ patWords p := fun _ ha => List.mem_append_right _ ha

/-- The losses of synchronisation that the end of a pattern reports (R778): one event for each lane that is in synchronisation. -/
def State.reportSync (page sync : Nat) : State :=
  (List.range 3).foldl (fun (t : State) l => if bit sync l then t.logE page 0x1012 (args [pageIndex page, l]) else t) s

theorem State.reportSync_changes (sync : Nat) : Changes State.offPorts (· ∈ patWords p) s (s.reportSync (Page.HEAD p) sync) := by
  refine Changes.foldl _ (fun t l => ?_) _ s
  exact Changes.ite ((Changes.refl t).logE _ _ (logWords_patWords p)) (Changes.refl t)

theorem State.reportSync_logs (page sync : Nat) : LogsAtMost 3 s (s.reportSync page sync) := by
  have h (t : State) (l : Nat) : LogsAtMost 1 t (if bit sync l then t.logE page 0x1012 (args [pageIndex page, l]) else t) := by
    split
    · exact t.logE_logsAtMost _ _ _
    · exact .of_log 1 rfl
  exact ((h s 0).trans (h _ 1)).trans (h _ 2)

/-- R778: the pattern of a head page ends as the port leaves RUN. -/
def State.endPattern : State :=
  let t := ((s.reportSync (Page.HEAD p) (s.get (F.PAT_STAT_SYNC.on (Page.HEAD p)))).stopGen (Page.HEAD p)).put (F.PAT_STAT_SYNC.on (Page.HEAD p)) 0
  t.setPat (Page.HEAD p) { t.pat (Page.HEAD p) with lanes := List.replicate 3 {} }

theorem State.patPortLeft_eq : s.patPortLeft p
    = if s.genOn (Page.HEAD p) ∧ s.get (F.PAT_CTL_LOOP.on (Page.HEAD p)) = 0 then s.endPattern p else s := rfl

theorem State.patPortLeft_changes : Changes State.offPorts (· ∈ patWords p) s (s.patPortLeft p) := by
  have hstat : Page.HEAD p + 0xF04 ∈ patWords p := by simp [patWords]
  rw [State.patPortLeft_eq]
  refine Changes.ite ?_ (Changes.refl s)
  exact (((s.reportSync_changes p _).trans (State.stopGen_head _ p)).put (f := F.PAT_STAT_SYNC.on (Page.HEAD p)) 0 hstat).setPat _ _

theorem State.sendPattern_log (arg : Nat) : (s.sendPattern p arg).log = s.log := by simp only [State.sendPattern, State.sendCommands]

theorem State.stopGen_head_log : (s.stopGen (Page.HEAD p)).log = s.log := by
  simp only [State.stopGen, linkPage_head, headOf_head, Bool.not_true, Bool.false_eq_true, if_false, State.when]
  split
  · rw [State.sendPattern_log, State.put_log, State.put_log, State.put_log]
  · rw [State.put_log, State.put_log, State.put_log]

theorem State.endPattern_logs : LogsAtMost 3 s (s.endPattern p) := by
  refine (s.reportSync_logs (Page.HEAD p) (s.get (F.PAT_STAT_SYNC.on (Page.HEAD p)))).trans (.of_log 0 ?_)
  rw [State.endPattern, State.setPat_log, State.put_log, State.stopGen_head_log]

theorem State.patPortLeft_logs : LogsAtMost 3 s (s.patPortLeft p) := by
  rw [State.patPortLeft_eq]
  split
  · exact s.endPattern_logs p
  · exact .of_log 3 rfl

/-- Everything that entering a port state changes. -/
theorem State.enterPort_changes (st : Nat) : Changes State.offPorts (· ∈ stateWords p) s (s.enterPort p st) := by
  have hs : (F.HEAD_STAT_STATE.i p).addr ∈ stateWords p := by simp [stat_addr, stateWords]
  have hi : Page.HEAD p + 0x10 ∈ stateWords p := by simp [stateWords]
  unfold State.enterPort
  refine Changes.ite (Changes.refl s) ?_
  have h1 := ((Changes.refl s).put (e := State.offPorts) st hs).irq 0 hi
  exact Changes.ite (h1.trans ((State.patPortLeft_changes _ p).mono (fun _ => rfl) fun _ ha => List.mem_append_right _ ha)) h1

theorem State.enterPort_logs (st : Nat) : LogsAtMost 3 s (s.enterPort p st) := by
  unfold State.enterPort
  split
  · exact .of_log 3 rfl
  · dsimp only
    split
    · exact (LogsAtMost.of_log (t := (s.put (F.HEAD_STAT_STATE.i p) st).irq (Page.HEAD p) 0) 0 rfl).trans (State.patPortLeft_logs _ p)
    · exact .of_log 3 rfl

/-- A port that is not in RUN enters a state without more. -/
theorem State.enterPort_idle (st : Nat) (h : s.portState p ≠ 4) :
    s.enterPort p st = { s with regs := (s.enterPort p st).regs } ∧ WordsIn [Page.HEAD p + 0xC, Page.HEAD p + 0x10] s (s.enterPort p st) := by
  have hput := ((s.put_words (F.HEAD_STAT_STATE.i p) st).trans (State.irq_words _ (Page.HEAD p) 0))
  rw [stat_addr] at hput
  unfold State.enterPort
  rw [if_neg h]
  split
  · exact ⟨rfl, WordsIn.refl _ s⟩
  · exact ⟨rfl, hput⟩

theorem State.enterPort_portState {st : Nat} (h : st < 8) : (s.enterPort p st).portState p = st := by
  have hput : ((s.put (F.HEAD_STAT_STATE.i p) st).irq (Page.HEAD p) 0).portState p = st := by
    rw [State.portState, (State.irq_words _ (Page.HEAD p) 0).get _ (by simp [stat_addr]), State.get_put_same _ _ _ (Nat.le_of_ble_eq_true rfl)]
    exact Nat.mod_eq_of_lt h
  unfold State.enterPort
  split
  · assumption
  · dsimp only
    split
    · rw [State.portState, (State.patPortLeft_changes _ p).get _ (by rw [stat_addr]; exact stat_not_mem_patWords p)]
      exact hput
    · exact hput

end

theorem State.port_setPort (s : State) (p : Fin 8) (h : HeadPort) : (s.setPort p h).port p = h := by
  simp [State.port, State.setPort, Vector.get_eq_getElem]

theorem State.dev_setDev (s : State) (p : Fin 8) (d : HeadDevice) : (s.setDev p d).dev p = d := by
  simp [State.dev, State.setDev, Vector.get_eq_getElem]

/-- A field of a word of a port keeps its value when another field of the word is written. -/
theorem State.get_put_i (s : State) (p : Nat) (f g : Field) (v : Nat) (ha : g.addr = f.addr) (hs : g.stride = f.stride)
    (hf : f.lo + f.width ≤ 32) (h : g.lo + g.width ≤ f.lo ∨ f.lo + f.width ≤ g.lo) : (s.put (f.i p) v).get (g.i p) = s.get (g.i p) :=
  s.get_put_disjoint (f.i p) (g.i p) v (by rw [Field.i, Field.i, ha, hs]) hf h

/-- A one-bit field of a port reads the flag that was written. -/
theorem State.on_put_i (s : State) (p : Nat) (f : Field) (b : Bool) (hw : f.width = 1) (h : f.lo < 32) : (s.put (f.i p) (b2n b)).on (f.i p) = b :=
  s.on_put_flag (f.i p) b hw h

/-- A saturating count. -/
theorem State.get_incSat (s : State) (f : Field) (h : f.lo + f.width ≤ 32) : (s.incSat f).get f = min (2 ^ f.width - 1) (s.get f + 1) := by
  have hpos : 0 < 2 ^ f.width := Nat.two_pow_pos _
  rw [State.incSat, State.addSat, s.get_put_same f _ h, sat, Nat.min_comm]
  exact Nat.mod_eq_of_lt (by omega)

theorem State.setDev_get (s : State) (p : Fin 8) (d : HeadDevice) (f : Field) : (s.setDev p d).get f = s.get f := rfl

section
variable (s : State) (p : Fin 8)

/-! ### Power on (R174) -/

theorem State.wordSent_powered {c a : Nat} (h0 : s.portState p ≠ 0) (h5 : s.portState p ≠ 5) (hc : (s.port p).sends (s.portState p) = (c, a)) :
    s.wordSent p = some (commandWord c a) := by
  simp [State.wordSent, h0, h5, hc]

/-- With nothing to send and no nonce, a port sends IDLE. -/
theorem HeadPort.sends_idle (h : HeadPort) (st : Nat) (hd : h.due = []) (hn : h.nonce = none) : h.sends st = (0, 0) := by
  simp [HeadPort.sends, hd, hn]

/-- What waits to be sent goes first. -/
theorem HeadPort.sends_due (h : HeadPort) (st : Nat) {c : Nat × Nat} {l : List (Nat × Nat)} (hd : h.due = c :: l) : h.sends st = c := by
  simp [HeadPort.sends, hd]

/-- In IDENT, a port that has passed its check sends HELLO with its nonce until the echo. -/
theorem HeadPort.sends_hello (h : HeadPort) {n : Nat} (hd : h.due = []) (hn : h.nonce = some n) (hc : h.checked = true) (hr : h.runSent = false) :
    h.sends 3 = (1, n) := by
  simp [HeadPort.sends, hd, hn, hc, hr]

/-- The record of a port that is powered: nothing read, nothing to send. -/
def State.poweredPort : HeadPort := { (s.port p).restart with unbound := false, phase := Config.freeValue s.fresh % 32 }

/-- The state in which `powerPort` enters POWER. -/
def State.prePower : State := ({ s with fresh := s.fresh + 1 } : State).setPort p (s.poweredPort p)

theorem State.powerPort_eq : s.powerPort p = ((s.prePower p).enterPort p 1).put (F.HEAD_STAT_PRESENT.i p) (b2n (s.port p).plugged) := rfl

theorem State.powerPort_portState : (s.powerPort p).portState p = 1 := by
  rw [State.powerPort_eq, State.portState, State.get_put_i _ p F.HEAD_STAT_PRESENT F.HEAD_STAT_STATE _ rfl rfl (by decide) (by decide)]
  exact State.enterPort_portState _ p (by decide)

theorem State.powerPort_present : (s.powerPort p).on (F.HEAD_STAT_PRESENT.i p) = (s.port p).plugged := by
  rw [State.powerPort_eq, State.on_put_i _ p F.HEAD_STAT_PRESENT _ rfl (by decide)]

/-- What powering a port that is not in RUN leaves alone. -/
theorem State.powerPort_frame (h : s.portState p ≠ 4) :
    s.powerPort p = { s with regs := (s.powerPort p).regs, heads := (s.powerPort p).heads, fresh := (s.powerPort p).fresh } := by
  obtain ⟨hframe, -⟩ := (s.prePower p).enterPort_idle p 1 h
  rw [State.powerPort_eq, hframe]
  rfl

theorem State.powerPort_words (h : s.portState p ≠ 4) : WordsIn [Page.HEAD p + 0xC, Page.HEAD p + 0x10] s (s.powerPort p) := by
  obtain ⟨-, hwords⟩ := (s.prePower p).enterPort_idle p 1 h
  have hput := ((s.prePower p).enterPort p 1).put_words (F.HEAD_STAT_PRESENT.i p) (b2n (s.port p).plugged)
  rw [statField_addr p _ rfl rfl] at hput
  exact (hwords.trans hput).mono (by simp)

theorem State.powerPort_port (h : s.portState p ≠ 4) : (s.powerPort p).port p = s.poweredPort p := by
  obtain ⟨hframe, -⟩ := (s.prePower p).enterPort_idle p 1 h
  rw [State.powerPort_eq, hframe]
  exact State.port_setPort _ p _

theorem State.powerPort_wordSent (h : s.portState p ≠ 4) : (s.powerPort p).wordSent p = some (commandWord 0 0) := by
  have hstate := s.powerPort_portState p
  have hport := s.powerPort_port p h
  exact State.wordSent_powered _ p (by rw [hstate]; decide) (by rw [hstate]; decide) (by rw [hport]; exact HeadPort.sends_idle _ _ rfl rfl)

/-! ### Power off (R183, R201) -/

theorem State.linkError_regs : (s.linkError p).regs = s.regs := by simp only [State.linkError]

theorem State.linkError_frame : s.linkError p = { s with chans := (s.linkError p).chans } := by simp only [State.linkError]

theorem State.linkError_get (f : Field) : (s.linkError p).get f = s.get f := by
  rw [State.get, State.get, State.word, State.word, State.linkError_regs]

theorem State.linkError_own (c : Fin 24) (h : c.val / 3 = p.val) : ((s.linkError p).chans.get c).linkAge = 0 := by
  simp [State.linkError, h]

theorem State.linkError_other (c : Fin 24) (h : c.val / 3 ≠ p.val) : (s.linkError p).chans.get c = s.chans.get c := by
  simp [State.linkError, h]

theorem statField_mem (f : Field) (ha : f.addr = 0x4001000C) (hs : f.stride = 0x1000) : (f.i p).addr ∈ stateWords p := by
  rw [statField_addr p f ha hs]
  simp [stateWords]

theorem statField_inPages (f : Field) (ha : f.addr = 0x4001000C) (hs : f.stride = 0x1000) : InPages [Page.HEAD p] (f.i p).addr := by
  rw [statField_addr p f ha hs]
  exact inPages_add (List.mem_singleton.2 rfl) (by decide)

/-- LOCK and TYPEOK of a port clear. -/
def State.clearLock : State := (s.put (F.HEAD_STAT_LOCK.i p) 0).put (F.HEAD_STAT_TYPEOK.i p) 0

theorem State.clearLock_portState : (s.clearLock p).portState p = s.portState p := by
  rw [State.clearLock, State.portState, State.get_put_i _ p F.HEAD_STAT_TYPEOK F.HEAD_STAT_STATE _ rfl rfl (by decide) (by decide),
    State.get_put_i _ p F.HEAD_STAT_LOCK F.HEAD_STAT_STATE _ rfl rfl (by decide) (by decide), State.portState]

theorem State.clearLock_lock : (s.clearLock p).on (F.HEAD_STAT_LOCK.i p) = false := by
  rw [← State.on_put_i s p F.HEAD_STAT_LOCK false rfl (by decide)]
  apply on_congr
  rw [State.clearLock, State.get_put_i _ p F.HEAD_STAT_TYPEOK F.HEAD_STAT_LOCK _ rfl rfl (by decide) (by decide)]
  rfl

theorem State.clearLock_changes {e : State → State} : Changes e (· ∈ stateWords p) s (s.clearLock p) :=
  ((Changes.refl s).put 0 (statField_mem p F.HEAD_STAT_LOCK rfl rfl)).put 0 (statField_mem p F.HEAD_STAT_TYPEOK rfl rfl)

theorem State.clearLock_log : (s.clearLock p).log = s.log := by simp only [State.clearLock, State.put_log]

theorem State.clearLock_chans : (s.clearLock p).chans = s.chans := by simp only [State.clearLock, State.put_chans]

/-- The port of `s` as `portOff` leaves it before it enters its state: the channels in error, the record at rest. -/
def State.preOff : State := (s.linkError p).setPort p { (s.port p).restart with unbound := false, rf1 := false }

theorem State.portOff_eq (st : Nat) : s.portOff p st = ((((s.preOff p).enterPort p st).clearLock p).put (F.HEAD_STAT_PRESENT.i p) 0).setDev p {} := rfl

theorem State.portOff_portState {st : Nat} (h : st < 8) : (s.portOff p st).portState p = st := by
  rw [State.portOff_eq, State.portState, State.setDev_get, State.get_put_i _ p F.HEAD_STAT_PRESENT F.HEAD_STAT_STATE _ rfl rfl (by decide) (by decide)]
  exact (State.clearLock_portState _ p).trans (State.enterPort_portState _ p h)

theorem State.portOff_present (st : Nat) : (s.portOff p st).on (F.HEAD_STAT_PRESENT.i p) = false := by
  rw [State.portOff_eq, State.on, State.setDev_get]
  exact State.on_put_i _ p F.HEAD_STAT_PRESENT false rfl (by decide)

theorem State.portOff_lock (st : Nat) : (s.portOff p st).on (F.HEAD_STAT_LOCK.i p) = false := by
  rw [State.portOff_eq, State.on, State.setDev_get, State.get_put_i _ p F.HEAD_STAT_PRESENT F.HEAD_STAT_LOCK _ rfl rfl (by decide) (by decide)]
  exact State.clearLock_lock _ p

theorem State.preOff_log : (s.preOff p).log = s.log := by simp only [State.preOff, State.setPort_log, State.linkError]

theorem State.preOff_changes {W : Nat → Prop} : Changes State.offLink W s (s.preOff p) :=
  ((Changes.refl s).linkError p).trans ((Changes.refl _).setPort p _).link_of_ports

theorem State.portOff_changes (st : Nat) : Changes State.offPower (· ∈ stateWords p) s (s.portOff p st) := by
  rw [State.portOff_eq]
  have henter := (State.enterPort_changes (s.preOff p) p st).link_of_ports
  exact (((s.preOff_changes p).trans henter).trans ((State.clearLock_changes _ p).put 0 (statField_mem p F.HEAD_STAT_PRESENT rfl rfl))).power_of_link.setDev p {}

/-- R180, R201: the channels of a port without power are in error, and no other. -/
theorem State.portOff_chans (st : Nat) : (s.portOff p st).chans = (s.linkError p).chans := by
  have henter := (State.enterPort_changes (s.preOff p) p st).kept State.chans fun _ => rfl
  rw [State.portOff_eq, State.setDev_chans, State.put_chans, State.clearLock_chans, henter, State.preOff, State.setPort_chans]

theorem State.portOff_logs (st : Nat) : LogsAtMost 3 s (s.portOff p st) := by
  have hlog : (s.portOff p st).log = ((s.preOff p).enterPort p st).log := by
    rw [State.portOff_eq, State.setDev_log, State.put_log, State.clearLock_log]
  exact ((LogsAtMost.of_log 0 (s.preOff_log p)).trans (State.enterPort_logs _ p st)).trans (.of_log 0 hlog)

/-! ### Loss of lock (R179) -/

/-- The port of `s` with its identity forgotten. -/
def State.preSync : State := s.setPort p { (s.port p).restart with unbound := false, rf1 := false }

theorem State.toSync_eq : s.toSync p = ((s.preSync p).enterPort p 2).clearLock p := rfl

theorem State.toSync_portState : (s.toSync p).portState p = 2 := by
  rw [State.toSync_eq, State.clearLock_portState]
  exact State.enterPort_portState _ p (by decide)

theorem State.toSync_lock : (s.toSync p).on (F.HEAD_STAT_LOCK.i p) = false := by
  rw [State.toSync_eq]
  exact State.clearLock_lock _ p

theorem State.toSync_changes : Changes State.offPorts (· ∈ stateWords p) s (s.toSync p) := by
  rw [State.toSync_eq]
  exact (((Changes.refl s).setPort p _).trans (State.enterPort_changes _ p 2)).trans (State.clearLock_changes _ p)

/-- A port that is not in RUN passes to SYNC with nothing but words of its page and its own record changed. -/
theorem State.toSync_idle (h : s.portState p ≠ 4) :
    s.toSync p = { s with regs := (s.toSync p).regs, heads := (s.toSync p).heads } ∧ RegsIn [Page.HEAD p] s (s.toSync p) := by
  obtain ⟨hframe, hwords⟩ := (s.preSync p).enterPort_idle p 2 h
  have hmem : Page.HEAD p ∈ [Page.HEAD p] := List.mem_singleton.2 rfl
  have hstat : ∀ a ∈ [Page.HEAD p + 0xC, Page.HEAD p + 0x10], InPages [Page.HEAD p] a := by
    intro a ha
    simp only [List.mem_cons, List.not_mem_nil, or_false] at ha
    rcases ha with rfl | rfl
    · exact inPages_add hmem (by decide)
    · exact inPages_add hmem (by decide)
  have hlock : RegsIn [Page.HEAD p] ((s.preSync p).enterPort p 2) (s.toSync p) :=
    ((Changes.refl (e := id) _).put 0 (statField_inPages p F.HEAD_STAT_LOCK rfl rfl)).put 0 (statField_inPages p F.HEAD_STAT_TYPEOK rfl rfl) |>.2
  refine ⟨?_, (hwords.regsIn hstat).trans hlock⟩
  rw [State.toSync_eq, hframe]
  rfl

/-! ### Loss of lock (R179) -/

theorem State.lossOfLock_run (h : s.portState p = 4) : s.lossOfLock p
    = (((s.incSat (F.HEAD_LERR_LOSSES.i p)).toSync p).linkError p).logE (Page.HEAD p) 0x0341 p := by
  simp [State.lossOfLock, h]

theorem State.lossOfLock_other (h : s.portState p ≠ 4) : s.lossOfLock p = (s.incSat (F.HEAD_LERR_LOSSES.i p)).toSync p := by
  simp [State.lossOfLock, h]

/-- R179: after the count, a loss of lock changes the state of the port, the channels and the events. -/
theorem State.lossOfLock_changes : Changes State.offLink (· ∈ stateWords p) (s.incSat (F.HEAD_LERR_LOSSES.i p)) (s.lossOfLock p) := by
  have hsync := (State.toSync_changes (s.incSat (F.HEAD_LERR_LOSSES.i p)) p).link_of_ports
  by_cases h : s.portState p = 4
  · rw [s.lossOfLock_run p h]
    exact (hsync.linkError p).logE _ _ fun a ha => List.mem_append_right _ (logWords_patWords p a ha)
  · rw [s.lossOfLock_other p h]
    exact hsync

theorem State.lossOfLock_portState : (s.lossOfLock p).portState p = 2 := by
  have hsync := State.toSync_portState (s.incSat (F.HEAD_LERR_LOSSES.i p)) p
  by_cases h : s.portState p = 4
  · rw [s.lossOfLock_run p h, State.portState, (State.logE_words _ (Page.HEAD p) _ _).get _
      (by rw [stat_addr]; exact fun ha => stat_not_mem_patWords p (logWords_patWords p _ ha)), State.linkError_get]
    exact hsync
  · rw [s.lossOfLock_other p h]
    exact hsync
end

/-! ### Commands and their meanings -/

section
variable (s : State) (p : Fin 8)
theorem exec_headPortEnable : exec (.headPortEnable p) s = .next (s.enablePort p) := rfl
theorem exec_headPortDisable : exec (.headPortDisable p) s = .next (s.disablePort p) := rfl
theorem exec_upstreamActivity : exec (.upstreamActivity p) s = .next (if s.portState p = 1 then s.toSync p else s) := rfl
theorem exec_upstreamSilence : exec (.upstreamSilence p) s = .next (if s.portState p ∈ [2, 3, 4, 6] then s.lossOfLock p else s) := rfl
theorem exec_statusWord (w : Word) (v : Bool) (r : BitVec 16) : exec (.statusWord p w v r) s = .next (s.statusWord p w.toNat v r.toNat) := rfl
theorem exec_helloEchoTimeout : exec (.helloEchoTimeout p) s = execHelloEchoTimeout p s := rfl
theorem exec_helloRetry : exec (.helloRetry p) s
    = .next (if s.portState p = 3 ∧ (s.port p).checked ∧ (s.port p).nonce.isNone then s.newNonce p else s) := rfl
theorem exec_portPowerFault : exec (.portPowerFault p) s = execPortPowerFault p s := rfl
theorem exec_pfaultRecovery : exec (.pfaultRecovery p) s = execPfaultRecovery p s := rfl
theorem exec_headConnect : exec (.headConnect p) s = .next (((s.setPort p { s.port p with plugged := true }).setDev p {}).put
    (F.HEAD_STAT_PRESENT.i p) (b2n (s.portPowered p))) := rfl
theorem exec_headDisconnect : exec (.headDisconnect p) s = .next ((((s.setPort p { s.port p with plugged := false }).setDev p {}).put
    (F.HEAD_STAT_PRESENT.i p) 0).linkError p) := rfl
end

/-! ### The claims -/

section
variable (s : State) (p : Fin 8)

theorem port_enable_powers : Claims.headPortEnable s p := by
  intro h
  have haddr : (F.HEAD_CTL_EN.i p).addr = Page.HEAD p + 8 := ctl_addr p
  have hoff : (s.put (F.HEAD_CTL_EN.i p) 1).portState p = 0 := by
    rw [State.portState, State.get_put_addr _ _ _ _ (by rw [haddr, stat_addr]; omega)]
    exact h
  have hrun : (s.put (F.HEAD_CTL_EN.i p) 1).portState p ≠ 4 := by rw [hoff]; decide
  have hpower : s.enablePort p = (s.put (F.HEAD_CTL_EN.i p) 1).powerPort p := by simp [State.enablePort, hoff]
  have hwords := State.powerPort_words _ p hrun
  have hen : ((s.put (F.HEAD_CTL_EN.i p) 1).powerPort p).on (F.HEAD_CTL_EN.i p) = true :=
    (on_congr (hwords.get _ (by rw [haddr]; simp))).trans (s.on_put_i p F.HEAD_CTL_EN true rfl (by decide))
  rw [exec_headPortEnable, hpower]
  refine completes_next ⟨hen, State.powerPort_portState _ p, State.powerPort_present _ p, State.powerPort_wordSent _ p hrun, ?_,
    State.powerPort_frame _ p hrun⟩
  have hput := s.put_words (F.HEAD_CTL_EN.i p) 1
  rw [haddr] at hput
  exact (hput.trans hwords).regsIn (by simp [inPages_add])

theorem port_disable_removes_power : Claims.headPortDisable s p := by
  have haddr : (F.HEAD_CTL_EN.i p).addr = Page.HEAD p + 8 := ctl_addr p
  have hchanges := State.portOff_changes (s.put (F.HEAD_CTL_EN.i p) 0) p 0
  have hchans := State.portOff_chans (s.put (F.HEAD_CTL_EN.i p) 0) p 0
  have hen : ((s.put (F.HEAD_CTL_EN.i p) 0).portOff p 0).on (F.HEAD_CTL_EN.i p) = false :=
    (on_congr (hchanges.get _ (by rw [haddr]; exact not_mem_stateWords p (by decide) (by decide)))).trans
      (s.on_put_i p F.HEAD_CTL_EN false rfl (by decide))
  unfold Claims.headPortDisable
  rw [exec_headPortDisable, State.disablePort]
  refine completes_next ⟨hen, State.portOff_portState _ p (by decide), State.portOff_lock _ p 0, State.portOff_present _ p 0, fun c hc => ?_,
    fun c hc => ?_, ?_, hchanges.power_frame⟩
  · rw [hchans]
    exact State.linkError_own _ p c hc
  · rw [hchans]
    exact State.linkError_other _ p c hc
  · have hput : RegsIn (Claims.portPages p) s (s.put (F.HEAD_CTL_EN.i p) 0) :=
      s.put_regsIn _ _ (haddr ▸ inPages_add List.mem_cons_self (by decide))
    exact hput.trans (WordsIn.regsIn hchanges.2 (stateWords_inPages p))

theorem power_activity_syncs : Claims.upstreamActivity s p := by
  intro h
  obtain ⟨hframe, hregs⟩ := s.toSync_idle p (by rw [h]; decide)
  rw [exec_upstreamActivity, if_pos h]
  exact completes_next ⟨s.toSync_portState p, s.toSync_lock p, hregs, hframe⟩

theorem silence_loses_lock : Claims.upstreamSilence s p := by
  intro h
  have hloss : (F.HEAD_LERR_LOSSES.i p).addr ∉ stateWords p := by
    rw [losses_addr]
    exact not_mem_stateWords p (by decide) (by decide)
  have hpages : InPages (Claims.portPages p) (F.HEAD_LERR_LOSSES.i p).addr := losses_addr p ▸ inPages_add List.mem_cons_self (by decide)
  have hchanges : Changes State.offLink (InPages (Claims.portPages p)) s (s.lossOfLock p) :=
    ((Changes.refl s).put _ hpages).trans ((s.lossOfLock_changes p).mono (fun _ => rfl) (stateWords_inPages p))
  rw [exec_upstreamSilence, if_pos h]
  refine completes_next ⟨s.lossOfLock_portState p, ?_, hchanges.2, hchanges.link_frame⟩
  rw [(s.lossOfLock_changes p).get _ hloss]
  exact s.get_incSat (F.HEAD_LERR_LOSSES.i p) (Nat.le_of_ble_eq_true rfl)

/-- The record of a port after the echo of its nonce in slot `k`: RUN waits to be sent four times (R177). -/
def HeadPort.echoed (h : HeadPort) (k : Nat) : HeadPort :=
  { h with badRun := 0, lastSlot := some k, runSent := true, due := [(2, 0), (2, 0), (2, 0), (2, 0)] }

theorem State.setPort_setPort (h k : HeadPort) : (s.setPort p h).setPort p k = s.setPort p k := by
  simp [State.setPort]

theorem State.setPort_portState (h : HeadPort) : (s.setPort p h).portState p = s.portState p := rfl

/-- R177: the echo of the nonce in slot 15. -/
theorem State.statusWord_echo {w r : Nat} (h : s.portState p = 3) (hchecked : (s.port p).checked = true) (hrun : (s.port p).runSent = false)
    (hdue : (s.port p).due = []) (hgood : goodWord w false (s.port p).lastSlot = true) (hslot : bits w 20 4 = 15)
    (hnonce : (s.port p).nonce = some (bits w 8 12)) : s.statusWord p w false r = s.setPort p ((s.port p).echoed 15) := by
  simp [State.statusWord, State.port_setPort, State.setPort_portState, State.setPort_setPort, h, hchecked, hrun, hdue, hgood, hslot, hnonce,
    HeadPort.echoed]

theorem echo_sends_run (w : Word) (r : BitVec 16) : Claims.helloEcho s p w r := by
  intro h hchecked hrun hdue hgood hslot hnonce
  have hport := s.port_setPort p ((s.port p).echoed 15)
  have hstate : (s.setPort p ((s.port p).echoed 15)).portState p = 3 := h
  rw [exec_statusWord, s.statusWord_echo p h hchecked hrun hdue hgood hslot hnonce]
  refine completes_next ⟨hstate, ?_, ?_, ?_, rfl⟩
  · rw [hport]
    rfl
  · rw [hport]
    rfl
  · exact State.wordSent_powered _ p (by rw [hstate]; decide) (by rw [hstate]; decide) (by rw [hport]; exact HeadPort.sends_due _ _ rfl)

theorem echo_timeout_waits : Claims.helloEchoTimeout s p := by
  intro h hchecked hnonce hrun hroom
  have hexec : exec (.helloEchoTimeout p) s
      = .next ((s.setPort p { s.port p with nonce := none }).logE (Page.HEAD p) 0x034B p) := by
    simp [exec_helloEchoTimeout, execHelloEchoTimeout, h, hchecked, hnonce, hrun]
  have hframe := State.logE_frame (s.setPort p { s.port p with nonce := none }) (Page.HEAD p) 0x034B p
  have hwords := State.logE_words (s.setPort p { s.port p with nonce := none }) (Page.HEAD p) 0x034B p
  obtain ⟨hlogged, -, -⟩ := State.logE_logged (s.setPort p { s.port p with nonce := none }) (Page.HEAD p) 0x034B p 0 hroom
  rw [hexec]
  refine completes_next ⟨?_, hlogged, hwords, ?_⟩
  · rw [hframe]
    exact congrArg HeadPort.nonce (State.port_setPort s p _)
  · rw [hframe]
    rfl

/-- The record of a port that sends HELLO with a new nonce (R177). -/
def HeadPort.withNonce (h : HeadPort) (n : Nat) : HeadPort := { h with checked := true, nonce := some n, runSent := false }

theorem State.newNonce_eq : s.newNonce p
    = ({ s with fresh := s.fresh + 1 } : State).setPort p ((s.port p).withNonce (Config.freeValue s.fresh % 4096)) := rfl

theorem retry_sends_new_nonce : Claims.helloRetry s p := by
  intro h hchecked hnonce
  have hport : (s.newNonce p).port p = (s.port p).withNonce (Config.freeValue s.fresh % 4096) := by
    rw [State.newNonce_eq, State.port_setPort]
  have hstate : (s.newNonce p).portState p = 3 := h
  rw [exec_helloRetry, if_pos ⟨h, hchecked, by rw [hnonce]; rfl⟩]
  refine completes_next ⟨⟨Config.freeValue s.fresh % 4096, Nat.mod_lt _ (by decide), ?_, fun hdue => ?_⟩, rfl⟩
  · rw [hport]
    rfl
  · have hsends : ((s.newNonce p).port p).sends ((s.newNonce p).portState p) = (1, Config.freeValue s.fresh % 4096) := by
      rw [hport, hstate]
      exact HeadPort.sends_hello _ hdue rfl rfl rfl
    exact State.wordSent_powered _ p (by rw [hstate]; decide) (by rw [hstate]; decide) hsends

/-- The state word of a port is none of those of its interrupts and events. -/
theorem stat_not_mem_tail : Page.HEAD p + 0xC ∉ (Page.HEAD p + 0x10) :: logWords (Page.HEAD p) := by
  have h : Page.HEAD p + 0xC ≠ Page.HEAD p + 0x10 := by omega
  exact fun ha => (List.mem_cons.1 ha).elim h fun hl => stat_not_mem_patWords p (logWords_patWords p _ hl)

theorem fault_removes_power : Claims.portPowerFault s p := by
  intro h hroom
  have hmem : s.portState p ∈ [1, 2, 3, 4, 6] := by simpa [State.portPowered] using h
  have hlogs : LogsAtMost 3 s ((s.portOff p 5).irq (Page.HEAD p) 4) := (s.portOff_logs p 5).trans (.of_log 0 (State.irq_log _ _ _))
  have htail : Changes id (· ∈ (Page.HEAD p + 0x10) :: logWords (Page.HEAD p)) (s.portOff p 5)
      (((s.portOff p 5).irq (Page.HEAD p) 4).logE (Page.HEAD p) 0x0345 p) :=
    ((Changes.refl _).irq 4 List.mem_cons_self).logE _ _ fun a ha => List.mem_cons_of_mem _ ha
  have hall : Changes State.offPower (· ∈ stateWords p) s (((s.portOff p 5).irq (Page.HEAD p) 4).logE (Page.HEAD p) 0x0345 p) :=
    ((s.portOff_changes p 5).irq 4 (by simp [stateWords])).logE _ _ fun a ha => List.mem_append_right _ (logWords_patWords p a ha)
  have hstat (f : Field) (ha : f.addr = 0x4001000C) (hs : f.stride = 0x1000) := htail.get (f.i p)
    (by rw [statField_addr p f ha hs]; exact stat_not_mem_tail p)
  rw [exec_portPowerFault, execPortPowerFault, if_pos hmem]
  refine completes_next ⟨(hstat F.HEAD_STAT_STATE rfl rfl).trans (s.portOff_portState p (by decide)), ?_, hlogs.logged _ _ _ hroom,
    (on_congr (hstat F.HEAD_STAT_PRESENT rfl rfl)).trans (s.portOff_present p 5), fun c hc => ?_, ?_, hall.power_frame⟩
  · rw [State.getBit, (State.logE_words _ (Page.HEAD p) _ _).get _ (raw_not_mem_logWords p)]
    exact State.irq_bit _ _ 4 (by decide)
  · rw [htail.kept State.chans fun _ => rfl, s.portOff_chans]
    exact s.linkError_own p c hc
  · exact WordsIn.regsIn hall.2 (stateWords_inPages p)

theorem recovery_powers : Claims.pfaultRecovery s p := by
  intro h
  have hrun : s.portState p ≠ 4 := by rw [h]; decide
  rw [exec_pfaultRecovery, execPfaultRecovery, if_pos h]
  refine completes_next ⟨s.powerPort_portState p, s.powerPort_present p, ?_, s.powerPort_frame p hrun⟩
  exact (s.powerPort_words p hrun).regsIn (by simp [inPages_add])

theorem connect_shows_presence : Claims.headConnect s p := by
  unfold Claims.headConnect
  rw [exec_headConnect]
  refine completes_next ⟨?_, State.on_put_i _ p F.HEAD_STAT_PRESENT _ rfl (by decide), State.dev_setDev _ p _, State.put_words _ _ _, rfl⟩
  exact congrArg HeadPort.plugged (State.port_setPort s p _)

theorem disconnect_clears_presence : Claims.headDisconnect s p := by
  unfold Claims.headDisconnect
  rw [exec_headDisconnect]
  refine completes_next ⟨congrArg HeadPort.plugged (State.port_setPort s p _), ?_, fun c hc => State.linkError_own _ p c hc,
    fun c hc => State.linkError_other _ p c hc, ?_, ?_⟩
  · rw [State.on, State.linkError_get]
    exact State.on_put_i _ p F.HEAD_STAT_PRESENT false rfl (by decide)
  · intro a ha
    rw [State.word, State.linkError_regs]
    exact State.put_words _ _ _ a ha
  · rw [State.linkError_frame]
    rfl
end

/-- Settles O15: each command of a port is taken through what a change of port state does. -/
theorem headPortLife : Obligations.HeadPortLife :=
  ⟨port_enable_powers, port_disable_removes_power, power_activity_syncs, silence_loses_lock, echo_sends_run, echo_timeout_waits,
    retry_sends_new_nonce, fault_removes_power, recovery_powers, connect_shows_presence, disconnect_clears_presence⟩

end Sys2Proof.Machine
end

section
/-!
Proofs about sealing and unsealing (chapter 3, section 5): the sequence of R103, and what the close of a session and the commit of the records
leave of the seal after an unsealing (R104).
-/

namespace Sys2Proof.Machine

/-! ### Commands and their meanings -/

section
variable (s : State)
theorem exec_sealArm : exec .sealArm s = .next s.armSeal := rfl
theorem exec_sealPushQualified (r : Bool) : exec (.sealPushQualified r) s = .next (s.qualifyPush r) := rfl
theorem exec_sealCommit : exec .sealCommit s = .next s.commitSeal := rfl
theorem exec_sealCancel : exec .sealCancel s = .next s.cancelSeal := rfl
theorem exec_sealArmExpiry : exec .sealArmExpiry s
    = .next (if s.on F.SEAL_STAT_ARMED ∧ !s.on F.SEAL_STAT_PUSHED then (s.disarmSeal.irq Page.SEAL 4).logE Page.SEAL 0x0206 0 else s) := rfl
theorem exec_sealCommitExpiry : exec .sealCommitExpiry s
    = .next (if s.on F.SEAL_STAT_PUSHED then (s.disarmSeal.irq Page.SEAL 4).logE Page.SEAL 0x0207 0 else s) := rfl
theorem exec_unseal : exec .unseal s = .next s.unseal := rfl
theorem exec_coverOpen : exec .coverOpen s = .next (s.setCover true) := rfl
theorem exec_coverClose : exec .coverClose s = .next (s.setCover false) := rfl
end

/-! ### SEAL.STAT -/

/-- The fields of SEAL.STAT. -/
def sealFields : List Field := [F.SEAL_STAT_STATE, F.SEAL_STAT_COVER, F.SEAL_STAT_PUSH, F.SEAL_STAT_X22ON, F.SEAL_STAT_ARMED, F.SEAL_STAT_PUSHED,
  F.SEAL_STAT_LECSAT]

theorem sealFields_addr : ∀ f ∈ sealFields, f.addr = F.SEAL_STAT_STATE.addr := by
  decide

/-- Different fields of SEAL.STAT keep clear of each other. -/
theorem sealFields_disjoint : ∀ f ∈ sealFields, ∀ g ∈ sealFields, g ≠ f →
    g.addr = f.addr ∧ f.lo + f.width ≤ 32 ∧ (g.lo + g.width ≤ f.lo ∨ f.lo + f.width ≤ g.lo) := by
  decide

/-- The record of the seal takes a value. -/
def State.withSeal (s : State) (c : Seal) : State := { s with sealSt := c }

theorem State.withSeal_get (s : State) (c : Seal) (f : Field) : (s.withSeal c).get f = s.get f := rfl

theorem State.withSeal_sealSt (s : State) (c : Seal) : (s.withSeal c).sealSt = c := rfl

theorem State.withSeal_log (s : State) (c : Seal) : (s.withSeal c).log = s.log := rfl

/-- A state with the record of the seal taken out. -/
def State.offSeal (s : State) : State := { s with sealSt := {} }

namespace Changes

variable {W : Nat → Prop} {s t : State} (h : Changes State.offSeal W s t)
include h

theorem withSeal (c : Seal) : Changes State.offSeal W s (t.withSeal c) := h.trans ⟨rfl, fun _ _ => rfl⟩

theorem seal_frame : t = { s with regs := t.regs, sealSt := t.sealSt, log := t.log } := by
  have h2 : ∀ u : State, u = { u.rest.offSeal with regs := u.regs, sealSt := u.sealSt, log := u.log } := fun _ => rfl
  have h3 := h2 t
  rwa [h.1] at h3

theorem seal_frame_of_log (hl : t.log = s.log) : t = { s with regs := t.regs, sealSt := t.sealSt } := by
  have h3 := h.seal_frame
  rwa [hl] at h3

end Changes

section
variable (s : State)

theorem State.get_put_seal {f g : Field} (v : Nat) (hf : f ∈ sealFields) (hg : g ∈ sealFields) (h : g ≠ f) : (s.put f v).get g = s.get g := by
  obtain ⟨ha, hw, hd⟩ := sealFields_disjoint f hf g hg h
  exact s.get_put_disjoint f g v ha hw hd

/-- Raising an interrupt of SEAL leaves SEAL.STAT alone. -/
theorem State.irq_seal_get {f : Field} (i : Nat) (hf : f ∈ sealFields) : (s.irq Page.SEAL i).get f = s.get f :=
  (s.irq_words Page.SEAL i).get f (by rw [sealFields_addr f hf]; decide)

/-- Logging an event of SEAL leaves SEAL.STAT alone. -/
theorem State.logE_seal_get {f : Field} (c v : Nat) (hf : f ∈ sealFields) : (s.logE Page.SEAL c v).get f = s.get f :=
  (s.logE_words Page.SEAL c v).get f (by rw [sealFields_addr f hf]; decide)

/-! ### The end of the sequence -/

theorem State.disarmSeal_eq : s.disarmSeal
    = ((s.put F.SEAL_STAT_ARMED 0).put F.SEAL_STAT_PUSHED 0).withSeal { s.sealSt with recorded := false, freshPress := false } := rfl

theorem State.disarmSeal_get {f : Field} (hf : f ∈ sealFields) (ha : f ≠ F.SEAL_STAT_ARMED) (hp : f ≠ F.SEAL_STAT_PUSHED) :
    s.disarmSeal.get f = s.get f := by
  rw [State.disarmSeal_eq, State.withSeal_get, State.get_put_seal _ _ (by decide) hf hp, State.get_put_seal _ _ (by decide) hf ha]

theorem State.disarmSeal_armed : s.disarmSeal.on F.SEAL_STAT_ARMED = false := by
  rw [State.disarmSeal_eq, State.on, State.withSeal_get, State.get_put_seal _ _ (by decide) (by decide) (by decide)]
  exact s.on_put_flag F.SEAL_STAT_ARMED false rfl (by decide)

theorem State.disarmSeal_pushed : s.disarmSeal.on F.SEAL_STAT_PUSHED = false := by
  rw [State.disarmSeal_eq, State.on, State.withSeal_get]
  exact State.on_put_flag _ F.SEAL_STAT_PUSHED false rfl (by decide)

theorem State.disarmSeal_changes {W : Nat → Prop} (h : W F.SEAL_STAT_STATE.addr) : Changes State.offSeal W s s.disarmSeal := by
  rw [State.disarmSeal_eq]
  exact (((Changes.refl s).put (f := F.SEAL_STAT_ARMED) 0 h).put (f := F.SEAL_STAT_PUSHED) 0 h).withSeal _

theorem State.disarmSeal_log : s.disarmSeal.log = s.log := by
  rw [State.disarmSeal_eq, State.withSeal_log, State.put_log, State.put_log]

end

/-! ### The sequence of R103 -/

section
variable (s : State)

theorem arming_sets_armed : Claims.sealArm s := by
  intro hsealed harmed hsat hfull htest
  have h : s.armSeal = (s.put F.SEAL_STAT_ARMED 1).withSeal { s.sealSt with freshPress := false, recorded := false } := by
    simp [State.armSeal, State.withSeal, hsealed, harmed, hsat, hfull, htest]
  have hc : Changes State.offSeal (· ∈ [F.SEAL_STAT_ARMED.addr]) s s.armSeal := by
    rw [h]
    exact ((Changes.refl s).put 1 (by simp)).withSeal _
  have hlog : s.armSeal.log = s.log := by rw [h, State.withSeal_log, State.put_log]
  rw [exec_sealArm]
  refine completes_next ⟨?_, hc.2, hc.seal_frame_of_log hlog⟩
  rw [h, State.on, State.withSeal_get]
  exact s.on_put_flag F.SEAL_STAT_ARMED true rfl (by decide)

theorem qualified_push_sets_pushed : Claims.sealPushQualified s := by
  intro harmed hpushed hpush hfresh
  have h : s.qualifyPush false = ((s.put F.SEAL_STAT_PUSHED 1).irq Page.SEAL 2).withSeal { s.sealSt with stalePress := true } := by
    simp [State.qualifyPush, State.withSeal, harmed, hpushed, hpush, hfresh]
  have hc : Changes State.offSeal (· ∈ [F.SEAL_STAT_ARMED.addr, Page.SEAL + 0x10]) s (s.qualifyPush false) := by
    rw [h]
    exact (((Changes.refl s).put (f := F.SEAL_STAT_PUSHED) 1 List.mem_cons_self).irq 2 (by simp)).withSeal _
  have hlog : (s.qualifyPush false).log = s.log := by rw [h, State.withSeal_log, State.irq_log, State.put_log]
  have hseal : (s.qualifyPush false).sealSt = { s.sealSt with stalePress := true } := by rw [h, State.withSeal_sealSt]
  have hframe := hc.seal_frame_of_log hlog
  rw [hseal] at hframe
  rw [exec_sealPushQualified]
  refine completes_next ⟨?_, ?_, hc.2, hframe⟩
  · rw [h, State.on, State.withSeal_get, State.irq_seal_get _ 2 (by decide)]
    exact s.on_put_flag F.SEAL_STAT_PUSHED true rfl (by decide)
  · rw [h, State.getBit, State.withSeal_get]
    exact State.irq_bit _ Page.SEAL 2 (by decide)

/-- The sequence ends with interrupt 4: what becomes of the fields and of the rest. -/
theorem State.disarm_irq : (s.disarmSeal.irq Page.SEAL 4).on F.SEAL_STAT_ARMED = false ∧ (s.disarmSeal.irq Page.SEAL 4).on F.SEAL_STAT_PUSHED = false
    ∧ Changes State.offSeal (· ∈ [F.SEAL_STAT_ARMED.addr, Page.SEAL + 0x10]) s (s.disarmSeal.irq Page.SEAL 4)
    ∧ (s.disarmSeal.irq Page.SEAL 4).log = s.log :=
  ⟨(on_congr (State.irq_seal_get _ 4 (by decide))).trans s.disarmSeal_armed, (on_congr (State.irq_seal_get _ 4 (by decide))).trans s.disarmSeal_pushed,
    (s.disarmSeal_changes List.mem_cons_self).irq 4 (by simp), (State.irq_log _ _ _).trans s.disarmSeal_log⟩

theorem cancel_disarms : Claims.sealCancel s := by
  intro harmed
  obtain ⟨ha, hp, hc, hlog⟩ := s.disarm_irq
  rw [exec_sealCancel, State.cancelSeal, if_pos harmed]
  exact completes_next ⟨ha, hp, hc.2, hc.seal_frame_of_log hlog⟩

/-- What the expiry of a step of the sequence does, with the event `code`. -/
theorem State.seal_expires (code : Nat) (hr : LogRoom 1 s) :
    ((s.disarmSeal.irq Page.SEAL 4).logE Page.SEAL code 0).on F.SEAL_STAT_ARMED = false
    ∧ ((s.disarmSeal.irq Page.SEAL 4).logE Page.SEAL code 0).on F.SEAL_STAT_PUSHED = false
    ∧ Logged Page.SEAL code 0 s ((s.disarmSeal.irq Page.SEAL 4).logE Page.SEAL code 0)
    ∧ Changes State.offSeal (· ∈ [F.SEAL_STAT_ARMED.addr, Page.SEAL + 0x10] ++ logWords Page.SEAL) s
        ((s.disarmSeal.irq Page.SEAL 4).logE Page.SEAL code 0) := by
  obtain ⟨ha, hp, hc, hlog⟩ := s.disarm_irq
  exact ⟨(on_congr (State.logE_seal_get _ code 0 (by decide))).trans ha, (on_congr (State.logE_seal_get _ code 0 (by decide))).trans hp,
    (LogsAtMost.of_log 0 hlog).logged _ _ _ hr,
    (hc.mono (fun _ => rfl) fun _ => List.mem_append_left _).logE code 0 fun _ => List.mem_append_right _⟩

theorem arming_expires : Claims.sealArmExpiry s := by
  intro harmed hpushed hroom
  obtain ⟨ha, -, hlogged, hc⟩ := s.seal_expires 0x0206 hroom
  rw [exec_sealArmExpiry, if_pos ⟨harmed, by rw [hpushed]; rfl⟩]
  exact completes_next ⟨ha, hlogged, hc.2, hc.seal_frame⟩

theorem push_expires : Claims.sealCommitExpiry s := by
  intro hpushed hroom
  obtain ⟨ha, hp, hlogged, hc⟩ := s.seal_expires 0x0207 hroom
  rw [exec_sealCommitExpiry, if_pos hpushed]
  exact completes_next ⟨ha, hp, hlogged, hc.2, hc.seal_frame⟩

/-! ### The contacts (R45, R114) -/

theorem exec_pushContactChange (b : Bool) : exec (.pushContactChange b) s = .next ((s.put F.SEAL_STAT_PUSH (b2n b)).withSeal
    { s.sealSt with freshPress := b && s.on F.SEAL_STAT_ARMED, stalePress := false }) := rfl

theorem push_contact_shown (b : Bool) : Claims.pushContactChange s b := by
  have hc (c : Seal) : Changes State.offSeal (· ∈ [F.SEAL_STAT_PUSH.addr]) s ((s.put F.SEAL_STAT_PUSH (b2n b)).withSeal c) :=
    ((Changes.refl s).put _ (by simp)).withSeal c
  unfold Claims.pushContactChange
  rw [exec_pushContactChange]
  refine completes_next ⟨?_, by rw [State.withSeal_sealSt], (hc _).2, (hc _).seal_frame_of_log ?_⟩
  · rw [State.on, State.withSeal_get]
    exact s.on_put_flag F.SEAL_STAT_PUSH b rfl (by decide)
  · rw [State.withSeal_log, State.put_log]

/-- The cover contact of `s` as a change leaves it, before its event. -/
def State.coverMoved (b : Bool) : State := ((s.put F.SEAL_STAT_COVER (b2n b)).irq Page.SEAL 1).withSeal { s.sealSt with cellCover := b }

/-- R45, R110: a change of the cover contact while the module has power, when it is an event. -/
theorem State.setCover_event (b : Bool) (hp : s.boot.powered = true) (hb : s.on F.SEAL_STAT_COVER = !b) (he : b = true → s.sealed = true) :
    s.setCover b = (s.coverMoved b).logE Page.SEAL (if b then 0x0204 else 0x0205) 0 := by
  cases b with
  | true => simp [State.setCover, State.coverMoved, State.withSeal, hp, hb, he]
  | false => simp [State.setCover, State.coverMoved, State.withSeal, hp, hb]

/-- What a change of the cover contact does, with the event `code`. -/
theorem State.cover_moves (b : Bool) (code : Nat) (hr : LogRoom 1 s) :
    ((s.coverMoved b).logE Page.SEAL code 0).on F.SEAL_STAT_COVER = b ∧ Logged Page.SEAL code 0 s ((s.coverMoved b).logE Page.SEAL code 0)
    ∧ Changes State.offSeal (· ∈ [F.SEAL_STAT_COVER.addr, Page.SEAL + 0x10] ++ logWords Page.SEAL) s ((s.coverMoved b).logE Page.SEAL code 0) := by
  have hlog : (s.coverMoved b).log = s.log := by rw [State.coverMoved, State.withSeal_log, State.irq_log, State.put_log]
  refine ⟨?_, (LogsAtMost.of_log 0 hlog).logged _ _ _ hr, Changes.logE ?_ code 0 fun _ => List.mem_append_right _⟩
  · rw [State.on, State.logE_seal_get _ code 0 (by decide), State.coverMoved, State.withSeal_get, State.irq_seal_get _ 1 (by decide)]
    exact s.on_put_flag F.SEAL_STAT_COVER b rfl (by decide)
  · exact (((Changes.refl s).put (f := F.SEAL_STAT_COVER) (b2n b) (by simp)).irq 1 (by simp)).withSeal _

theorem cover_opened_logged : Claims.coverOpen s := by
  intro hp hb hsealed hroom
  obtain ⟨hcover, hlogged, hc⟩ := s.cover_moves true 0x0204 hroom
  rw [exec_coverOpen, s.setCover_event true hp hb fun _ => hsealed]
  exact completes_next ⟨hcover, hlogged, hc.2, hc.seal_frame⟩

theorem cover_closed_logged : Claims.coverClose s := by
  intro hp hb hroom
  obtain ⟨hcover, hlogged, hc⟩ := s.cover_moves false 0x0205 hroom
  rw [exec_coverClose, s.setCover_event false hp hb fun h => absurd h (by decide)]
  exact completes_next ⟨hcover, hlogged, hc.2, hc.seal_frame⟩

end

/-! ### The seal cell takes a state (R35, R103, R104, R174) -/

/-- The pages whose words follow a transition of the seal state: the modes, the ports in HOLD and the events. -/
def sealPages : List Nat := [Page.SYS, Page.CLU, Page.LDG] ++ (List.finRange 8).map fun p : Fin 8 => Page.HEAD p

/-- A state with the records of the ports, of the patterns and of the session taken out. -/
def State.offModes (s : State) : State := { s.offPorts with session := {} }

/-- The same with the record of the seal taken out too. -/
def State.offSealing (s : State) : State := s.offModes.offSeal

theorem Changes.setSession {W : Nat → Prop} {s t : State} (h : Changes State.offModes W s t) (x : Session) :
    Changes State.offModes W s { t with session := x } := h.trans ⟨rfl, fun _ _ => rfl⟩

theorem portPages_sub (p : Fin 8) : ∀ q ∈ Claims.portPages p, q ∈ sealPages := by
  intro q hq
  simp only [Claims.portPages, List.mem_cons, List.not_mem_nil, or_false] at hq
  rcases hq with rfl | rfl
  · exact List.mem_append_right _ (List.mem_map.2 ⟨p, List.mem_finRange p, rfl⟩)
  · decide

theorem sealStat_not_inPages : ¬ InPages sealPages F.SEAL_STAT_STATE.addr ∧ ¬ InPages sealPages F.SEAL_TRANS_N.addr := by
  unfold InPages
  decide

section
variable (s : State)

theorem State.recheckHold_changes : Changes State.offModes (InPages sealPages) s s.recheckHold := by
  refine Changes.foldl _ (fun t p => Changes.ite ((t.toSync_changes p).mono (fun _ => rfl) fun a ha => ?_) (Changes.refl t)) _ s
  obtain ⟨q, hq, hqa⟩ := stateWords_inPages p a ha
  exact ⟨q, portPages_sub p q hq, hqa⟩

theorem State.noteTxok_changes : Changes State.offModes (InPages sealPages) s s.noteTxok := by
  have hclu : Page.CLU ∈ sealPages := by decide
  have hput (b : Bool) : Changes State.offModes (InPages sealPages) s (s.put F.CLU_STAT_TXOK (b2n b)) :=
    (Changes.refl s).put _ (inPages_add (p := Page.CLU) (o := 0xC) hclu (by decide))
  unfold State.noteTxok
  exact Changes.ite ((hput _).logE_page hclu _ _ (by decide)) (hput _)

theorem State.noteMode_changes : Changes State.offModes (InPages sealPages) s s.noteMode := by
  have hmode : InPages sealPages F.SYS_MODE_MODE.addr := inPages_add (ps := sealPages) (p := Page.SYS) (o := 0x60) (by decide) (by decide)
  unfold State.noteMode
  extract_lets s1
  have h1 : Changes State.offModes (InPages sealPages) s s1 :=
    (((Changes.refl s).put (f := F.SYS_MODE_MODE) _ hmode).put (f := F.SYS_MODE_VERIF) _ hmode).trans (State.noteTxok_changes _)
  exact Changes.ite (h1.setSession _) h1

/-- The seal as it is when the cell has taken state `st`, before what follows of the ports and the modes. -/
def State.sealCell (st : Nat) : State :=
  let n := min (s.sealSt.trans + 1) 0xFFFF
  ((((s.withSeal { s.sealSt with cell := st, trans := n }).put F.SEAL_STAT_STATE st).put F.SEAL_STAT_X22ON (b2n (st != 1))).put F.SEAL_TRANS_N n).irq
    Page.SEAL 0

theorem State.setSeal_eq (st : Nat) : s.setSeal st = (s.sealCell st).recheckHold.noteMode := rfl

theorem State.setSeal_after (st : Nat) : Changes State.offModes (InPages sealPages) (s.sealCell st) (s.setSeal st) := by
  rw [State.setSeal_eq]
  exact (State.recheckHold_changes _).trans (State.noteMode_changes _)

/-- A field of the page of SEAL keeps its value through what follows of the ports and the modes. -/
theorem State.setSeal_get (st : Nat) {f : Field} (hf : ¬ InPages sealPages f.addr) : (s.setSeal st).get f = (s.sealCell st).get f :=
  (s.setSeal_after st).get f hf

theorem State.setSeal_stat (st : Nat) {f : Field} (hf : f ∈ sealFields) : (s.setSeal st).get f = (s.sealCell st).get f :=
  s.setSeal_get st (by rw [sealFields_addr f hf]; exact sealStat_not_inPages.1)

theorem State.setSeal_sealSt (st : Nat) : (s.setSeal st).sealSt = { s.sealSt with cell := st, trans := min (s.sealSt.trans + 1) 0xFFFF } := by
  rw [(s.setSeal_after st).kept State.sealSt fun _ => rfl, State.sealCell, State.irq_sealSt, State.put_sealSt, State.put_sealSt, State.put_sealSt,
    State.withSeal_sealSt]

theorem State.setSeal_state {st : Nat} (h : st < 4) : (s.setSeal st).get F.SEAL_STAT_STATE = st := by
  rw [s.setSeal_stat st (by decide), State.sealCell, State.irq_seal_get _ 0 (by decide), State.get_put_addr _ F.SEAL_TRANS_N _ _ (by decide),
    State.get_put_seal _ _ (by decide) (by decide) (by decide), State.get_put_same _ _ _ (by decide)]
  exact Nat.mod_eq_of_lt h

theorem State.setSeal_x22 (st : Nat) : (s.setSeal st).on F.SEAL_STAT_X22ON = (st != 1) := by
  rw [State.on, s.setSeal_stat st (by decide), State.sealCell, State.irq_seal_get _ 0 (by decide), State.get_put_addr _ F.SEAL_TRANS_N _ _ (by decide)]
  exact State.on_put_flag _ F.SEAL_STAT_X22ON _ rfl (by decide)

theorem State.setSeal_trans (st : Nat) : (s.setSeal st).get F.SEAL_TRANS_N = min (s.sealSt.trans + 1) 65535 := by
  have hlt : min (s.sealSt.trans + 1) 0xFFFF < 2 ^ 16 := Nat.lt_of_le_of_lt (Nat.min_le_right _ _) (by decide)
  rw [s.setSeal_get st sealStat_not_inPages.2, State.sealCell, (State.irq_words _ Page.SEAL 0).get _ (by decide), State.get_put_same _ _ _ (by decide)]
  exact Nat.mod_eq_of_lt hlt

/-- All that a transition of the seal state changes. -/
theorem State.setSeal_changes (st : Nat) : Changes State.offSealing (fun _ => True) s (s.setSeal st) := by
  have hcell : Changes State.offSeal (fun _ => True) s (s.sealCell st) :=
    ((((((Changes.refl s).withSeal _).put _ trivial).put _ trivial).put _ trivial).irq 0 trivial)
  exact (hcell.mono (fun _ => rfl) fun _ => id).trans ((s.setSeal_after st).mono (fun _ => rfl) fun _ _ => trivial)

theorem commit_seals : Claims.sealCommit s := by
  intro harmed hpushed hrec hsat
  have h : s.commitSeal = (s.setSeal 1).disarmSeal.put F.LDG_STAT_CFGLOST 0 := by
    simp [State.commitSeal, harmed, hpushed, hrec, hsat]
  have hall : Changes State.offSealing (fun _ => True) s s.commitSeal := by
    rw [h]
    exact ((s.setSeal_changes 1).trans ((State.disarmSeal_changes _ trivial).mono (fun _ => rfl) fun _ => id)).put 0 trivial
  have hget (f : Field) (hf : f.addr ≠ F.LDG_STAT_CFGLOST.addr) : s.commitSeal.get f = (s.setSeal 1).disarmSeal.get f := by
    rw [h, State.get_put_addr _ F.LDG_STAT_CFGLOST f _ hf]
  rw [exec_sealCommit]
  refine completes_next ⟨?_, ?_, ?_, ?_, ?_, ?_, hall.kept State.ledger fun _ => rfl, hall.kept State.mem fun _ => rfl,
    hall.kept State.flash fun _ => rfl, hall.kept State.pending fun _ => rfl, hall.kept State.energy fun _ => rfl,
    hall.kept State.safety fun _ => rfl⟩
  · rw [State.sealed, hget _ (by decide), State.disarmSeal_get _ (by decide) (by decide) (by decide), s.setSeal_state (by decide)]
    rfl
  · rw [h, State.put_sealSt, State.disarmSeal_eq, State.withSeal_sealSt, s.setSeal_sealSt]
  · rw [on_congr (hget _ (by decide)), on_congr (State.disarmSeal_get _ (by decide) (by decide) (by decide)), s.setSeal_x22]
    rfl
  · rw [on_congr (hget _ (by decide)), State.disarmSeal_armed]
  · rw [on_congr (hget _ (by decide)), State.disarmSeal_pushed]
  · rw [hget _ (by decide), (State.disarmSeal_changes (W := (· = F.SEAL_STAT_STATE.addr)) _ rfl).get _ (by decide), s.setSeal_trans]

end

/-! ### After an unsealing: the close of a session and the commit of the records -/

/-- What they leave alone: the memories, the queue of commands, the record of the seal and the seal state that SEAL.STAT shows. -/
def State.sealView (s : State) := (s.mem, s.flash, s.pending, s.sealSt, s.get F.SEAL_STAT_STATE, s.get F.SEAL_STAT_X22ON)

section
variable {e : State → State} {W : Nat → Prop} {s t : State}

theorem sealView_congr (hm : t.mem = s.mem) (hf : t.flash = s.flash) (hp : t.pending = s.pending) (hs : t.sealSt = s.sealSt)
    (hg : ∀ f ∈ [F.SEAL_STAT_STATE, F.SEAL_STAT_X22ON], t.get f = s.get f) : t.sealView = s.sealView := by
  rw [State.sealView, State.sealView, hm, hf, hp, hs, hg _ (by simp), hg _ (by simp)]

/-- An operation that takes none of it out and writes other words leaves it alone. -/
theorem Changes.sealView (h : Changes e W s t) (hw : ¬ W F.SEAL_STAT_STATE.addr)
    (he : ∀ u : State, (u.mem, u.flash, u.pending, u.sealSt) = ((e u.rest).mem, (e u.rest).flash, (e u.rest).pending, (e u.rest).sealSt)) :
    t.sealView = s.sealView := by
  have hk := h.kept (fun u => (u.mem, u.flash, u.pending, u.sealSt)) he
  simp only [Prod.mk.injEq] at hk
  obtain ⟨hm, hf, hp, hs⟩ := hk
  refine sealView_congr hm hf hp hs fun f hf => h.get f ?_
  rwa [sealFields_addr f (by fin_cases hf <;> decide)]
end

section
variable (s : State)

theorem State.put_sealView (f : Field) (v : Nat) (h : f.addr ≠ F.SEAL_STAT_STATE.addr) : (s.put f v).sealView = s.sealView :=
  ((Changes.refl s).put (e := id) (W := (· ≠ F.SEAL_STAT_STATE.addr)) v h).sealView (fun h => h rfl) fun _ => rfl

theorem State.irq_sealView (p i : Nat) (h : p + 0x10 ≠ F.SEAL_STAT_STATE.addr) : (s.irq p i).sealView = s.sealView :=
  s.put_sealView (F.IRQ_RAW.on p) _ h

theorem State.incSat_sealView (f : Field) (h : f.addr ≠ F.SEAL_STAT_STATE.addr) : (s.incSat f).sealView = s.sealView := s.put_sealView f _ h

theorem State.logE_sealView (p c v : Nat) (h : F.SEAL_STAT_STATE.addr ∉ logWords p) : (s.logE p c v).sealView = s.sealView :=
  ((Changes.refl s).logE (e := id) (W := (· ∈ logWords p)) c v fun _ => id).sealView h fun _ => rfl

theorem State.settle_sealView : s.settle.sealView = s.sealView :=
  s.settle_switched.sealView (by unfold InPages; decide) fun _ => rfl

theorem State.fault_sealView (p c : Nat) (h : p + 0x1C ≠ F.SEAL_STAT_STATE.addr) : (s.fault p c).sealView = s.sealView := by
  have hc : Changes id (· ∈ [p + 0x1C]) s (s.fault p c) := ⟨s.fault_rest p c, s.fault_words p c⟩
  exact hc.sealView (by simpa using h.symm) fun _ => rfl

/-! Updates of components that are not in view. -/

@[simp] theorem State.session_update_sealView (x : Session) : ({ s with session := x } : State).sealView = s.sealView := rfl
@[simp] theorem State.log_update_sealView (x : EventLog) : ({ s with log := x } : State).sealView = s.sealView := rfl
@[simp] theorem State.setLine_sealView (i d : Nat) : (s.setLine i d).sealView = s.sealView := rfl

theorem State.setLines_sealView (n : Nat) : ∀ (s : State) (i v : Nat), (s.setLines i n v).sealView = s.sealView := by
  induction n with
  | zero => exact fun _ _ _ => rfl
  | succ n ih => exact fun s i v => (ih (s.setLine i (v % 2 ^ 128)) (i + 1) (v / 2 ^ 128)).trans (s.setLine_sealView i _)

theorem State.setLineList_sealView (l : List Nat) : ∀ (s : State) (i : Nat), (s.setLineList i l).sealView = s.sealView := by
  induction l with
  | nil => exact fun _ _ => rfl
  | cons d l ih => exact fun s i => (ih (s.setLine i d) (i + 1)).trans (s.setLine_sealView i d)

theorem State.beginClose_sealView (r a : Nat) : (s.beginClose r a).sealView = s.sealView := by
  unfold State.beginClose
  split
  · rw [State.irq_sealView _ _ _ (by decide), State.put_sealView _ _ _ (by decide), State.session_update_sealView]
  · rfl
  · split
    · rfl
    · rfl
  · rfl

theorem State.closeSession_sealView (r a : Nat) : (s.closeSession r a).sealView = s.sealView :=
  (State.settle_sealView _).trans (s.beginClose_sealView r a)

/-- LECSAT, the one field of SEAL.STAT that the commit of a record may set, is not in view. -/
theorem State.putLecsat_sealView (v : Nat) : (s.put F.SEAL_STAT_LECSAT v).sealView = s.sealView := by
  refine sealView_congr (State.put_mem _ _ _) (State.put_flash _ _ _) (State.put_pending _ _ _) (State.put_sealSt _ _ _) fun f hf => ?_
  have hfs : f ∈ sealFields ∧ f ≠ F.SEAL_STAT_LECSAT := by fin_cases hf <;> decide
  exact s.get_put_seal v (by decide) hfs.1 hfs.2

theorem State.incLec_sealView (c : Nat) : (s.incLec c).sealView = s.sealView := by
  have h1 (n : Nat) : (((s.put F.SEAL_LEC n).put F.SEAL_LASTEV_CODE c).irq Page.SEAL 3).sealView = s.sealView := by
    rw [State.irq_sealView _ _ _ (by decide), State.put_sealView _ _ _ (by decide), State.put_sealView _ _ _ (by decide)]
  unfold State.incLec
  dsimp only
  split
  · exact s.put_sealView _ _ (by decide)
  · split
    · rw [State.logE_sealView _ _ _ _ (by decide), State.putLecsat_sealView, State.log_update_sealView]
      exact h1 _
    · exact h1 _

/-- R109, R305: the commit of a counted record. -/
theorem State.writeCounted_sealView (x : EventRec) : (s.writeCounted x).sealView = s.sealView := by
  unfold State.writeCounted
  extract_lets used last x' s1 s2 s3 s4
  have h3 : s3.sealView = s.sealView := by
    rw [State.put_sealView _ _ _ (by decide), State.setLines_sealView, State.incLec_sealView]
  have h4 : s4.sealView = s.sealView := by
    unfold s4
    split
    · rw [State.closeSession_sealView, State.fault_sealView _ _ _ (by decide), State.put_sealView _ _ _ (by decide), h3]
    · exact h3
  split
  · exact s.incSat_sealView _ (by decide)
  · split
    · rw [State.logE_sealView _ _ _ _ (by decide), State.irq_sealView _ _ _ (by decide), State.put_sealView _ _ _ (by decide),
        State.log_update_sealView, h4]
    · exact h4

theorem State.writeRing_sealView (x : EventRec) : (s.writeRing x).sealView = s.sealView := by
  unfold State.writeRing
  dsimp only
  rw [State.put_sealView _ _ _ (by decide), State.log_update_sealView, State.setLines_sealView]

theorem State.admitWaiting_sealView : s.admitWaiting.sealView = s.sealView := by
  unfold State.admitWaiting
  split
  · rfl
  · split
    · rfl
    · rfl

theorem State.reportDrops_sealView : s.reportDrops.sealView = s.sealView := by
  unfold State.reportDrops
  split
  · rw [State.logE_sealView _ _ _ _ (by decide), State.log_update_sealView]
  · rfl

theorem State.commitEvent_sealView : s.commitEvent.sealView = s.sealView := by
  have hc (x : EventRec) (l : List EventRec) :
      (({ s with log := { s.log with counted := l } } : State).writeCounted x).admitWaiting.sealView = s.sealView := by
    rw [State.admitWaiting_sealView, State.writeCounted_sealView, State.log_update_sealView]
  have hr (x : EventRec) (l : List EventRec) :
      (({ s with log := { s.log with ring := l } } : State).writeRing x).reportDrops.sealView = s.sealView := by
    rw [State.reportDrops_sealView, State.writeRing_sealView, State.log_update_sealView]
  unfold State.commitEvent
  dsimp only
  split
  · rfl
  · exact hc _ _
  · exact hr _ _
  · split
    · exact hc _ _
    · exact hr _ _
end

theorem State.commitEvents_sealView (n : Nat) : ∀ s : State, (s.commitEvents n).sealView = s.sealView := by
  induction n with
  | zero => exact fun _ => rfl
  | succ n ih => exact fun s => (ih s.commitEvent).trans s.commitEvent_sealView

theorem State.commitSealBlock_sealView (s : State) : s.commitSealBlock.sealView = s.sealView := by
  unfold State.commitSealBlock State.commitCopy
  dsimp only
  rw [State.setLine_sealView, State.setLineList_sealView]

theorem cover_and_push_unseal (s : State) : Claims.unsealing s := by
  intro hsealed hcover hpush hstale hpowered
  have h : s.unseal.sealView = (s.setSeal 2).sealView := by
    have hcond : (s.sealed && s.on F.SEAL_STAT_COVER && s.on F.SEAL_STAT_PUSH && !s.sealSt.stalePress) = true := by
      rw [hsealed, hcover, hpush, hstale]
      rfl
    simp only [State.unseal, hcond, hpowered, Bool.not_true, Bool.false_eq_true, if_false]
    rw [State.commitSealBlock_sealView, State.commitEvents_sealView, State.closeSession_sealView, State.logE_sealView _ _ _ _ (by decide),
      State.irq_sealView _ _ _ (by decide)]
  simp only [State.sealView, Prod.mk.injEq] at h
  obtain ⟨hmem, hflash, hpending, hseal, hstate, hx22⟩ := h
  have hall := s.setSeal_changes 2
  rw [exec_unseal]
  refine completes_next ⟨hstate.trans (s.setSeal_state (by decide)), ?_, (on_congr hx22).trans (s.setSeal_x22 2),
    hmem.trans (hall.kept State.mem fun _ => rfl), hflash.trans (hall.kept State.flash fun _ => rfl),
    hpending.trans (hall.kept State.pending fun _ => rfl)⟩
  rw [hseal, s.setSeal_sealSt]

/-- Settles O3: each step of sealing and unsealing is taken through what it makes of SEAL.STAT and of the record of the seal. -/
theorem sealingSteps : Obligations.SealingSteps :=
  ⟨arming_sets_armed, qualified_push_sets_pushed, commit_seals, cancel_disarms, arming_expires, push_expires, cover_and_push_unseal, push_contact_shown,
    cover_opened_logged, cover_closed_logged⟩

end Sys2Proof.Machine
end

section
/-!
Rules for the wide fields: what a field of two words reads after a write to it and to other words, and the change of a field to what it holds.
-/

namespace Sys2Proof.Machine

/-! ### A field that takes its own value -/

theorem setBits_bits_self (n lo w : Nat) : setBits n lo w (bits n lo w) = n := by
  have hlow : n % 2 ^ lo + 2 ^ lo * (n / 2 ^ lo) = n := Nat.mod_add_div n (2 ^ lo)
  have hhigh : n / 2 ^ lo % 2 ^ w + 2 ^ w * (n / 2 ^ lo / 2 ^ w) = n / 2 ^ lo := Nat.mod_add_div _ _
  calc setBits n lo w (bits n lo w)
      = n % 2 ^ lo + 2 ^ lo * (n / 2 ^ lo % 2 ^ w + 2 ^ w * (n / 2 ^ lo / 2 ^ w)) := by
        rw [setBits, bits_idem, bits, pow_add, ← Nat.div_div_eq_div_mul]
        ring
    _ = n := by rw [hhigh, hlow]

/-- A field that takes the value it holds leaves every word as it is. -/
theorem State.word_put_self (s : State) (f : Field) {v : Nat} (h : s.get f = v) (a : Nat) : (s.put f v).word a = s.word a := by
  by_cases ha : a = f.addr
  · subst ha h
    rw [State.put, State.word_setWord_same, State.get, setBits_bits_self, BitVec.ofNat_toNat, BitVec.setWidth_eq]
  · exact s.word_put_ne f v ha

/-! ### Fields of two words -/

section
variable (s : State) {f : Field} (hf : f.width = 64)
include hf

theorem State.getW_two : s.getW f = (s.word f.addr).toNat + 2 ^ 32 * (s.word (f.addr + 4)).toNat := by
  have h1 := (s.word f.addr).isLt
  have h2 := (s.word (f.addr + 4)).isLt
  simp only [State.getW, hf, Nat.reduceAdd, Nat.reduceDiv, State.getWords, Nat.mul_zero, Nat.add_zero]
  exact Nat.mod_eq_of_lt (by omega)

theorem State.putW_two (v : Nat) : s.putW f v = s.putWords f.addr 2 (v % 2 ^ 64) := by
  simp only [State.putW, hf, Nat.reduceDiv, Nat.reduceMod, if_true]

theorem State.word_putW_ne (v : Nat) {a : Nat} (h : a < f.addr ∨ f.addr + 8 ≤ a) : (s.putW f v).word a = s.word a := by
  rw [s.putW_two hf]
  exact State.word_putWords_ne 2 s _ _ a h

/-- A wide field reads what was written, cut to its width. -/
theorem State.getW_putW_same (v : Nat) : (s.putW f v).getW f = v % 2 ^ 64 := by
  have h : (s.putW f v).getWords f.addr 2 = v % 2 ^ 64 % 2 ^ (32 * 2) := by
    rw [s.putW_two hf]
    exact State.getWords_putWords 2 s _ _
  simp only [State.getW, hf, Nat.reduceAdd, Nat.reduceDiv, h, Nat.reduceMul, Nat.mod_mod]

theorem State.putW_words (v : Nat) : WordsIn [f.addr, f.addr + 4] s (s.putW f v) := by
  intro a ha
  simp only [List.mem_cons, List.not_mem_nil, or_false, not_or] at ha
  obtain ⟨h0, h4⟩ := ha
  rw [s.putW_two hf, State.putWords, State.putWords, State.putWords, State.word_setWord_ne _ _ h4, State.word_setWord_ne _ _ h0]

theorem State.getW_lt : s.getW f < 2 ^ 64 := by
  rw [State.getW, hf]
  exact Nat.mod_lt _ (by decide)
end

theorem State.putW_rest (s : State) (f : Field) (v : Nat) : (s.putW f v).rest = s.rest := by rw [s.putW_frame f v]; rfl

/-- A field outside the words of a wide one keeps its value when that is written. -/
theorem State.get_putW_ne (s : State) {f : Field} (hf : f.width = 64) (g : Field) (v : Nat) (h : g.addr < f.addr ∨ f.addr + 8 ≤ g.addr) :
    (s.putW f v).get g = s.get g := by
  rw [State.get, s.word_putW_ne hf v h, State.get]

theorem getW_congr {s t : State} {f : Field} (hf : f.width = 64) (h0 : t.word f.addr = s.word f.addr)
    (h4 : t.word (f.addr + 4) = s.word (f.addr + 4)) : t.getW f = s.getW f := by
  rw [State.getW_two _ hf, State.getW_two _ hf, h0, h4]

namespace Changes

variable {e : State → State} {W : Nat → Prop} {s t : State} (h : Changes e W s t) {f : Field} (hf : f.width = 64)
include h hf

theorem putW (v : Nat) (h0 : W f.addr) (h4 : W (f.addr + 4)) : Changes e W s (t.putW f v) :=
  h.trans ⟨congrArg e (t.putW_rest f v), fun a ha => t.putW_words hf v a (by
    simp only [List.mem_cons, List.not_mem_nil, or_false, not_or]
    exact ⟨fun e => ha (e ▸ h0), fun e => ha (e ▸ h4)⟩)⟩

theorem getW (h0 : ¬ W f.addr) (h4 : ¬ W (f.addr + 4)) : t.getW f = s.getW f := getW_congr hf (h.2 _ h0) (h.2 _ h4)

end Changes

end Sys2Proof.Machine
end

section
/-!
Proofs about requests to the real-time clock (chapter 2, section 6): the request that is handed over, refused, stepped or slewed (R72 to R74, R81).
-/

namespace Sys2Proof.Machine

/-! ### Commands and their meanings -/

section
variable (s : State)
theorem exec_utcRequest (v : Word) : exec (.utcRequest v) s = .next (s.requestUtc v.toNat) := rfl
theorem exec_utcRequestHandle (e : BitVec 16) (b : BitVec 64) : exec (.utcRequestHandle e b) s = .next (s.handleUtc e.toNat b.toNat) := rfl
theorem exec_supercapMeasure (mv : BitVec 16) : exec (.supercapMeasure mv) s = .next (s.put F.RTC_SUPV_MV mv.toNat) := rfl
end

/-! ### Changes of registers alone, and of the staging buffers -/

/-- Equal rests and the same events: the states differ in the register words only. -/
theorem State.eq_of_rest_log {s t : State} (h : t.rest = s.rest) (hl : t.log = s.log) : t = { s with regs := t.regs } := by
  have h2 := State.eq_of_rest h
  rwa [hl] at h2

theorem State.put_frame (s : State) (f : Field) (v : Nat) : s.put f v = { s with regs := (s.put f v).regs } :=
  State.eq_of_rest_log (s.put_rest f v) (s.put_log f v)

@[simp] theorem State.putW_log (s : State) (f : Field) (v : Nat) : (s.putW f v).log = s.log := by rw [s.putW_frame f v]

theorem State.unstage_frame (n : Nat) : ∀ (s : State) (d : Domain) (a : Nat), s.unstage d a n = { s with stages := (s.unstage d a n).stages } := by
  induction n with
  | zero => exact fun _ _ _ => rfl
  | succ n ih =>
    intro s d a
    rw [State.unstage, ih (s.setStaged d a none) d (a + 4)]
    rfl

theorem State.unstage_word (s : State) (d : Domain) (a n b : Nat) : (s.unstage d a n).word b = s.word b := by rw [s.unstage_frame]; rfl

theorem State.unstage_get (s : State) (d : Domain) (a n : Nat) (f : Field) : (s.unstage d a n).get f = s.get f := by rw [s.unstage_frame]; rfl

theorem State.unstage_getW (s : State) {d : Domain} {a n : Nat} {f : Field} (hf : f.width = 64) : (s.unstage d a n).getW f = s.getW f :=
  getW_congr hf (s.unstage_word d a n _) (s.unstage_word d a n _)

theorem bits_lt (n lo w : Nat) : bits n lo w < 2 ^ w := Nat.mod_lt _ (Nat.two_pow_pos w)

/-! ### A request (R72, R81) -/

/-- The registers as a request leaves them. -/
def State.utcPut (s : State) (src seq utc : Nat) : State := ((s.put F.TMR_UTCREQ_SRC src).put F.TMR_UTCREQ_SEQ seq).putW F.TMR_UTCREQ_UTC utc

section
variable (s : State) (src seq utc : Nat)

theorem State.utcPut_frame : s.utcPut src seq utc = { s with regs := (s.utcPut src seq utc).regs } := by
  refine State.eq_of_rest_log ?_ ?_
  · rw [State.utcPut, State.putW_rest, State.put_rest, State.put_rest]
  · rw [State.utcPut, State.putW_log, State.put_log, State.put_log]

theorem State.utcPut_words : WordsIn ((List.range 4).map fun k => F.TMR_UTCREQ_SRC.addr + 4 * k) s (s.utcPut src seq utc) :=
  (((s.put_words _ _).trans (State.put_words _ _ _)).trans (State.putW_words _ rfl _)).mono (by decide)

theorem State.utcPut_seq (h : seq < 2 ^ 8) : (s.utcPut src seq utc).get F.TMR_UTCREQ_SEQ = seq := by
  rw [State.utcPut, State.get_putW_ne _ rfl _ _ (by decide), State.get_put_same _ _ _ (by decide)]
  exact Nat.mod_eq_of_lt h

theorem State.utcPut_utc (h : utc < 2 ^ 64) : (s.utcPut src seq utc).getW F.TMR_UTCREQ_UTC = utc := by
  rw [State.utcPut, State.getW_putW_same _ rfl]
  exact Nat.mod_eq_of_lt h

/-- The request at the hand-over: the marks of its words clear. -/
def State.utcStaged : State := (s.utcPut src seq utc).unstage .app F.TMR_UTCREQ_SRC.addr 3

theorem State.utcStaged_frame : s.utcStaged src seq utc = { s with regs := (s.utcStaged src seq utc).regs, stages := (s.utcStaged src seq utc).stages } := by
  rw [State.utcStaged, State.unstage_frame, State.utcPut_frame]
end

/-- The request in force takes a value. -/
def State.withReq (s : State) (r : Option UtcRequest) : State := { s with utcReq := r }

theorem State.withReq_get (s : State) (r : Option UtcRequest) (f : Field) : (s.withReq r).get f = s.get f := rfl

theorem State.withReq_getW (s : State) (r : Option UtcRequest) {f : Field} (hf : f.width = 64) : (s.withReq r).getW f = s.getW f := getW_congr hf rfl rfl

theorem State.withReq_req (s : State) (r : Option UtcRequest) : (s.withReq r).utcReq = r := rfl

theorem State.withReq_word (s : State) (r : Option UtcRequest) (a : Nat) : (s.withReq r).word a = s.word a := rfl

theorem State.withReq_frame {s t : State} {r : Option UtcRequest} (h : t = { s with regs := t.regs, stages := t.stages }) :
    t.withReq r = { s with regs := (t.withReq r).regs, stages := (t.withReq r).stages, utcReq := (t.withReq r).utcReq } := by
  rw [h]
  rfl

/-- R72: a request with the values `w` of its words; a reserved SRC keeps the old one (R17). -/
def State.utcRequested (s : State) (w : Nat) : State :=
  (s.utcStaged (if bits w 0 8 ≤ 4 then bits w 0 8 else s.get F.TMR_UTCREQ_SRC) (bits w 8 8) (bits w 64 64)).withReq
    (some ⟨if bits w 0 8 ≤ 4 then bits w 0 8 else s.get F.TMR_UTCREQ_SRC, bits w 8 8, bits w 64 64, s.utc⟩)

theorem State.requestUtc_eq (s : State) (v : Nat) : s.requestUtc v = s.utcRequested (s.commitValue .app F.TMR_UTCREQ_SRC.addr 4 v) := by
  unfold State.requestUtc State.utcRequested State.utcStaged State.utcPut State.withReq
  with_reducible rfl

theorem utc_request_in_force (s : State) (v : Word) : Claims.utcRequest s v := by
  unfold Claims.utcRequest
  rw [exec_utcRequest, State.requestUtc_eq, State.utcRequested]
  refine completes_next ⟨rfl, ?_, ?_, fun a ha => ?_, ?_⟩
  · rw [State.withReq_get, State.utcStaged, State.unstage_get, State.utcPut_seq _ _ _ _ (bits_lt _ _ _)]
  · rw [State.withReq_getW _ _ rfl, State.utcStaged, State.unstage_getW _ rfl, State.utcPut_utc _ _ _ _ (bits_lt _ _ _)]
  · rw [State.withReq_word, State.utcStaged, State.unstage_word, s.utcPut_words _ _ _ a ha]
  · exact State.withReq_frame (s.utcStaged_frame _ _ _)

/-! ### The result of a request -/

/-- A state with the angle clock, the session and the request taken out. -/
def State.offUtc (s : State) : State := { s with angle := {}, session := {}, utcReq := none }

/-- The pages whose words the handling of a request may change. -/
abbrev utcPages : List Nat := [Page.RTC, Page.TMR, Page.LDG]

/-- The words of the result of a request. -/
def utcDoneWords : List Nat := [F.RTC_SETSTAT_RESULT.addr, Page.TMR + 0x10]

theorem utcDoneWords_inPages : ∀ a ∈ utcDoneWords, InPages utcPages a := by
  unfold InPages
  decide

section
variable (s : State) (result seq : Nat)

theorem State.utcDone_changes {e : State → State} : Changes e (· ∈ utcDoneWords) s (s.utcDone result seq) :=
  (((Changes.refl s).put (f := F.RTC_SETSTAT_RESULT) _ (by decide)).put (f := F.RTC_SETSTAT_SEQ) _ (by decide)).irq _ (by decide)

theorem State.utcDone_result (h : result < 8) : (s.utcDone result seq).get F.RTC_SETSTAT_RESULT = result := by
  rw [State.utcDone, (State.irq_words _ _ _).get _ (by decide),
    State.get_put_disjoint _ F.RTC_SETSTAT_SEQ F.RTC_SETSTAT_RESULT _ rfl (by decide) (by decide), State.get_put_same _ _ _ (by decide)]
  exact Nat.mod_eq_of_lt h

theorem State.utcDone_seq (h : seq < 2 ^ 8) : (s.utcDone result seq).get F.RTC_SETSTAT_SEQ = seq := by
  rw [State.utcDone, (State.irq_words _ _ _).get _ (by decide), State.get_put_same _ _ _ (by decide)]
  exact Nat.mod_eq_of_lt h
end

namespace Changes

variable {s t : State}

theorem utc_frame (h : Changes State.offUtc (InPages utcPages) s t) (hr : t.utcReq = none) :
    t = { s with regs := t.regs, utcReq := none, angle := t.angle, session := t.session, log := t.log } := by
  have h2 : ∀ u : State, u = { u.rest.offUtc with regs := u.regs, utcReq := u.utcReq, angle := u.angle, session := u.session, log := u.log } :=
    fun _ => rfl
  have h3 := h2 t
  rwa [h.1, hr] at h3

end Changes

/-- A request is answered with an event of the page at `page` and its result. -/
def State.utcAnswer (s : State) (page code arg result seq : Nat) : State := (s.logE page code arg).utcDone result seq

section
variable (s : State) (page code arg result seq : Nat)

theorem State.utcAnswer_changes {e : State → State} :
    Changes e (· ∈ utcDoneWords ++ logWords page) s (s.utcAnswer page code arg result seq) :=
  ((Changes.refl _).logE _ _ fun _ => List.mem_append_right _).trans
    ((State.utcDone_changes _ _ _).mono (fun _ => rfl) fun _ => List.mem_append_left _)

/-- What an answer leaves after changes that a request may make. -/
theorem State.utcAnswer_fields {u : State} (h : Changes State.offUtc (InPages utcPages) s u) (hu : u.utcReq = none) (hp : page ∈ utcPages)
    (hr : result < 8) (hs : seq < 2 ^ 8) : (u.utcAnswer page code arg result seq).utcReq = none
      ∧ (u.utcAnswer page code arg result seq).get F.RTC_SETSTAT_RESULT = result ∧ (u.utcAnswer page code arg result seq).get F.RTC_SETSTAT_SEQ = seq
      ∧ RegsIn utcPages s (u.utcAnswer page code arg result seq)
      ∧ u.utcAnswer page code arg result seq = { s with regs := (u.utcAnswer page code arg result seq).regs, utcReq := none
                                                        angle := (u.utcAnswer page code arg result seq).angle
                                                        session := (u.utcAnswer page code arg result seq).session
                                                        log := (u.utcAnswer page code arg result seq).log } := by
  have ha : Changes State.offUtc (InPages utcPages) u (u.utcAnswer page code arg result seq) :=
    (u.utcAnswer_changes page code arg result seq).mono (fun _ => rfl) fun a ha =>
      (List.mem_append.1 ha).elim (utcDoneWords_inPages a) (logWords_inPages hp (by decide) a)
  have hnone : (u.utcAnswer page code arg result seq).utcReq = none :=
    ((u.utcAnswer_changes (e := id) page code arg result seq).kept State.utcReq fun _ => rfl).trans hu
  exact ⟨hnone, State.utcDone_result _ _ _ hr, State.utcDone_seq _ _ _ hs, (h.trans ha).2, (h.trans ha).utc_frame hnone⟩
end

/-! ### Its handling (R73, R74) -/

section
variable (s : State)

/-- The request has been taken. -/
def State.utcTaken : State := s.withReq none

theorem State.utcTaken_changes {W : Nat → Prop} : Changes State.offUtc W s s.utcTaken := ⟨rfl, fun _ _ => rfl⟩

theorem rtc_inPages {o : Nat} (ho : o < 0x1000) : InPages utcPages (Page.RTC + o) := inPages_add (by decide) ho

/-- The registers as a step of the clock leaves them (R73). -/
def State.utcStep (utc : Nat) : State :=
  (((((s.putW F.RTC_UTC utc).put F.RTC_SLEWLEFT 0).put F.RTC_STAT_SLEWING 0).putW F.RTC_LASTSTEP_OLD s.utc).putW F.RTC_LASTSTEP_NEW utc).put
    F.RTC_STAT_VALID 1

/-- The clock has stepped: what it counts beside its registers. -/
def State.utcStepped : State :=
  { s with angle := { s.angle with utcFrac := 0, slewFrac := 0 }, session := { s.session with utcStepped := true } }

theorem State.utcStepped_changes {W : Nat → Prop} : Changes State.offUtc W s s.utcStepped := ⟨rfl, fun _ _ => rfl⟩

theorem State.utcStepped_word (a : Nat) : s.utcStepped.word a = s.word a := rfl

theorem State.utcStepped_get (f : Field) : s.utcStepped.get f = s.get f := rfl

theorem State.utcStepped_req : s.utcStepped.utcReq = s.utcReq := rfl

theorem State.stepClock_eq (utc : Nat) :
    s.stepClock utc = (s.utcStep utc).utcStepped.logE Page.RTC (s.angCode 0x88) (s.utc + 2 ^ 64 * utc) := by
  unfold State.stepClock State.utcStepped State.utcStep
  with_reducible rfl

/-- What the clock, its validity and LASTSTEP read after a step. -/
theorem State.utcStep_fields (utc : Nat) : (s.utcStep utc).utcStepped.utc = utc % 2 ^ 64 ∧ (s.utcStep utc).utcStepped.on F.RTC_STAT_VALID = true
    ∧ (s.utcStep utc).utcStepped.getW F.RTC_LASTSTEP_OLD = s.utc := by
  have hold : s.utc % 2 ^ 64 = s.utc := Nat.mod_eq_of_lt (s.getW_lt rfl)
  have hstep : Changes id (· ∈ [F.RTC_SLEWLEFT.addr, F.RTC_STAT_VALID.addr, F.RTC_LASTSTEP_OLD.addr, F.RTC_LASTSTEP_OLD.addr + 4,
      F.RTC_LASTSTEP_NEW.addr, F.RTC_LASTSTEP_NEW.addr + 4]) (s.putW F.RTC_UTC utc) (s.utcStep utc) :=
    ((((((Changes.refl _).put _ (by decide)).put _ (by decide)).putW rfl _ (by decide) (by decide)).putW rfl _ (by decide) (by decide)).put _ (by decide))
  have hlast : Changes id (· ∈ [F.RTC_STAT_VALID.addr, F.RTC_LASTSTEP_NEW.addr, F.RTC_LASTSTEP_NEW.addr + 4])
      ((((s.putW F.RTC_UTC utc).put F.RTC_SLEWLEFT 0).put F.RTC_STAT_SLEWING 0).putW F.RTC_LASTSTEP_OLD s.utc) (s.utcStep utc) :=
    ((Changes.refl _).putW rfl _ (by decide) (by decide)).put _ (by decide)
  have hw (f : Field) (hf : f.width = 64) : (s.utcStep utc).utcStepped.getW f = (s.utcStep utc).getW f :=
    getW_congr hf (State.utcStepped_word _ _) (State.utcStepped_word _ _)
  refine ⟨?_, (on_congr (State.utcStepped_get _ _)).trans (State.on_put_flag _ F.RTC_STAT_VALID true rfl (by decide)), ?_⟩
  · exact (hw _ rfl).trans ((hstep.getW (f := F.RTC_UTC) rfl (by decide) (by decide)).trans (s.getW_putW_same rfl utc))
  · rw [hw _ rfl, hlast.getW rfl (by decide) (by decide), State.getW_putW_same _ rfl, hold]

theorem State.utcStep_changes (utc : Nat) : Changes State.offUtc (InPages utcPages) s (s.utcStep utc).utcStepped := by
  have hp (o : Nat) (ho : o < 0x1000) : InPages utcPages (Page.RTC + o) := rtc_inPages ho
  have h2 := ((((((Changes.refl (e := State.offUtc) s).putW (f := F.RTC_UTC) rfl utc (hp 0x40 (by decide)) (hp 0x44 (by decide))).put
    (f := F.RTC_SLEWLEFT) 0 (hp 0x48 (by decide))).put (f := F.RTC_STAT_SLEWING) 0 (hp 0xC (by decide))).putW (f := F.RTC_LASTSTEP_OLD) rfl s.utc
    (hp 0x50 (by decide)) (hp 0x54 (by decide))).putW (f := F.RTC_LASTSTEP_NEW) rfl utc (hp 0x58 (by decide)) (hp 0x5C (by decide))).put
    (f := F.RTC_STAT_VALID) 1 (hp 0xC (by decide))
  exact h2.trans (State.utcStepped_changes _)

theorem State.utcStep_req (utc : Nat) : (s.utcTaken.utcStep utc).utcStepped.utcReq = none := by
  have h : Changes id (fun _ => True) s.utcTaken (s.utcTaken.utcStep utc) :=
    ((((((Changes.refl _).putW rfl _ trivial trivial).put _ trivial).put _ trivial).putW rfl _ trivial trivial).putW rfl _ trivial trivial).put _ trivial
  have hk : (s.utcTaken.utcStep utc).utcReq = s.utcTaken.utcReq := h.kept State.utcReq fun _ => rfl
  rw [State.utcStepped_req, hk, State.utcTaken, State.withReq_req]

/-- The registers as the begin of a slew leaves them (R73). -/
def State.utcSlew (delta : Int) : State := (s.put F.RTC_SLEWLEFT (ofSigned 32 delta)).put F.RTC_STAT_SLEWING (b2n (delta != 0))

/-- A slew begins with no part of a millisecond done. -/
def State.slewBegun : State := { s with angle := { s.angle with slewFrac := 0 } }

theorem State.slewBegun_word (a : Nat) : s.slewBegun.word a = s.word a := rfl

theorem State.slewBegun_get (f : Field) : s.slewBegun.get f = s.get f := rfl

theorem State.utcSlew_req (delta : Int) : (s.utcTaken.utcSlew delta).slewBegun.utcReq = none := rfl

theorem State.utcSlew_words (delta : Int) : WordsIn [F.RTC_SLEWLEFT.addr, F.RTC_STAT_SLEWING.addr] s (s.utcSlew delta).slewBegun := by
  have h : WordsIn [F.RTC_SLEWLEFT.addr, F.RTC_STAT_SLEWING.addr] s (s.utcSlew delta) := (s.put_words _ _).trans (State.put_words _ _ _)
  exact fun a ha => (State.slewBegun_word _ a).trans (h a ha)

theorem State.slewBegun_changes {W : Nat → Prop} : Changes State.offUtc W s s.slewBegun := ⟨rfl, fun _ _ => rfl⟩

theorem State.utcSlew_changes (delta : Int) : Changes State.offUtc (InPages utcPages) s (s.utcSlew delta).slewBegun :=
  (((Changes.refl (e := State.offUtc) s).put (f := F.RTC_SLEWLEFT) _ (rtc_inPages (o := 0x48) (by decide))).put (f := F.RTC_STAT_SLEWING) _
    (rtc_inPages (o := 0xC) (by decide))).trans (State.slewBegun_changes _)

theorem toSigned_ofSigned {w : Nat} {i : Int} (hlo : -(2 ^ w : Int) ≤ 2 * i) (hhi : 2 * i < 2 ^ w) : toSigned w (ofSigned w i) = i := by
  have hcast : ((2 ^ w : Nat) : Int) = 2 ^ w := by push_cast; rfl
  have hpos : (0 : Int) < 2 ^ w := by positivity
  have hmod : (((ofSigned w i % 2 ^ w : Nat) : Nat) : Int) = i % 2 ^ w := by
    rw [Int.natCast_mod, ofSigned, hcast, Int.toNat_of_nonneg (Int.emod_nonneg _ hpos.ne'), Int.emod_emod_of_dvd _ (dvd_refl _)]
  have hval : i % 2 ^ w = i ∨ i % 2 ^ w = i + 2 ^ w := by
    rcases lt_or_ge i 0 with h | h
    · right
      rw [← Int.add_emod_right, Int.emod_eq_of_lt (by omega) (by omega)]
    · exact .inl (Int.emod_eq_of_lt h (by omega))
  unfold toSigned
  dsimp only
  split
  · omega
  · omega

theorem State.utcSlew_left {delta : Int} (h : delta.natAbs ≤ 2000) : toSigned 32 ((s.utcSlew delta).slewBegun.get F.RTC_SLEWLEFT) = delta := by
  have hlt : ofSigned 32 delta < 2 ^ 32 := by
    unfold ofSigned
    omega
  rw [State.slewBegun_get, State.utcSlew, State.get_put_addr _ _ _ _ (by decide), State.get_put_same _ _ _ (by decide)]
  rw [show F.RTC_SLEWLEFT.width = 32 from rfl, Nat.mod_eq_of_lt hlt]
  exact toSigned_ofSigned (by omega) (by omega)

/-! The three cases of a request. -/

theorem State.handleUtc_refused {r : UtcRequest} (e b : Nat) (h : s.utcReq = some r) (hr : r.src = 0 ∨ r.utc < b) :
    s.handleUtc e b = s.utcTaken.utcAnswer Page.TMR (s.angCode 0x8B) r.src 3 r.seq := by
  simp only [State.handleUtc, h, if_pos hr]
  rfl

theorem State.handleUtc_stepped {r : UtcRequest} (e b : Nat) (h : s.utcReq = some r) (hr : ¬ (r.src = 0 ∨ r.utc < b))
    (hs : s.on F.RTC_STAT_VALID = false ∨ 2000 < ((r.utc : Int) - r.at_).natAbs) :
    s.handleUtc e b = (s.utcTaken.utcStep (r.utc + e)).utcStepped.utcAnswer Page.RTC (s.angCode 0x88) (s.utc + 2 ^ 64 * (r.utc + e)) 2 r.seq := by
  have hs' : (!s.on F.RTC_STAT_VALID) = true ∨ 2000 < ((r.utc : Int) - r.at_).natAbs := by simpa using hs
  have hc : s.handleUtc e b = (s.utcTaken.stepClock (r.utc + e)).utcDone 2 r.seq := by
    simp only [State.handleUtc, h, if_neg hr, gt_iff_lt, if_pos hs']
    rfl
  rw [hc, State.stepClock_eq]
  rfl

theorem State.handleUtc_slewed {r : UtcRequest} (e b : Nat) (h : s.utcReq = some r) (hr : ¬ (r.src = 0 ∨ r.utc < b))
    (hs : ¬ (s.on F.RTC_STAT_VALID = false ∨ 2000 < ((r.utc : Int) - r.at_).natAbs)) :
    s.handleUtc e b
      = (s.utcTaken.utcSlew (r.utc - r.at_)).slewBegun.utcAnswer Page.RTC (s.angCode 0x89) (ofSigned 64 (r.utc - r.at_)) 1 r.seq := by
  have hs' : ¬ ((!s.on F.RTC_STAT_VALID) = true ∨ 2000 < ((r.utc : Int) - r.at_).natAbs) := by simpa using hs
  simp only [State.handleUtc, h, if_neg hr, gt_iff_lt, if_neg hs']
  rfl
end

/-- R74: a request without a source, or before the build time, changes nothing of the clock. -/
theorem utc_request_refused (s : State) (src seq : BitVec 8) (utc at_ : BitVec 64) (elapsed : BitVec 16) (build : BitVec 64) :
    Claims.utcRefused s src seq utc at_ elapsed build := by
  intro hreq hrefused
  have hsrc : src.toNat = 0 ∨ utc.toNat < build.toNat := hrefused.imp_left fun h => by rw [h]; rfl
  have hc := s.utcTaken.utcAnswer_changes (e := id) Page.TMR (s.angCode 0x8B) src.toNat 3 seq.toNat
  obtain ⟨hnone, hresult, hseq, -, -⟩ := s.utcAnswer_fields Page.TMR (s.angCode 0x8B) src.toNat 3 seq.toNat
    (s.utcTaken_changes) rfl (by decide) (by decide) seq.isLt
  rw [exec_utcRequestHandle, s.handleUtc_refused _ _ hreq hsrc]
  exact completes_next ⟨hresult, hseq, hnone, hc.getW (f := F.RTC_UTC) rfl (by decide) (by decide), on_congr (hc.get F.RTC_STAT_VALID (by decide)),
    hc.get F.RTC_SLEWLEFT (by decide), on_congr (hc.get F.RTC_STAT_SLEWING (by decide)), hc.kept State.angle fun _ => rfl⟩

/-- Settles O59: a refusal logs its event and answers, and neither touches the clock. -/
theorem utcRequestRefused : Obligations.UtcRequestRefused := utc_request_refused

theorem utc_request_handled (s : State) (src seq : BitVec 8) (utc at_ : BitVec 64) (elapsed : BitVec 16) (build : BitVec 64) :
    Claims.utcRequestHandle s src seq utc at_ elapsed build := by
  intro hreq
  have hbv : src = 0#8 ↔ src.toNat = 0 := by rw [← BitVec.toNat_inj]; rfl
  rw [exec_utcRequestHandle]
  by_cases hr : src.toNat = 0 ∨ utc.toNat < build.toNat
  · have hR : (src == 0 || decide (utc.toNat < build.toNat)) = true := by simpa [hbv] using hr
    have hc := s.utcTaken.utcAnswer_changes (e := id) Page.TMR (s.angCode 0x8B) src.toNat 3 seq.toNat
    obtain ⟨hnone, hresult, hseq, hregs, hframe⟩ := s.utcAnswer_fields Page.TMR (s.angCode 0x8B) src.toNat 3 seq.toNat
      (s.utcTaken_changes) rfl (by decide) (by decide) seq.isLt
    rw [s.handleUtc_refused _ _ hreq hr, hR]
    exact completes_next ⟨hnone, hresult, hseq, by simp, by simp, fun _ => hc.getW (f := F.RTC_UTC) rfl (by decide) (by decide), hregs, hframe⟩
  · have hR : (src == 0 || decide (utc.toNat < build.toNat)) = false := by simpa [hbv] using hr
    by_cases hs : s.on F.RTC_STAT_VALID = false ∨ 2000 < ((utc.toNat : Int) - at_.toNat).natAbs
    · have hS : (!s.on F.RTC_STAT_VALID || decide (((utc.toNat : Int) - at_.toNat).natAbs > 2000)) = true := by simpa using hs
      have hc := (s.utcTaken.utcStep (utc.toNat + elapsed.toNat)).utcStepped.utcAnswer_changes (e := id) Page.RTC (s.angCode 0x88)
        (s.utc + 2 ^ 64 * (utc.toNat + elapsed.toNat)) 2 seq.toNat
      obtain ⟨hnone, hresult, hseq, hregs, hframe⟩ := s.utcAnswer_fields Page.RTC (s.angCode 0x88) (s.utc + 2 ^ 64 * (utc.toNat + elapsed.toNat)) 2
        seq.toNat (s.utcTaken_changes.trans (s.utcTaken.utcStep_changes (utc.toNat + elapsed.toNat))) (State.utcStep_req _ _) (by decide) (by decide) seq.isLt
      obtain ⟨hutc, hvalid, hold⟩ := s.utcTaken.utcStep_fields (utc.toNat + elapsed.toNat)
      rw [s.handleUtc_stepped _ _ hreq hr hs, hR, hS]
      exact completes_next ⟨hnone, hresult, hseq, fun _ _ => ⟨(hc.getW (f := F.RTC_UTC) rfl (by decide) (by decide)).trans hutc,
        (on_congr (hc.get F.RTC_STAT_VALID (by decide))).trans hvalid,
        (hc.getW (f := F.RTC_LASTSTEP_OLD) rfl (by decide) (by decide)).trans hold⟩, by simp, by simp, hregs, hframe⟩
    · have hS : (!s.on F.RTC_STAT_VALID || decide (((utc.toNat : Int) - at_.toNat).natAbs > 2000)) = false := by simpa using hs
      have hle : ((utc.toNat : Int) - at_.toNat).natAbs ≤ 2000 := not_lt.1 fun h => hs (.inr h)
      have hslew := s.utcTaken.utcSlew_words (utc.toNat - at_.toNat)
      have hc := (s.utcTaken.utcSlew (utc.toNat - at_.toNat)).slewBegun.utcAnswer_changes (e := id) Page.RTC (s.angCode 0x89)
        (ofSigned 64 (utc.toNat - at_.toNat)) 1 seq.toNat
      obtain ⟨hnone, hresult, hseq, hregs, hframe⟩ := s.utcAnswer_fields Page.RTC (s.angCode 0x89) (ofSigned 64 (utc.toNat - at_.toNat)) 1
        seq.toNat (s.utcTaken_changes.trans (s.utcTaken.utcSlew_changes (utc.toNat - at_.toNat))) (s.utcSlew_req _) (by decide) (by decide) seq.isLt
      rw [s.handleUtc_slewed _ _ hreq hr hs, hR, hS]
      exact completes_next ⟨hnone, hresult, hseq, by simp, fun _ _ => ⟨(hc.getW (f := F.RTC_UTC) rfl (by decide) (by decide)).trans
        (getW_congr rfl (hslew _ (by decide)) (hslew _ (by decide))), (congrArg (toSigned 32) (hc.get F.RTC_SLEWLEFT (by decide))).trans
        (State.utcSlew_left _ hle)⟩, by simp, hregs, hframe⟩

theorem supercap_voltage_shown (s : State) (mv : BitVec 16) : Claims.supercapMeasure s mv := by
  unfold Claims.supercapMeasure
  rw [exec_supercapMeasure]
  exact completes_next ⟨(s.get_put_same F.RTC_SUPV_MV _ (by decide)).trans (Nat.mod_eq_of_lt mv.isLt), s.put_words _ _, s.put_frame _ _⟩

end Sys2Proof.Machine
end

section
/-!
Proofs about the angle clock (chapter 2, sections 1 to 3): what entering a lock state does (R53), and the commands of its source, its lock and its
reference (R47 to R56, R76, R78).
-/

namespace Sys2Proof.Machine

/-! ### Commands and their meanings -/

section
variable (s : State)
theorem exec_zeroCrossingComparison (f : Word) : exec (.zeroCrossingComparison f) s = .next (s.compareZero f.toNat) := rfl
theorem exec_sourcePresent (f : Word) : exec (.sourcePresent f) s = .next (s.sourcePresent f.toNat) := rfl
theorem exec_sourceAbsent : exec .sourceAbsent s = execSourceAbsent s := rfl
theorem exec_sourceOutOfRange (f : Word) : exec (.sourceOutOfRange f) s = .next (s.sourceOutOfRange f.toNat) := rfl
theorem exec_holdoverTimeout : exec .holdoverTimeout s = .next (if s.get F.ANG_STAT_STATE = 3 then s.enterLock 0 else s) := rfl
theorem exec_angEnable : exec .angEnable s = .next s.enableAngle := rfl
theorem exec_angDisable : exec .angDisable s = .next s.disableAngle := rfl
theorem exec_angSourceSelect (b : Bool) : exec (.angSourceSelect b) s = .next (s.selectSource b) := rfl
theorem exec_angCyclesCommit (v : Word) : exec (.angCyclesCommit v) s = .next (s.commitCycles v.toNat) := rfl
theorem exec_referenceDeviation : exec .referenceDeviation s = .next s.refFall := rfl
end

/-! ### What the clock's own record and the free values leave alone -/

/-- The angle clock's record takes a value. -/
def State.withAngle (s : State) (c : AngleClock) : State := { s with angle := c }

section
variable (s : State) (c : AngleClock)
theorem State.withAngle_get (f : Field) : (s.withAngle c).get f = s.get f := rfl
theorem State.withAngle_word (a : Nat) : (s.withAngle c).word a = s.word a := rfl
theorem State.withAngle_angle : (s.withAngle c).angle = c := rfl
end

/-- A state with the record of the angle clock taken out. -/
def State.offAngle (s : State) : State := { s with angle := {} }

/-- The same with the free values taken out too. -/
def State.offClock (s : State) : State := { s with angle := {}, fresh := 0 }

namespace Changes

variable {W : Nat → Prop} {s t : State}

theorem withAngle (h : Changes State.offAngle W s t) (c : AngleClock) : Changes State.offAngle W s (t.withAngle c) := h.trans ⟨rfl, fun _ _ => rfl⟩

theorem clock_of_angle (h : Changes State.offAngle W s t) : Changes State.offClock W s t := h.mono (fun _ => rfl) fun _ => id

theorem clockAngle (h : Changes State.offClock W s t) (c : AngleClock) : Changes State.offClock W s (t.withAngle c) := h.trans ⟨rfl, fun _ _ => rfl⟩

theorem angle_frame (h : Changes State.offAngle W s t) : t = { s with regs := t.regs, angle := t.angle, log := t.log } := by
  have h2 : ∀ u : State, u = { u.rest.offAngle with regs := u.regs, angle := u.angle, log := u.log } := fun _ => rfl
  have h3 := h2 t
  rwa [h.1] at h3

theorem clock_frame (h : Changes State.offClock W s t) : t = { s with regs := t.regs, angle := t.angle, log := t.log, fresh := t.fresh } := by
  have h2 : ∀ u : State, u = { u.rest.offClock with regs := u.regs, angle := u.angle, log := u.log, fresh := u.fresh } := fun _ => rfl
  have h3 := h2 t
  rwa [h.1] at h3

theorem clockFree {k : Nat → State → State} (h : ∀ v t, Changes State.offClock W t (k v t)) : Changes State.offClock W s (s.free k) :=
  trans (t := { s with fresh := s.fresh + 1 }) ⟨rfl, fun _ _ => rfl⟩ (h _ _)

end Changes

/-! ### The words of a lock state -/

/-- The words beside ANG.STAT that entering a lock state may change: ANG.INC, ANG.LOSS, CLU.STAT, and those of its interrupts and events. -/
def lockWords : List Nat :=
  [F.ANG_INC.addr, F.ANG_LOSS_N.addr, F.CLU_STAT_TXOK.addr, Page.ANG + 0x10] ++ (logWords Page.ANG ++ logWords Page.CLU)

/-- The pages of the angle clock, its followers and its events. -/
abbrev lockPages : List Nat := [Page.ANG, Page.CLU, Page.LDG]

theorem lockWords_inPages : ∀ a ∈ lockWords, InPages lockPages a := by
  unfold InPages
  decide

theorem lock_inPages {o : Nat} (ho : o < 0x1000) : InPages lockPages (Page.ANG + o) := inPages_add (by decide) ho

theorem logWords_ang_lock : ∀ a ∈ logWords Page.ANG, a ∈ lockWords := fun _ ha => List.mem_append_right _ (List.mem_append_left _ ha)

section
variable (s : State)

theorem State.noteTxok_lock {e : State → State} : Changes e (· ∈ lockWords) s s.noteTxok := by
  have hclu : ∀ a ∈ logWords Page.CLU, a ∈ lockWords := fun a ha => List.mem_append_right _ (List.mem_append_right _ ha)
  have hput (b : Bool) : Changes e (· ∈ lockWords) s (s.put F.CLU_STAT_TXOK (b2n b)) := (Changes.refl s).put _ (by decide)
  unfold State.noteTxok
  exact Changes.ite ((hput _).logE _ _ hclu) (hput _)

theorem State.putInc_lock (q : Rat) : Changes State.offClock (· ∈ lockWords) s (s.putInc q) := by
  unfold State.putInc
  exact Changes.ite ((Changes.refl s).put _ (by decide)) (Changes.clockFree fun _ t => (Changes.refl t).put _ (by decide))

theorem State.putInc_angle (q : Rat) : (s.putInc q).angle = s.angle := by
  unfold State.putInc State.free
  split
  · exact State.put_angle _ _ _
  · exact State.put_angle _ _ _

/-- The state as it enters lock state `st`, before what Table 2-1 adds. -/
def State.preLock (st : Nat) : State :=
  ((s.put F.ANG_STAT_STATE st).withAngle { s.angle with inLock := 0, offLock := 0 }).noteTxok

theorem State.preLock_changes (st : Nat) : Changes State.offAngle (· ∈ lockWords) (s.put F.ANG_STAT_STATE st) (s.preLock st) :=
  ((Changes.refl _).withAngle _).trans (State.noteTxok_lock _)

theorem State.noteTxok_angle : s.noteTxok.angle = s.angle := (s.noteTxok_lock (e := id)).kept State.angle fun _ => rfl

theorem State.preLock_angle (st : Nat) : (s.preLock st).angle = { s.angle with inLock := 0, offLock := 0 } := by
  rw [State.preLock, State.noteTxok_angle, State.withAngle_angle]

/-! Table 2-1, state by state. -/

theorem State.enterLock_same {st : Nat} (h : s.get F.ANG_STAT_STATE = st) : s.enterLock st = s := by
  simp only [State.enterLock, h, if_true]

section
variable {st : Nat} (h : s.get F.ANG_STAT_STATE ≠ st)
include h

theorem State.enterLock_freerun (h0 : st = 0) : s.enterLock st = if s.get F.ANG_STAT_STATE = 3 then
    (((s.preLock 0).put F.ANG_INC s.nominalInc).irq Page.ANG 2).logE Page.ANG (s.angCode 0x82) 0
    else ((s.preLock 0).put F.ANG_INC s.nominalInc).irq Page.ANG 2 := by
  subst h0
  simp only [State.enterLock, if_neg h]
  rfl

theorem State.enterLock_locked (h2 : st = 2) : s.enterLock st = ((s.preLock 2).irq Page.ANG 0).logE Page.ANG (s.angCode 0x80) 0 := by
  subst h2
  simp only [State.enterLock, if_neg h]
  rfl

theorem State.enterLock_holdover (h3 : st = 3) : ∃ q, s.enterLock st =
    (((if s.angle.lastIncs = [] then s.preLock 3 else (s.preLock 3).putInc q).incSat F.ANG_LOSS_N).irq Page.ANG 1).logE Page.ANG (s.angCode 0x81) 0 := by
  subst h3
  simp only [State.enterLock, if_neg h]
  exact ⟨_, rfl⟩

theorem State.enterLock_acquire (h1 : st = 1) : s.enterLock st = s.preLock st := by
  subst h1
  simp only [State.enterLock, if_neg h]
  rfl
end

/-- All that entering FREERUN, ACQUIRE or LOCKED changes beside ANG.STAT.STATE. -/
theorem State.enterLock_steady {st : Nat} (h : st < 3) : Changes State.offAngle (· ∈ lockWords) (s.put F.ANG_STAT_STATE st) (s.enterLock st) := by
  by_cases hs : s.get F.ANG_STAT_STATE = st
  · rw [s.enterLock_same hs]
    exact ⟨congrArg State.offAngle (s.put_rest _ _).symm, fun a _ => (s.word_put_self _ hs a).symm⟩
  · have hst : st = 0 ∨ st = 1 ∨ st = 2 := by omega
    rcases hst with h0 | h1 | h2
    · have h3 := ((s.preLock_changes 0).put (f := F.ANG_INC) s.nominalInc (by decide)).irq (p := Page.ANG) 2 (by decide)
      rw [s.enterLock_freerun hs h0, h0]
      exact Changes.ite (h3.logE _ _ logWords_ang_lock) h3
    · rw [s.enterLock_acquire hs h1]
      exact s.preLock_changes st
    · rw [s.enterLock_locked hs h2, h2]
      exact ((s.preLock_changes 2).irq 0 (by decide)).logE _ _ logWords_ang_lock

/-- All that entering a lock state changes beside ANG.STAT.STATE. -/
theorem State.enterLock_changes {st : Nat} (h : st < 4) : Changes State.offClock (· ∈ lockWords) (s.put F.ANG_STAT_STATE st) (s.enterLock st) := by
  by_cases h3 : st = 3
  · by_cases hs : s.get F.ANG_STAT_STATE = st
    · rw [s.enterLock_same hs]
      exact ⟨congrArg State.offClock (s.put_rest _ _).symm, fun a _ => (s.word_put_self _ hs a).symm⟩
    · obtain ⟨q, hq⟩ := s.enterLock_holdover hs h3
      have hpre := (s.preLock_changes 3).clock_of_angle
      rw [hq, h3]
      exact (((Changes.ite hpre (hpre.trans (State.putInc_lock _ q))).put (f := F.ANG_LOSS_N) _ (by decide)).irq 1 (by decide)).logE _ _ logWords_ang_lock
  · exact (s.enterLock_steady (by omega)).clock_of_angle

/-- Entering a lock state leaves the counts of R51 and the rest of the clock's record alone, and begins those of Table 2-2 anew. -/
theorem State.enterLock_angle {st : Nat} (h : st < 4) : (s.enterLock st).angle =
    if s.get F.ANG_STAT_STATE = st then s.angle else { s.angle with inLock := 0, offLock := 0 } := by
  split
  · rw [s.enterLock_same ‹_›]
  · rename_i hs
    have hlog (u : State) (c : Nat) : (u.logE Page.ANG c 0).angle = u.angle := by rw [u.logE_frame]
    have hst : st = 0 ∨ st = 1 ∨ st = 2 ∨ st = 3 := by omega
    rcases hst with h0 | h1 | h2 | h3
    · rw [s.enterLock_freerun hs h0, apply_ite State.angle, hlog, ite_self, State.irq_angle, State.put_angle, State.preLock_angle]
    · rw [s.enterLock_acquire hs h1, State.preLock_angle]
    · rw [s.enterLock_locked hs h2, hlog, State.irq_angle, State.preLock_angle]
    · obtain ⟨q, hq⟩ := s.enterLock_holdover hs h3
      rw [hq, hlog, State.irq_angle, State.incSat_angle, apply_ite State.angle, State.putInc_angle, ite_self, State.preLock_angle]

/-! ### The fields of ANG.STAT -/

theorem State.enterLock_state {st : Nat} (h : st < 4) : (s.enterLock st).get F.ANG_STAT_STATE = st := by
  rw [(s.enterLock_changes h).get _ (by decide), State.get_put_same _ _ _ (by decide)]
  exact Nat.mod_eq_of_lt h

/-- The fields of ANG.STAT beside STATE. -/
def statFlags : List Field := [F.ANG_STAT_PRESENT, F.ANG_STAT_INRANGE, F.ANG_STAT_REFOK]

theorem statFlags_apart : ∀ f ∈ statFlags, f.addr = F.ANG_STAT_STATE.addr ∧ F.ANG_STAT_STATE.lo + F.ANG_STAT_STATE.width ≤ f.lo := by
  decide

/-- Entering a lock state leaves the other fields of ANG.STAT alone. -/
theorem State.enterLock_flag {st : Nat} (h : st < 4) {f : Field} (hf : f ∈ statFlags) : (s.enterLock st).get f = s.get f := by
  obtain ⟨ha, hlo⟩ := statFlags_apart f hf
  rw [(s.enterLock_changes h).get f (by rw [ha]; decide)]
  exact s.get_put_disjoint F.ANG_STAT_STATE f st ha (by decide) (.inr hlo)

/-- A word that entering a lock state does not change. -/
theorem State.enterLock_get {st : Nat} (h : st < 4) {f : Field} (hf : f.addr ∉ lockWords) (hs : f.addr ≠ F.ANG_STAT_STATE.addr) :
    (s.enterLock st).get f = s.get f := by
  rw [(s.enterLock_changes h).get f hf, s.get_put_addr _ _ _ hs]

theorem State.enterLock_pages {st : Nat} (h : st < 4) : Changes State.offClock (InPages lockPages) s (s.enterLock st) :=
  ((Changes.refl s).put _ (lock_inPages (o := 0xC) (by decide))).trans ((s.enterLock_changes h).mono (fun _ => rfl) lockWords_inPages)

theorem State.enterLock_steady_pages {st : Nat} (h : st < 3) : Changes State.offAngle (InPages lockPages) s (s.enterLock st) :=
  ((Changes.refl s).put _ (lock_inPages (o := 0xC) (by decide))).trans ((s.enterLock_steady h).mono (fun _ => rfl) lockWords_inPages)

end

end Sys2Proof.Machine
end

section
/-!
Proofs about the source of the angle clock and its reference (R49 to R56, R76, R78).
-/

namespace Sys2Proof.Machine

/-! ### One-bit fields -/

theorem State.on_of_get {t : State} {f : Field} (h : t.get f = 1) : t.on f = true := beq_iff_eq.mpr h

theorem State.off_of_get {t : State} {f : Field} (h : t.get f = 0) : t.on f = false := by
  rw [State.on, h]
  rfl

section
variable (s : State)

/-! ### The nominal increment -/

theorem State.nominalInc_eq : s.nominalInc = if s.on F.ANG_CTL_NOM then 0x3D70A3D7 else 0x33333333 := rfl

theorem State.nominalInc_lt : s.nominalInc < 2 ^ 32 := by
  rw [s.nominalInc_eq]
  split <;> decide

theorem State.get_put_nominal : ∀ u : State, (u.put F.ANG_INC s.nominalInc).get F.ANG_INC = s.nominalInc := fun u => by
  rw [u.get_put_same _ _ (by decide)]
  exact Nat.mod_eq_of_lt s.nominalInc_lt

/-- The words of an interrupt of ANG and of an event. -/
def angEventWords : List Nat := (Page.ANG + 0x10) :: logWords Page.ANG

theorem angEventWords_lockPages : ∀ a ∈ angEventWords, InPages lockPages a := by
  unfold InPages
  decide

theorem angEventWords_lockWords : ∀ a ∈ angEventWords, a ∈ lockWords := by decide

theorem angEventWords_irq : Page.ANG + 0x10 ∈ angEventWords := List.mem_cons_self ..

theorem angEventWords_log : ∀ a ∈ logWords Page.ANG, a ∈ angEventWords := fun _ ha => List.mem_cons_of_mem _ ha

/-- FREERUN entered from another state is on the nominal increment. -/
theorem State.enterLock_freerun_inc (h : s.get F.ANG_STAT_STATE ≠ 0) : (s.enterLock 0).get F.ANG_INC = s.nominalInc := by
  have hirq : Changes id (· ∈ angEventWords) _ (((s.preLock 0).put F.ANG_INC s.nominalInc).irq Page.ANG 2) := (Changes.refl _).irq 2 angEventWords_irq
  rw [s.enterLock_freerun h rfl, (Changes.ite (hirq.logE _ _ angEventWords_log) hirq).get _ (by decide), s.get_put_nominal]

/-! ### Loss of the source -/

theorem State.toHoldover_changes : Changes State.offClock (InPages lockPages) s s.toHoldover :=
  Changes.ite (s.enterLock_pages (by decide)) (Changes.refl s)

theorem State.toHoldover_get {f : Field} (hf : f.addr ∉ lockWords) (hs : f.addr ≠ F.ANG_STAT_STATE.addr) : s.toHoldover.get f = s.get f := by
  unfold State.toHoldover
  split
  · exact s.enterLock_get (by decide) hf hs
  · rfl

theorem State.toHoldover_flag {f : Field} (hf : f ∈ statFlags) : s.toHoldover.get f = s.get f := by
  unfold State.toHoldover
  split
  · exact s.enterLock_flag (by decide) hf
  · rfl

theorem State.toHoldover_state : s.toHoldover.get F.ANG_STAT_STATE =
    if s.get F.ANG_STAT_STATE = 1 ∨ s.get F.ANG_STAT_STATE = 2 then 3 else s.get F.ANG_STAT_STATE := by
  unfold State.toHoldover
  split
  · exact s.enterLock_state (by decide)
  · rfl

/-! ### The range of the source (R51) -/

theorem State.rangeEvent_words {e : State → State} : Changes e (· ∈ angEventWords) (s.put F.ANG_STAT_INRANGE 0) s.rangeEvent :=
  ((Changes.refl _).irq 3 angEventWords_irq).logE _ _ angEventWords_log

theorem State.rangeEvent_changes : Changes State.offClock (InPages lockPages) s s.rangeEvent :=
  ((Changes.refl s).put _ (lock_inPages (o := 0xC) (by decide))).trans
    (s.rangeEvent_words.mono (fun _ => rfl) angEventWords_lockPages)

theorem State.rangeEvent_get {f : Field} (hf : f.addr ∉ angEventWords) : s.rangeEvent.get f = (s.put F.ANG_STAT_INRANGE 0).get f :=
  (s.rangeEvent_words (e := id)).get f hf

/-! One frequency outside or inside the range, as a comparison and a cycle of the source note it. -/

/-- A frequency in the range is noted. -/
def State.rangeIn (freq : Nat) : State :=
  let u := (s.put F.ANG_FREQ freq).put F.ANG_STAT_INRANGE 1
  u.withAngle { u.angle with offRange := 0 }

/-- A frequency outside the range is noted. -/
def State.rangeOut (freq : Nat) : State :=
  let u := if s.on F.ANG_STAT_INRANGE then (s.put F.ANG_FREQ freq).rangeEvent else s.put F.ANG_FREQ freq
  u.withAngle { u.angle with offRange := s.angle.offRange + 1 }

end

section
variable (s : State) {freq : Nat}

theorem State.noteRange_in (h : inRange freq = true) : s.noteRange freq = s.rangeIn freq := by
  unfold State.noteRange State.rangeIn State.withAngle
  rw [if_pos h]

theorem State.noteRange_out (h : inRange freq = false) :
    s.noteRange freq = if s.angle.offRange + 1 ≥ 2 then (s.rangeOut freq).toHoldover else s.rangeOut freq := by
  unfold State.noteRange State.rangeOut State.withAngle
  rw [if_neg (by simp [h])]

theorem State.rangeIn_changes : Changes State.offClock (InPages lockPages) s (s.rangeIn freq) :=
  (((Changes.refl s).put _ (lock_inPages (o := 0x44) (by decide))).put _ (lock_inPages (o := 0xC) (by decide))).clockAngle _

theorem State.rangeOut_changes : Changes State.offClock (InPages lockPages) s (s.rangeOut freq) :=
  let h := (Changes.refl s).put (f := F.ANG_FREQ) freq (lock_inPages (o := 0x44) (by decide))
  (Changes.ite (h.trans (State.rangeEvent_changes _)) h).clockAngle _

theorem State.rangeIn_get (f : Field) : (s.rangeIn freq).get f = ((s.put F.ANG_FREQ freq).put F.ANG_STAT_INRANGE 1).get f := by
  rw [State.rangeIn, State.withAngle_get]

/-- A field that the event of R51 does not touch. -/
theorem State.rangeOut_get {f : Field} (hf : f.addr ∉ angEventWords) : (s.rangeOut freq).get f =
    if s.on F.ANG_STAT_INRANGE then ((s.put F.ANG_FREQ freq).put F.ANG_STAT_INRANGE 0).get f else (s.put F.ANG_FREQ freq).get f := by
  rw [State.rangeOut, State.withAngle_get]
  split
  · exact State.rangeEvent_get _ hf
  · rfl

/-! What a frequency leaves in the registers. -/

theorem State.get_put_freq (h : freq < 2 ^ 32) : (s.put F.ANG_FREQ freq).get F.ANG_FREQ = freq := by
  rw [s.get_put_same _ _ (by decide)]
  exact Nat.mod_eq_of_lt h

theorem State.noteRange_freq (h : freq < 2 ^ 32) : (s.noteRange freq).get F.ANG_FREQ = freq := by
  have hput (v : Nat) : ((s.put F.ANG_FREQ freq).put F.ANG_STAT_INRANGE v).get F.ANG_FREQ = freq :=
    (State.get_put_addr _ _ _ _ (by decide)).trans (s.get_put_freq h)
  have hout : (s.rangeOut freq).get F.ANG_FREQ = freq := by
    rw [s.rangeOut_get (by decide), hput, s.get_put_freq h, ite_self]
  cases hr : inRange freq with
  | true => rw [s.noteRange_in hr, s.rangeIn_get, hput]
  | false =>
    rw [s.noteRange_out hr]
    split
    · rw [State.toHoldover_get _ (by decide) (by decide), hout]
    · exact hout

theorem State.noteRange_inRange : (s.noteRange freq).on F.ANG_STAT_INRANGE = inRange freq := by
  have hout : (s.rangeOut freq).get F.ANG_STAT_INRANGE = 0 := by
    rw [s.rangeOut_get (by decide), State.get_put_same _ _ _ (by decide), s.get_put_addr _ _ _ (by decide)]
    split
    · rfl
    · rename_i h
      have hlt : s.get F.ANG_STAT_INRANGE < 2 ^ 1 := bits_lt _ _ _
      have hne : s.get F.ANG_STAT_INRANGE ≠ 1 := by simpa [State.on] using h
      omega
  cases hr : inRange freq with
  | true => rw [s.noteRange_in hr, State.on, s.rangeIn_get, State.get_put_same _ _ _ (by decide)]; rfl
  | false =>
    rw [s.noteRange_out hr, State.on]
    split
    · rw [State.toHoldover_flag _ (by decide), hout]; rfl
    · rw [hout]; rfl

theorem State.noteRange_state : (s.noteRange freq).get F.ANG_STAT_STATE =
    if inRange freq = false ∧ 1 ≤ s.angle.offRange ∧ (s.get F.ANG_STAT_STATE = 1 ∨ s.get F.ANG_STAT_STATE = 2) then 3 else s.get F.ANG_STAT_STATE := by
  have hput (v : Nat) : ((s.put F.ANG_FREQ freq).put F.ANG_STAT_INRANGE v).get F.ANG_STAT_STATE = s.get F.ANG_STAT_STATE :=
    (State.get_put_disjoint _ F.ANG_STAT_INRANGE F.ANG_STAT_STATE _ rfl (by decide) (by decide)).trans (s.get_put_addr _ _ _ (by decide))
  have hout : (s.rangeOut freq).get F.ANG_STAT_STATE = s.get F.ANG_STAT_STATE := by
    rw [s.rangeOut_get (by decide), hput, s.get_put_addr _ _ _ (by decide), ite_self]
  cases hr : inRange freq with
  | true => rw [s.noteRange_in hr, s.rangeIn_get, hput, if_neg (by simp)]
  | false =>
    rw [s.noteRange_out hr]
    by_cases hn : 1 ≤ s.angle.offRange
    · rw [if_pos (by omega), State.toHoldover_state, hout]
      simp [hn]
    · rw [if_neg (by omega), hout, if_neg (by simp [hn])]

theorem State.noteRange_get {f : Field} (hl : f.addr ∉ lockWords) (hs : f.addr ≠ F.ANG_STAT_STATE.addr) (hf : f.addr ≠ F.ANG_FREQ.addr) :
    (s.noteRange freq).get f = s.get f := by
  have hput (v : Nat) : ((s.put F.ANG_FREQ freq).put F.ANG_STAT_INRANGE v).get f = s.get f := by
    rw [State.get_put_addr _ F.ANG_STAT_INRANGE f v hs, s.get_put_addr _ _ _ hf]
  have hout : (s.rangeOut freq).get f = s.get f := by
    rw [s.rangeOut_get fun h => hl (angEventWords_lockWords _ h), hput, s.get_put_addr _ _ _ hf, ite_self]
  cases hr : inRange freq with
  | true => rw [s.noteRange_in hr, s.rangeIn_get, hput]
  | false =>
    rw [s.noteRange_out hr]
    split
    · rw [State.toHoldover_get _ hl hs, hout]
    · exact hout

theorem State.noteRange_changes : Changes State.offClock (InPages lockPages) s (s.noteRange freq) := by
  cases hr : inRange freq with
  | true => rw [s.noteRange_in hr]; exact s.rangeIn_changes
  | false =>
    rw [s.noteRange_out hr]
    exact Changes.ite (s.rangeOut_changes.trans (State.toHoldover_changes _)) s.rangeOut_changes

/-! ### A comparison (R54, R816) -/

theorem ofSigned_lt (w : Nat) (i : Int) : ofSigned w i < 2 ^ w := by
  have h := Int.emod_lt_of_pos i (b := ((2 ^ w : Nat) : Int)) (by positivity)
  unfold ofSigned
  omega

theorem State.phaseError_put (f : Field) (v : Nat) : (s.put f v).phaseError = s.phaseError := by
  rw [State.phaseError, State.put_angle, State.phaseError]

/-- The state with a corrected increment and its counts. -/
def State.corrected (c : AngleClock) (q : Rat) : State := (s.withAngle c).putInc q

theorem State.putInc_changes (q : Rat) : Changes State.offClock (· ∈ [F.ANG_INC.addr]) s (s.putInc q) := by
  unfold State.putInc
  exact Changes.ite ((Changes.refl s).put _ (List.mem_cons_self ..)) (Changes.clockFree fun _ t => (Changes.refl t).put _ (List.mem_cons_self ..))

theorem State.putInc_get (q : Rat) {f : Field} (hf : f.addr ≠ F.ANG_INC.addr) : (s.putInc q).get f = s.get f :=
  (s.putInc_changes q).get f (by simpa using hf)

theorem State.putInc_pages (q : Rat) : Changes State.offClock (InPages lockPages) s (s.putInc q) :=
  (s.putInc_changes q).mono (fun _ => rfl) fun a ha => by
    rw [List.mem_singleton.mp ha]
    exact lock_inPages (o := 0x48) (by decide)

theorem State.corrected_changes (c : AngleClock) (q : Rat) : Changes State.offClock (InPages lockPages) s (s.corrected c q) :=
  ((Changes.refl s).clockAngle c).trans (State.putInc_pages _ q)

theorem State.corrected_get (c : AngleClock) (q : Rat) {f : Field} (hf : f.addr ≠ F.ANG_INC.addr) : (s.corrected c q).get f = s.get f :=
  ((s.withAngle c).putInc_get q hf).trans (s.withAngle_get c f)

theorem State.corrected_angle (c : AngleClock) (q : Rat) : (s.corrected c q).angle = c := by
  rw [State.corrected, State.putInc_angle, State.withAngle_angle]

/-- The comparisons in succession within 64 steps, this one included. -/
def State.closeCount : Nat := if s.phaseError.natAbs ≤ 64 then s.angle.inLock + 1 else 0

/-- The comparisons in succession in range and beyond 512 steps, this one included. -/
def State.farCount (freq : Nat) : Nat := if s.phaseError.natAbs > 512 ∧ inRange freq then s.angle.offLock + 1 else 0

/-- The increment in LOCKED without its phase term. -/
def State.trackedInc (freq : Nat) : Rat := trackInc s.angle.loopInc (sourceInc freq) (freqStep freq)

/-- A comparison in ACQUIRE, before the change to LOCKED. -/
def State.acquired (freq : Nat) : State :=
  s.corrected { s.angle with inLock := s.closeCount, loopInc := sourceInc freq } (phaseTerm (sourceInc freq) (8 * clampTo 1024 s.phaseError))

/-- A comparison in LOCKED, before the change to ACQUIRE. -/
def State.tracked (freq : Nat) : State :=
  s.corrected { s.angle with offLock := s.farCount freq, loopInc := s.trackedInc freq } (phaseTerm (s.trackedInc freq) (clampTo 512 s.phaseError))

theorem State.correctInc_acquire (h : s.get F.ANG_STAT_STATE = 1) :
    s.correctInc freq = if s.closeCount ≥ 8 then (s.acquired freq).enterLock 2 else s.acquired freq := by
  simp only [State.correctInc, h]
  unfold State.acquired State.closeCount State.corrected State.withAngle
  with_reducible rfl

theorem State.correctInc_locked (h : s.get F.ANG_STAT_STATE = 2) :
    s.correctInc freq = if s.farCount freq ≥ 4 then (s.tracked freq).enterLock 1 else s.tracked freq := by
  simp only [State.correctInc, h]
  unfold State.tracked State.farCount State.trackedInc State.corrected State.withAngle
  with_reducible rfl

theorem State.correctInc_other (h1 : s.get F.ANG_STAT_STATE ≠ 1) (h2 : s.get F.ANG_STAT_STATE ≠ 2) : s.correctInc freq = s := by
  unfold State.correctInc
  split
  · exact absurd ‹_› h1
  · exact absurd ‹_› h2
  · rfl

/-! What a correction does to the lock state (Table 2-2). -/

theorem State.closeCount_eighth : s.closeCount ≥ 8 ↔ s.phaseError.natAbs ≤ 64 ∧ 7 ≤ s.angle.inLock := by
  unfold State.closeCount
  split <;> omega

theorem State.farCount_fourth : s.farCount freq ≥ 4 ↔ inRange freq = true ∧ 512 < s.phaseError.natAbs ∧ 3 ≤ s.angle.offLock := by
  unfold State.farCount
  split <;> grind

theorem State.correctInc_state_acquire (h : s.get F.ANG_STAT_STATE = 1) :
    (s.correctInc freq).get F.ANG_STAT_STATE = if s.phaseError.natAbs ≤ 64 ∧ 7 ≤ s.angle.inLock then 2 else 1 := by
  rw [s.correctInc_acquire h, apply_ite (State.get · F.ANG_STAT_STATE), State.enterLock_state _ (by decide), State.acquired,
    s.corrected_get _ _ (by decide), h, ite_congr (propext s.closeCount_eighth) (fun _ => rfl) fun _ => rfl]

theorem State.correctInc_state_locked (h : s.get F.ANG_STAT_STATE = 2) :
    (s.correctInc freq).get F.ANG_STAT_STATE = if inRange freq = true ∧ 512 < s.phaseError.natAbs ∧ 3 ≤ s.angle.offLock then 1 else 2 := by
  rw [s.correctInc_locked h, apply_ite (State.get · F.ANG_STAT_STATE), State.enterLock_state _ (by decide), State.tracked,
    s.corrected_get _ _ (by decide), h, ite_congr (propext s.farCount_fourth) (fun _ => rfl) fun _ => rfl]

/-- A correction is one of: nothing, a corrected state, or a change of lock state after it; the count of R51 and the words beside those of a lock
state stay. -/
theorem State.correctInc_kept {P : State → Prop} (h0 : P s) (hc : ∀ c q, c.offRange = s.angle.offRange → P (s.corrected c q))
    (hl : ∀ c q st, st < 4 → c.offRange = s.angle.offRange → P ((s.corrected c q).enterLock st)) : P (s.correctInc freq) := by
  by_cases h1 : s.get F.ANG_STAT_STATE = 1
  · rw [s.correctInc_acquire h1]
    split
    · exact hl _ _ 2 (by decide) rfl
    · exact hc _ _ rfl
  · by_cases h2 : s.get F.ANG_STAT_STATE = 2
    · rw [s.correctInc_locked h2]
      split
      · exact hl _ _ 1 (by decide) rfl
      · exact hc _ _ rfl
    · rw [s.correctInc_other h1 h2]
      exact h0

theorem State.correctInc_offRange : (s.correctInc freq).angle.offRange = s.angle.offRange := by
  refine s.correctInc_kept (P := fun t => t.angle.offRange = s.angle.offRange) rfl (fun c q hc => ?_) fun c q st hst hc => ?_
  · rw [s.corrected_angle, hc]
  · rw [State.enterLock_angle _ hst, s.corrected_angle]
    split <;> exact hc

theorem State.correctInc_get {f : Field} (hf : f.addr ∉ lockWords) (hs : f.addr ≠ F.ANG_STAT_STATE.addr) : (s.correctInc freq).get f = s.get f := by
  have hc (c : AngleClock) (q : Rat) : (s.corrected c q).get f = s.get f := s.corrected_get c q fun h => hf (by rw [h]; decide)
  exact s.correctInc_kept (P := fun t => t.get f = s.get f) rfl (fun c q _ => hc c q) fun c q st hst _ => (State.enterLock_get _ hst hf hs).trans (hc c q)

theorem State.correctInc_changes : Changes State.offClock (InPages lockPages) s (s.correctInc freq) :=
  s.correctInc_kept (P := fun t => Changes State.offClock (InPages lockPages) s t) (Changes.refl s) (fun c q _ => s.corrected_changes c q)
    fun c q _ hst _ => (s.corrected_changes c q).trans (State.enterLock_pages _ hst)

end

/-! ### The commands of the source -/

/-- The phase error is shown (R54). -/
def State.phaseShown (s : State) : State := s.put F.ANG_PHERR_ERR (ofSigned 16 s.phaseError)

section
variable (s : State)

theorem State.phaseShown_phaseError : s.phaseShown.phaseError = s.phaseError := s.phaseError_put _ _

theorem State.phaseShown_angle : s.phaseShown.angle = s.angle := s.put_angle _ _

theorem State.phaseShown_state : s.phaseShown.get F.ANG_STAT_STATE = s.get F.ANG_STAT_STATE := s.get_put_addr _ _ _ (by decide)

theorem State.phaseShown_get : s.phaseShown.get F.ANG_PHERR_ERR = ofSigned 16 s.phaseError := by
  rw [State.phaseShown, s.get_put_same _ _ (by decide)]
  exact Nat.mod_eq_of_lt (ofSigned_lt 16 _)

theorem State.compareZero_eq {freq : Nat} (hsrc : s.on F.ANG_CTL_SRC = false) (hpres : s.on F.ANG_STAT_PRESENT = true) (hf : freq ≠ 0) :
    s.compareZero freq = (s.phaseShown.correctInc freq).noteRange freq := by
  unfold State.compareZero State.phaseShown
  rw [if_neg (by simp [hsrc, hpres, hf])]

theorem State.compareZero_changes (freq : Nat) : Changes State.offClock (InPages lockPages) s ((s.phaseShown.correctInc freq).noteRange freq) :=
  (((Changes.refl s).put _ (lock_inPages (o := 0x4C) (by decide))).trans (State.correctInc_changes _)).trans (State.noteRange_changes _)

end

theorem zero_crossing_compared (s : State) (f : Word) : Claims.zeroCrossingComparison s f := by
  intro hsrc hpres hf
  rw [exec_zeroCrossingComparison, s.compareZero_eq hsrc hpres fun h => hf (BitVec.eq_of_toNat_eq h)]
  have hch := s.compareZero_changes f.toNat
  refine completes_next ⟨?_, State.noteRange_freq _ f.isLt, State.noteRange_inRange _, fun h1 => ?_, fun h2 => ?_, hch.2, hch.clock_frame⟩
  · rw [State.noteRange_get _ (by decide) (by decide) (by decide), State.correctInc_get _ (by decide) (by decide), s.phaseShown_get]
  · rw [State.noteRange_state, State.correctInc_state_acquire _ (s.phaseShown_state.trans h1), State.correctInc_offRange, s.phaseShown_phaseError,
      s.phaseShown_angle]
    grind
  · rw [State.noteRange_state, State.correctInc_state_locked _ (s.phaseShown_state.trans h2), State.correctInc_offRange, s.phaseShown_phaseError,
      s.phaseShown_angle]
    grind

/-- The source is present, with a frequency. -/
def State.presented (s : State) (freq : Nat) : State := (s.put F.ANG_STAT_PRESENT 1).put F.ANG_FREQ freq

/-- The source is present and in range. -/
def State.presentedIn (s : State) (freq : Nat) : State :=
  let u := (s.presented freq).put F.ANG_STAT_INRANGE 1
  u.withAngle { u.angle with offRange := 0 }

section
variable (s : State) {freq : Nat}

theorem State.presented_changes : Changes State.offClock (InPages lockPages) s (s.presented freq) :=
  ((Changes.refl s).put _ (lock_inPages (o := 0xC) (by decide))).put _ (lock_inPages (o := 0x44) (by decide))

theorem State.presentedIn_changes : Changes State.offClock (InPages lockPages) s (s.presentedIn freq) :=
  (s.presented_changes.put _ (lock_inPages (o := 0xC) (by decide))).clockAngle _

theorem State.sourcePresent_in (h : inRange freq = true) : s.sourcePresent freq =
    if (!s.on F.ANG_CTL_SRC) = true ∧ s.on F.ANG_CTL_EN = true ∧ (s.get F.ANG_STAT_STATE = 0 ∨ s.get F.ANG_STAT_STATE = 3) then
      ((s.presentedIn freq).putInc (sourceInc freq)).enterLock 1 else s.presentedIn freq := by
  unfold State.sourcePresent State.presentedIn State.presented State.withAngle
  rw [if_pos h]

theorem State.sourcePresent_out (h : inRange freq = false) : s.sourcePresent freq =
    if (!s.on F.ANG_STAT_PRESENT) = true ∨ s.on F.ANG_STAT_INRANGE = true then (s.presented freq).rangeEvent else s.presented freq := by
  unfold State.sourcePresent State.presented
  rw [if_neg (by simp [h])]

theorem State.presentedIn_get (f : Field) : (s.presentedIn freq).get f = ((s.presented freq).put F.ANG_STAT_INRANGE 1).get f := by
  rw [State.presentedIn, State.withAngle_get]

/-- The registers of a source that is present. -/
def ShowsSource (freq : Nat) (t : State) : Prop := t.get F.ANG_STAT_PRESENT = 1 ∧ t.get F.ANG_FREQ = freq

theorem State.presented_shows (h : freq < 2 ^ 32) : ShowsSource freq (s.presented freq) := by
  refine ⟨?_, State.get_put_freq _ h⟩
  rw [State.presented, State.get_put_addr _ _ _ _ (by decide), State.get_put_same _ _ _ (by decide)]
  rfl

theorem ShowsSource.put_inRange {t : State} (h : ShowsSource freq t) (v : Nat) : ShowsSource freq (t.put F.ANG_STAT_INRANGE v) :=
  ⟨(State.get_put_disjoint _ F.ANG_STAT_INRANGE F.ANG_STAT_PRESENT _ rfl (by decide) (by decide)).trans h.1,
    (State.get_put_addr _ _ _ _ (by decide)).trans h.2⟩

theorem State.presentedIn_shows (h : freq < 2 ^ 32) : ShowsSource freq (s.presentedIn freq) := by
  rw [ShowsSource, s.presentedIn_get, s.presentedIn_get]
  exact (s.presented_shows h).put_inRange 1

theorem State.presentedIn_inRange : (s.presentedIn freq).get F.ANG_STAT_INRANGE = 1 := by
  rw [s.presentedIn_get, State.get_put_same _ _ _ (by decide)]
  rfl

theorem ShowsSource.rangeEvent {t : State} (h : ShowsSource freq t) : ShowsSource freq t.rangeEvent := by
  rw [ShowsSource, t.rangeEvent_get (by decide), t.rangeEvent_get (by decide)]
  exact h.put_inRange 0

/-- A source in range that is used takes the clock to ACQUIRE. -/
def State.acquireSource (freq : Nat) : State := ((s.presentedIn freq).putInc (sourceInc freq)).enterLock 1

theorem State.acquireSource_changes : Changes State.offClock (InPages lockPages) s (s.acquireSource freq) :=
  (s.presentedIn_changes.trans (State.putInc_pages _ _)).trans (State.enterLock_pages _ (by decide))

theorem State.acquireSource_flag {f : Field} (hf : f ∈ statFlags) : (s.acquireSource freq).get f = (s.presentedIn freq).get f := by
  rw [State.acquireSource, State.enterLock_flag _ (by decide) hf, State.putInc_get _ _ (by rw [(statFlags_apart f hf).1]; decide)]

theorem State.acquireSource_shows (h : freq < 2 ^ 32) : ShowsSource freq (s.acquireSource freq) := by
  refine ⟨(s.acquireSource_flag (by decide)).trans (s.presentedIn_shows h).1, ?_⟩
  rw [State.acquireSource, State.enterLock_get _ (by decide) (by decide) (by decide), State.putInc_get _ _ (by decide)]
  exact (s.presentedIn_shows h).2

end

theorem source_presented (s : State) (f : Word) : Claims.sourcePresent s f := by
  have hf : f.toNat < 2 ^ 32 := f.isLt
  unfold Claims.sourcePresent
  rw [exec_sourcePresent]
  cases hr : inRange f.toNat with
  | true =>
    rw [s.sourcePresent_in hr]
    split
    · have hch := s.acquireSource_changes (freq := f.toNat)
      have hs := s.acquireSource_shows hf
      exact completes_next ⟨State.on_of_get hs.1, hs.2, fun _ => State.on_of_get ((s.acquireSource_flag (by decide)).trans s.presentedIn_inRange),
        fun _ _ _ _ => State.enterLock_state _ (by decide), hch.2, hch.clock_frame⟩
    · rename_i hno
      have hch := s.presentedIn_changes (freq := f.toNat)
      have hs := s.presentedIn_shows hf
      exact completes_next ⟨State.on_of_get hs.1, hs.2, fun _ => State.on_of_get s.presentedIn_inRange,
        fun _ hsrc hen hst => absurd ⟨by simp [hsrc], hen, hst⟩ hno, hch.2, hch.clock_frame⟩
  | false =>
    have hsh := s.presented_shows hf
    have hch := s.presented_changes (freq := f.toNat)
    have hev := hch.trans (State.rangeEvent_changes _)
    rw [s.sourcePresent_out hr]
    split
    · exact completes_next ⟨State.on_of_get hsh.rangeEvent.1, hsh.rangeEvent.2, nofun, nofun, hev.2, hev.clock_frame⟩
    · exact completes_next ⟨State.on_of_get hsh.1, hsh.2, nofun, nofun, hch.2, hch.clock_frame⟩

/-- The source is absent. -/
def State.sourceGone (s : State) : State :=
  let u := ((s.put F.ANG_STAT_PRESENT 0).put F.ANG_STAT_INRANGE 0).put F.ANG_FREQ 0
  u.withAngle { u.angle with offRange := 0 }

section
variable (s : State)

theorem execSourceAbsent_eq : execSourceAbsent s = .next s.sourceGone.toHoldover := by
  unfold execSourceAbsent State.sourceGone State.withAngle
  with_reducible rfl

theorem State.sourceGone_changes : Changes State.offClock (InPages lockPages) s s.sourceGone :=
  ((((Changes.refl s).put _ (lock_inPages (o := 0xC) (by decide))).put _ (lock_inPages (o := 0xC) (by decide))).put _
    (lock_inPages (o := 0x44) (by decide))).clockAngle _

theorem State.sourceGone_get (f : Field) : s.sourceGone.get f = (((s.put F.ANG_STAT_PRESENT 0).put F.ANG_STAT_INRANGE 0).put F.ANG_FREQ 0).get f := by
  rw [State.sourceGone, State.withAngle_get]

theorem State.sourceGone_present : s.sourceGone.get F.ANG_STAT_PRESENT = 0 := by
  rw [s.sourceGone_get, State.get_put_addr _ _ _ _ (by decide), State.get_put_disjoint _ F.ANG_STAT_INRANGE F.ANG_STAT_PRESENT _ rfl (by decide) (by decide),
    State.get_put_same _ _ _ (by decide)]
  rfl

theorem State.sourceGone_inRange : s.sourceGone.get F.ANG_STAT_INRANGE = 0 := by
  rw [s.sourceGone_get, State.get_put_addr _ _ _ _ (by decide), State.get_put_same _ _ _ (by decide)]
  rfl

theorem State.sourceGone_freq : s.sourceGone.get F.ANG_FREQ = 0 := by
  rw [s.sourceGone_get, State.get_put_same _ _ _ (by decide)]
  rfl

theorem State.sourceGone_state : s.sourceGone.get F.ANG_STAT_STATE = s.get F.ANG_STAT_STATE := by
  rw [s.sourceGone_get, State.get_put_addr _ _ _ _ (by decide), State.get_put_disjoint _ F.ANG_STAT_INRANGE F.ANG_STAT_STATE _ rfl (by decide) (by decide),
    State.get_put_disjoint _ F.ANG_STAT_PRESENT F.ANG_STAT_STATE _ rfl (by decide) (by decide)]

end

theorem source_absent (s : State) : Claims.sourceAbsent s := by
  unfold Claims.sourceAbsent
  rw [exec_sourceAbsent, execSourceAbsent_eq]
  have hch := s.sourceGone_changes.trans s.sourceGone.toHoldover_changes
  refine completes_next ⟨State.off_of_get ?_, State.off_of_get ?_, ?_, fun h => ?_, hch.2, hch.clock_frame⟩
  · rw [State.toHoldover_flag _ (by decide), s.sourceGone_present]
  · rw [State.toHoldover_flag _ (by decide), s.sourceGone_inRange]
  · rw [State.toHoldover_get _ (by decide) (by decide), s.sourceGone_freq]
  · rw [State.toHoldover_state, s.sourceGone_state, if_pos h]

theorem source_out_of_range (s : State) (f : Word) : Claims.sourceOutOfRange s f := by
  intro hpres hr
  have heq : s.sourceOutOfRange f.toNat = s.noteRange f.toNat := if_pos ⟨hpres, by simp [hr]⟩
  have hch := s.noteRange_changes (freq := f.toNat)
  rw [exec_sourceOutOfRange, heq]
  refine completes_next ⟨s.noteRange_freq f.isLt, s.noteRange_inRange.trans hr, fun hn hst => ?_, hch.2, hch.clock_frame⟩
  rw [s.noteRange_state, if_pos ⟨hr, hn, hst⟩]

theorem holdover_timed_out (s : State) : Claims.holdoverTimeout s := by
  intro h
  have hch := s.enterLock_steady_pages (st := 0) (by decide)
  rw [exec_holdoverTimeout, if_pos h]
  exact completes_next ⟨s.enterLock_state (by decide), s.enterLock_freerun_inc (by rw [h]; decide), hch.2, hch.angle_frame⟩

end Sys2Proof.Machine
end

section
/-!
Proofs about the settings of the angle clock and its reference (R49, R53, R56, R76, R78).
-/

namespace Sys2Proof.Machine

section
variable (s : State)

/-! ### EN and SRC of ANG.CTL -/

/-- FREERUN on the nominal increment of `n`, entered from `s`. -/
def State.freeRun (n : State) : State := (s.enterLock 0).put F.ANG_INC n.nominalInc

theorem State.freeRun_changes (n : State) : Changes State.offAngle (InPages lockPages) s (s.freeRun n) :=
  (s.enterLock_steady_pages (by decide)).put _ (lock_inPages (o := 0x48) (by decide))

theorem State.freeRun_state (n : State) : (s.freeRun n).get F.ANG_STAT_STATE = 0 :=
  ((s.enterLock 0).get_put_addr F.ANG_INC F.ANG_STAT_STATE _ (by decide)).trans (s.enterLock_state (by decide))

theorem State.freeRun_inc (n : State) : (s.freeRun n).get F.ANG_INC = n.nominalInc := n.get_put_nominal _

theorem State.freeRun_ctl (n : State) {f : Field} (h : f.addr = F.ANG_CTL_EN.addr) : (s.freeRun n).get f = s.get f :=
  ((s.enterLock 0).get_put_addr F.ANG_INC f _ (by rw [h]; decide)).trans (s.enterLock_get (by decide) (by rw [h]; decide) (by rw [h]; decide))

/-- The clock with EN set, in FREERUN, its reference good from now on. -/
def State.enabled : State :=
  let u := (((s.put F.ANG_CTL_EN 1).enterLock 0).put F.ANG_INC s.nominalInc).put F.ANG_STAT_REFOK 1
  u.withAngle { u.angle with refSince := u.angle.now }

theorem State.enableAngle_eq (h : s.on F.ANG_CTL_EN = false) : s.enableAngle = s.enabled := by
  unfold State.enableAngle State.enabled State.withAngle
  rw [if_neg (by simp [h])]

theorem State.enabled_get (f : Field) : s.enabled.get f = (((s.put F.ANG_CTL_EN 1).freeRun s).put F.ANG_STAT_REFOK 1).get f := by
  rw [State.enabled, State.withAngle_get, State.freeRun]

theorem State.enabled_changes : Changes State.offAngle (InPages lockPages) s s.enabled :=
  ((((Changes.refl s).put _ (lock_inPages (o := 0x8) (by decide))).trans (State.freeRun_changes _ s)).put _ (lock_inPages (o := 0xC) (by decide))).withAngle _

theorem State.enabled_state : s.enabled.get F.ANG_STAT_STATE = 0 := by
  rw [s.enabled_get, State.get_put_disjoint _ F.ANG_STAT_REFOK F.ANG_STAT_STATE _ rfl (by decide) (by decide), State.freeRun_state]

theorem State.enabled_en : s.enabled.get F.ANG_CTL_EN = 1 := by
  rw [s.enabled_get, State.get_put_addr _ _ _ _ (by decide), State.freeRun_ctl _ _ rfl, State.get_put_same _ _ _ (by decide)]
  rfl

theorem State.enabled_refok : s.enabled.get F.ANG_STAT_REFOK = 1 := by
  rw [s.enabled_get, State.get_put_same _ _ _ (by decide)]
  rfl

theorem State.enabled_inc : s.enabled.get F.ANG_INC = s.nominalInc := by
  rw [s.enabled_get, State.get_put_addr _ _ _ _ (by decide), State.freeRun_inc]

end

theorem angle_clock_enabled (s : State) : Claims.angEnable s := by
  intro h
  rw [exec_angEnable, s.enableAngle_eq h]
  exact completes_next ⟨State.on_of_get s.enabled_en, s.enabled_state, State.on_of_get s.enabled_refok, s.enabled_inc, s.enabled_changes.2,
    s.enabled_changes.angle_frame⟩

theorem State.selectSource_src (s : State) (b : Bool) : (s.put F.ANG_CTL_SRC (b2n b)).on F.ANG_CTL_SRC = b := s.on_put_flag F.ANG_CTL_SRC b rfl (by decide)

theorem angle_source_selected (s : State) (b : Bool) : Claims.angSourceSelect s b := by
  unfold Claims.angSourceSelect
  have hput : Changes State.offAngle (InPages lockPages) s (s.put F.ANG_CTL_SRC (b2n b)) := (Changes.refl s).put _ (lock_inPages (o := 0x8) (by decide))
  rw [exec_angSourceSelect]
  cases b with
  | false => exact completes_next ⟨s.selectSource_src false, nofun, hput.2, hput.angle_frame⟩
  | true =>
    have hch := hput.trans (State.freeRun_changes _ s)
    have hsrc := (State.freeRun_ctl (s.put F.ANG_CTL_SRC (b2n true)) s (f := F.ANG_CTL_SRC) rfl).trans (s.get_put_same F.ANG_CTL_SRC 1 (by decide))
    exact completes_next ⟨State.on_of_get hsrc, fun _ => ⟨State.freeRun_state _ s, State.freeRun_inc _ s⟩, hch.2, hch.angle_frame⟩

/-! ### ANG.CYCLES -/

theorem State.setStaged_frame {s t : State} {d : Domain} {a : Nat} {w : Option Word} (h : t = { s.setStaged d a w with regs := t.regs }) :
    t = { s with regs := t.regs, stages := t.stages } := by
  rw [h]
  rfl

theorem State.unstage_one (s : State) (d : Domain) (a : Nat) : s.unstage d a 1 = s.setStaged d a none := rfl

/-- A committed value of ANG.CYCLES, as R56 takes it. -/
theorem State.commitCycles_up (s : State) (v : Word) (hen : s.on F.ANG_CTL_EN = false) {w : Nat}
    (hv : ((s.staged .legal F.ANG_CYCLES.addr).getD (s.word F.ANG_CYCLES.addr)).toNat + 2 ^ 32 * v.toNat = w) (hw : s.cycles ≤ w) :
    s.commitCycles v.toNat = (s.setStaged .legal F.ANG_CYCLES.addr none).putW F.ANG_CYCLES w := by
  have hcv : s.commitValue .legal F.ANG_CYCLES.addr 2 v.toNat = w := by
    rw [← hv, State.commitValue, State.commitValue, Nat.mod_eq_of_lt v.isLt]
    exact nofun
  unfold State.commitCycles
  dsimp only
  rw [hcv, if_neg (by rw [hen]; simpa using hw), State.unstage_one]

theorem angle_cycles_committed (s : State) (v : Word) : Claims.angCyclesCommit s v := by
  intro hen hw
  have hlt : ((s.staged .legal F.ANG_CYCLES.addr).getD (s.word F.ANG_CYCLES.addr)).toNat + 2 ^ 32 * v.toNat < 2 ^ 64 := by
    have h0 := ((s.staged .legal F.ANG_CYCLES.addr).getD (s.word F.ANG_CYCLES.addr)).isLt
    have h1 := v.isLt
    omega
  rw [exec_angCyclesCommit, s.commitCycles_up v hen rfl hw]
  refine completes_next ⟨?_, ?_, ?_, ?_⟩
  · rw [State.cycles, State.getW_putW_same _ rfl, Nat.mod_eq_of_lt hlt]
  · rw [State.staged, State.putW_frame]
    exact s.staged_setStaged .legal F.ANG_CYCLES.addr none
  · exact State.putW_words (s := s.setStaged .legal F.ANG_CYCLES.addr none) rfl _
  · exact State.setStaged_frame (State.putW_frame _ _ _)

/-! ### A deviation of the reference (R76) -/

/-- REFOK falls, with its interrupt. -/
def State.refokFallen (s : State) : State := if s.on F.ANG_STAT_REFOK then (s.put F.ANG_STAT_REFOK 0).irq Page.ANG 4 else s

section
variable (s : State)

theorem State.logE_angle (p code arg : Nat) : (s.logE p code arg).angle = s.angle := by rw [s.logE_frame]

theorem State.refFall_eq : s.refFall = (s.refokFallen.withAngle { s.refokFallen.angle with refBad := true }).logE Page.ANG (s.angCode 0x85) 0 := by
  unfold State.refFall State.refokFallen State.withAngle
  with_reducible rfl

theorem State.refokFallen_words {e : State → State} : Changes e (· ∈ [F.ANG_STAT_REFOK.addr, Page.ANG + 0x10]) s s.refokFallen :=
  Changes.ite (((Changes.refl s).put (f := F.ANG_STAT_REFOK) _ (by decide)).irq _ (by decide)) (Changes.refl s)

theorem State.refokFallen_changes {e : State → State} : Changes e (InPages [Page.ANG, Page.LDG]) s s.refokFallen :=
  s.refokFallen_words.mono (fun _ => rfl) (by unfold InPages; decide)

theorem State.refFall_changes : Changes State.offAngle (InPages [Page.ANG, Page.LDG]) s s.refFall := by
  rw [s.refFall_eq]
  exact (s.refokFallen_changes.withAngle _).logE_page (by decide) _ _ (by decide)

theorem State.refFall_get {f : Field} (hf : f.addr ∉ logWords Page.ANG) : s.refFall.get f = s.refokFallen.get f := by
  rw [s.refFall_eq, (State.logE_words _ _ _ _).get f hf, State.withAngle_get]

theorem State.refFall_refok : s.refFall.on F.ANG_STAT_REFOK = false := by
  rw [State.on, s.refFall_get (by decide), State.refokFallen]
  split
  · rw [State.irq, State.putBit, State.get_put_addr _ _ _ _ (by decide), State.get_put_same _ _ _ (by decide)]
    rfl
  · exact eq_false_of_ne_true ‹_›

theorem State.refFall_irq (h : s.on F.ANG_STAT_REFOK = true) : s.refFall.getBit (F.IRQ_RAW.on Page.ANG) 4 = true := by
  rw [State.getBit, s.refFall_get (by decide), State.refokFallen, if_pos h]
  exact State.irq_bit _ Page.ANG 4 (by decide)

theorem State.refokFallen_angle : s.refokFallen.angle = s.angle := (s.refokFallen_words (e := id)).kept State.angle fun _ => rfl

theorem State.refFall_angle : s.refFall.angle = { s.angle with refBad := true } := by
  rw [s.refFall_eq, State.logE_angle, State.withAngle_angle, s.refokFallen_angle]

end

theorem reference_deviated (s : State) : Claims.referenceDeviation s := by
  unfold Claims.referenceDeviation
  rw [exec_referenceDeviation]
  exact completes_next ⟨s.refFall_refok, s.refFall_angle, s.refFall_irq, s.refFall_changes.2, s.refFall_changes.angle_frame⟩

theorem angle_clock_disabled (s : State) : Claims.angDisable s := by
  intro h
  have heq : s.disableAngle = (s.put F.ANG_CTL_EN 0).refFall := if_pos h
  have hput : Changes State.offAngle (InPages [Page.ANG, Page.LDG]) s (s.put F.ANG_CTL_EN 0) :=
    (Changes.refl s).put _ (inPages_add (p := Page.ANG) (by decide) (o := 0x8) (by decide))
  have hch := hput.trans (State.refFall_changes _)
  rw [exec_angDisable, heq]
  refine completes_next ⟨?_, State.refFall_refok _, ?_, hch.2, hch.angle_frame⟩
  · rw [State.on, State.refFall_get _ (by decide), (State.refokFallen_words _ (e := id)).get _ (by decide), s.get_put_same _ _ (by decide)]
    rfl
  · rw [State.refFall_angle, State.put_angle]

end Sys2Proof.Machine
end

section
/-!
Proofs about the passing of reference ticks (chapter 2, sections 1, 4 and 5): what the counters of time change, and how the clock runs on while no
alarm fires.
-/

namespace Sys2Proof.Machine

/-! ### Changes that log nothing -/

/-- From `s` to `t` only register words in `W` and what `e` takes out of a state have changed. -/
def Quiet (e : State → State) (W : Nat → Prop) (s t : State) : Prop := Changes e W s t ∧ t.log = s.log

namespace Quiet

variable {e : State → State} {W : Nat → Prop}

theorem refl (s : State) : Quiet e W s s := ⟨Changes.refl s, rfl⟩

theorem trans {s t u : State} (h : Quiet e W s t) (k : Quiet e W t u) : Quiet e W s u := ⟨h.1.trans k.1, k.2.trans h.2⟩

theorem ite {s t u : State} {c : Prop} [Decidable c] (ht : Quiet e W s t) (hu : Quiet e W s u) : Quiet e W s (if c then t else u) := by
  split
  · exact ht
  · exact hu

theorem when {s t : State} (b : Bool) {f : State → State} (h : Quiet e W s t) (hf : Quiet e W t (f t)) : Quiet e W s (t.when b f) :=
  ite (h.trans hf) h

theorem foldl {β : Type} (f : State → β → State) (hf : ∀ t b, Quiet e W t (f t b)) (l : List β) : ∀ s : State, Quiet e W s (l.foldl f s) := by
  induction l with
  | nil => exact refl
  | cons b l ih => exact fun s => (hf s b).trans (ih (f s b))

theorem mono {e' : State → State} {V : Nat → Prop} {s t : State} (h : Quiet e W s t) (he : ∀ u, e' u = e' (e u)) (hW : ∀ a, W a → V a) :
    Quiet e' V s t := ⟨h.1.mono he hW, h.2⟩

section
variable {s t : State} (h : Quiet e W s t)
include h

theorem put {f : Field} (v : Nat) (hf : W f.addr) : Quiet e W s (t.put f v) := ⟨h.1.put v hf, h.2⟩

theorem putW {f : Field} (v : Nat) (hw : f.width = 64) (h0 : W f.addr) (h4 : W (f.addr + 4)) : Quiet e W s (t.putW f v) :=
  ⟨h.1.putW hw v h0 h4, (t.putW_log f v).trans h.2⟩

theorem irq {p : Nat} (i : Nat) (hp : W (p + 0x10)) : Quiet e W s (t.irq p i) := ⟨h.1.irq i hp, h.2⟩
end

end Quiet

/-! ### The general timers and the switch channels over some ticks -/

/-- The words of the general timers. -/
def timerWords : List Nat := (Page.TMR + 0x10) :: (List.finRange 8).flatMap fun n : Fin 8 => [(F.TMR_T_CTL_EN.i n).addr, (F.TMR_T_COUNT.i n).addr]

/-- The words of the switch channels that count time. -/
def switchWords : List Nat :=
  (List.finRange 24).flatMap fun n : Fin 24 => [(F.SW_CH_ST_PAUSELEFT.ij (swX n) (swI n)).addr, (F.SW_CH_CLEAN_MS.ij (swX n) (swI n)).addr]

/-- The words of the other counters of time beside those of the angle clock and the real-time clock. -/
def countWords : List Nat := [F.TMR_US.addr, F.TMR_US.addr + 4, F.TMR_WDG_LEFT_MS.addr, F.BOOT_DEADLINE_MS.addr, F.BOOT_GOODLEFT_S.addr]

/-- All the words of the counters of time beside those of the angle clock and the real-time clock. -/
def counterWords : List Nat := timerWords ++ switchWords ++ countWords

/-- A state with the records of the timers taken out. -/
def State.offTimers (s : State) : State := { s with timers := Vector.replicate 8 {} }

/-- The timers' records take a value. -/
def State.withTimers (s : State) (v : Vector Timer 8) : State := { s with timers := v }

theorem Quiet.withTimers {W : Nat → Prop} {s t : State} (h : Quiet State.offTimers W s t) (v : Vector Timer 8) : Quiet State.offTimers W s (t.withTimers v) :=
  h.trans ⟨⟨rfl, fun _ _ => rfl⟩, rfl⟩

theorem timerCtl_counter (n : Fin 8) : (F.TMR_T_CTL_EN.i n).addr ∈ counterWords := by
  refine List.mem_append_left _ (List.mem_append_left _ (List.mem_cons_of_mem _ (List.mem_flatMap.mpr ⟨n, List.mem_finRange n, ?_⟩)))
  exact List.mem_cons_self ..

theorem timerCount_counter (n : Fin 8) : (F.TMR_T_COUNT.i n).addr ∈ counterWords := by
  refine List.mem_append_left _ (List.mem_append_left _ (List.mem_cons_of_mem _ (List.mem_flatMap.mpr ⟨n, List.mem_finRange n, ?_⟩)))
  exact List.mem_cons_of_mem _ (List.mem_cons_self ..)

theorem timerIrq_counter : Page.TMR + 0x10 ∈ counterWords := List.mem_append_left _ (List.mem_append_left _ (List.mem_cons_self ..))

theorem countWords_counter {a : Nat} (h : a ∈ countWords) : a ∈ counterWords := List.mem_append_right _ h

theorem pauseLeft_counter (n : Fin 24) : (F.SW_CH_ST_PAUSELEFT.ij (swX n) (swI n)).addr ∈ counterWords := by
  refine List.mem_append_left _ (List.mem_append_right _ (List.mem_flatMap.mpr ⟨n, List.mem_finRange n, ?_⟩))
  exact List.mem_cons_self ..

theorem clean_counter (n : Fin 24) : (F.SW_CH_CLEAN_MS.ij (swX n) (swI n)).addr ∈ counterWords := by
  refine List.mem_append_left _ (List.mem_append_right _ (List.mem_flatMap.mpr ⟨n, List.mem_finRange n, ?_⟩))
  exact List.mem_cons_of_mem _ (List.mem_cons_self ..)

/-- From `s` to `t` only counters of time beside the angle clock and the real-time clock have moved on. -/
abbrev Counted (s t : State) : Prop := Quiet State.offTimers (· ∈ counterWords) s t

section
variable (s : State) (n : Fin 8)

theorem State.setFrac_counted (frac : Nat) : Counted s (s.setFrac n frac) := (Quiet.refl s).withTimers _

theorem State.timerIrq_counted : Counted s (s.irq Page.TMR n) := (Quiet.refl s).irq _ timerIrq_counter

theorem State.putCount_counted (v : Nat) : Counted s (s.put (F.TMR_T_COUNT.i n) v) := (Quiet.refl s).put _ (timerCount_counter n)

theorem State.stopTimer_counted : Counted s (s.stopTimer n) := (s.putCount_counted n 0).put _ (timerCtl_counter n)

theorem State.timerAtZero_counted : Counted s (s.timerAtZero n) := by
  have hirq := s.timerIrq_counted n
  unfold State.timerAtZero
  exact Quiet.ite (hirq.trans (State.stopTimer_counted _ n)) ((hirq.trans (State.putCount_counted _ n _)).withTimers _)

theorem State.recountTimer_counted (t : Nat) : Counted s (s.recountTimer n t) := by
  have hfrac (k : Nat) := s.setFrac_counted n k
  have hirq (k : Nat) := (hfrac k).trans (State.timerIrq_counted _ n)
  unfold State.recountTimer
  exact Quiet.ite (hfrac _) (Quiet.ite ((hirq _).trans (State.stopTimer_counted _ n))
    (Quiet.ite ((hfrac _).trans (State.putCount_counted _ n _)) ((hirq _).trans (State.putCount_counted _ n _))))

theorem State.advanceTimer_counted (t : Nat) : Counted s (s.advanceTimer n t) := by
  have hzero (k : Nat) := (s.setFrac_counted n k).trans (State.timerAtZero_counted _ n)
  unfold State.advanceTimer
  exact Quiet.ite (Quiet.ite ((s.putCount_counted n _).trans (State.setFrac_counted _ n _))
    (Quiet.ite ((hzero _).trans (State.recountTimer_counted _ n _)) (hzero _))) (Quiet.refl s)

theorem State.advanceSwitch_counted (ms : Nat) (n : Fin 24) : Counted s (s.advanceSwitch ms n) := by
  unfold State.advanceSwitch
  exact ((Quiet.refl s).when _ ((Quiet.refl s).put _ (pauseLeft_counter n))).when _ ((Quiet.refl _).put _ (clean_counter n))

theorem State.subTo0_counted {f : Field} (k : Nat) (hf : f.addr ∈ countWords) : Counted s (s.subTo0 f k) := (Quiet.refl s).put _ (countWords_counter hf)

end

/-! ### The counters of time over some ticks -/

section
variable (s : State) (n : Nat)

/-- The tick counter moves on, and the channels of a reference deviation may settle (R76). -/
def State.nowPassed : State := s.withAngle { s.angle with
  now := s.angle.now + n
  refBad := s.angle.refBad && !(s.on F.ANG_STAT_REFOK && decide (s.angle.refSince + 16384000 ≤ s.angle.now + n)) }

theorem State.us_counted (b : Bool) (v : Nat) : Counted s (s.when b (·.putW F.TMR_US v)) :=
  (Quiet.refl s).when b ((Quiet.refl s).putW v rfl (countWords_counter (by decide)) (countWords_counter (by decide)))

theorem State.advanceTime_counted : Counted ((s.nowPassed n).advanceUtc n) (s.advanceTime n) := by
  have hsub {u : State} {f : Field} (b : Bool) (k : Nat) (hf : f.addr ∈ countWords) : Counted u (u.when b (·.subTo0 f k)) :=
    (Quiet.refl u).when b (u.subTo0_counted k hf)
  unfold State.advanceTime
  exact (((((State.us_counted _ _ _).trans (Quiet.foldl _ (fun u i => u.advanceTimer_counted i n) _ _)).trans (hsub _ _ (by decide))).trans
    (hsub _ _ (by decide))).when _ (Quiet.foldl _ (fun u i => u.advanceSwitch_counted _ i) _ _)).trans (hsub _ _ (by decide))

/-! The real-time clock. -/

/-- The ticks of a slew among `n` ticks. -/
def State.slewedTicks : Nat := if s.on F.RTC_STAT_SLEWING then min n s.slewTicks else 0

/-- The slew that is left after `n` ticks. -/
def State.slewLeft : Int :=
  let left := toSigned 32 (s.get F.RTC_SLEWLEFT)
  let g := s.angle.slewFrac + s.slewedTicks n
  if left < 0 then min 0 (left + (g / 1638400 : Nat)) else max 0 (left - (g / 1638400 : Nat))

/-- The part of a millisecond, in 1/100 tick, after `n` ticks, whole milliseconds included. -/
def State.utcParts : Nat :=
  s.angle.utcFrac + 100 * n + (if toSigned 32 (s.get F.RTC_SLEWLEFT) < 0 then 0 else s.slewedTicks n)
    - (if toSigned 32 (s.get F.RTC_SLEWLEFT) < 0 then s.slewedTicks n else 0)

/-- The registers of the real-time clock after `n` ticks. -/
def State.utcPassed : State :=
  (s.putW F.RTC_UTC (s.utc + s.utcParts n / 1638400)).when (s.on F.RTC_STAT_SLEWING) fun u =>
    (u.put F.RTC_SLEWLEFT (ofSigned 32 (s.slewLeft n))).put F.RTC_STAT_SLEWING (b2n (s.slewLeft n != 0))

/-- The part of a millisecond of the slew, in 1/100 tick, after `n` ticks. -/
def State.slewPart : Nat := if s.on F.RTC_STAT_SLEWING ∧ s.slewLeft n ≠ 0 then (s.angle.slewFrac + s.slewedTicks n) % 1638400 else 0

theorem State.advanceUtc_eq : s.advanceUtc n =
    (s.utcPassed n).withAngle { (s.utcPassed n).angle with utcFrac := s.utcParts n % 1638400, slewFrac := s.slewPart n } := by
  unfold State.advanceUtc State.utcPassed State.utcParts State.slewPart State.slewLeft State.slewedTicks State.withAngle
  with_reducible rfl

/-- The words of the real-time clock that count. -/
def rtcCountWords : List Nat := [F.RTC_UTC.addr, F.RTC_UTC.addr + 4, F.RTC_SLEWLEFT.addr, F.RTC_STAT_SLEWING.addr]

theorem State.utcPassed_quiet {e : State → State} : Quiet e (· ∈ rtcCountWords) s (s.utcPassed n) := by
  unfold State.utcPassed
  exact ((Quiet.refl s).putW _ rfl (by decide) (by decide)).when _ (((Quiet.refl _).put _ (by decide)).put _ (by decide))

/-! ### The phase over some ticks (R47, R48) -/

/-- The phase accumulator after `n` ticks, not cut to its width. -/
def State.phaseSum : Nat := s.angle.phase + s.get F.ANG_INC * n

/-- The phase moves on without a carry. -/
theorem State.advancePhase_held (h : s.on F.ANG_CTL_EN = false) : s.advancePhase n = s := by
  unfold State.advancePhase
  rw [if_neg (by simp [h])]

theorem State.advancePhase_within (h : s.on F.ANG_CTL_EN = true) (hc : s.phaseSum n / 2 ^ 48 = 0) :
    s.advancePhase n = s.withAngle { s.angle with phase := s.phaseSum n % 2 ^ 48 } := by
  unfold State.phaseSum at hc
  unfold State.advancePhase
  rw [if_pos h, if_pos hc]
  rfl

/-- The phase moves on over one carry or more: what it then notes beside the phase and the cycles. -/
theorem State.advancePhase_carried (h : s.on F.ANG_CTL_EN = true) (hc : s.phaseSum n / 2 ^ 48 ≠ 0) : ∃ incs carry len, s.advancePhase n =
    (s.putW F.ANG_CYCLES (s.cycles + s.phaseSum n / 2 ^ 48)).withAngle
      { s.angle with phase := s.phaseSum n % 2 ^ 48, lastIncs := incs, carry := carry, cycleLen := len } := by
  unfold State.phaseSum at hc
  unfold State.advancePhase
  rw [if_pos h, if_neg hc]
  exact ⟨_, _, _, rfl⟩

/-! ### What `n` ticks change -/

/-- A state with the records of the angle clock and the timers taken out. -/
def State.offTime (s : State) : State := { s with angle := {}, timers := Vector.replicate 8 {} }

/-- The words of the counters of time. -/
def timeWords : List Nat := rtcCountWords ++ ([F.ANG_CYCLES.addr, F.ANG_CYCLES.addr + 4] ++ counterWords)

/-- From `s` to `t` only time has passed. -/
abbrev Passed (s t : State) : Prop := Quiet State.offTime (· ∈ timeWords) s t

theorem counterWords_time {a : Nat} (h : a ∈ counterWords) : a ∈ timeWords := List.mem_append_right _ (List.mem_append_right _ h)

theorem cyclesWords_time {a : Nat} (h : a ∈ [F.ANG_CYCLES.addr, F.ANG_CYCLES.addr + 4]) : a ∈ timeWords :=
  List.mem_append_right _ (List.mem_append_left _ h)

theorem Quiet.passedAngle {W : Nat → Prop} {s t : State} (h : Quiet State.offTime W s t) (c : AngleClock) : Quiet State.offTime W s (t.withAngle c) :=
  h.trans ⟨⟨rfl, fun _ _ => rfl⟩, rfl⟩

theorem State.advanceUtc_passed : Passed s (s.advanceUtc n) := by
  rw [s.advanceUtc_eq n]
  exact ((s.utcPassed_quiet n).mono (fun _ => rfl) fun _ h => List.mem_append_left _ h).passedAngle _

theorem State.advanceTime_passed : Passed s (s.advanceTime n) :=
  (((Quiet.refl s).passedAngle _).trans (State.advanceUtc_passed _ n)).trans ((s.advanceTime_counted n).mono (fun _ => rfl) fun _ => counterWords_time)

theorem State.advancePhase_passed : Quiet State.offTime (· ∈ [F.ANG_CYCLES.addr, F.ANG_CYCLES.addr + 4]) s (s.advancePhase n) := by
  cases h : s.on F.ANG_CTL_EN with
  | false =>
    rw [s.advancePhase_held n h]
    exact Quiet.refl s
  | true =>
    by_cases hc : s.phaseSum n / 2 ^ 48 = 0
    · rw [s.advancePhase_within n h hc]
      exact (Quiet.refl s).passedAngle _
    · obtain ⟨_, _, _, heq⟩ := s.advancePhase_carried n h hc
      rw [heq]
      exact ((Quiet.refl s).putW _ rfl (by decide) (by decide)).passedAngle _

theorem State.advance_passed : Passed s (s.advance n) :=
  (s.advanceTime_passed n).trans ((State.advancePhase_passed _ n).mono (fun _ => rfl) fun _ => cyclesWords_time)

/-- The pages of the counters of time. -/
abbrev timePages : List Nat := [Page.ANG, Page.TMR, Page.RTC, Page.BOOT, Page.SW 0, Page.SW 1]

theorem timeWords_inPages : ∀ a ∈ timeWords, InPages timePages a := by
  unfold InPages
  decide

theorem Quiet.passed_frame {W : Nat → Prop} {t : State} (h : Quiet State.offTime W s t) : t = { s with regs := t.regs, angle := t.angle, timers := t.timers } := by
  have h2 : ∀ u : State, u = { u.rest.offTime with regs := u.regs, angle := u.angle, timers := u.timers, log := u.log } := fun _ => rfl
  have h3 := h2 t
  rw [h.1.1, h.2] at h3
  exact h3

/-! The words of the alarms are none of those. -/

theorem timeWords_notAlarm : ∀ a ∈ timeWords, a < 0x40001400 ∨ (0x40001500 ≤ a ∧ a < 0x40002400) ∨ 0x40002700 ≤ a := by
  decide

/-! ### The clock of angles after `n` ticks -/

theorem State.advanceTime_angle : (s.advanceTime n).angle =
    { (s.nowPassed n).angle with utcFrac := (s.nowPassed n).utcParts n % 1638400, slewFrac := (s.nowPassed n).slewPart n } := by
  rw [(s.advanceTime_counted n).1.kept State.angle fun _ => rfl, State.advanceUtc_eq, State.withAngle_angle,
    ((s.nowPassed n).utcPassed_quiet n (e := id)).1.kept State.angle fun _ => rfl]

theorem State.advancePhase_angle : (s.advancePhase n).angle.now = s.angle.now ∧ (s.advancePhase n).angle.refBad = s.angle.refBad
    ∧ (s.advancePhase n).angle.refSince = s.angle.refSince := by
  cases h : s.on F.ANG_CTL_EN with
  | false =>
    rw [s.advancePhase_held n h]
    exact ⟨rfl, rfl, rfl⟩
  | true =>
    by_cases hc : s.phaseSum n / 2 ^ 48 = 0
    · rw [s.advancePhase_within n h hc, State.withAngle_angle]
      exact ⟨rfl, rfl, rfl⟩
    · obtain ⟨_, _, _, heq⟩ := s.advancePhase_carried n h hc
      rw [heq, State.withAngle_angle]
      exact ⟨rfl, rfl, rfl⟩

end

/-! ### The alarms while time passes -/

/-- Every word of an alarm lies in the alarm area of its page. -/
theorem almField_addr {n : Nat} (hn : n < 64) {a t : Field} {o : Nat} (ho : o < 0x10) (ha : a.addr = 0x40001400 + o ∧ a.stride = 0x10)
    (ht : t.addr = 0x40002400 + o ∧ t.stride = 0x10) :
    (0x40001400 ≤ (almField n a t).addr ∧ (almField n a t).addr < 0x40001500) ∨ (0x40002400 ≤ (almField n a t).addr ∧ (almField n a t).addr < 0x40002700) := by
  unfold almField Field.i
  split
  · dsimp only
    rw [ha.1, ha.2]
    omega
  · dsimp only
    rw [ht.1, ht.2]
    omega

section
variable {s t : State} (h : Passed s t) {k : Nat} (hk : k < 64)
include h hk

theorem Quiet.almWord {a b : Field} {o : Nat} (ho : o < 0x10) (ha : a.addr = 0x40001400 + o ∧ a.stride = 0x10)
    (hb : b.addr = 0x40002400 + o ∧ b.stride = 0x10) : t.word (almField k a b).addr = s.word (almField k a b).addr := by
  refine h.1.2 _ fun hm => ?_
  have h1 := timeWords_notAlarm _ hm
  have h2 := almField_addr hk ho ha hb
  omega

theorem Quiet.almGet {a b : Field} {o : Nat} (ho : o < 0x10) (ha : a.addr = 0x40001400 + o ∧ a.stride = 0x10)
    (hb : b.addr = 0x40002400 + o ∧ b.stride = 0x10) : t.get (almField k a b) = s.get (almField k a b) := by
  rw [State.get, h.almWord hk ho ha hb, State.get]

theorem Quiet.almArm : t.on (almArm k) = s.on (almArm k) :=
  congrArg (· == 1) (h.almGet hk (o := 0) (by decide) ⟨rfl, rfl⟩ ⟨rfl, rfl⟩)

theorem Quiet.almAt : t.almAt k = s.almAt k := by
  have h0 := h.almWord hk (a := F.ANG_ALM_TARGET) (b := F.TMR_ALM_TARGET) (o := 8) (by decide) ⟨rfl, rfl⟩ ⟨rfl, rfl⟩
  have h4 := h.almWord hk (a := { F.ANG_ALM_TARGET with addr := 0x4000140C }) (b := { F.TMR_ALM_TARGET with addr := 0x4000240C }) (o := 12) (by decide)
    ⟨rfl, rfl⟩ ⟨rfl, rfl⟩
  have hw : (almTarget k).width = 64 := by
    unfold almTarget almField
    split <;> rfl
  have h8 : (almField k { F.ANG_ALM_TARGET with addr := 0x4000140C } { F.TMR_ALM_TARGET with addr := 0x4000240C }).addr = (almTarget k).addr + 4 := by
    unfold almTarget almField Field.i
    split
    · dsimp only [F.ANG_ALM_TARGET]; omega
    · dsimp only [F.TMR_ALM_TARGET]; omega
  rw [h8] at h4
  rw [State.almAt, State.almAt, getW_congr hw h0 h4, almAngle, h.almGet hk (o := 4) (by decide) ⟨rfl, rfl⟩ ⟨rfl, rfl⟩]

end

/-! ### The clock runs on while no alarm fires -/

section
variable (s : State) {n : Nat}

theorem State.nextFiring_none (h : ∀ k < 64, s.on (almArm k) = true → (s.angleRuns || decide (s.almAt k ≤ s.phaseNow)) = true → n ≤ s.almWait k) :
    s.nextFiring n = n := by
  have hfold : ∀ l : List Nat, (∀ k ∈ l, k < 64) → l.foldl (fun m k =>
      if (s.on (almArm k) && (s.angleRuns || decide (s.almAt k ≤ s.phaseNow))) = true then min m (s.almWait k) else m) n = n := by
    intro l
    induction l with
    | nil => exact fun _ => rfl
    | cons k l ih =>
      intro hl
      have hstep : (if (s.on (almArm k) && (s.angleRuns || decide (s.almAt k ≤ s.phaseNow))) = true then min n (s.almWait k) else n) = n := by
        split
        · rename_i hc
          obtain ⟨harm, hruns⟩ := Bool.and_eq_true_iff.mp hc
          exact Nat.min_eq_left (h k (hl k (List.mem_cons_self ..)) harm hruns)
        · rfl
      rw [List.foldl_cons, hstep]
      exact ih fun j hj => hl j (List.mem_cons_of_mem _ hj)
  exact hfold _ fun _ => List.mem_range.mp

theorem State.fireDue_none (h : ∀ k < 64, s.almDue k = false) : s.fireDue = s := by
  have hdue : (List.range 64).filter s.almDue = [] := by
    rw [List.filter_eq_nil_iff]
    exact fun k hk => by simp [h k (List.mem_range.mp hk)]
  unfold State.fireDue
  rw [hdue]
  exact if_pos rfl

theorem State.runFor_zero (fuel : Nat) : s.runFor fuel 0 = s := by
  cases fuel with
  | zero => rfl
  | succ fuel => rfl

theorem State.run_quiet (hpos : 0 < n) (hnext : s.nextFiring n = n) (hdue : ∀ k < 64, (s.advance n).almDue k = false) : s.run n = s.advance n := by
  obtain ⟨m, rfl⟩ : ∃ m, n = m + 1 := ⟨n - 1, by omega⟩
  rw [State.run, State.runFor, if_neg (by omega), hnext, State.fireDue_none _ hdue, Nat.sub_self, State.runFor_zero]

/-- With no alarm armed the clock runs on undisturbed. -/
theorem State.run_unarmed (hpos : 0 < n) (harm : ∀ k : Fin 64, s.on (almArm k.val) = false) : s.run n = s.advance n := by
  refine s.run_quiet hpos (s.nextFiring_none fun k hk hon => ?_) fun k hk => ?_
  · exact absurd (hon.symm.trans (harm ⟨k, hk⟩)) nofun
  · rw [State.almDue, (s.advance_passed n).almArm hk, harm ⟨k, hk⟩, Bool.false_and]

end

end Sys2Proof.Machine
end

section
/-!
Proofs about the instants to which the clock runs on by itself: the end of a cycle (R48), the end of a slew (R73) and the settling of the reference
(R76).
-/

namespace Sys2Proof.Machine

section
variable (s : State)
theorem exec_cycleEnd : exec .cycleEnd s = .next (if s.angleRuns then s.run (s.ticksTo (2 ^ 48 - s.angle.phase)) else s) := rfl
theorem exec_rtcSlewEnd : exec .rtcSlewEnd s = .next (if s.on F.RTC_STAT_SLEWING then s.run s.slewTicks else s) := rfl
theorem exec_referenceRecovered : exec .referenceRecovered s = .next s.recoverRef := rfl

variable (n : Nat)

/-! ### What `n` ticks do -/

theorem State.advanceTime_phase : (s.advanceTime n).angle.phase = s.angle.phase := by rw [s.advanceTime_angle]; rfl

theorem State.advanceTime_cycles : (s.advanceTime n).cycles = s.cycles := by
  have hutc := ((s.nowPassed n).utcPassed_quiet n (e := id)).1
  have hadv : ((s.nowPassed n).advanceUtc n).cycles = s.cycles := by
    rw [State.advanceUtc_eq]
    exact hutc.getW (f := F.ANG_CYCLES) rfl (by decide) (by decide)
  exact ((s.advanceTime_counted n).1.getW (f := F.ANG_CYCLES) rfl (by decide) (by decide)).trans hadv

theorem State.advanceTime_get {f : Field} (hf : f.addr ∉ timeWords) : (s.advanceTime n).get f = s.get f := (s.advanceTime_passed n).1.get f hf

theorem State.advance_now : (s.advance n).angle.now = s.angle.now + n := by
  rw [State.advance, (State.advancePhase_angle _ n).1, s.advanceTime_angle]
  rfl

/-! ### The end of a cycle -/

theorem State.withAngle_cycles (c : AngleClock) : (s.withAngle c).cycles = s.cycles := rfl

variable {n}

/-- One carry in `n` ticks. -/
theorem State.advance_carry (hen : s.on F.ANG_CTL_EN = true) (hc : (s.angle.phase + s.get F.ANG_INC * n) / 2 ^ 48 = 1) :
    (s.advance n).cycles = (s.cycles + 1) % 2 ^ 64 ∧ (s.advance n).angle.phase = (s.angle.phase + s.get F.ANG_INC * n) % 2 ^ 48 := by
  have hsum : (s.advanceTime n).phaseSum n = s.angle.phase + s.get F.ANG_INC * n := by
    rw [State.phaseSum, s.advanceTime_phase, s.advanceTime_get n (by decide)]
  have hen' : (s.advanceTime n).on F.ANG_CTL_EN = true := (congrArg (· == 1) (s.advanceTime_get n (by decide))).trans hen
  obtain ⟨_, _, _, heq⟩ := (s.advanceTime n).advancePhase_carried n hen' (by rw [hsum, hc]; decide)
  rw [State.advance, heq, State.withAngle_angle, hsum, hc, s.advanceTime_cycles]
  exact ⟨(State.withAngle_cycles _ _).trans (State.getW_putW_same _ rfl _), rfl⟩

theorem State.ticksTo_mono {d e : Nat} (h : d ≤ e) : s.ticksTo d ≤ s.ticksTo e := Nat.div_le_div_right (by omega)

/-- The ticks to the end of the cycle bring one carry, and less than an increment more. -/
theorem State.cycle_ticks (hinc : s.get F.ANG_INC ≠ 0) (hph : s.angle.phase < 2 ^ 48) : ∃ r < s.get F.ANG_INC,
    s.angle.phase + s.get F.ANG_INC * s.ticksTo (2 ^ 48 - s.angle.phase) = 2 ^ 48 + r ∧ 0 < s.ticksTo (2 ^ 48 - s.angle.phase) := by
  have hmax : max (s.get F.ANG_INC) 1 = s.get F.ANG_INC := Nat.max_eq_left (by omega)
  have hdiv := Nat.div_add_mod (2 ^ 48 - s.angle.phase + s.get F.ANG_INC - 1) (s.get F.ANG_INC)
  have hrem := Nat.mod_lt (2 ^ 48 - s.angle.phase + s.get F.ANG_INC - 1) (by omega : 0 < s.get F.ANG_INC)
  rw [State.ticksTo, hmax]
  exact ⟨s.get F.ANG_INC - 1 - (2 ^ 48 - s.angle.phase + s.get F.ANG_INC - 1) % s.get F.ANG_INC, by omega, by omega, Nat.div_pos (by omega) (by omega)⟩

end

theorem cycle_ended (s : State) : Claims.cycleEnd s := by
  intro hen hinc hph halm
  obtain ⟨r, hr, hsum, hpos⟩ := s.cycle_ticks hinc hph
  have hlt : s.get F.ANG_INC < 2 ^ 32 := bits_lt _ _ _
  have hruns : s.angleRuns = true := by simp [State.angleRuns, hen, hinc]
  have hone : (2 ^ 48 + r) / 2 ^ 48 = 1 := by omega
  have hmod : (2 ^ 48 + r) % 2 ^ 48 = r := by omega
  obtain ⟨hcyc, hphase⟩ := s.advance_carry hen (by rw [hsum, hone])
  rw [hsum, hmod] at hphase
  have hch := s.advance_passed (s.ticksTo (2 ^ 48 - s.angle.phase))
  have hrun : s.run (s.ticksTo (2 ^ 48 - s.angle.phase)) = s.advance (s.ticksTo (2 ^ 48 - s.angle.phase)) := by
    refine s.run_quiet hpos (s.nextFiring_none fun k hk harm _ => ?_) fun k hk => ?_
    · have h := halm ⟨k, hk⟩ harm
      refine le_trans (s.ticksTo_mono ?_) (Nat.le_max_right _ _)
      unfold State.phaseNow
      dsimp only at h
      omega
    · rw [State.almDue, hch.almArm hk, hch.almAt hk, State.phaseNow, hcyc, hphase]
      cases harm : s.on (almArm k) with
      | false => rfl
      | true =>
        have h := halm ⟨k, hk⟩ harm
        have hle := Nat.mod_le (s.cycles + 1) (2 ^ 64)
        dsimp only at h
        simp only [Bool.true_and, decide_eq_false_iff_not]
        omega
  rw [exec_cycleEnd, if_pos hruns, hrun]
  exact completes_next ⟨hcyc, by rw [hphase]; exact hr, s.advance_now _, fun a ha => hch.1.2 a fun hm => ha (timeWords_inPages a hm), hch.passed_frame⟩

/-- Settles O7, the claims on the angle clock's source, its lock and its settings, and on the end of a cycle. -/
theorem angleClockLock : Obligations.AngleClockLock :=
  ⟨cycle_ended, zero_crossing_compared, source_presented, source_absent, source_out_of_range, holdover_timed_out, angle_clock_enabled,
    angle_clock_disabled, angle_source_selected, angle_cycles_committed⟩

end Sys2Proof.Machine
end

section
/-!
Proofs about the end of a slew (R73) and the recovery of the reference (R76).
-/

namespace Sys2Proof.Machine

section
variable (s : State) {n : Nat}

theorem Quiet.timePages {s t : State} (h : Passed s t) : RegsIn timePages s t := fun a ha => h.1.2 a fun hm => ha (timeWords_inPages a hm)

/-! ### The end of a slew -/

theorem State.nowPassed_on (f : Field) : (s.nowPassed n).on f = s.on f := rfl

theorem State.nowPassed_utc : (s.nowPassed n).utc = s.utc := getW_congr rfl rfl rfl

theorem State.slewLeft_nowPassed (k n : Nat) : (s.nowPassed k).slewLeft n = s.slewLeft n := rfl

theorem State.utcParts_nowPassed (k n : Nat) : (s.nowPassed k).utcParts n = s.utcParts n := rfl

/-- A word of the real-time clock after `n` ticks. -/
theorem State.advance_rtc {a : Nat} (h : a ∈ rtcCountWords) : (s.advance n).word a = ((s.nowPassed n).utcPassed n).word a := by
  have hapart : ∀ a ∈ rtcCountWords, a ∉ counterWords ∧ a ∉ [F.ANG_CYCLES.addr, F.ANG_CYCLES.addr + 4] := by decide
  obtain ⟨h1, h2⟩ := hapart a h
  rw [State.advance, ((s.advanceTime n).advancePhase_passed n).1.2 a h2, (s.advanceTime_counted n).1.2 a h1, State.advanceUtc_eq, State.withAngle_word]

/-- In the ticks of a slew it uses up its Δ. -/
theorem State.slew_used (hon : s.on F.RTC_STAT_SLEWING = true) (hne : toSigned 32 (s.get F.RTC_SLEWLEFT) ≠ 0) (hf : s.angle.slewFrac < 1638400) :
    s.slewedTicks s.slewTicks = s.slewTicks ∧ s.slewLeft s.slewTicks = 0 ∧ 0 < s.slewTicks := by
  have hk : s.slewedTicks s.slewTicks = s.slewTicks := by rw [State.slewedTicks, if_pos hon, Nat.min_self]
  have hsum : s.angle.slewFrac + s.slewTicks = (toSigned 32 (s.get F.RTC_SLEWLEFT)).natAbs * 1638400 := by
    unfold State.slewTicks
    omega
  refine ⟨hk, ?_, by omega⟩
  unfold State.slewLeft
  dsimp only
  rw [hk, hsum, Nat.mul_div_cancel _ (by decide)]
  split <;> omega

/-- R73: the clock is 1 % slow or fast while it slews. -/
theorem State.utcParts_slew (hon : s.on F.RTC_STAT_SLEWING = true) : s.utcParts s.slewTicks =
    s.angle.utcFrac + (if toSigned 32 (s.get F.RTC_SLEWLEFT) < 0 then 99 else 101) * s.slewTicks := by
  have hk : s.slewedTicks s.slewTicks = s.slewTicks := by rw [State.slewedTicks, if_pos hon, Nat.min_self]
  unfold State.utcParts
  rw [hk]
  split <;> omega

/-- The registers of the clock at the end of a slew. -/
theorem State.utcPassed_slewed (hon : s.on F.RTC_STAT_SLEWING = true) (hleft : s.slewLeft n = 0) :
    (s.utcPassed n).utc = (s.utc + s.utcParts n / 1638400) % 2 ^ 64 ∧ (s.utcPassed n).get F.RTC_SLEWLEFT = 0
      ∧ (s.utcPassed n).get F.RTC_STAT_SLEWING = 0 := by
  have heq : s.utcPassed n = ((s.putW F.RTC_UTC (s.utc + s.utcParts n / 1638400)).put F.RTC_SLEWLEFT (ofSigned 32 (s.slewLeft n))).put
      F.RTC_STAT_SLEWING (b2n (s.slewLeft n != 0)) := by
    rw [State.utcPassed, hon]
    rfl
  have hw : ∀ u : State, ∀ v k : Nat, ((u.put F.RTC_SLEWLEFT v).put F.RTC_STAT_SLEWING k).utc = u.utc := fun u v k =>
    (((Quiet.refl (e := id) (W := (· ∈ [F.RTC_SLEWLEFT.addr, F.RTC_STAT_SLEWING.addr])) u).put v (by decide)).put k (by decide)).1.getW rfl (by decide) (by decide)
  rw [heq, hleft]
  refine ⟨(hw _ _ _).trans (State.getW_putW_same _ rfl _), ?_, ?_⟩
  · rw [State.get_put_addr _ _ _ _ (by decide), State.get_put_same _ _ _ (by decide)]
    rfl
  · rw [State.get_put_same _ _ _ (by decide)]
    rfl

theorem State.advance_rtc_get {f : Field} (h : f.addr ∈ rtcCountWords) : (s.advance n).get f = ((s.nowPassed n).utcPassed n).get f := by
  rw [State.get, s.advance_rtc h, State.get]

theorem State.advance_utc : (s.advance n).utc = ((s.nowPassed n).utcPassed n).utc := getW_congr rfl (s.advance_rtc (by decide)) (s.advance_rtc (by decide))

/-- A slew that runs to its end. -/
theorem State.advance_slewed (hon : s.on F.RTC_STAT_SLEWING = true) (hne : toSigned 32 (s.get F.RTC_SLEWLEFT) ≠ 0) (hf : s.angle.slewFrac < 1638400) :
    (s.advance s.slewTicks).utc =
        (s.utc + (s.angle.utcFrac + (if toSigned 32 (s.get F.RTC_SLEWLEFT) < 0 then 99 else 101) * s.slewTicks) / 1638400) % 2 ^ 64
      ∧ (s.advance s.slewTicks).get F.RTC_SLEWLEFT = 0 ∧ (s.advance s.slewTicks).get F.RTC_STAT_SLEWING = 0 := by
  have hleft := (s.slewLeft_nowPassed s.slewTicks s.slewTicks).trans (s.slew_used hon hne hf).2.1
  obtain ⟨hutc, hl, hs⟩ := (s.nowPassed s.slewTicks).utcPassed_slewed ((s.nowPassed_on _).trans hon) hleft
  rw [s.utcParts_nowPassed, s.nowPassed_utc, s.utcParts_slew hon] at hutc
  rw [s.advance_utc, s.advance_rtc_get (by decide), s.advance_rtc_get (by decide)]
  exact ⟨hutc, hl, hs⟩

end

theorem slew_ended (s : State) : Claims.rtcSlewEnd s := by
  intro hon hne hf harm
  obtain ⟨hutc, hleft, hslew⟩ := s.advance_slewed hon hne hf
  have hch := s.advance_passed s.slewTicks
  rw [exec_rtcSlewEnd, if_pos hon, s.run_unarmed (s.slew_used hon hne hf).2.2 harm]
  exact completes_next ⟨hutc, hleft, State.off_of_get hslew, s.advance_now _, hch.timePages, hch.passed_frame⟩

/-! ### The recovery of the reference -/

theorem State.withAngle_frame {s t : State} {c : AngleClock} (h : t = { s with regs := t.regs }) :
    t.withAngle c = { s with regs := (t.withAngle c).regs, angle := (t.withAngle c).angle } := by
  rw [h]
  rfl

/-- REFOK has risen. -/
def State.refRisen (s : State) : State := (s.put F.ANG_STAT_REFOK 1).withAngle { (s.put F.ANG_STAT_REFOK 1).angle with refSince := (s.put F.ANG_STAT_REFOK 1).angle.now }

section
variable (s : State)

theorem State.recoverRef_risen (hen : s.on F.ANG_CTL_EN = true) (hoff : s.on F.ANG_STAT_REFOK = false) : s.recoverRef = s.refRisen := by
  unfold State.recoverRef State.refRisen State.withAngle
  rw [if_neg (by simp [hen]), if_pos (by simp [hoff])]

theorem State.recoverRef_settled (hen : s.on F.ANG_CTL_EN = true) (hon : s.on F.ANG_STAT_REFOK = true) (hbad : s.angle.refBad = true) :
    s.recoverRef = s.run (max 1 (s.angle.refSince + 16384000 - s.angle.now)) := by
  unfold State.recoverRef
  rw [if_neg (by simp [hen]), if_neg (by simp [hon]), if_pos hbad]

theorem State.refRisen_quiet : Quiet State.offTime (· ∈ [F.ANG_STAT_REFOK.addr]) s s.refRisen :=
  ((Quiet.refl s).put _ (List.mem_cons_self ..)).passedAngle _

theorem State.advance_refBad (n : Nat) : (s.advance n).angle.refBad =
    (s.angle.refBad && !(s.on F.ANG_STAT_REFOK && decide (s.angle.refSince + 16384000 ≤ s.angle.now + n))) := by
  rw [State.advance, (State.advancePhase_angle _ n).2.1, s.advanceTime_angle]
  rfl

theorem State.advance_refSince (n : Nat) : (s.advance n).angle.refSince = s.angle.refSince := by
  rw [State.advance, (State.advancePhase_angle _ n).2.2, s.advanceTime_angle]
  rfl

end

theorem reference_recovered (s : State) : Claims.referenceRecovered s := by
  intro hen
  refine ⟨fun hoff => ?_, fun hon hbad harm => ?_⟩
  · rw [exec_referenceRecovered, s.recoverRef_risen hen hoff]
    refine completes_next ⟨State.on_of_get ?_, ?_, s.refRisen_quiet.1.2, ?_⟩
    · rw [State.refRisen, State.withAngle_get, s.get_put_same _ _ (by decide)]
      rfl
    · rw [State.refRisen, State.withAngle_angle, State.put_angle]
    · exact State.withAngle_frame (State.put_frame _ _ _)
  · have hch := s.advance_passed (max 1 (s.angle.refSince + 16384000 - s.angle.now))
    rw [exec_referenceRecovered, s.recoverRef_settled hen hon hbad, s.run_unarmed (by omega) harm]
    refine completes_next ⟨?_, ?_, ?_, hch.timePages, hch.passed_frame⟩
    · rw [State.on, hch.1.get _ (by decide)]
      exact hon
    · rw [s.advance_refBad, hon, hbad, decide_eq_true (by omega)]
      rfl
    · rw [s.advance_refSince, s.advance_now]
      omega

/-- Settles O9, the claims on UTC requests, slews, the reference and the clock's capacitor. -/
theorem realTimeClock : Obligations.RealTimeClock :=
  ⟨utc_request_in_force, utc_request_handled, slew_ended, reference_deviated, reference_recovered, supercap_voltage_shown⟩

end Sys2Proof.Machine
end

section
/-!
The refutation of the claim on waking (O6): an alarm that wakes the module may withhold its action and so disarm a cluster activation (R747), which
changes the engine's record beyond what the claim lets a wake change.
-/

namespace Sys2Proof.Machine

/-- A module in Standby whose engine is ARMED for a cluster activation; ALM15 is due, with WAKE and LOCKREQ set, while the clock is not locked. -/
def clusterArmedAsleep : State :=
  { State.reset with
    regs := [((almArm 15).addr, 0x19), (F.UPD_STAT_STATE.addr, 5)]
    boot := { State.reset.boot with standby := true }
    update := { State.reset.update with cluster := true } }

/-- ALM15 alone is due, and meets the conditions of the claim. -/
theorem clusterArmedAsleep_due : (decide ((List.range 64).filter clusterArmedAsleep.almDue = [15]) && clusterArmedAsleep.on (almWake 15)
    && clusterArmedAsleep.get (almAct 15) == 0 && !clusterArmedAsleep.on (almPer 15)) = true := by
  decide

/-- ALM15 withholds its action for want of a lock, which disarms the cluster activation. -/
theorem clusterArmedAsleep_disarms : (clusterArmedAsleep.wake (.alarm 15)).update.cluster = false := by
  decide

theorem exec_wake (s : State) (src : WakeSource) : exec (.wake src) s = .next (s.wake src) := rfl

/-- A state that keeps the engine's record keeps the mark of a cluster activation. -/
theorem State.update_of_wake_frame {s t : State} (h : t = { s with regs := t.regs, boot := t.boot, log := t.log, session := t.session }) :
    t.update = s.update := by
  rw [h]

theorem wake_disarms_cluster : ¬ Claims.wake clusterArmedAsleep (.alarm 15) := by
  intro h
  obtain ⟨t, ht, hclaim⟩ := h rfl clusterArmedAsleep_due
  obtain ⟨_, _, _, _, hframe⟩ := hclaim
  rw [exec_wake] at ht
  injection ht with ht
  have hkept : t.update.cluster = clusterArmedAsleep.update.cluster := congrArg Update.cluster (State.update_of_wake_frame hframe)
  rw [← ht, clusterArmedAsleep_disarms] at hkept
  exact Bool.false_ne_true hkept

/-- Refutes O6: the wake by an alarm that withholds its action and disarms a cluster activation changes the engine's record, which the claim of R151
holds fixed. -/
theorem not_modeRequests : ¬ Obligations.ModeRequests := fun ⟨_, hwake, _⟩ => wake_disarms_cluster (hwake _ _)

end Sys2Proof.Machine
end

section
/-!
Proofs about the general timers (R68) and the registers of the application watchdog (R70).
-/

namespace Sys2Proof.Machine

section
variable (s : State)
theorem exec_timerStart (n : Fin 8) : exec (.timerStart n) s = .next (s.startTimer n) := rfl
theorem exec_timerZero (n : Fin 8) : exec (.timerZero n) s = .next (if s.on (F.TMR_T_CTL_EN.i n) then s.timerAtZero n else s) := rfl
theorem exec_watchdogEnable (v : Word) : exec (.watchdogEnable v) s = .next (s.writeWdgCtl v.toNat) := rfl
theorem exec_watchdogKick (v : Word) (z : ColdCheck) : exec (.watchdogKick v z) s = .next (s.kickWatchdog v.toNat z) := rfl
theorem exec_watchdogWarning : exec .watchdogWarning s = .next (if s.on F.TMR_WDG_CTL_EN then s.irq Page.TMR 9 else s) := rfl
end

/-! ### General timers -/

theorem State.get_put_indexed (s : State) (f : Field) (n : Nat) (v : Nat) (h : f.lo + f.width ≤ 32) : (s.put (f.i n) v).get (f.i n) = v % 2 ^ f.width :=
  s.get_put_same (f.i n) v h

/-- The words of timer `n` and of the timers' interrupts are four different ones. -/
theorem timerWords_apart (n : Fin 8) : (F.TMR_T_CTL_EN.i n).addr ≠ (F.TMR_T_COUNT.i n).addr ∧ (F.TMR_T_CTL_EN.i n).addr ≠ Page.TMR + 0x10
    ∧ (F.TMR_T_COUNT.i n).addr ≠ Page.TMR + 0x10 := by
  revert n
  decide

section
variable (s : State) (n : Fin 8)

theorem State.get_put_load (u : State) : (u.put (F.TMR_T_COUNT.i n) (s.get (F.TMR_T_LOAD.i n))).get (F.TMR_T_COUNT.i n) = s.get (F.TMR_T_LOAD.i n) := by
  rw [u.get_put_indexed _ _ _ (by decide)]
  exact Nat.mod_eq_of_lt (bits_lt _ _ _)

theorem State.withTimers_get (v : Vector Timer 8) (f : Field) : (s.withTimers v).get f = s.get f := rfl

theorem State.withTimers_word (v : Vector Timer 8) (a : Nat) : (s.withTimers v).word a = s.word a := rfl

theorem State.withTimers_timers (v : Vector Timer 8) : (s.withTimers v).timers = v := rfl

theorem Quiet.timers_frame {W : Nat → Prop} {s t : State} (h : Quiet State.offTimers W s t) : t = { s with regs := t.regs, timers := t.timers } := by
  have h2 : ∀ u : State, u = { u.rest.offTimers with regs := u.regs, timers := u.timers, log := u.log } := fun _ => rfl
  have h3 := h2 t
  rw [h.1.1, h.2] at h3
  exact h3

/-- Timer `n` takes its LOAD. -/
def State.timerLoaded : State := (s.put (F.TMR_T_CTL_EN.i n) 1).put (F.TMR_T_COUNT.i n) (s.get (F.TMR_T_LOAD.i n))

theorem State.startTimer_eq : s.startTimer n = (s.timerLoaded n).withTimers ((s.timerLoaded n).timers.set n ⟨s.get (F.TMR_T_CTL_TICK.i n), 0⟩) := by
  unfold State.startTimer State.timerLoaded State.withTimers
  with_reducible rfl

theorem State.startTimer_quiet : Quiet State.offTimers (· ∈ [(F.TMR_T_CTL_EN.i n).addr, (F.TMR_T_COUNT.i n).addr]) s (s.startTimer n) := by
  rw [s.startTimer_eq n]
  exact (((Quiet.refl s).put _ (List.mem_cons_self ..)).put _ (List.mem_cons_of_mem _ (List.mem_cons_self ..))).withTimers _

end

theorem timer_started (s : State) (n : Fin 8) : Claims.timerStart s n := by
  unfold Claims.timerStart
  have hch := s.startTimer_quiet n
  rw [exec_timerStart]
  refine completes_next ⟨State.on_of_get ?_, ?_, ?_, hch.1.2, hch.timers_frame⟩
  · rw [s.startTimer_eq n, State.withTimers_get, State.timerLoaded, State.get_put_addr _ _ _ _ (timerWords_apart n).1, s.get_put_indexed _ _ _ (by decide)]
    rfl
  · rw [s.startTimer_eq n, State.withTimers_get, State.timerLoaded, s.get_put_load n]
  · rw [s.startTimer_eq n, State.withTimers_timers, Vector.get_eq_getElem]
    exact Vector.getElem_set_self _

section
variable (s : State) (n : Fin 8)

/-- The interrupt of timer `n`. -/
def State.timerRang : State := s.irq Page.TMR n

/-- A periodic timer takes its LOAD again. -/
def State.timerReloaded : State := (s.timerRang n).put (F.TMR_T_COUNT.i n) (s.get (F.TMR_T_LOAD.i n))

theorem State.timerAtZero_stops (h : s.on (F.TMR_T_CTL_PER.i n) = false) : s.timerAtZero n = (s.timerRang n).stopTimer n := by
  unfold State.timerAtZero State.timerRang
  exact if_pos (.inr (by simp [h]))

theorem State.timerAtZero_reloads (h : s.on (F.TMR_T_CTL_PER.i n) = true) (hc : s.get (F.TMR_T_COUNT.i n) ≠ 0) :
    ∃ v, s.timerAtZero n = (s.timerReloaded n).withTimers v := by
  unfold State.timerAtZero State.timerReloaded State.timerRang
  rw [if_neg (by simp [h, hc])]
  exact ⟨_, rfl⟩

/-- The words that a timer at zero changes. -/
abbrev zeroWords (n : Fin 8) : List Nat := [(F.TMR_T_CTL_EN.i n).addr, (F.TMR_T_COUNT.i n).addr, Page.TMR + 0x10]

theorem State.timerRang_quiet : Quiet State.offTimers (· ∈ zeroWords n) s (s.timerRang n) := (Quiet.refl s).irq _ (by simp)

theorem State.timerRang_get {f : Field} (hf : f.addr ≠ Page.TMR + 0x10) : (s.timerRang n).get f = s.get f :=
  ((Changes.refl s).irq (e := id) (W := (· ∈ [Page.TMR + 0x10])) n (List.mem_cons_self ..)).get f (by simpa using hf)

theorem State.timerRang_bit : (s.timerRang n).getBit (F.IRQ_RAW.on Page.TMR) n.val = true := s.irq_bit Page.TMR n.val (by omega)

/-- The words of timer `n` are written after its interrupt. -/
theorem State.timerRang_bit_kept {t : State} (h : t.word (Page.TMR + 0x10) = (s.timerRang n).word (Page.TMR + 0x10)) :
    t.getBit (F.IRQ_RAW.on Page.TMR) n.val = true := by
  have hget : t.get (F.IRQ_RAW.on Page.TMR) = (s.timerRang n).get (F.IRQ_RAW.on Page.TMR) := congrArg (fun w : Word => bits w.toNat 0 32) h
  rw [State.getBit, hget]
  exact s.timerRang_bit n

theorem timer_at_zero : Claims.timerZero s n := by
  intro hen hc
  obtain ⟨hcc, hci, hti⟩ := timerWords_apart n
  have hr := s.timerRang_quiet n
  rw [exec_timerZero, if_pos hen]
  cases hper : s.on (F.TMR_T_CTL_PER.i n) with
  | false =>
    have hch := (hr.put (f := F.TMR_T_COUNT.i n) 0 (by simp)).put (f := F.TMR_T_CTL_EN.i n) 0 (by simp)
    rw [s.timerAtZero_stops n hper]
    refine completes_next ⟨s.timerRang_bit_kept n ?_, nofun, fun _ => ⟨?_, State.off_of_get ?_⟩, hch.1.2, hch.timers_frame⟩
    · rw [State.stopTimer, State.word_put_ne _ _ _ hci.symm, State.word_put_ne _ _ _ hti.symm]
    · rw [State.stopTimer, State.get_put_addr _ _ _ _ hcc.symm, State.get_put_indexed _ _ _ _ (by decide)]
      rfl
    · rw [State.stopTimer, State.get_put_indexed _ _ _ _ (by decide)]
      rfl
  | true =>
    obtain ⟨v, heq⟩ := s.timerAtZero_reloads n hper hc
    have hch := (hr.put (f := F.TMR_T_COUNT.i n) (s.get (F.TMR_T_LOAD.i n)) (by simp)).withTimers v
    rw [heq]
    refine completes_next ⟨s.timerRang_bit_kept n ?_, fun _ => ⟨?_, ?_⟩, nofun, hch.1.2, hch.timers_frame⟩
    · rw [State.withTimers_word, State.timerReloaded, State.word_put_ne _ _ _ hti.symm]
    · rw [State.withTimers_get, State.timerReloaded, s.get_put_load n]
    · refine (on_congr ?_).trans hen
      rw [State.withTimers_get, State.timerReloaded, State.get_put_addr _ _ _ _ hcc, s.timerRang_get n hci]

end

/-! ### The application watchdog -/

theorem watchdog_warned (s : State) : Claims.watchdogWarning s := by
  intro hen
  have hch : WordsIn [Page.TMR + 0x10] s (s.irq Page.TMR 9) := ((Changes.refl s).irq (e := id) 9 (List.mem_cons_self ..)).2
  rw [exec_watchdogWarning, if_pos hen]
  exact completes_next ⟨s.irq_bit Page.TMR 9 (by decide), hch, s.put_frame _ _⟩

theorem watchdog_kicked (s : State) (z : ColdCheck) : Claims.watchdogKick s z := by
  intro hen hwin
  have hkick : s.kickWatchdog 0xA5C3 z = s.put F.TMR_WDG_LEFT_MS (s.get F.TMR_WDG_CTL_TIMEOUT) := by
    unfold State.kickWatchdog
    rw [if_pos ⟨hen, rfl⟩, if_neg]
    rintro ⟨hon, hlate⟩
    rcases hwin with h | h
    · exact absurd (hon.symm.trans h) nofun
    · exact absurd hlate (by omega)
  have hch : WordsIn [F.TMR_WDG_LEFT_MS.addr] s (s.put F.TMR_WDG_LEFT_MS (s.get F.TMR_WDG_CTL_TIMEOUT)) :=
    ((Changes.refl s).put (e := id) _ (List.mem_cons_self ..)).2
  rw [exec_watchdogKick]
  have hv : (0xA5C3 : Word).toNat = 0xA5C3 := rfl
  rw [hv, hkick]
  refine completes_next ⟨?_, hch, s.put_frame _ _⟩
  rw [s.get_put_same _ _ (by decide)]
  exact Nat.mod_eq_of_lt (bits_lt _ _ _)

section
variable (s : State) (win t : Nat)

/-- The watchdog is enabled. -/
def State.wdgEnabled : State :=
  (((s.put F.TMR_WDG_CTL_WIN win).put F.TMR_WDG_CTL_TIMEOUT t).put F.TMR_WDG_CTL_EN 1).put F.TMR_WDG_LEFT_MS t

theorem State.writeWdgCtl_enables {v : Nat} (hen : s.on F.TMR_WDG_CTL_EN = false) (hv : bit v 0 = true) (ht : bits v 16 16 ≠ 0) :
    s.writeWdgCtl v = s.wdgEnabled (bits v 1 1) (bits v 16 16) := by
  unfold State.writeWdgCtl State.wdgEnabled
  rw [if_neg (by simp [hen]), if_neg ht, if_pos hv, if_neg ht]

theorem State.wdgEnabled_quiet : Quiet id (· ∈ [F.TMR_WDG_CTL_EN.addr, F.TMR_WDG_LEFT_MS.addr]) s (s.wdgEnabled win t) :=
  ((((Quiet.refl s).put _ (by decide)).put _ (by decide)).put _ (by decide)).put _ (by decide)

theorem State.wdgEnabled_en : (s.wdgEnabled win t).get F.TMR_WDG_CTL_EN = 1 := by
  rw [State.wdgEnabled, State.get_put_addr _ _ _ _ (by decide), State.get_put_same _ _ _ (by decide)]
  rfl

theorem State.wdgEnabled_win (h : win < 2) : (s.wdgEnabled win t).get F.TMR_WDG_CTL_WIN = win := by
  rw [State.wdgEnabled, State.get_put_addr _ _ _ _ (by decide), State.get_put_disjoint _ F.TMR_WDG_CTL_EN F.TMR_WDG_CTL_WIN _ rfl (by decide) (by decide),
    State.get_put_disjoint _ F.TMR_WDG_CTL_TIMEOUT F.TMR_WDG_CTL_WIN _ rfl (by decide) (by decide), State.get_put_same _ _ _ (by decide)]
  exact Nat.mod_eq_of_lt h

theorem State.wdgEnabled_timeout (h : t < 2 ^ 16) : (s.wdgEnabled win t).get F.TMR_WDG_CTL_TIMEOUT = t := by
  rw [State.wdgEnabled, State.get_put_addr _ _ _ _ (by decide), State.get_put_disjoint _ F.TMR_WDG_CTL_EN F.TMR_WDG_CTL_TIMEOUT _ rfl (by decide) (by decide),
    State.get_put_same _ _ _ (by decide)]
  exact Nat.mod_eq_of_lt h

theorem State.wdgEnabled_left (h : t < 2 ^ 16) : (s.wdgEnabled win t).get F.TMR_WDG_LEFT_MS = t := by
  rw [State.wdgEnabled, State.get_put_same _ _ _ (by decide)]
  exact Nat.mod_eq_of_lt h

end

theorem watchdog_enabled (s : State) (v : Word) : Claims.watchdogEnable s v := by
  intro hen hv ht
  have hch := s.wdgEnabled_quiet (bits v.toNat 1 1) (bits v.toNat 16 16)
  have hlt : bits v.toNat 16 16 < 2 ^ 16 := bits_lt _ _ _
  rw [exec_watchdogEnable, s.writeWdgCtl_enables hen hv ht]
  refine completes_next ⟨State.on_of_get (s.wdgEnabled_en _ _), ?_, s.wdgEnabled_timeout _ _ hlt, s.wdgEnabled_left _ _ hlt, hch.1.2,
    State.eq_of_rest_log hch.1.1 hch.2⟩
  rw [State.on, s.wdgEnabled_win _ _ (bits_lt _ _ _)]
  rfl

end Sys2Proof.Machine
end

section
/-!
Proofs about the alarms (R58 to R67): the registers of an alarm, its commit, and its firing.
-/

namespace Sys2Proof.Machine

/-! ### The words of an alarm (R58) -/

/-- The address of the first word of alarm `n`. -/
def almWord (n : Nat) : Nat := if n < 16 then 0x40001400 + n * 0x10 else 0x40002400 + (n - 16) * 0x10

/-- `w` bits from bit `lo` of the word at offset `o` of alarm `n`. -/
def almBits (n o lo w : Nat) : Field := ⟨almWord n + o, lo, w, 0x10, 0⟩

section
variable (n : Nat)

theorem almField_eq {a t : Field} {o lo w : Nat} (ha : a = ⟨0x40001400 + o, lo, w, 0x10, 0⟩) (ht : t = ⟨0x40002400 + o, lo, w, 0x10, 0⟩) :
    almField n a t = almBits n o lo w := by
  subst ha ht
  unfold almField almBits almWord Field.i
  split
  · exact congrArg (Field.mk · lo w 0x10 0) (Nat.add_right_comm _ _ _)
  · exact congrArg (Field.mk · lo w 0x10 0) (Nat.add_right_comm _ _ _)

theorem almArm_eq : almArm n = almBits n 0 0 1 := almField_eq n rfl rfl
theorem almPer_eq : almPer n = almBits n 0 1 1 := almField_eq n rfl rfl
theorem almLatepol_eq : almLatepol n = almBits n 0 2 1 := almField_eq n rfl rfl
theorem almWake_eq : almWake n = almBits n 0 3 1 := almField_eq n rfl rfl
theorem almLockreq_eq : almLockreq n = almBits n 0 4 1 := almField_eq n rfl rfl
theorem almAct_eq : almAct n = almBits n 0 8 4 := almField_eq n rfl rfl
theorem almArg_eq : almArg n = almBits n 0 16 8 := almField_eq n rfl rfl
theorem almFired_eq : almFired n = almBits n 0 24 1 := almField_eq n rfl rfl
theorem almLate_eq : almLate n = almBits n 0 25 1 := almField_eq n rfl rfl
theorem almSkip_eq : almSkip n = almBits n 0 26 1 := almField_eq n rfl rfl
theorem almAngle_eq : almAngle n = almBits n 4 0 16 := almField_eq n rfl rfl
theorem almPeriod_eq : almPeriod n = almBits n 4 16 16 := almField_eq n rfl rfl
theorem almTarget_eq : almTarget n = almBits n 8 0 64 := almField_eq n rfl rfl

theorem almWord_area {n : Nat} (hn : n < 64) : (0x40001400 ≤ almWord n ∧ almWord n + 0x10 ≤ 0x40001500) ∨ (0x40002400 ≤ almWord n ∧ almWord n + 0x10 ≤ 0x40002700) := by
  unfold almWord
  split <;> omega

variable (s : State) {o lo w : Nat} (v : Nat) {o' lo' w' : Nat}

theorem State.get_put_alm_same (h : lo + w ≤ 32) : (s.put (almBits n o lo w) v).get (almBits n o lo w) = v % 2 ^ w := s.get_put_same _ v h

theorem State.get_put_alm (h : lo + w ≤ 32) (hd : o ≠ o' ∨ lo' + w' ≤ lo ∨ lo + w ≤ lo') :
    (s.put (almBits n o lo w) v).get (almBits n o' lo' w') = s.get (almBits n o' lo' w') := by
  by_cases ho : o = o'
  · subst ho
    exact s.get_put_disjoint (almBits n o lo w) (almBits n o lo' w') v rfl h (hd.resolve_left fun hne => hne rfl)
  · exact s.get_put_addr (almBits n o lo w) (almBits n o' lo' w') v fun h => ho (Nat.add_left_cancel h).symm

theorem State.get_putW_alm (ho : o < 8) : (s.putW (almBits n 8 0 64) v).get (almBits n o lo w) = s.get (almBits n o lo w) :=
  s.get_putW_ne rfl _ v (.inl (Nat.add_lt_add_left ho _))

end

/-- The words of alarm `n`. -/
def InAlarm (n a : Nat) : Prop := almWord n ≤ a ∧ a < almWord n + 0x10

theorem almBits_inAlarm (n lo w : Nat) {o : Nat} (ho : o < 0x10) : InAlarm n (almBits n o lo w).addr :=
  ⟨Nat.le_add_right _ _, Nat.add_lt_add_left ho _⟩

/-! ### A commit, up to lateness (R61, R62) -/

/-- A state with the staging buffers taken out. -/
def State.offStages (s : State) : State := { s with stages := [] }

section
variable (s : State) (n w : Nat)

/-- ARM, LATEPOL, WAKE and LOCKREQ of a commit. -/
def State.almHeadPut : State :=
  (((s.put (almArm n) (bits w 0 1)).put (almLatepol n) (bits w 2 1)).put (almWake n) (bits w 3 1)).put (almLockreq n) (bits w 4 1)

/-- ACT and ARG of a commit, where the alarm may use them. -/
def State.almActPut : State := if actOk n (bits w 8 4) (bits w 16 8) = true then (s.put (almAct n) (bits w 8 4)).put (almArg n) (bits w 16 8) else s

/-- PER and PERIOD of a commit; a periodic alarm has a period. -/
def State.almPerPut : State :=
  if (!(bit w 1 && bits w 48 16 == 0)) = true then (s.put (almPer n) (bits w 1 1)).put (almPeriod n) (bits w 48 16) else s

/-- The marks of a commit are clear. -/
def State.almMarksPut : State := ((s.put (almFired n) 0).put (almLate n) 0).put (almSkip n) 0

/-- ANGLE and TARGET of a commit. -/
def State.almPlacePut : State := (s.put (almAngle n) (bits w 32 16)).putW (almTarget n) (bits w 64 64)

/-- The registers of alarm `n` take the value `w`. -/
def State.almPut : State := ((((s.almHeadPut n w).almActPut n w).almPerPut n w).almMarksPut n).almPlacePut n w

/-- Alarm `n` with the committed value `w`, before it is found late. -/
def State.almCommitted : State := (s.unstage (if n < 16 then .legal else .app) (almArm n).addr 3).almPut n w

theorem State.commitAlarm_eq (v : Nat) : s.commitAlarm n v =
    let u := s.almCommitted n (s.commitValue (if n < 16 then .legal else .app) (almArm n).addr 4 v)
    if u.almDue n = true then u.lateAlm n else u := by
  unfold State.commitAlarm State.almCommitted State.almPut State.almPlacePut State.almMarksPut State.almPerPut State.almActPut State.almHeadPut
  with_reducible rfl

section
variable {o lo l : Nat}

theorem State.almActPut_get (h : o ≠ 0 ∨ lo + l ≤ 8 ∨ 24 ≤ lo) : (s.almActPut n w).get (almBits n o lo l) = s.get (almBits n o lo l) := by
  unfold State.almActPut
  split
  · rw [almAct_eq, almArg_eq, State.get_put_alm _ _ _ (by decide) (by omega), State.get_put_alm _ _ _ (by decide) (by omega)]
  · rfl

theorem State.almPerPut_get (h : (o ≠ 0 ∨ lo + l ≤ 1 ∨ 2 ≤ lo) ∧ (o ≠ 4 ∨ lo + l ≤ 16)) : (s.almPerPut n w).get (almBits n o lo l) = s.get (almBits n o lo l) := by
  unfold State.almPerPut
  split
  · rw [almPer_eq, almPeriod_eq, State.get_put_alm _ _ _ (by decide) (by omega), State.get_put_alm _ _ _ (by decide) (by omega)]
  · rfl

theorem State.almMarksPut_get (h : o ≠ 0 ∨ lo + l ≤ 24) : (s.almMarksPut n).get (almBits n o lo l) = s.get (almBits n o lo l) := by
  rw [State.almMarksPut, almFired_eq, almLate_eq, almSkip_eq, State.get_put_alm _ _ _ (by decide) (by omega),
    State.get_put_alm _ _ _ (by decide) (by omega), State.get_put_alm _ _ _ (by decide) (by omega)]

theorem State.almPlacePut_get (h : o < 4) : (s.almPlacePut n w).get (almBits n o lo l) = s.get (almBits n o lo l) := by
  rw [State.almPlacePut, almTarget_eq, almAngle_eq, State.get_putW_alm _ _ _ (by omega), State.get_put_alm _ _ _ (by decide) (by omega)]

/-- A field of the first word is what ARM, LATEPOL, WAKE and LOCKREQ leave. -/
theorem State.almPut_head (h : lo + l ≤ 1 ∨ (2 ≤ lo ∧ lo + l ≤ 8)) : (s.almPut n w).get (almBits n 0 lo l) = (s.almHeadPut n w).get (almBits n 0 lo l) := by
  rw [State.almPut, State.almPlacePut_get _ _ _ (by decide), State.almMarksPut_get _ _ (by omega), State.almPerPut_get _ _ _ (by omega),
    State.almActPut_get _ _ _ (by omega)]

end

theorem bits_one_mod (i : Nat) : bits w i 1 % 2 ^ 1 = bits w i 1 := Nat.mod_mod _ _

theorem State.almPut_arm : (s.almPut n w).get (almArm n) = bits w 0 1 := by
  rw [almArm_eq, s.almPut_head n w (by omega), State.almHeadPut, almArm_eq, almLatepol_eq, almWake_eq, almLockreq_eq,
    State.get_put_alm _ _ _ (by decide) (by decide), State.get_put_alm _ _ _ (by decide) (by decide), State.get_put_alm _ _ _ (by decide) (by decide),
    State.get_put_alm_same _ _ _ (by decide), bits_one_mod]

theorem State.almPut_latepol : (s.almPut n w).get (almLatepol n) = bits w 2 1 := by
  rw [almLatepol_eq, s.almPut_head n w (by omega), State.almHeadPut, almArm_eq, almLatepol_eq, almWake_eq, almLockreq_eq,
    State.get_put_alm _ _ _ (by decide) (by decide), State.get_put_alm _ _ _ (by decide) (by decide), State.get_put_alm_same _ _ _ (by decide), bits_one_mod]

theorem State.almPut_wake : (s.almPut n w).get (almWake n) = bits w 3 1 := by
  rw [almWake_eq, s.almPut_head n w (by omega), State.almHeadPut, almArm_eq, almLatepol_eq, almWake_eq, almLockreq_eq,
    State.get_put_alm _ _ _ (by decide) (by decide), State.get_put_alm_same _ _ _ (by decide), bits_one_mod]

theorem State.almPut_lockreq : (s.almPut n w).get (almLockreq n) = bits w 4 1 := by
  rw [almLockreq_eq, s.almPut_head n w (by omega), State.almHeadPut, almLockreq_eq, State.get_put_alm_same _ _ _ (by decide), bits_one_mod]

theorem State.almPut_fired : (s.almPut n w).get (almFired n) = 0 := by
  rw [almFired_eq, State.almPut, State.almPlacePut_get _ _ _ (by decide), State.almMarksPut, almFired_eq, almLate_eq, almSkip_eq,
    State.get_put_alm _ _ _ (by decide) (by decide), State.get_put_alm _ _ _ (by decide) (by decide), State.get_put_alm_same _ _ _ (by decide)]
  rfl

theorem State.almPut_late : (s.almPut n w).get (almLate n) = 0 := by
  rw [almLate_eq, State.almPut, State.almPlacePut_get _ _ _ (by decide), State.almMarksPut, almLate_eq, almSkip_eq,
    State.get_put_alm _ _ _ (by decide) (by decide), State.get_put_alm_same _ _ _ (by decide)]
  rfl

theorem State.almPut_angle : (s.almPut n w).get (almAngle n) = bits w 32 16 := by
  rw [almAngle_eq, State.almPut, State.almPlacePut, almAngle_eq, almTarget_eq, State.get_putW_alm _ _ _ (by decide), State.get_put_alm_same _ _ _ (by decide)]
  exact Nat.mod_eq_of_lt (bits_lt _ _ _)

theorem State.almPut_target : (s.almPut n w).getW (almTarget n) = bits w 64 64 := by
  rw [State.almPut, State.almPlacePut, almTarget_eq, State.getW_putW_same _ rfl]
  exact Nat.mod_eq_of_lt (bits_lt _ _ _)

theorem State.almPut_quiet {e : State → State} : Quiet e (InAlarm n) s (s.almPut n w) := by
  have hput (u : State) (k : Nat) {o lo l : Nat} (ho : o < 0x10) : Quiet e (InAlarm n) u (u.put (almBits n o lo l) k) :=
    (Quiet.refl u).put k (almBits_inAlarm n lo l ho)
  have hhead : Quiet e (InAlarm n) s (s.almHeadPut n w) := by
    rw [State.almHeadPut, almArm_eq, almLatepol_eq, almWake_eq, almLockreq_eq]
    exact (((hput _ _ (by decide)).trans (hput _ _ (by decide))).trans (hput _ _ (by decide))).trans (hput _ _ (by decide))
  have hact (u : State) : Quiet e (InAlarm n) u (u.almActPut n w) := by
    rw [State.almActPut, almAct_eq, almArg_eq]
    exact Quiet.ite ((hput _ _ (by decide)).trans (hput _ _ (by decide))) (Quiet.refl u)
  have hper (u : State) : Quiet e (InAlarm n) u (u.almPerPut n w) := by
    rw [State.almPerPut, almPer_eq, almPeriod_eq]
    exact Quiet.ite ((hput _ _ (by decide)).trans (hput _ _ (by decide))) (Quiet.refl u)
  have hmarks (u : State) : Quiet e (InAlarm n) u (u.almMarksPut n) := by
    rw [State.almMarksPut, almFired_eq, almLate_eq, almSkip_eq]
    exact ((hput _ _ (by decide)).trans (hput _ _ (by decide))).trans (hput _ _ (by decide))
  have hplace (u : State) : Quiet e (InAlarm n) u (u.almPlacePut n w) := by
    rw [State.almPlacePut, almAngle_eq, almTarget_eq]
    exact (hput _ _ (by decide)).putW _ rfl (almBits_inAlarm n 0 64 (by decide)) (almBits_inAlarm n 0 64 (o := 12) (by decide))
  exact (((hhead.trans (hact _)).trans (hper _)).trans (hmarks _)).trans (hplace _)

end

end Sys2Proof.Machine
end

section
/-!
Proofs about alarms that are late (R63), that are committed (R66) and that fire (R59, R62).
-/

namespace Sys2Proof.Machine

section
variable (s : State)
theorem exec_alarmCommit (n : Fin 64) (v : Word) : exec (.alarmCommit n v) s = .next (s.tick.commitAlarm n.val v.toNat) := rfl
theorem exec_alarmFire (ns : List (Fin 64)) : exec (.alarmFire ns) s = .next (s.fireAlarms ns) := rfl
end

/-! ### The note of an alarm -/

/-- The words of the note that an alarm has set a mark: its event bits, its interrupt and its event. -/
def noteWords : List Nat :=
  [F.ANG_ALMEV_BITS.addr, Page.ANG + 0x10, F.TMR_ALMEV_L.addr, F.TMR_ALMEV_H_BITS.addr, Page.TMR + 0x10] ++ logWords Page.ANG

/-- No alarm has a word at `a`. -/
abbrev OutsideAlarms (a : Nat) : Prop := a < 0x40001400 ∨ (0x40001500 ≤ a ∧ a < 0x40002400) ∨ 0x40002700 ≤ a

theorem not_inAlarm {n a : Nat} (hn : n < 64) (ha : OutsideAlarms a) : ¬ InAlarm n a := fun h => by
  have harea := almWord_area hn
  obtain ⟨h1, h2⟩ := h
  omega

theorem noteWords_outside : ∀ a ∈ noteWords, OutsideAlarms a := by decide

/-- The pages of the alarms and their events. -/
abbrev almPages : List Nat := [Page.ANG, Page.TMR, Page.LDG]

theorem noteWords_inPages : ∀ a ∈ noteWords, InPages almPages a := by
  unfold InPages
  decide

theorem inAlarm_inPages {n a : Nat} (hn : n < 64) (h : InAlarm n a) : InPages almPages a := by
  obtain ⟨h1, h2⟩ := h
  rcases almWord_area hn with h3 | h3
  · exact ⟨0x40001000, List.mem_cons_self .., by omega, by omega⟩
  · exact ⟨0x40002000, List.mem_cons_of_mem _ (List.mem_cons_self ..), by omega, by omega⟩

section
variable (s : State) {n : Nat}

theorem State.noteAlm_changes {e : State → State} (odd : Bool) : Changes e (· ∈ noteWords) s (s.noteAlm n odd) := by
  have hlog : ∀ a ∈ logWords Page.ANG, a ∈ noteWords := fun _ ha => List.mem_append_right _ ha
  have hnote {f : Field} (i p j : Nat) (hf : f.addr ∈ noteWords) (hp : p + 0x10 ∈ noteWords) : Changes e (· ∈ noteWords) s ((s.putBit f i true).irq p j) :=
    ((Changes.refl s).put _ hf).irq j hp
  unfold State.noteAlm
  split
  · exact (hnote _ _ _ (by decide) (by decide)).when _ ((Changes.refl _).logE _ _ hlog)
  · split
    · exact Changes.refl s
    · exact Changes.ite (hnote _ _ _ (by decide) (by decide)) (hnote _ _ _ (by decide) (by decide))

/-- The note leaves the words of every alarm alone. -/
theorem State.noteAlm_get (odd : Bool) {k : Nat} (hk : k < 64) {o lo l : Nat} (ho : o < 0x10) :
    (s.noteAlm n odd).get (almBits k o lo l) = s.get (almBits k o lo l) :=
  (s.noteAlm_changes (e := id) odd).get _ fun hm => not_inAlarm hk (noteWords_outside _ hm) (almBits_inAlarm k lo l ho)

theorem State.noteAlm_getW (odd : Bool) {k : Nat} (hk : k < 64) : (s.noteAlm n odd).getW (almTarget k) = s.getW (almTarget k) := by
  have hw {o : Nat} (ho : o < 0x10) : ¬ almWord k + o ∈ noteWords := fun hm => not_inAlarm hk (noteWords_outside _ hm) (almBits_inAlarm k 0 64 ho)
  rw [almTarget_eq]
  exact (s.noteAlm_changes (e := id) odd).getW rfl (hw (o := 8) (by decide)) (hw (o := 12) (by decide))

/-- The words of alarm `n` and of the notes. -/
abbrev NotedAlarm (n a : Nat) : Prop := InAlarm n a ∨ a ∈ noteWords

theorem notedAlarm_inPages (hn : n < 64) : ∀ a, NotedAlarm n a → InPages almPages a :=
  fun a h => h.elim (inAlarm_inPages hn) (noteWords_inPages a)

theorem State.put_noted {e : State → State} (v : Nat) {o lo l : Nat} (ho : o < 0x10) : Changes e (NotedAlarm n) s (s.put (almBits n o lo l) v) :=
  (Changes.refl s).put v (.inl (almBits_inAlarm n lo l ho))

theorem State.noteAlm_noted {e : State → State} (odd : Bool) : Changes e (NotedAlarm n) s (s.noteAlm n odd) :=
  (s.noteAlm_changes odd).mono (fun _ => rfl) fun _ => .inr

/-! ### A late alarm (R63) -/

theorem State.lateAlm_changes {e : State → State} : Changes e (NotedAlarm n) s (s.lateAlm n) := by
  have hlate : Changes e (NotedAlarm n) s ((s.put (almLate n) 1).noteAlm n true) := by
    rw [almLate_eq]
    exact (s.put_noted 1 (by decide)).trans (State.noteAlm_noted _ true)
  unfold State.lateAlm
  rw [almArm_eq]
  exact Changes.ite (hlate.trans (State.put_noted _ 0 (by decide))) hlate

/-- A late alarm changes LATE and ARM only. -/
theorem State.lateAlm_get (hn : n < 64) {o lo l : Nat} (ho : o < 0x10) (h : o ≠ 0 ∨ (1 ≤ lo ∧ lo + l ≤ 25)) :
    (s.lateAlm n).get (almBits n o lo l) = s.get (almBits n o lo l) := by
  have hlate : ((s.put (almLate n) 1).noteAlm n true).get (almBits n o lo l) = s.get (almBits n o lo l) := by
    rw [State.noteAlm_get _ _ hn ho, almLate_eq, State.get_put_alm _ _ _ (by decide) (by omega)]
  unfold State.lateAlm
  split
  · rw [almArm_eq, State.get_put_alm _ _ _ (by decide) (by omega), hlate]
  · exact hlate

theorem State.lateAlm_late (hn : n < 64) : (s.lateAlm n).on (almLate n) = true := by
  have hlate : ((s.put (almLate n) 1).noteAlm n true).get (almLate n) = 1 := by
    rw [almLate_eq, State.noteAlm_get _ _ hn (by decide), State.get_put_alm_same _ _ _ (by decide)]
    rfl
  refine State.on_of_get ?_
  unfold State.lateAlm
  split
  · rw [almArm_eq, almLate_eq, State.get_put_alm _ _ _ (by decide) (by decide), ← almLate_eq, hlate]
  · exact hlate

theorem State.lateAlm_arm (hn : n < 64) : (s.lateAlm n).on (almArm n) = (s.on (almArm n) && !s.on (almLatepol n)) := by
  unfold State.lateAlm
  cases hpol : s.on (almLatepol n) with
  | true =>
    rw [if_pos rfl, Bool.not_true, Bool.and_false]
    refine State.off_of_get ?_
    rw [almArm_eq, State.get_put_alm_same _ _ _ (by decide)]
    rfl
  | false =>
    rw [if_neg nofun, Bool.not_false, Bool.and_true]
    refine on_congr ?_
    rw [almArm_eq, State.noteAlm_get _ _ hn (by decide), almLate_eq, State.get_put_alm _ _ _ (by decide) (by decide)]

theorem State.lateAlm_target (hn : n < 64) : (s.lateAlm n).getW (almTarget n) = s.getW (almTarget n) := by
  have hput (u : State) (lo k : Nat) : (u.put (almBits n 0 lo 1) k).getW (almTarget n) = u.getW (almTarget n) := by
    rw [almTarget_eq]
    have hne {o : Nat} (ho : o ≠ 0) : almWord n + o ≠ (almBits n 0 lo 1).addr := fun h => ho (Nat.add_left_cancel h)
    exact getW_congr rfl (u.word_put_ne _ _ (hne (o := 8) (by decide))) (u.word_put_ne _ _ (hne (o := 12) (by decide)))
  have hlate : ((s.put (almLate n) 1).noteAlm n true).getW (almTarget n) = s.getW (almTarget n) := by
    rw [State.noteAlm_getW _ _ hn, almLate_eq, hput]
  unfold State.lateAlm
  split
  · rw [almArm_eq, hput, hlate]
  · exact hlate

end

/-! ### A commit (R61, R63, R66) -/

section
variable (s : State) (n w : Nat)

theorem State.on_of_bit {t : State} {f : Field} {i : Nat} (h : t.get f = bits w i 1) : t.on f = bit w i := by
  rw [State.on, h]
  rfl

theorem State.almCommitted_quiet : Quiet State.offStages (InAlarm n) s (s.almCommitted n w) := by
  have hframe (d : Domain) (a : Nat) : Quiet State.offStages (InAlarm n) s (s.unstage d a 3) := by
    rw [s.unstage_frame]
    exact ⟨⟨rfl, fun _ _ => rfl⟩, rfl⟩
  exact (hframe _ _).trans (State.almPut_quiet _ n w)

variable {n}

theorem State.almCommitted_phaseNow (hn : n < 64) : (s.almCommitted n w).phaseNow = s.phaseNow := by
  have hch := (s.almCommitted_quiet n w).1
  have hcyc : (s.almCommitted n w).cycles = s.cycles := hch.getW rfl (not_inAlarm hn (by decide)) (not_inAlarm hn (by decide))
  have hang : (s.almCommitted n w).angle = s.angle := hch.kept State.angle fun _ => rfl
  rw [State.phaseNow, State.phaseNow, hcyc, hang]

/-- Is the committed target already reached (R63)? -/
theorem State.almCommitted_due (hn : n < 64) : (s.almCommitted n w).almDue n =
    (bit w 0 && decide (bits w 64 64 * 2 ^ 48 + bits w 32 16 * 2 ^ 32 ≤ s.phaseNow)) := by
  rw [State.almDue, State.almAt, s.almCommitted_phaseNow w hn, State.almCommitted, State.on_of_bit _ (State.almPut_arm _ n w), State.almPut_target,
    State.almPut_angle]

theorem State.almCommitted_frame {t : State} (h : Changes State.offStages (NotedAlarm n) s t) :
    t = { s with regs := t.regs, stages := t.stages, log := t.log } := by
  have h2 : ∀ u : State, u = { u.rest.offStages with regs := u.regs, stages := u.stages, log := u.log } := fun _ => rfl
  have h3 := h2 t
  rwa [h.1] at h3

end

/-- The registers of alarm `n` show the committed value `w`, but for ARM and LATE. -/
def ShowsAlarm (n w : Nat) (t : State) : Prop :=
  t.get (almAngle n) = bits w 32 16 ∧ t.getW (almTarget n) = bits w 64 64 ∧ t.on (almFired n) = false ∧ t.on (almLatepol n) = bit w 2
    ∧ t.on (almWake n) = bit w 3 ∧ t.on (almLockreq n) = bit w 4

theorem State.almCommitted_shows (s : State) (n w : Nat) : ShowsAlarm n w (s.almCommitted n w) :=
  ⟨State.almPut_angle _ n w, State.almPut_target _ n w, State.off_of_get (State.almPut_fired _ n w), State.on_of_bit w (State.almPut_latepol _ n w),
    State.on_of_bit w (State.almPut_wake _ n w), State.on_of_bit w (State.almPut_lockreq _ n w)⟩

theorem ShowsAlarm.lateAlm {n w : Nat} {s : State} (h : ShowsAlarm n w s) (hn : n < 64) : ShowsAlarm n w (s.lateAlm n) := by
  obtain ⟨hangle, htarget, hfired, hpol, hwake, hlock⟩ := h
  refine ⟨?_, (s.lateAlm_target hn).trans htarget, (on_congr ?_).trans hfired, (on_congr ?_).trans hpol, (on_congr ?_).trans hwake,
    (on_congr ?_).trans hlock⟩
  · rw [← hangle, almAngle_eq, s.lateAlm_get hn (by decide) (by decide)]
  · rw [almFired_eq, s.lateAlm_get hn (by decide) (by decide)]
  · rw [almLatepol_eq, s.lateAlm_get hn (by decide) (by decide)]
  · rw [almWake_eq, s.lateAlm_get hn (by decide) (by decide)]
  · rw [almLockreq_eq, s.lateAlm_get hn (by decide) (by decide)]

theorem alarm_committed (s : State) (n : Fin 64) (v : Word) : Claims.alarmCommit s n v := by
  unfold Claims.alarmCommit
  rw [exec_alarmCommit, State.commitAlarm_eq]
  generalize s.tick = u
  dsimp only
  generalize u.commitValue (if n.val < 16 then .legal else .app) (almArm n.val).addr 4 v.toNat = w
  have hn := n.isLt
  have hdue := u.almCommitted_due w hn
  have hshows := u.almCommitted_shows n w
  have hch := (u.almCommitted_quiet n w).1.mono (e' := State.offStages) (V := NotedAlarm n.val) (fun _ => rfl) fun _ => .inl
  have harm : (u.almCommitted n w).on (almArm n) = bit w 0 := State.on_of_bit w (State.almPut_arm _ n w)
  have hpages {t : State} (h : Changes State.offStages (NotedAlarm n.val) u t) : RegsIn almPages u t :=
    fun a ha => h.2 a fun hm => ha (notedAlarm_inPages hn a hm)
  cases hd : (u.almCommitted n w).almDue n with
  | true =>
    have hlate := (u.almCommitted n w).lateAlm_late hn
    have hch2 := hch.trans (State.lateAlm_changes _)
    obtain ⟨hangle, htarget, hfired, hpol, hwake, hlock⟩ := hshows.lateAlm hn
    obtain ⟨_, _, _, hpol0, _⟩ := hshows
    rw [if_pos rfl]
    refine completes_next ⟨hangle, htarget, hfired, hpol, hwake, hlock, ?_, ?_, hpages hch2, u.almCommitted_frame hch2⟩
    · rw [hlate, ← hdue, hd]
    · rw [State.lateAlm_arm _ hn, hlate, harm, hpol0, Bool.true_and]
  | false =>
    have hlate : (u.almCommitted n w).on (almLate n) = false := State.off_of_get (State.almPut_late _ n w)
    obtain ⟨hangle, htarget, hfired, hpol, hwake, hlock⟩ := hshows
    rw [if_neg nofun]
    refine completes_next ⟨hangle, htarget, hfired, hpol, hwake, hlock, ?_, ?_, hpages hch, u.almCommitted_frame hch⟩
    · rw [hlate, ← hdue, hd]
    · rw [harm, hlate, Bool.false_and, Bool.not_false, Bool.and_true]

/-! ### A one-shot alarm without an action fires (R59, R62) -/

section
variable (s : State) {n : Nat}

/-- Alarm `n` has fired and is disarmed. -/
def State.almFiredOnce (n : Nat) : State := ((s.put (almFired n) 1).noteAlm n false).put (almArm n) 0

/-- The last alarm to fire on its tick, with no lock required, no action, no period and the module awake. -/
structure FiresAlone (n : Nat) : Prop where
  due : (List.range 64).filter s.almDue = [n]
  lockreq : s.on (almLockreq n) = false
  act : s.get (almAct n) = 0
  per : s.on (almPer n) = false
  standby : s.boot.standby = false

theorem FiresAlone.lt {s : State} (h : FiresAlone s n) : n < 64 := by
  have hmem : n ∈ (List.range 64).filter s.almDue := h.due ▸ List.mem_singleton_self n
  exact List.mem_range.mp (List.mem_filter.mp hmem).1

theorem FiresAlone.reached {s : State} (h : FiresAlone s n) : s.almAt n ≤ s.phaseNow := by
  have hmem : n ∈ (List.range 64).filter s.almDue := h.due ▸ List.mem_singleton_self n
  have hdue := (List.mem_filter.mp hmem).2
  rw [State.almDue, Bool.and_eq_true_iff] at hdue
  exact of_decide_eq_true hdue.2

theorem State.almFiredOnce_changes {e : State → State} : Changes e (NotedAlarm n) s (s.almFiredOnce n) := by
  rw [State.almFiredOnce, almFired_eq, almArm_eq]
  exact ((s.put_noted 1 (by decide)).trans (State.noteAlm_noted _ false)).trans (State.put_noted _ 0 (by decide))

theorem State.almFiredOnce_fired (hn : n < 64) : (s.almFiredOnce n).on (almFired n) = true := by
  refine State.on_of_get ?_
  rw [State.almFiredOnce, almFired_eq, almArm_eq, State.get_put_alm _ _ _ (by decide) (by decide), State.noteAlm_get _ _ hn (by decide),
    State.get_put_alm_same _ _ _ (by decide)]
  rfl

theorem State.almFiredOnce_arm : (s.almFiredOnce n).on (almArm n) = false := by
  refine State.off_of_get ?_
  rw [State.almFiredOnce, almArm_eq, State.get_put_alm_same _ _ _ (by decide)]
  rfl

theorem State.almFiredOnce_standby : (s.almFiredOnce n).boot = s.boot := (s.almFiredOnce_changes (e := id)).kept State.boot fun _ => rfl

theorem FiresAlone.fireAlm {s : State} (h : FiresAlone s n) : State.fireAlm ({}, s) n = ({}, s.almFiredOnce n) := by
  have hunp : s.almUnpowered n = false := by rw [State.almUnpowered, h.standby, Bool.false_and]
  have hper : ((s.put (almFired n) 1).noteAlm n false).on (almPer n) = false := by
    refine (on_congr ?_).trans h.per
    rw [almPer_eq, State.noteAlm_get _ _ h.lt (by decide), almFired_eq, State.get_put_alm _ _ _ (by decide) (by decide)]
  unfold State.fireAlm State.almNext State.almFiredOnce
  dsimp only
  rw [h.lockreq, hunp, if_neg nofun, hper, if_neg nofun, h.act]
  rfl

theorem State.actAlarms_none : s.actAlarms {} = s := by
  unfold State.actAlarms
  rfl

theorem State.wakeByAlarms_awake (h : s.boot.standby = false) (l : List Nat) : s.wakeByAlarms l = s := by
  unfold State.wakeByAlarms
  cases l with
  | nil => rfl
  | cons k l => exact if_neg (by simp [h])

theorem FiresAlone.fireDue {s : State} (h : FiresAlone s n) : s.fireDue = s.almFiredOnce n := by
  unfold State.fireDue
  dsimp only
  rw [h.due, List.foldl_cons, List.foldl_nil, h.fireAlm]
  dsimp only
  rw [if_neg nofun, State.actAlarms_none, State.wakeByAlarms_awake _ (by rw [State.almFiredOnce_standby, h.standby])]

/-- The farthest target of the armed alarms among `ns`. -/
def State.farTarget (ns : List (Fin 64)) : Nat :=
  (ns.filter fun k => s.on (almArm k.val)).foldl (fun (m : Nat) (k : Fin 64) => max m (s.almAt k.val)) 0

theorem State.fireAlarms_reached {ns : List (Fin 64)} (h : s.farTarget ns ≤ s.phaseNow) : s.fireAlarms ns = s.fireDue := by
  unfold State.farTarget at h
  unfold State.fireAlarms
  dsimp only
  rw [if_neg fun hlt => absurd hlt.2 (Nat.not_lt.mpr h)]

theorem State.farTarget_one (n : Fin 64) : s.farTarget [n] ≤ s.almAt n.val := by
  unfold State.farTarget
  rw [List.filter_cons, List.filter_nil]
  split
  · rw [List.foldl_cons, List.foldl_nil, Nat.zero_max]
  · rw [List.foldl_nil]
    exact Nat.zero_le _

/-- An alarm that has reached its target fires now. -/
theorem FiresAlone.fireAlarms {s : State} {n : Fin 64} (h : FiresAlone s n.val) : s.fireAlarms [n] = s.fireDue :=
  s.fireAlarms_reached ((s.farTarget_one n).trans h.reached)

end

theorem alarm_fired (s : State) (n : Fin 64) : Claims.alarmFire s n := by
  intro hdue hlock hact hper hstand
  have h : FiresAlone s n.val := ⟨hdue, hlock, hact, hper, hstand⟩
  have hch := s.almFiredOnce_changes (n := n.val) (e := id)
  rw [exec_alarmFire, h.fireAlarms, h.fireDue]
  exact completes_next ⟨s.almFiredOnce_fired h.lt, s.almFiredOnce_arm, fun a ha => hch.2 a fun hm => ha (notedAlarm_inPages h.lt a hm),
    State.eq_of_rest hch.1⟩

theorem alarm_fires_before_commit (s : State) (n : Fin 64) : Claims.alarmCommitFires s n := by
  intro hpow hdue hlock hact hper hstand
  have hboot : (s.advance 1).boot = s.boot := (s.advance_passed 1).1.kept State.boot fun _ => rfl
  have h : FiresAlone (s.advance 1) n.val := ⟨hdue, hlock, hact, hper, by rw [hboot, hstand]⟩
  have htick : s.tick = (s.advance 1).almFiredOnce n.val := (if_pos (.inl hpow)).trans h.fireDue
  rw [htick]
  exact ⟨State.almFiredOnce_fired _ h.lt, State.almFiredOnce_arm _⟩

end Sys2Proof.Machine
end

section
/-!
Proofs about what the operations of a failed start hold (R136): the flash, the queue of the commands, and an application domain that does not run.
First the operations that resets and starts share: registers, events, lines of the ledger, sessions and the switch channels.
-/

namespace Sys2Proof.Machine

/-- From `s` to `t` the flash and the queue are held, and an application domain that does not run stays so. -/
structure Held (s t : State) : Prop where
  flash : t.flash = s.flash
  pending : t.pending = s.pending
  stopped : s.boot.appRuns = false → t.boot.appRuns = false

namespace Held

theorem refl (s : State) : Held s s := ⟨rfl, rfl, id⟩

theorem trans {s t u : State} (h : Held s t) (k : Held t u) : Held s u := ⟨k.flash.trans h.flash, k.pending.trans h.pending, fun hs => k.stopped (h.stopped hs)⟩

/-- Another component changes. -/
theorem congr {s t u : State} (h : Held s t) (hf : u.flash = t.flash) (hp : u.pending = t.pending) (hb : u.boot.appRuns = t.boot.appRuns) : Held s u :=
  h.trans ⟨hf, hp, fun hs => hb.trans hs⟩

theorem of_apart {s t : State} (h : t.apart = s.apart) : Held s t :=
  (refl s).congr (congrArg (·.2.1) h) (congrArg (·.2.2.2.1) h) (congrArg (·.2.2.2.2.1.appRuns) h)

theorem of_changes {e : State → State} {W : Nat → Prop} {s t : State} (h : Changes e W s t) (hf : ∀ u : State, u.flash = (e u.rest).flash)
    (hp : ∀ u : State, u.pending = (e u.rest).pending) (hb : ∀ u : State, u.boot = (e u.rest).boot) : Held s t :=
  (refl s).congr (h.kept State.flash hf) (h.kept State.pending hp) (congrArg Boot.appRuns (h.kept State.boot hb))

theorem of_rest {s t : State} (h : t.rest = s.rest) : Held s t := by
  have hf : t.rest.flash = s.rest.flash := by rw [h]
  have hp : t.rest.pending = s.rest.pending := by rw [h]
  have hb : t.rest.boot.appRuns = s.rest.boot.appRuns := by rw [h]
  exact (refl s).congr hf hp hb

theorem ite {s t u : State} {c : Prop} [Decidable c] (ht : Held s t) (hu : Held s u) : Held s (if c then t else u) := by
  split
  · exact ht
  · exact hu

theorem foldl {β : Type} {f : State → β → State} (hf : ∀ t b, Held t (f t b)) (l : List β) : ∀ s : State, Held s (l.foldl f s) := by
  induction l with
  | nil => exact refl
  | cons b l ih => exact fun s => (hf s b).trans (ih (f s b))

section
variable {s t : State} (h : Held s t)
include h

theorem when {f : State → State} (b : Bool) (hf : ∀ u, Held u (f u)) : Held s (t.when b f) := ite (h.trans (hf t)) h

theorem foldlFrom {β : Type} {f : State → β → State} (hf : ∀ t b, Held t (f t b)) (l : List β) : Held s (l.foldl f t) := h.trans (foldl hf l t)

theorem put (f : Field) (v : Nat) : Held s (t.put f v) := h.congr rfl rfl rfl

theorem setWord (a : Nat) (w : Word) : Held s (t.setWord a w) := h.congr rfl rfl rfl

theorem putBit (f : Field) (i : Nat) (b : Bool) : Held s (t.putBit f i b) := h.congr rfl rfl rfl

theorem irq (p i : Nat) : Held s (t.irq p i) := h.congr rfl rfl rfl

theorem incSat (f : Field) : Held s (t.incSat f) := h.congr rfl rfl rfl

theorem putW (f : Field) (v : Nat) : Held s (t.putW f v) := by
  rw [t.putW_frame f v]
  exact h.congr rfl rfl rfl

theorem resetRange (a b : Nat) : Held s (t.resetRange a b) := h.congr rfl rfl rfl

theorem logE (p c a : Nat) : Held s (t.logE p c a) := h.trans (of_apart (t.logE_apart p c a))

theorem settle : Held s t.settle := h.trans (of_changes t.settle_switched (fun _ => rfl) (fun _ => rfl) fun _ => rfl)

theorem free {k : Nat → State → State} (hk : ∀ v u, Held u (k v u)) : Held s (t.free k) :=
  (h.congr (u := { t with fresh := t.fresh + 1 }) rfl rfl rfl).trans (hk _ _)

theorem setLine (i d : Nat) : Held s (t.setLine i d) := h.congr rfl rfl rfl

/-! One component of the state takes a value. -/

theorem setLog (x : EventLog) : Held s { t with log := x } := h.congr rfl rfl rfl
theorem setSession (x : Session) : Held s { t with session := x } := h.congr rfl rfl rfl
theorem setTenants (x : Tenants) : Held s { t with tenants := x } := h.congr rfl rfl rfl
theorem setCommit (x : Commit) : Held s { t with commit := x } := h.congr rfl rfl rfl
theorem setEnergy (x : Energy) : Held s { t with energy := x } := h.congr rfl rfl rfl
theorem setUpdate (x : Update) : Held s { t with update := x } := h.congr rfl rfl rfl
theorem setPulses (x : Pulses) : Held s { t with pulses := x } := h.congr rfl rfl rfl
theorem setModem (x : Modem) : Held s { t with modem := x } := h.congr rfl rfl rfl
theorem setRings (x : List (Nat × Ring)) : Held s { t with rings := x } := h.congr rfl rfl rfl
theorem setReader (x : Reader) : Held s { t with reader := x } := h.congr rfl rfl rfl
theorem setEther (x : Ether) : Held s { t with ether := x } := h.congr rfl rfl rfl
theorem setRegs (x : List (Nat × Word)) : Held s { t with regs := x } := h.congr rfl rfl rfl
theorem setTags (x : List (Nat × SramTag)) : Held s { t with sramTags := x } := h.congr rfl rfl rfl
theorem setPanelMem (m : List Host.Cell) (x : List (Nat × SramTag)) (p : Panel) : Held s { t with mem := m, sramTags := x, panel := p } := h.congr rfl rfl rfl
theorem setBoot (x : Boot) (hx : x.appRuns = t.boot.appRuns) : Held s { t with boot := x } := h.congr rfl rfl hx
theorem setSafety (x : Safety) : Held s { t with safety := x } := h.congr rfl rfl rfl
end

end Held

section
variable (s : State)

theorem State.noteMode_held : Held s s.noteMode := Held.of_changes s.noteMode_changes (fun _ => rfl) (fun _ => rfl) fun _ => rfl

theorem State.toStage_held (st : Nat) : Held s (s.toStage st) :=
  Held.ite s.noteMode_held ((((Held.refl s).put _ _).irq _ _).trans (State.noteMode_held _))

/-! ### Lines of the ledger -/

theorem State.setLines_held (n : Nat) : ∀ (s : State) (i v : Nat), Held s (s.setLines i n v) := by
  induction n with
  | zero => exact fun s _ _ => Held.refl s
  | succ n ih => exact fun s i v => ((Held.refl s).setLine _ _).trans (ih _ _ _)

theorem State.setLineList_held (ds : List Nat) : ∀ (s : State) (l : Nat), Held s (s.setLineList l ds) := by
  induction ds with
  | nil => exact fun s _ => Held.refl s
  | cons d ds ih => exact fun s l => ((Held.refl s).setLine _ _).trans (ih _ _)

theorem State.spoilList_held (i cause : Nat) : Held s (s.spoilList i cause) := by
  unfold State.spoilList
  extract_lets t tn s1
  have hmark : Held s s1 := .ite (.setTenants (.refl s) _) (.refl s)
  exact .ite (.ite (.logE (.irq (.setTenants hmark _) _ _) _ _ _) hmark) (.refl s)

theorem State.correctLine_held (i : Nat) : Held s (s.correctLine i) := .logE (.irq (.incSat (.setLine (.refl s) _ _) _) _ _) _ _ _

theorem State.noteBadLine_held (i : Nat) : Held s (s.noteBadLine i) := .irq (.put (.put (.incSat (.refl s) _) _ _) _ _) _ _

theorem State.spoilByTag_held (i : Nat) : Held s (s.spoilByTag i) := .ite (s.spoilList_held _ _) (.refl s)

theorem State.readLine_held (i : Nat) : Held s (s.readLine i).2 := by
  unfold State.readLine
  split
  · exact .refl s
  · exact s.correctLine_held i
  · dsimp only
    exact .trans (.logE (s.noteBadLine_held i) _ _ _) (State.spoilByTag_held _ i)

theorem State.touch_held (i n : Nat) : Held s (s.touch i n) := .foldl (fun t _ => t.readLine_held _) _ s

theorem State.commitCopy_held (la lb n : Nat) (body : Nat → List Nat) : Held s (s.commitCopy la lb n body) :=
  .setLine (State.setLineList_held _ s _) _ _

theorem State.commitBsel_held : Held s s.commitBsel := s.commitCopy_held _ _ _ _

theorem State.commitBoot_held : Held s s.commitBoot := .ite (.setLine (.refl s) _ _) (.setLine (.refl s) _ _)

/-! ### Events and sessions -/

theorem State.fault_held (p c : Nat) : Held s (s.fault p c) := .incSat (.ite (.put (.put (.refl s) _ _) _ _) (.refl s)) _

theorem State.beginClose_held (reason appReason : Nat) : Held s (s.beginClose reason appReason) := by
  unfold State.beginClose
  split
  · exact .irq (.put (.setSession (.refl s) _) _ _) _ _
  · exact .setSession (.refl s) _
  · exact .ite (.setSession (.refl s) _) (.refl s)
  · exact .setSession (.refl s) _

theorem State.closeSession_held (reason appReason : Nat) : Held s (s.closeSession reason appReason) := .settle (s.beginClose_held _ _)

theorem State.incLec_held (code : Nat) : Held s (s.incLec code) := by
  unfold State.incLec
  extract_lets n s1
  have hcount : Held s s1 := .irq (.put (.put (.refl s) _ _) _ _) _ _
  exact .ite (.put (.refl s) _ _) (.ite (.logE (.put (.setLog hcount _) _ _) _ _ _) hcount)

theorem State.writeCounted_held (e : EventRec) : Held s (s.writeCounted e) := by
  unfold State.writeCounted
  extract_lets used last e' s1 s2 s3 s4
  have h3 : Held s s3 := .put (.trans (s.incLec_held _) (State.setLines_held _ _ _ _)) _ _
  have h4 : Held s s4 := .ite (.trans (.trans (.put h3 _ _) (State.fault_held _ _ _)) (State.closeSession_held _ _ _)) h3
  exact .ite (.incSat (.refl s) _) (.ite (.logE (.irq (.put (.setLog h4 _) _ _) _ _) _ _ _) h4)

theorem State.writeRing_held (e : EventRec) : Held s (s.writeRing e) := by
  unfold State.writeRing
  extract_lets pos s1
  have h1 : Held s s1 := State.setLines_held _ _ _ _
  exact .put (.setLog h1 _) _ _

theorem State.admitWaiting_held : Held s s.admitWaiting := by
  unfold State.admitWaiting
  split
  · exact .refl s
  · exact .ite (.setLog (.refl s) _) (.refl s)

theorem State.reportDrops_held : Held s s.reportDrops := .ite (.logE (.setLog (.refl s) _) _ _ _) (.refl s)

theorem State.commitEvent_held : Held s s.commitEvent := by
  unfold State.commitEvent
  dsimp only
  have hc (e : EventRec) (rest : List EventRec) : Held s (({ s with log := { s.log with counted := rest } } : State).writeCounted e).admitWaiting :=
    .trans (.trans (.setLog (.refl s) _) (State.writeCounted_held _ e)) (State.admitWaiting_held _)
  have hr (e : EventRec) (rest : List EventRec) : Held s (({ s with log := { s.log with ring := rest } } : State).writeRing e).reportDrops :=
    .trans (.trans (.setLog (.refl s) _) (State.writeRing_held _ e)) (State.reportDrops_held _)
  split
  · exact .refl s
  · exact hc _ _
  · exact hr _ _
  · exact .ite (hc _ _) (hr _ _)

theorem State.commitEvents_held (n : Nat) : ∀ s : State, Held s (s.commitEvents n) := by
  induction n with
  | zero => exact Held.refl
  | succ n ih => exact fun s => s.commitEvent_held.trans (ih _)

theorem State.collect_stores (e : EventRec) : Held s (s.collect e) := .of_rest (s.collect_rest e)

theorem State.flushBootBuffer_held (cycle : Nat) : Held s (s.flushBootBuffer cycle) := by
  unfold State.flushBootBuffer
  exact .foldlFrom (.setLog (.refl s) _) (fun t e => t.collect_stores e) _

theorem State.drainLog_held : Held s s.drainLog := .ite (State.commitEvents_held _ s) (.refl s)

theorem State.commitMirror_held (cycle utc : Nat) (pfail lrst : Bool) : Held s (s.commitMirror cycle utc pfail lrst) := by
  unfold State.commitMirror
  extract_lets m b s1 s2
  have h2 : Held s s2 := .irq (.put (.putW (.setLine (State.setLineList_held _ s _) _ _) _ _) _ _) _ _
  exact .setCommit h2 _

end

end Sys2Proof.Machine
end

section
/-!
Proofs about what a failed start holds (R136), continued: the energy engine, the resets of the application domain and of all domains, Winter mode and
the cold start.
-/

namespace Sys2Proof.Machine

section
variable (s : State)

/-! ### The engine stops (R713, R714) -/

theorem State.setElem_held (e : Nat) (x : Elem) : Held s (s.setElem e x) := .setEnergy (.refl s) _

theorem State.endRun_held (e : Nat) : Held s (s.endRun e) := by
  unfold State.endRun
  exact .logE (.trans (.irq (.put (.put (.refl s) _ _) _ _) _ _) (State.setElem_held _ _ _)) _ _ _

theorem State.addAcc_held (n d : Nat) : Held s (s.addAcc n d) := by
  unfold State.addAcc
  exact .ite (.putW (.refl s) _ _) (.ite (.putW (.refl s) _ _) (.logE (.setEnergy (.putW (.refl s) _ _) _) _ _ _))

theorem State.closeAcc_held (n : Nat) : Held s (s.closeAcc n) := by
  unfold State.closeAcc
  exact .ite (.ite (.refl s) (s.addAcc_held _ _)) (.refl s)

theorem State.closeNoLoad_held (e : Nat) : Held s (s.closeNoLoad e) := by
  unfold State.closeNoLoad
  exact .ite (.put (.refl s) _ _) (.logE (.irq (.put (.refl s) _ _) _ _) _ _ _)

theorem State.writeResults_held (e : Nat) : Held s (s.writeResults e) := by
  unfold State.writeResults
  exact .put (.put (.put (.put (.put (.put (.put (.put (.put (.refl s) _ _) _ _) _ _) _ _) _ _) _ _) _ _) _ _) _ _

theorem State.correct_held (e : Nat) : Held s (s.correct e) := by
  unfold State.correct
  exact .put (.put (.put (.put (.put (s.setElem_held _ _) _ _) _ _) _ _) _ _) _ _

theorem State.putDirection_held (e : Nat) (x : Elem) : Held s (s.putDirection e x) := by
  unfold State.putDirection
  exact .ite (.free (.put (.refl s) _ _) fun _ u => .put (.refl u) _ _) (.put (.put (.refl s) _ _) _ _)

theorem State.putPowers_held (e : Nat) (p pr q : Int) (sp : Nat) : Held s (s.putPowers e p pr q sp) := by
  unfold State.putPowers
  exact .put (.put (.put (.put (s.setElem_held _ _) _ _) _ _) _ _) _ _

theorem State.holdPowers_held (e es : Nat) : Held s (s.holdPowers e es) := by
  unfold State.holdPowers
  have hcycle (x : Elem) : Held s (if x.allValid = true then s.setElem e { x with hadCycle := true } else s) := .ite (s.setElem_held _ _) (.refl s)
  exact .ite (.refl s) (.ite (.trans (hcycle _) (State.putPowers_held _ _ _ _ _ _)) (.ite (.trans (hcycle _) (State.putPowers_held _ _ _ _ _ _)) (hcycle _)))

theorem State.freshElem_held (e : Nat) : Held s (s.freshElem e) :=
  .when (.trans (s.setElem_held e {}) (State.putPowers_held _ _ _ _ _ _)) _ fun u => u.correct_held e

theorem State.closeElem_held (e : Nat) : Held s (s.closeElem e) := by
  unfold State.closeElem
  extract_lets x es hist s1 _ s2 s3 s4
  have h2 : Held s s2 := .trans (.trans (s.holdPowers_held e _) (State.putDirection_held _ e _)) (State.setElem_held _ e _)
  have h3 : Held s s3 := .put (.trans h2 (State.writeResults_held _ e)) _ _
  have h4 : Held s s4 := .ite (.logE h3 _ _ _) h3
  exact .ite (.trans h4 (State.correct_held _ e)) (.trans (.put (.refl s) _ _) (State.writeResults_held _ e))

theorem State.recheckElem_held (e : Nat) : Held s (s.recheckElem e) := by
  unfold State.recheckElem
  exact .ite (.logE (.irq (.setCommit (.put (.put (.refl s) _ _) _ _) _) _ _) _ _ _) (.put (.refl s) _ _)

theorem State.adoptElem_held (e : Nat) : Held s (s.adoptElem e) := by
  unfold State.adoptElem
  extract_lets old new s1 s2 _ s3
  have h1 : Held s s1 := .ite (s.endRun_held e) (.refl s)
  have h2 : Held s s2 := .ite (.put (.put h1 _ _) _ _) h1
  have h3 : Held s s3 := .setEnergy h2 _
  exact .ite (.trans h3 (State.freshElem_held _ e)) h3

theorem State.adoptConfig_held : Held s s.adoptConfig := by
  unfold State.adoptConfig
  extract_lets s1 _ s2 types _ s3
  have h1 : Held s s1 := .foldl State.recheckElem_held _ s
  have h2 : Held s s2 := by
    dsimp only [s2]
    split
    · exact h1
    · exact .irq (.put (.setEnergy h1 _) _ _) _ _
  have h3 : Held s s3 := .foldlFrom (.setEnergy h2 _) State.adoptElem_held _
  exact .setEnergy h3 _

theorem State.closeCycle_held : Held s s.closeCycle := by
  unfold State.closeCycle
  extract_lets s1 clear s2 _ s3 s4 s5
  have h1 : Held s s1 := .foldl (fun u e => .ite (u.closeNoLoad_held e) (.put (.refl u) _ _)) _ s
  have h2 : Held s s2 := .ite (.logE (.foldlFrom h1 (fun u _ => .putW (.refl u) _ _) _) _ _ _) (.foldlFrom h1 State.closeAcc_held _)
  have h3 : Held s s3 := .foldlFrom (.setEnergy h2 _) State.closeElem_held _
  have h5 : Held s s5 := .irq (.putW (.trans h3 (State.adoptConfig_held _)) _ _) _ _
  exact .setSession h5 _

theorem State.freezeEngine_held : Held s s.freezeEngine := by
  unfold State.freezeEngine
  exact .ite (.refl s) (.irq (.put (.when (.refl s) _ State.closeCycle_held) _ _) _ _)

theorem State.stopPulses_held : Held s s.stopPulses := by
  unfold State.stopPulses
  exact .setPulses (.foldl (fun u n => .putBit (.putW (.setPulses (.refl u) _) _ _) _ _ _) _ s) _

theorem State.quiesce_held : Held s s.quiesce := by
  unfold State.quiesce
  exact .ite (.trans (.trans (.trans s.freezeEngine_held (State.stopPulses_held _)) (State.commitMirror_held _ _ _ _ _)) (State.drainLog_held _)) (.refl s)

/-! ### The pages and blocks of the application -/

theorem State.dropLink_held : Held s s.dropLink := .ite (.irq (.put (.refl s) _ _) _ _) (.refl s)

theorem State.resetModem_held (mstate : Nat) : Held s (s.resetModem mstate) := .setModem (.put s.dropLink_held _ _) _

theorem State.leaveVehicleRole_held (cause : Nat) : Held s (s.leaveVehicleRole cause) := by
  unfold State.leaveVehicleRole
  exact .ite (.logE (.put (.put (.put (.put (.trans (.put (.put (.put (.refl s) _ _) _ _) _ _) (State.resetModem_held _ _)) _ _) _ _) _ _) _ _) _ _ _) (.refl s)

theorem State.resetPage_held (p : Nat) : Held s (s.resetPage p) := .of_apart (s.resetPage_apart p)

theorem State.resetPat_held (p : Nat) : Held s (s.resetPat p) := .of_apart (s.resetPat_apart p)

theorem State.resetSys_held : Held s s.resetSys := .resetRange (.resetRange (.resetRange (.refl s) _ _) _ _) _ _

theorem State.resetTmr_held (standby : Bool) : Held s (s.resetTmr standby) := by
  unfold State.resetTmr
  have h := ((Held.refl s).resetRange (Page.TMR + 8) (Page.TMR + 0x40)).resetRange (Page.TMR + 0x48) (Page.TMR + 0x400)
  exact .ite h (.resetRange h _ _)

theorem State.resetSwPages_held : Held s s.resetSwPages := .foldl (fun u _ => .resetRange (.resetRange (.resetRange (.refl u) _ _) _ _) _ _) _ s

theorem State.putBoth_held (f : Field) (v : Nat) : Held s (s.putBoth f v) := .put (.put (.refl s) _ _) _ _

theorem State.resetSwitches_held : Held s s.resetSwitches := by
  have hputs := ((s.putBoth_held F.SW_CTL_EN 0).trans (State.putBoth_held _ F.SW_REQ_MASK 0)).trans (State.putBoth_held _ F.SW_SHED_MASK 0)
  unfold State.resetSwitches
  exact .settle (.setSafety (.foldlFrom hputs (fun u _ => .setWord (.refl u) _ _) _) _)

theorem State.loseSwitch_held (n : Fin 24) : Held s (s.loseSwitch n) := by
  unfold State.loseSwitch
  exact .when (.setWord (.setWord (.setWord (.put (.setWord (.putBit (.setSafety (.refl s) _) _ _ _) _ _) _ _) _ _) _ _) _ _) _ fun u => .put (.refl u) _ _

theorem State.standbySwitches_held : Held s s.standbySwitches := .settle (.foldlFrom s.resetSwitches_held State.loseSwitch_held _)

theorem State.resetTen_held : Held s s.resetTen := by
  unfold State.resetTen
  exact .setTenants (.resetRange (.foldl (fun u _ => u.spoilList_held _ _) _ s) _ _) _

theorem State.resetOwned_held (p : Nat) {f : State → State} (hf : ∀ u, Held u (f u)) : Held s (s.resetOwned p f) := .ite (hf s) (.refl s)

theorem State.resetAppRings_held : Held s s.resetAppRings := by
  unfold State.resetAppRings
  exact .trans (.foldlFrom (.setRings (.resetRange (.refl s) _ _) _) (fun u _ => .put (.put (.put (.refl u) _ _) _ _) _ _) _)
    (.of_apart (State.noteLegalRings_apart _))

theorem State.resetReader_held : Held s s.resetReader := .setReader (.resetRange (.refl s) _ _) _

theorem State.resetPanelApp_held : Held s s.resetPanelApp := by
  unfold State.resetPanelApp
  exact .trans (.setPanelMem (.refl s) _ _ _) (.of_apart (State.showQueues_apart _))

theorem State.resetEpdApp_held : Held s s.resetEpdApp := by
  unfold State.resetEpdApp
  exact .trans (.setRegs (.refl s) _) (.of_apart (State.showQueues_apart _))

theorem State.loseAppSram_held : Held s s.loseAppSram := .congr (.refl s) rfl rfl rfl

theorem State.resetEther_held : Held s ({ (s.resetPat Page.ETH).resetPage Page.ETH with ether := {} } : State) :=
  .setEther (.trans (s.resetPat_held _) (State.resetPage_held _ _)) _

theorem State.resetAppRegs_held (standby : Bool) : Held s (s.resetAppRegs standby) := by
  unfold State.resetAppRegs
  extract_lets pilot s1 s2 s3 s4 s5 s6 s7 s8 s9 u0 s10 keepU0
  have h1 : Held s s1 := .foldl State.resetPat_held _ s
  have h2 : Held s s2 := .foldlFrom (.trans (.trans (.trans h1 (State.resetSys_held _)) (State.resetTmr_held _ _)) (State.resetSwPages_held _))
    State.resetPage_held _
  have h3 : Held s s3 := .ite (.put h2 _ _) h2
  have h4 : Held s s4 := .trans (.trans (.trans (.ite (.trans h3 (State.standbySwitches_held _)) (.trans h3 (State.resetSwitches_held _)))
    (State.resetTen_held _)) (State.resetReader_held _)) (State.resetPanelApp_held _)
  have h6 : Held s s6 := .trans (.trans h4 (State.resetOwned_held _ _ State.resetEpdApp_held)) (State.resetOwned_held _ _ fun u => u.resetPage_held _)
  have h8 : Held s s8 := .trans (.trans h6 (State.resetAppRings_held _)) (State.resetOwned_held _ _ fun u => .of_apart u.resetUpd_apart)
  have h10 : Held s s10 := .trans (.trans h8 (State.resetOwned_held _ _ State.resetEther_held))
    (State.resetOwned_held _ _ fun u => .trans (u.resetPat_held _) (State.resetPage_held _ _))
  exact .congr h10 rfl rfl rfl

/-! ### The application domain is reset -/

/-- The marks of an application domain that runs are cleared. -/
def State.appHalted : State := { s with boot := { s.boot with appRuns := false, mismatch := false, ready := false, tmaxValid := false } }

theorem State.appHalted_held : Held s s.appHalted := ⟨rfl, rfl, fun _ => rfl⟩

/-- A reset of the application domain halts it and changes neither the flash nor the queue. -/
theorem State.applicationReset_halts (cause : Nat) (standby : Bool) : ∃ u : State, Held s u ∧ Held u.appHalted (s.applicationReset cause standby) := by
  unfold State.applicationReset
  extract_lets s1 s2 _ s3 s4 s5
  have h1 : Held s s1 := .ite (s.closeSession_held _ _) (.refl s)
  have h2 : Held s s2 := .put (.trans (.trans h1 (State.leaveVehicleRole_held _ _)) (.of_apart (State.discardUpdate_apart _ _))) _ _
  have h4 : Held s3 s4 := .trans (.put (.put (.refl s3) _ _) _ _) (State.resetAppRegs_held _ _)
  have h5 : Held s3 s5 := .ite (.trans h4 (State.loseAppSram_held _)) (.put h4 _ _)
  exact ⟨s2, h2, .settle h5⟩

theorem State.applicationReset_held (cause : Nat) (standby : Bool) : Held s (s.applicationReset cause standby) :=
  let ⟨_, h, k⟩ := s.applicationReset_halts cause standby
  (h.trans (State.appHalted_held _)).trans k

theorem State.applicationReset_stopped (cause : Nat) (standby : Bool) : (s.applicationReset cause standby).boot.appRuns = false :=
  let ⟨_, _, k⟩ := s.applicationReset_halts cause standby
  k.stopped rfl

/-! ### Winter mode -/

theorem State.holdIsland_held (src : Nat) : Held s (s.holdIsland src) := by
  unfold State.holdIsland
  exact .ite (.settle (.logE (.irq (.put (.put (.refl s) _ _) _ _) _ _) _ _ _)) (.refl s)

theorem State.takePages_held : Held s s.takePages := .foldl (fun u p => .ite (.refl u) (.of_apart (u.setOwner_apart p 0))) _ s

theorem State.holdWinter_held : Held s s.holdWinter := .trans (.trans (s.holdIsland_held 1) (State.takePages_held _)) (State.toStage_held _ _)

theorem State.restoreLec_held : Held s s.restoreLec := by
  unfold State.restoreLec
  exact .put (s.touch_held _ _) _ _

theorem State.romServe_held : Held s s.romServe := by
  unfold State.romServe
  exact .trans (.trans (.trans (.put (.put (.trans (s.holdIsland_held 1) (State.restoreLec_held _)) _ _) _ _) (State.flushBootBuffer_held _ _))
    (State.commitEvents_held _ _)) (State.toStage_held _ _)

theorem State.commitStart_held : Held s s.commitStart := by
  unfold State.commitStart
  exact .trans (.when (.setBoot (.refl s) _ (by rfl)) _ State.commitBsel_held) (State.commitBoot_held _)

theorem State.enterWinter_held (reason code : Nat) (rom : Bool) : Held s (s.enterWinter reason code rom) := by
  unfold State.enterWinter
  extract_lets _ s0 s1 _ s2
  have h0 : Held s s0 := .put (.put (.put (s.holdIsland_held 1) _ _) _ _) _ _
  have h1 : Held s s1 := .trans (.irq (.logE (.trans h0 (State.closeSession_held _ _ _)) _ _ _) _ _) (State.commitStart_held _)
  have h2 : Held s s2 := .setBoot h1 _ (by rfl)
  exact .ite (.ite (.trans (.setBoot (.refl s) _ (by rfl)) (State.romServe_held _)) s.holdWinter_held)
    (.ite (.trans h2 (State.romServe_held _)) (.trans h2 (State.holdWinter_held _)))

/-! ### A cold start -/

theorem State.loadBoot_held : Held s s.loadBoot := by
  unfold State.loadBoot
  exact .ite (s.touch_held _ _) (.put (.put (.put (.setWord (.setWord (s.touch_held _ _) _ _) _ _) _ _) _ _) _ _)

theorem State.loadBsel_held : Held s s.loadBsel := by
  have h0 : Held s (s.touchCopies 0x10 0x18 8) := .trans (s.touch_held _ _) (State.touch_held _ _ _)
  unfold State.loadBsel
  dsimp only
  split
  · exact h0
  · exact .setUpdate (.put (.foldlFrom (.put (.put (.put (.put (.put (.put (.put h0 _ _) _ _) _ _) _ _) _ _) _ _) _ _)
      (fun u _ => .put (.refl u) _ _) _) _ _) _

theorem State.makeActive_held (b : Nat) : Held s (s.makeActive b) := .put (.put (.setUpdate (.refl s) _) _ _) _ _

theorem State.markSuspect_held (b : Nat) : Held s (s.markSuspect b) := .irq (.put (.refl s) _ _) _ _

theorem State.setBytes_held (l : List Byte) : ∀ (s : State) (a : Nat), Held s (s.setBytes a l) := by
  induction l with
  | nil => exact fun s _ => Held.refl s
  | cons b l ih =>
    intro s a
    have hbyte : Held s (s.setByte a b) := .congr (.refl s) rfl rfl rfl
    exact hbyte.trans (ih _ _)

theorem State.copyLegal_held : Held s s.copyLegal := by
  unfold State.copyLegal
  exact .ite (.setTags (State.setBytes_held _ s _) _) (.refl s)

theorem State.bankFails_held : Held s s.bankFails := by
  unfold State.bankFails
  extract_lets b s1 s2 _ s3
  have h1 : Held s s1 := .logE (s.markSuspect_held _) _ _ _
  have h2 : Held s s2 := .trans (.logE (.trans h1 (State.makeActive_held _ _)) _ _ _) (State.toStage_held _ _)
  have h3 : Held s s3 := .setBoot h2 _ (by rfl)
  exact .ite (.ite (.trans h3 (State.copyLegal_held _)) (.trans (.logE (.trans h3 (State.markSuspect_held _ _)) _ _ _) (State.enterWinter_held _ _ _ _)))
    (.trans h1 (State.enterWinter_held _ _ _ _))

theorem State.stageS0_held (cause : Nat) (z : ColdCheck) : Held s (s.stageS0 cause z) := by
  unfold State.stageS0
  extract_lets s1 s2 _ s3 s4 s5 s6 s7 _ _ s8
  have hlog (u : State) (p c a : Nat) : Held u (u.logE p c a) := .logE (.refl u) _ _ _
  have h2 : Held s s2 := .put (.put (.put (.trans s.loadBoot_held (State.loadBsel_held _)) _ _) _ _) _ _
  have h3 : Held s s3 := .setBoot h2 _ (by rfl)
  have h4 : Held s s4 := .logE (.trans (.trans h3 (.of_apart (State.noteEngine_apart _))) (State.noteMode_held _)) _ _ _
  have h7 : Held s s7 := .when (.when (.when h4 _ fun u => hlog u _ _ _) _ fun u => hlog u _ _ _) _ fun u => hlog u _ _ _
  have h8 : Held s s8 := .congr h7 rfl rfl rfl
  exact .ite (.trans h8 (State.romServe_held _)) (.ite (.trans h8 (State.enterWinter_held _ _ _ _))
    (.ite (.trans h8 (State.copyLegal_held _)) (.trans h8 (State.bankFails_held _))))

theorem State.trimKept_held : Held s s.trimKept := .put (.put (.put (.put (.put (.put (.put (.put (.refl s) _ _) _ _) _ _) _ _) _ _) _ _) _ _) _ _

theorem State.dropIsland_held : Held s s.dropIsland := .setSafety (.refl s) _

theorem State.coldReset_held (supply : Bool) : Held s (s.coldReset supply) := by
  unfold State.coldReset
  extract_lets u u1 _ t
  have hu : Held s u := .ite s.dropIsland_held (.trans s.resetSwPages_held (State.resetSwitches_held _))
  have ht : Held u t := ⟨rfl, rfl, fun _ => rfl⟩
  exact .trans (.trans hu ht) (State.trimKept_held _)

theorem State.coldStart_held (supply : Bool) (cause : Nat) (z : ColdCheck) : Held s (s.coldStart supply cause z id) := by
  unfold State.coldStart
  extract_lets staged role s1
  have h1 : Held s s1 := .ite (.put (.put (s.coldReset_held true) _ _) _ _) (.settle (s.coldReset_held false))
  exact .trans (.when (.when h1 _ fun u => .logE (.refl u) _ _ _) _ fun u => .logE (.refl u) _ _ _) (State.stageS0_held _ _ _)

/-! ### A failed start (R136 to R138) -/

theorem State.previousBank_held (code arg : Nat) (z : ColdCheck) : Held s (s.previousBank code arg z) := by
  unfold State.previousBank
  extract_lets b s1 s2
  have h1 : Held s s1 := .irq (.put (.put (s.makeActive_held _) _ _) _ _) _ _
  have h2 : Held s s2 := .logE (.trans (.trans h1 (State.commitBsel_held _)) (State.commitBoot_held _)) _ _ _
  exact .trans (.trans (.trans h2 (State.applicationReset_held _ _ _)) (State.quiesce_held _)) (State.coldStart_held _ _ _ _)

/-- After its reset of the application domain a failed start holds it in reset. -/
theorem State.failStart_resets (cause code : Nat) (z : ColdCheck) : Held (s.applicationReset cause false) (s.failStart cause code z) := by
  unfold State.failStart
  extract_lets good always s1 n s2 _ s3
  have h1 : Held (s.applicationReset cause false) s1 := .when (.refl _) _ fun u => .logE (.refl u) _ _ _
  have h3 : Held (s.applicationReset cause false) s3 := .trans (.setBoot (.put h1 _ _) _ (by rfl)) (State.commitBoot_held _)
  exact .ite (.trans h1 (State.toStage_held _ _)) (.ite (.trans h3 (State.toStage_held _ _))
    (.ite (.trans h3 (State.previousBank_held _ _ _ _)) (.trans h3 (State.enterWinter_held _ _ _ _))))

theorem State.failStart_held (cause code : Nat) (z : ColdCheck) : Held s (s.failStart cause code z) :=
  (s.applicationReset_held cause false).trans (s.failStart_resets cause code z)

theorem State.failStart_stopped (cause code : Nat) (z : ColdCheck) : (s.failStart cause code z).boot.appRuns = false :=
  (s.failStart_resets cause code z).stopped (s.applicationReset_stopped cause false)

end

/-! ### The watchdog expires (R70, R136) -/

theorem exec_watchdogExpiry (s : State) (z : ColdCheck) : exec (.watchdogExpiry z) s = .next (s.expireWatchdog z) := rfl

theorem watchdog_expired (s : State) (z : ColdCheck) : Claims.watchdogExpiry s z := by
  intro hpow hen
  have heq : s.expireWatchdog z = (s.logE Page.BOOT (s.angCode 0x8D) 0).failStart 2 (s.angCode 0x8D) z := if_pos ⟨hpow, hen⟩
  have hheld : Held s (s.expireWatchdog z) := heq ▸ ((Held.refl s).logE _ _ _).trans (State.failStart_held _ _ _ _)
  rw [exec_watchdogExpiry]
  exact completes_next ⟨heq ▸ State.failStart_stopped _ _ _ _, hheld.flash, hheld.pending⟩

/-- Settles O8, the claims on alarms, general timers and the application watchdog. -/
theorem alarmsTimersWatchdog : Obligations.AlarmsTimersWatchdog :=
  ⟨alarm_committed, alarm_fires_before_commit, alarm_fired, timer_started, timer_at_zero, watchdog_enabled, watchdog_kicked, watchdog_warned,
    watchdog_expired⟩

end Sys2Proof.Machine
end

section
/-!
Proofs about accesses to SRAM and to the execution window (R118, R130, R131, R284 to R287): bytes of a line, an access to a line, and its handling as
a fault.
-/

namespace Sys2Proof.Machine

/-! ### The bytes of a number -/

theorem ofBytes_lt (l : List Byte) : ofBytes l < 256 ^ l.length := by
  induction l with
  | nil => exact Nat.one_pos
  | cons b l ih =>
    have hb : b.toNat < 256 := b.isLt
    rw [ofBytes, List.length_cons, pow_succ]
    omega

/-- Byte `i` of the number that a list of bytes gives. -/
theorem byteOf_ofBytes (l : List Byte) : ∀ (i : Nat) (h : i < l.length), byteOf (ofBytes l) i = l[i] := by
  induction l with
  | nil => exact fun i h => absurd h (Nat.not_lt_zero i)
  | cons b l ih =>
    intro i h
    have hb : b.toNat < 256 := b.isLt
    apply BitVec.eq_of_toNat_eq
    cases i with
    | zero =>
      rw [byteOf, ofBytes, BitVec.toNat_ofNat, List.getElem_cons_zero]
      omega
    | succ i =>
      have hdiv : (b.toNat + 256 * ofBytes l) / 2 ^ (8 * (i + 1)) = ofBytes l / 2 ^ (8 * i) := by
        rw [show 8 * (i + 1) = 8 + 8 * i by ring, pow_add, ← Nat.div_div_eq_div_mul]
        congr 1
        omega
      rw [byteOf, ofBytes, hdiv, List.getElem_cons_succ, ← ih i (Nat.lt_of_succ_lt_succ h)]
      rfl

@[simp] theorem length_toBytes (k n : Nat) : (toBytes k n).length = k := by simp [toBytes]

theorem getElem_toBytes (k n i : Nat) (h : i < (toBytes k n).length) : (toBytes k n)[i] = byteOf n i := by simp [toBytes]

/-- A line holds the number of its 16 bytes. -/
theorem line_toNat_ofBytes {l : List Byte} (h : l.length = 16) : (BitVec.ofNat 128 (ofBytes l)).toNat = ofBytes l := by
  have hlt := ofBytes_lt l
  rw [h] at hlt
  rw [BitVec.toNat_ofNat]
  exact Nat.mod_eq_of_lt (hlt.trans_le (by decide))

/-- R285: byte `i` of a masked write is the new one where the mask selects it. -/
theorem byteOf_mergeBytes (mask : BitVec 16) (old new : Line) {i : Nat} (h : i < 16) :
    byteOf (mergeBytes mask old new).toNat i = if bit mask.toNat i = true then byteOf new.toNat i else byteOf old.toNat i := by
  rw [mergeBytes, line_toNat_ofBytes (by simp), byteOf_ofBytes _ i (by simpa using h), List.getElem_map, List.getElem_range, apply_ite (byteOf · i)]

theorem bit_fullMask : ∀ i < 16, bit (0xFFFF : BitVec 16).toNat i = true := by decide

/-! ### The bytes and the tag of a line of memory -/

section
variable (s : State) (l : Nat)

/-- The 16 bytes of the line at `l`. -/
def State.lineAt : Line := BitVec.ofNat 128 (s.memNat l 16)

theorem State.lineAt_toNat : (s.lineAt l).toNat = s.memNat l 16 := line_toNat_ofBytes (by simp [State.bytes])

theorem State.byteOf_lineAt {i : Nat} (h : i < 16) : byteOf (s.lineAt l).toNat i = s.byte (l + i) := by
  rw [s.lineAt_toNat, State.memNat, byteOf_ofBytes _ i (by simpa [State.bytes] using h)]
  simp [State.bytes]

theorem State.setBytes_frame (bs : List Byte) : ∀ (s : State) (l : Nat), s.setBytes l bs = { s with mem := (s.setBytes l bs).mem } := by
  induction bs with
  | nil => exact fun _ _ => rfl
  | cons b bs ih =>
    intro s l
    rw [State.setBytes, ih]
    rfl

/-- A byte of a memory into which bytes have been put at `l`. -/
theorem State.byte_putBytes {bs : List Byte} (b : Nat) :
    (s.setBytes l bs).byte b = if h : l ≤ b ∧ b < l + bs.length then bs[b - l]'(by omega) else s.byte b := by
  split
  case isTrue h =>
    have hb := s.byte_setBytes bs l (b - l) (by omega)
    rwa [Nat.add_sub_cancel' h.1] at hb
  case isFalse h => exact s.byte_setBytes_ne bs l b (by omega)

theorem State.sramTag_setSramTag (t : SramTag) : (s.setSramTag l t).sramTag l = t := by
  rw [State.sramTag, State.setSramTag, storeRead_write, if_pos rfl]

/-- A line whose bytes are written with a fresh tag. -/
def State.putLine (bs : List Byte) : State := (s.setBytes l bs).setSramTag l ⟨0, false⟩

theorem State.putLine_byte {bs : List Byte} (hbs : bs.length = 16) (b : Nat) :
    (s.putLine l bs).byte b = if h : l ≤ b ∧ b < l + 16 then bs[b - l]'(by omega) else s.byte b := by
  have h := s.byte_putBytes l (bs := bs) b
  simp only [hbs] at h
  exact h

theorem State.putLine_tag (bs : List Byte) : (s.putLine l bs).sramTag l = ⟨0, false⟩ := State.sramTag_setSramTag _ l _

theorem State.putLine_frame (bs : List Byte) :
    s.putLine l bs = { s with mem := (s.putLine l bs).mem, sramTags := (s.putLine l bs).sramTags } := by
  have h : s.setBytes l bs = { s with mem := (s.setBytes l bs).mem } := State.setBytes_frame bs s l
  rw [State.putLine, h]
  rfl

end

/-! ### An access to a line of SRAM (R284 to R286) -/

section
variable (s : State) {l : Nat} (d : Domain)

/-- R284: a line that nothing has damaged is delivered. -/
theorem State.sramLine_read (h : s.sramTag l = ⟨0, false⟩) : s.sramLine d l .read = (some (s.lineAt l), s) := by
  obtain ⟨hgood, hdata⟩ := checkLine_fresh (sramOwner d) none (s.lineAt l)
  simp only [State.lineAt] at hgood hdata
  simp only [State.sramLine, h, hgood, hdata, State.lineAt]

/-- R286: a poisoned line is not. -/
theorem State.sramLine_poisoned (h : (s.sramTag l).poison = true) : s.sramLine d l .read = (none, s) := by
  simp only [State.sramLine, checkLine, h, if_true]

/-- R285: a write of a full line, or of bytes of a line that nothing has damaged, stores the bytes that the mask selects. -/
theorem State.sramLine_write {mask : BitVec 16} (v : Line) (h : mask = 0xFFFF ∨ s.sramTag l = ⟨0, false⟩) :
    ∃ w : Line, s.sramLine d l (.write mask v) = (some v, s.putLine l (toBytes 16 w.toNat))
      ∧ ∀ i < 16, byteOf w.toNat i = if bit mask.toNat i = true then byteOf v.toNat i else s.byte (l + i) := by
  by_cases hm : mask = 0xFFFF
  · refine ⟨v, by simp only [State.sramLine, hm, if_true]; rfl, fun i hi => ?_⟩
    rw [hm, if_pos (bit_fullMask i hi)]
  · have ht : s.sramTag l = ⟨0, false⟩ := h.resolve_left hm
    obtain ⟨hgood, hdata⟩ := checkLine_fresh (sramOwner d) none (s.lineAt l)
    refine ⟨mergeBytes mask (s.lineAt l) v, ?_, fun i hi => ?_⟩
    · simp only [State.lineAt] at hgood hdata
      simp only [State.sramLine, ht, hm, if_false, hgood, hdata]
      rfl
    · rw [byteOf_mergeBytes _ _ _ hi, s.byteOf_lineAt l hi]

end

/-! ### The access itself -/

section
variable (s : State) (who : Initiator) (a : BitVec 40) (op : MemOp)

/-- The line of an address. -/
def lineOf (a : BitVec 40) : Nat := a.toNat / 16 * 16

/-- An access that is served answers the line. -/
theorem exec_sramAccess_served {v : Line} {t : State} (h : s.memLine who (lineOf a) op 0 = (0, v, t)) :
    exec (.sramAccess who a op 0) s = .next (t.busOk v.toNat) := by
  show execSramAccess who a op 0 s = _
  simp only [lineOf] at h
  simp only [execSramAccess, true_or, if_true, h]

/-- One that is refused ends in a bus error. -/
theorem exec_sramAccess_refused {c : Nat} {v : Line} {t : State} (h : s.memLine who (lineOf a) op 0 = (c, v, t)) (hc : c ≠ 0) :
    exec (.sramAccess who a op 0) s = .next t.busErr := by
  obtain ⟨c, rfl⟩ := Nat.exists_eq_succ_of_ne_zero hc
  show execSramAccess who a op 0 s = _
  simp only [lineOf] at h
  simp only [execSramAccess, true_or, if_true, h]

variable {l : Nat} {d : Domain}

/-- Table 17-1: an access that the initiator may make to an SRAM with power goes to the line. -/
theorem State.memLine_sram {v : Line} {t : State} (hd : sramOf l = some d) (hw : sramAllowed who d (op != .read) = true)
    (hs : s.boot.standby = false) (h : s.sramLine d l op = (some v, t)) : s.memLine who l op 0 = (0, v, t) := by
  simp [State.memLine, hd, hw, hs, h]

/-- A choice between refusals is a refusal. -/
theorem ite_refused {p : Prop} [Decidable p] {x y : Nat × Line × State} {t : State} (hx : ∃ c, x = (c + 1, 0, t)) (hy : ∃ c, y = (c + 1, 0, t)) :
    ∃ c, (if p then x else y) = (c + 1, 0, t) := by
  split
  · exact hx
  · exact hy

/-- R286: an access that finds no good line, or that is not allowed, is refused and does nothing. -/
theorem State.memLine_sram_bad (hd : sramOf l = some d) (h : s.sramLine d l op = (none, s)) : ∃ c, s.memLine who l op 0 = (c + 1, 0, s) := by
  simp only [State.memLine, hd, h]
  exact ite_refused ⟨1, rfl⟩ (ite_refused ⟨0, rfl⟩ ⟨2, rfl⟩)

end

section
variable (s : State) (who : Initiator)

theorem sram_line_read (d : Domain) (a : BitVec 40) : Claims.sramRead s who d a := by
  intro hd hw hs ht
  have hline := s.memLine_sram who .read hd hw hs (s.sramLine_read d ht)
  rw [exec_sramAccess_served s who a .read hline, s.lineAt_toNat]
  exact completes_next ⟨rfl, rfl⟩

theorem sram_line_written (d : Domain) (a : BitVec 40) (mask : BitVec 16) (v : Line) (b : Nat) : Claims.sramWrite s who d a mask v b := by
  intro hd hw hs ht
  obtain ⟨w, hput, hbytes⟩ := s.sramLine_write d v ht
  have hline := s.memLine_sram who (.write mask v) hd hw hs hput
  have hbyte : (s.putLine (lineOf a) (toBytes 16 w.toNat)).byte b
      = if lineOf a ≤ b ∧ b < lineOf a + 16 ∧ bit mask.toNat (b - lineOf a) = true then byteOf v.toNat (b - lineOf a) else s.byte b := by
    rw [s.putLine_byte _ (length_toBytes 16 _)]
    by_cases hb : lineOf a ≤ b ∧ b < lineOf a + 16
    · obtain ⟨hlo, hhi⟩ := hb
      have hmask := hbytes (b - lineOf a) (by omega)
      simp only [lineOf] at hmask hlo hhi ⊢
      simp only [Nat.add_sub_cancel' hlo] at hmask
      simp only [hlo, hhi, and_self, dif_pos, getElem_toBytes, hmask, true_and]
    · rw [dif_neg hb, if_neg fun h => hb ⟨h.1, h.2.1⟩]
  rw [exec_sramAccess_served s who a _ hline]
  have hframe := congrArg (State.busOk · v.toNat) (s.putLine_frame (lineOf a) (toBytes 16 w.toNat))
  exact completes_next ⟨hbyte, s.putLine_tag (lineOf a) _, rfl, hframe⟩

theorem sram_poisoned_refused (d : Domain) (a : BitVec 40) : Claims.sramPoisoned s who d a := by
  intro hd hp
  obtain ⟨c, hline⟩ := s.memLine_sram_bad who .read hd (s.sramLine_poisoned d hp)
  rw [exec_sramAccess_refused s who a .read hline (Nat.succ_ne_zero c)]
  exact completes_next ⟨rfl, rfl⟩

theorem exec_sramLineClear (a : Word) : exec (.sramLineClear who a) s = .next (s.sramClear (domainOf who) a.toNat) := rfl

theorem sram_line_cleared (a : Word) (b : Nat) : Claims.sramLineClear s who a b := by
  intro hd
  have heq : s.sramClear (domainOf who) a.toNat = s.putLine (a.toNat / 16 * 16) (List.replicate 16 0) := if_pos hd
  rw [exec_sramLineClear, heq]
  refine completes_next ⟨?_, s.putLine_tag _ _, s.putLine_frame _ _⟩
  rw [s.putLine_byte _ (List.length_replicate ..) b]
  split
  · exact List.getElem_replicate _
  · rfl

end

end Sys2Proof.Machine
end

section
/-!
Proofs about lines of the execution window (R118, R130, R131): a line that fails its tag, and the accesses to a line.
-/

namespace Sys2Proof.Machine

/-! ### A line that fails its tag (R131) -/

section
variable (s : State)

/-- The boot record is committed to the ledger and changes nothing else. -/
theorem State.commitBoot_frame : s.commitBoot = { s with ledger := s.commitBoot.ledger } := by
  unfold State.commitBoot
  dsimp only
  split
  · rfl
  · rfl

theorem State.commitBoot_word (a : Nat) : s.commitBoot.word a = s.word a := by rw [s.commitBoot_frame]; rfl

theorem State.commitBoot_get (f : Field) : s.commitBoot.get f = s.get f := by rw [State.get, s.commitBoot_word, State.get]

theorem suspField_addr (b : Nat) : (suspField b).addr = F.BOOT_STAT_STAGE.addr := by
  unfold suspField
  split
  · rfl
  · rfl

theorem suspField_flag (b : Nat) : (suspField b).width = 1 ∧ (suspField b).lo < 32 := by
  unfold suspField
  split
  · decide
  · decide

/-- A bank that is marked suspect. -/
theorem State.markSuspect_on (b : Nat) : (s.markSuspect b).on (suspField b) = true := by
  obtain ⟨hw, hlo⟩ := suspField_flag b
  have hirq : (s.markSuspect b).get (suspField b) = (s.put (suspField b) 1).get (suspField b) :=
    State.get_put_addr _ _ _ _ (by rw [suspField_addr]; decide)
  exact (on_congr hirq).trans (s.on_put_flag (suspField b) true hw hlo)

/-- A state with the ledger, the last access and the record of the start taken out. -/
def State.offFetch : State := { s with ledger := [], bus := ⟨false, 0⟩, boot := {} }

/-- The registers in which a line has failed its tag. -/
def State.fetchMarked (ofs : Nat) : State := (s.busErr.put F.BOOT_FAILOFS ofs).markSuspect s.update.active

/-- The state in which a line has failed its tag, up to its event. -/
def State.fetchFailed (ofs : Nat) : State :=
  { (s.fetchMarked ofs).commitBoot with boot := { (s.fetchMarked ofs).commitBoot.boot with mismatch := s.boot.appRuns } }

theorem State.fetchMismatch_eq (ofs : Nat) : s.fetchMismatch ofs = (s.fetchFailed ofs).logE Page.BOOT 0x0109 ofs := rfl

theorem State.fetchFailed_word (ofs a : Nat) : (s.fetchFailed ofs).word a = (s.fetchMarked ofs).word a := (s.fetchMarked ofs).commitBoot_word a

/-- All of it but the registers. -/
theorem State.fetchFailed_frame (ofs : Nat) : s.fetchFailed ofs = { s with
    regs := (s.fetchFailed ofs).regs, ledger := (s.fetchFailed ofs).ledger, bus := ⟨true, 0⟩, boot := { s.boot with mismatch := s.boot.appRuns } } := by
  have hrest : (s.fetchMarked ofs).rest = s.busErr.rest := by
    rw [State.fetchMarked, State.markSuspect, State.irq_rest, State.put_rest, State.put_rest]
  obtain ⟨r, hr⟩ : ∃ r, s.fetchMarked ofs = { s.busErr with regs := r } :=
    ⟨_, State.eq_of_rest_log hrest (by simp only [State.fetchMarked, State.markSuspect, State.irq_log, State.put_log])⟩
  obtain ⟨l, hl⟩ : ∃ l, (s.fetchMarked ofs).commitBoot = { s.fetchMarked ofs with ledger := l } := ⟨_, (s.fetchMarked ofs).commitBoot_frame⟩
  simp only [State.fetchFailed, hl]
  simp only [hr]
  rfl

theorem State.fetchMarked_words (ofs : Nat) : WordsIn [F.BOOT_FAILOFS.addr, F.BOOT_STAT_STAGE.addr, Page.BOOT + 0x10] s (s.fetchMarked ofs) := by
  have hsusp := State.put_words (s.busErr.put F.BOOT_FAILOFS ofs) (suspField s.update.active) 1
  rw [suspField_addr] at hsusp
  have hofs : WordsIn [F.BOOT_FAILOFS.addr] s (s.busErr.put F.BOOT_FAILOFS ofs) := s.busErr.put_words _ _
  have hirq : WordsIn [Page.BOOT + 0x10] ((s.busErr.put F.BOOT_FAILOFS ofs).put (suspField s.update.active) 1) (s.fetchMarked ofs) :=
    State.irq_words _ Page.BOOT 3
  exact (hofs.trans (hsusp.trans hirq)).mono fun a ha => ha

theorem State.fetchMarked_ofs (ofs : Nat) : (s.fetchMarked ofs).get F.BOOT_FAILOFS = ofs % 2 ^ 32 := by
  have hirq : ∀ u : State, (u.irq Page.BOOT 3).get F.BOOT_FAILOFS = u.get F.BOOT_FAILOFS := fun u => u.get_put_addr _ _ _ (by decide)
  rw [State.fetchMarked, State.markSuspect, hirq, State.get_put_addr _ _ _ _ (by rw [suspField_addr]; decide), State.get_put_same _ _ _ (by decide)]
  rfl

theorem State.fetchFailed_changes (ofs : Nat) : Changes State.offFetch (InPages [Page.BOOT, Page.LDG]) s (s.fetchFailed ofs) := by
  refine ⟨by rw [s.fetchFailed_frame]; rfl, fun a ha => (s.fetchFailed_word ofs a).trans (s.fetchMarked_words ofs a fun hm => ha ?_)⟩
  have hpages : ∀ a ∈ [F.BOOT_FAILOFS.addr, F.BOOT_STAT_STAGE.addr, Page.BOOT + 0x10], InPages [Page.BOOT, Page.LDG] a := by
    unfold InPages
    decide
  exact hpages a hm

theorem Changes.fetch_frame {W : Nat → Prop} {s t : State} (h : Changes State.offFetch W s t) :
    t = { s with regs := t.regs, ledger := t.ledger, bus := t.bus, boot := t.boot, log := t.log } := by
  have h2 : ∀ u : State, u = { u.rest.offFetch with regs := u.regs, ledger := u.ledger, bus := u.bus, boot := u.boot, log := u.log } := fun _ => rfl
  have h3 := h2 t
  rwa [h.1] at h3

theorem State.logE_bus (p c a : Nat) : (s.logE p c a).bus = s.bus := by rw [s.logE_frame]

theorem State.logE_boot (p c a : Nat) : (s.logE p c a).boot = s.boot := by rw [s.logE_frame]

/-- R131: what a line that fails its tag makes of the state. -/
theorem State.fetchMismatch_done (ofs : Nat) (happ : s.boot.appRuns = true) (hr : LogRoom 1 s) {t : State} (ht : t = s.fetchMismatch ofs) :
    t.bus = ⟨true, 0⟩ ∧ t.on (suspField s.update.active) = true ∧ t.get F.BOOT_FAILOFS = ofs % 2 ^ 32 ∧ t.boot.mismatch = true
      ∧ Logged Page.BOOT 0x0109 ofs s t ∧ RegsIn [Page.BOOT, Page.LDG] s t
      ∧ t = { s with regs := t.regs, ledger := t.ledger, bus := t.bus, boot := t.boot, log := t.log } := by
  have hchg := (s.fetchFailed_changes ofs).logE_page (p := Page.BOOT) (by decide) 0x0109 ofs (by decide)
  have hget (f : Field) (hf : f.addr ∉ logWords Page.BOOT) : (s.fetchMismatch ofs).get f = (s.fetchMarked ofs).get f := by
    rw [s.fetchMismatch_eq, (State.logE_onlyLogged _ _ _ _).get f hf, State.get, s.fetchFailed_word, State.get]
  have hsusp := hget (suspField s.update.active) (by rw [suspField_addr]; decide)
  have hframe := s.fetchFailed_frame ofs
  have hlog : (s.fetchFailed ofs).log = s.log := by rw [hframe]
  have hbus : (s.fetchMismatch ofs).bus = ⟨true, 0⟩ := by rw [s.fetchMismatch_eq, State.logE_bus, hframe]
  have hboot : (s.fetchMismatch ofs).boot.mismatch = true := by rw [s.fetchMismatch_eq, State.logE_boot, hframe, happ]
  rw [ht]
  exact ⟨hbus, (on_congr hsusp).trans (State.markSuspect_on _ _), (hget _ (by decide)).trans (s.fetchMarked_ofs ofs), hboot,
    (LogsAtMost.of_log 0 hlog).logged _ _ _ hr, hchg.2, hchg.fetch_frame⟩
end

/-! ### An access to the execution window (R118, R130) -/

section
variable (s : State) (who : Initiator) {l : Nat}

/-- The execution window is neither SRAM nor panel memory. -/
theorem inExecWindow_apart (h : inExecWindow l = true) : sramOf l = none ∧ panelRegion l = 0 := by
  obtain ⟨hlo, hhi⟩ : 0x100000000 ≤ l ∧ l < 0x109600000 := of_decide_eq_true h
  refine ⟨?_, if_pos (by omega)⟩
  rw [sramOf, if_neg (by omega), if_neg (by omega)]

theorem State.memLine_exec (h : inExecWindow l = true) (hok : s.fetchTagOk (l - 0x100000000) (s.imageLine (l - 0x100000000)) 0 = true) :
    s.memLine who l .read 0 = (0, s.imageLine (l - 0x100000000), s) := by
  obtain ⟨hsram, hpanel⟩ := inExecWindow_apart h
  simp [State.memLine, hsram, hpanel, h, hok]

theorem State.memLine_exec_fails (h : inExecWindow l = true) (hkey : s.boot.tagKey ≠ [])
    (hbad : s.fetchTagOk (l - 0x100000000) (s.imageLine (l - 0x100000000)) 0 = false) :
    s.memLine who l .read 0 = (4, 0, ({ s.fetchMismatch (l - 0x100000000) with bus := s.bus } : State)) := by
  obtain ⟨hsram, hpanel⟩ := inExecWindow_apart h
  simp [State.memLine, hsram, hpanel, h, hbad, hkey]

theorem exec_line_delivered (a : BitVec 40) : Claims.execWindowRead s who a := by
  intro hwin hok
  rw [exec_sramAccess_served s who a .read (s.memLine_exec who hwin hok)]
  exact completes_next ⟨rfl, rfl⟩

theorem exec_line_refused (a : BitVec 40) : Claims.execWindowFails s who a := by
  intro hwin hkey hbad happ hr
  have hdone := s.fetchMismatch_done (lineOf a - 0x100000000) happ hr rfl
  have hsame : ({ s.fetchMismatch (lineOf a - 0x100000000) with bus := s.bus } : State).busErr = s.fetchMismatch (lineOf a - 0x100000000) := by
    show ({ s.fetchMismatch (lineOf a - 0x100000000) with bus := ⟨true, 0⟩ } : State) = _
    rw [← hdone.1]
  rw [exec_sramAccess_refused s who a .read (s.memLine_exec_fails who hwin hkey hbad) (by decide), hsame]
  exact completes_next hdone

end

/-- Settles O10, the claims on accesses to lines of SRAM and of the execution window. -/
theorem sramAccesses : Obligations.SramAccesses :=
  ⟨sram_line_read, sram_line_written, sram_poisoned_refused, sram_line_cleared, exec_line_delivered, exec_line_refused⟩

end Sys2Proof.Machine
end

section
/-!
Proofs about the change of a page's owner (R95) and about the return of the update engine to IDLE (R729, R736): the register words and the records
that they change.
-/

namespace Sys2Proof.Machine

/-! ### Register words that are written or erased -/

namespace Changes

variable {e : State → State} {W : Nat → Prop} {s t : State}

theorem foldl_mem {β : Type} (f : State → β → State) (l : List β) (hf : ∀ b ∈ l, ∀ t, Changes e W t (f t b)) :
    ∀ s : State, Changes e W s (l.foldl f s) := by
  induction l with
  | nil => exact refl
  | cons b l ih => exact fun s => (hf b List.mem_cons_self s).trans (ih (fun c hc => hf c (List.mem_cons_of_mem b hc)) (f s b))

section
variable (h : Changes e W s t)
include h

theorem setWord {a : Nat} (w : Word) (ha : W a) : Changes e W s (t.setWord a w) :=
  h.trans ⟨congrArg e (t.setWord_rest a w), fun _ hb => t.word_setWord_ne w fun hba => hb (hba ▸ ha)⟩

theorem eraseRegs (q : Nat → Bool) (hq : ∀ a, q a = true → W a) : Changes e W s { t with regs := storeErase q t.regs } := by
  refine h.trans ⟨congrArg e (t.rest_regs _), fun a ha => ?_⟩
  have hqa : q a = false := Bool.eq_false_iff.2 fun hq' => ha (hq a hq')
  show storeRead resetWord (storeErase q t.regs) a = t.word a
  rw [storeRead_erase, hqa]
  rfl

theorem resetRange (a b : Nat) (hr : ∀ x, a ≤ x → x < b → W x) : Changes e W s (t.resetRange a b) :=
  h.eraseRegs _ fun x hx => hr x (of_decide_eq_true hx).1 (of_decide_eq_true hx).2
end

/-- A page takes its reset values. -/
theorem resetPage {ps : List Nat} (h : Changes e (InPages ps) s t) {p : Nat} (hp : p ∈ ps) : Changes e (InPages ps) s (t.resetPage p) :=
  (h.resetRange _ _ fun x hlo hhi => ⟨p, hp, by omega, by omega⟩).resetRange _ _ fun x hlo hhi => ⟨p, hp, by omega, by omega⟩

end Changes

/-! ### The update engine returns to IDLE -/

/-- A word of the update engine, of ALM15 or of the events; those that the bank-select record and the configuration copies hold are not among them. -/
def EngineWord (a : Nat) : Prop := InPages [Page.ANG, Page.LDG] a ∨ (Page.UPD ≤ a ∧ a < Page.UPD + 0x1000 ∧ updLedger a = false)

theorem engineWord_inPages {a : Nat} (h : EngineWord a) : InPages [Page.UPD, Page.ANG, Page.LDG] a := by
  rcases h with ⟨p, hp, hlo, hhi⟩ | ⟨hlo, hhi, -⟩
  · exact ⟨p, List.mem_cons_of_mem _ hp, hlo, hhi⟩
  · exact ⟨Page.UPD, List.mem_cons_self, hlo, hhi⟩

theorem engineWord_upd {o : Nat} (ho : o < 0x1000) (h : updLedger (Page.UPD + o) = false) : EngineWord (Page.UPD + o) :=
  .inr ⟨Nat.le_add_right _ _, by omega, h⟩

theorem updLedger_above {a : Nat} (h : Page.UPD + 0x200 ≤ a) : updLedger a = false := by
  have hc : a ≠ Page.UPD + 0x6C := by omega
  have hd : a ≠ Page.UPD + 0x70 := by omega
  have he : ¬ a < Page.UPD + 0x200 := by omega
  simp [updLedger, hc, hd, he]

/-- The words of the parts. -/
theorem engineWord_part {k o : Nat} (hk : k < 256) (ho : o < 8) : EngineWord (Page.UPD + 0x200 + o + k * 8) :=
  .inr ⟨by omega, by omega, updLedger_above (by omega)⟩

theorem engineWord_bytes {k : Nat} (hk : k < 256) : EngineWord (F.UPD_PART_BYTES.i k).addr := engineWord_part (o := 0) hk (by decide)

theorem engineWord_st {k : Nat} (hk : k < 256) : EngineWord (F.UPD_PART_ST.i k).addr := engineWord_part (o := 4) hk (by decide)

theorem engineWord_stat : EngineWord F.UPD_STAT_STATE.addr := engineWord_upd (o := 0xC) (by decide) (by decide)

theorem engineWord_irq : EngineWord (Page.UPD + 0x10) := engineWord_upd (by decide) (by decide)

theorem engineWord_res : EngineWord F.UPD_RES_RESULT.addr := engineWord_upd (o := 0x58) (by decide) (by decide)

theorem engineWord_log : ∀ a ∈ logWords Page.UPD, EngineWord a := by
  intro a ha
  simp only [logWords, List.mem_cons, List.not_mem_nil, or_false] at ha
  rcases ha with rfl | rfl | rfl
  · exact engineWord_upd (by decide) (by decide)
  · exact .inl (inPages_add (p := Page.LDG) (by decide) (by decide))
  · exact .inl (inPages_add (p := Page.LDG) (o := 0x58) (by decide) (by decide))

theorem engineWord_alm15 : EngineWord (F.ANG_ALM_ARM.i 15).addr := .inl (inPages_add (p := Page.ANG) (o := 0x4F0) (by decide) (by decide))

/-- A state with the record of the update engine taken out. -/
def State.offUpdate (s : State) : State := { s with update := {} }

/-- From `s` to `t` only the words and the record of the engine have changed. -/
abbrev EngineOnly (s t : State) : Prop := Changes State.offUpdate EngineWord s t

theorem Changes.setUpdate {W : Nat → Prop} {s t : State} (h : Changes State.offUpdate W s t) (x : Update) :
    Changes State.offUpdate W s { t with update := x } := h.trans ⟨rfl, fun _ _ => rfl⟩

section
variable (s : State)

section
variable {e : State → State}

theorem State.noteEngine_engine : Changes e EngineWord s s.noteEngine := (Changes.refl s).put _ engineWord_stat

/-- The note of part `k` is cleared. -/
def State.clearPart (k : Nat) : State := (s.put (F.UPD_PART_BYTES.i k) 0).setWord (F.UPD_PART_ST.i k).addr 0

theorem State.clearParts_engine : Changes e EngineWord s ((List.range 64).foldl State.clearPart s) :=
  Changes.foldl_mem _ _ (fun k hk t => by
    have hk' : k < 256 := (List.mem_range.1 hk).trans (by decide)
    exact ((Changes.refl t).put 0 (engineWord_bytes hk')).setWord 0 (engineWord_st hk')) s

theorem State.toEngine_engine (st : Nat) : Changes e EngineWord s (s.toEngine st) := by
  unfold State.toEngine
  extract_lets s1 s2
  have h1 : Changes e EngineWord s s1 := .ite (.refl s) (((Changes.refl s).put _ engineWord_stat).irq 1 engineWord_irq)
  have h0 : Changes e EngineWord s ((s1.put F.UPD_STAT_SETBLK 0).put F.UPD_STAT_TWOK 0) :=
    (h1.put (f := F.UPD_STAT_SETBLK) 0 engineWord_stat).put (f := F.UPD_STAT_TWOK) 0 engineWord_stat
  have h2 : Changes e EngineWord s s2 := by
    dsimp only [s2]
    split
    · exact h0.trans (State.clearParts_engine _)
    · exact h1
  exact h2.trans s2.noteEngine_engine

theorem State.disarmAlm15_engine : Changes e EngineWord s (s.disarmAlm15.irq Page.UPD 2) := ((Changes.refl s).put 0 engineWord_alm15).irq 2 engineWord_irq
end

theorem State.discardUpdate_engine (cause : Nat) : EngineOnly s (s.discardUpdate cause) := by
  unfold State.discardUpdate
  extract_lets s1 s2
  have h1 : EngineOnly s s1 := .when _ (.refl s) (State.disarmAlm15_engine s)
  have h2 : EngineOnly s s2 := h1.put 0 engineWord_stat
  exact .ite (.refl s) (((h2.setUpdate _).trans (State.toEngine_engine _ 0)).logE _ _ engineWord_log)

theorem State.resetUpd_engine : EngineOnly s s.resetUpd := by
  unfold State.resetUpd
  refine ((Changes.refl s).eraseRegs _ fun a ha => ?_).put _ engineWord_stat
  obtain ⟨hpage, hled⟩ := Bool.and_eq_true_iff.1 ha
  obtain ⟨hlo, hhi, -⟩ := of_decide_eq_true hpage
  exact .inr ⟨by omega, hhi, by simpa using hled⟩
end

/-! ### The other transferable pages -/

/-- The pages whose words change with the owner of EPD, DMA, U0 or ETH. -/
def apartPages : List Nat := [Page.LDG, Page.RINGS 0, Page.EPD, Page.DMA, Page.U 0, Page.ETH]

/-- A state with the records of the transferable pages taken out. -/
def State.offOwned (s : State) : State := { s with panel := {}, update := {}, ether := {}, uarts := Vector.replicate 4 {}, pats := [] }

/-- From `s` to `t` only the words and the records of transferable pages other than UPD have changed. -/
abbrev ApartOnly (s t : State) : Prop := Changes State.offOwned (InPages apartPages) s t

theorem inPages_epd {o : Nat} (ho : o < 0x1000) : InPages apartPages (Page.EPD + o) := inPages_add (by decide) ho

theorem inPages_dma {o : Nat} (ho : o < 0x1000) : InPages apartPages (Page.DMA + o) := inPages_add (by decide) ho

namespace Changes

variable {W : Nat → Prop} {s t : State} (h : Changes State.offOwned W s t)
include h

theorem setPanel (x : Panel) : Changes State.offOwned W s { t with panel := x } := h.trans ⟨rfl, fun _ _ => rfl⟩

theorem setEther (x : Ether) : Changes State.offOwned W s { t with ether := x } := h.trans ⟨rfl, fun _ _ => rfl⟩

theorem setUart (n : Fin 4) (u : Uart) : Changes State.offOwned W s (t.setUart n u) := h.trans ⟨rfl, fun _ _ => rfl⟩

theorem setPatBlock (p : Nat) (b : PatBlock) : Changes State.offOwned W s (t.setPat p b) := h.trans ⟨rfl, fun _ _ => rfl⟩

end Changes

section
variable (s : State)

/-! The panel. -/

theorem State.showQueues_apartOnly : ApartOnly s s.showQueues := by
  unfold State.showQueues
  refine Changes.put (Changes.foldl_mem _ _ (fun n hn t => (Changes.refl t).put _ ?_) s) _ (inPages_epd (o := 0xC) (by decide))
  have hn3 : n < 3 := List.mem_range.1 hn
  have haddr : (F.EPD_LQ_N.i n).addr = Page.EPD + (0xB0 + n * 4) := by
    simp only [Field.i, F.EPD_LQ_N, Page.EPD]
    omega
  exact haddr ▸ inPages_epd (by omega)

theorem State.requestPanel_apartOnly (q : PanelReq) : ApartOnly s (s.requestPanel q) := by
  have hreason : InPages apartPages F.EPD_REFUSE_REASON.addr := inPages_epd (o := 0x68) (by decide)
  have hcount : InPages apartPages F.EPD_CNT_REFUSED.addr := inPages_epd (o := 0x6C) (by decide)
  unfold State.requestPanel
  split
  · exact ((Changes.refl s).setPanel _).trans (State.showQueues_apartOnly _)
  · exact (((((Changes.refl s).put _ hreason).put (f := F.EPD_REFUSE_LAYER) _ hreason).put _ hcount).irq_page (p := Page.EPD) (by decide) 2).logE_page
      (by decide) _ _ (by decide)

theorem State.presentRect_apartOnly : ApartOnly s s.presentRect := by
  have hplace : InPages apartPages (F.EPD_LREQ_X.i 0).addr := inPages_epd (o := 0x90) (by decide)
  have hsize : InPages apartPages (F.EPD_LREQ_W.i 0).addr := inPages_epd (o := 0x94) (by decide)
  unfold State.presentRect
  exact Changes.when _ ((((((Changes.refl s).put _ hplace).put (f := F.EPD_LREQ_Y.i 0) _ hplace).put _ hsize).put (f := F.EPD_LREQ_H.i 0) _ hsize).put
    (f := F.EPD_LREQ_MODE.i 0) _ hsize) (State.requestPanel_apartOnly _ _)

theorem State.panelEnabled_apartOnly (s0 : State) : ApartOnly s (s.panelEnabled s0) := by
  unfold State.panelEnabled
  extract_lets s1 _ s2 s3 s4
  have h1 : ApartOnly s s1 := (Changes.refl s).put 0 (inPages_epd (o := 0xC) (by decide))
  have h2 : ApartOnly s s2 := .ite ((h1.setPanel _).trans (State.presentRect_apartOnly _)) h1
  have h3 : ApartOnly s s3 := h2.put 0 (inPages_epd (o := 0x60) (by decide))
  have h4 : ApartOnly s s4 := .ite (h3.put _ (inPages_epd (o := 0x5C) (by decide))) h3
  exact .ite (h4.setPanel _) h2

theorem State.presentLegal_apartOnly : ApartOnly s s.presentLegal :=
  (((Changes.refl s).put 1 (inPages_epd (o := 0x80) (by decide))).trans (State.panelEnabled_apartOnly _ s)).trans (State.presentRect_apartOnly _)

theorem State.resetEpd_apartOnly : ApartOnly s s.resetEpd := by
  have hstat : InPages apartPages F.EPD_STAT_RAILST.addr := inPages_epd (o := 0xC) (by decide)
  unfold State.resetEpd
  extract_lets _ s1 s2
  have h1 : ApartOnly s s1 := by
    refine ((Changes.refl s).eraseRegs (fun a => decide (Page.EPD + 8 ≤ a ∧ a < Page.EPD + 0x1000 ∧ a ≠ Page.EPD + 0x20) && !s.epdShown a)
      fun a ha => ?_).setPanel s1.panel
    obtain ⟨hlo, hhi, -⟩ := of_decide_eq_true (Bool.and_eq_true_iff.1 ha).1
    exact ⟨Page.EPD, by decide, by omega, hhi⟩
  have h2 : ApartOnly s s2 := ((h1.put _ hstat).put (f := F.EPD_STAT_WAVEOK) _ hstat).put (f := F.EPD_STAT_BAND) _ hstat
  exact (h2.trans s2.showQueues_apartOnly).trans (State.presentLegal_apartOnly _)

/-! The rings of the legal domain. -/

theorem State.noteRings_apartOnly {r : Nat} (hr : r < 32) : ApartOnly s (s.noteRings r) := by
  have hz : r / 32 = 0 := Nat.div_eq_of_lt hr
  have hdma (o : Nat) (ho : o < 0x1000) : InPages apartPages (Page.DMA + o) := inPages_dma ho
  have haddr : (F.RING_STAT_DEFERRED.i r).addr = Page.RINGS 0 + (4 + r * 0x40) := by
    simp only [Field.i, F.RING_STAT_DEFERRED, Page.RINGS]
    omega
  have hring : InPages apartPages (F.RING_STAT_DEFERRED.i r).addr := haddr ▸ inPages_add (by decide) (by omega)
  unfold State.noteRings
  simp only [hz]
  exact ((((((Changes.refl s).put _ (hdma 0x60 (by decide))).put _ (hdma 0xA0 (by decide))).put _ (hdma 0x80 (by decide))).put _ hring).put _
    (hdma 0xC (by decide))).put _ (hdma 0xC (by decide))

theorem State.noteLegalRings_apartOnly : ApartOnly s s.noteLegalRings :=
  Changes.foldl_mem _ _ (fun _ hr t => t.noteRings_apartOnly (List.mem_range.1 hr)) s

/-! The pattern blocks of U0 and of Ethernet. -/

theorem State.resetPat_apartOnly {p : Nat} (hp : p ∈ [Page.U 0, Page.ETH]) : ApartOnly s (s.resetPat p) := by
  have hnohead : headOf p = none := (by decide : ∀ q ∈ [Page.U 0, Page.ETH], headOf q = none) p hp
  have hpage : p ∈ apartPages := (by decide : ∀ q ∈ [Page.U 0, Page.ETH], q ∈ apartPages) p hp
  have hctl : InPages apartPages (F.PAT_CTL_GEN.on p).addr := inPages_add hpage (by decide)
  have hstat : InPages apartPages (F.PAT_STAT_GENON.on p).addr := inPages_add hpage (by decide)
  have hgen : ApartOnly s (s.stopGen p) := by
    unfold State.stopGen
    simp only [hnohead]
    exact Changes.ite (Changes.refl s) ((((Changes.refl s).put 0 hctl).put 0 hstat).put (f := F.PAT_STAT_LOOPON.on p) 0 hstat)
  unfold State.resetPat
  exact Changes.ite (Changes.refl s) ((hgen.resetRange _ _ fun x hlo hhi => ⟨p, hpage, by omega, by omega⟩).setPatBlock p {})

/-! ### A change of owner -/

/-- A word that a change of owner may change. -/
def OwnerWord (a : Nat) : Prop := InPages apartPages a ∨ EngineWord a

theorem ownerWord_page {p o : Nat} (hp : p ∈ xferPages) (ho : o ∈ [0x1C, 0x20]) : OwnerWord (p + o) := by
  by_cases hupd : p = Page.UPD
  · rw [hupd]
    have : ∀ o ∈ [0x1C, 0x20], o < 0x1000 ∧ updLedger (Page.UPD + o) = false := by decide
    exact .inr (engineWord_upd (this o ho).1 (this o ho).2)
  · have hpages : ∀ q ∈ xferPages, q ≠ Page.UPD → q ∈ apartPages := by decide
    have hoff : ∀ o ∈ [0x1C, 0x20], o < 0x1000 := by decide
    exact .inl (inPages_add (hpages p hp hupd) (hoff o ho))

theorem ownerWord_log {p : Nat} (hp : p ∈ xferPages) : ∀ a ∈ logWords p, OwnerWord a := by
  intro a ha
  simp only [logWords, List.mem_cons, List.not_mem_nil, or_false] at ha
  rcases ha with rfl | rfl | rfl
  · exact ownerWord_page hp (by decide)
  · exact .inl (inPages_add (p := Page.LDG) (by decide) (by decide))
  · exact .inl (inPages_add (p := Page.LDG) (o := 0x58) (by decide) (by decide))

/-- From `s` to `t` pages have changed their owners, and nothing else has been done. -/
abbrev Transferred (s t : State) : Prop := Changes State.offOwned OwnerWord s t

theorem Changes.transferred_of_apart {s t : State} (h : ApartOnly s t) : Transferred s t := h.mono (fun _ => rfl) fun _ => .inl

theorem Changes.transferred_of_engine {s t : State} (h : EngineOnly s t) : Transferred s t := h.mono (fun _ => rfl) fun _ => .inr

/-- R95: all that a change of owner changes. -/
theorem State.setOwner_transferred {p : Nat} (hp : p ∈ xferPages) (d : Nat) : Transferred s (s.setOwner p d) := by
  unfold State.setOwner
  extract_lets n _ s1
  have hu0 : ApartOnly s (((s.resetPat (Page.U 0)).resetPage (Page.U 0)).setUart 0 {}) :=
    ((s.resetPat_apartOnly (by decide)).resetPage (by decide)).setUart 0 {}
  have heth : ApartOnly s { (s.resetPat Page.ETH).resetPage Page.ETH with ether := {} } :=
    ((s.resetPat_apartOnly (by decide)).resetPage (by decide)).setEther {}
  have h1 : Transferred s s1 := by
    dsimp only [s1]
    split
    · exact ((s.discardUpdate_engine 3).trans (State.resetUpd_engine _)).transferred_of_engine
    · split
      · exact s.resetEpd_apartOnly.transferred_of_apart
      · split
        case isTrue hp0 => exact hp0.symm ▸ hu0.transferred_of_apart
        case isFalse hnu hne hn0 =>
          split
          case isTrue hpe =>
            subst hpe
            exact heth.transferred_of_apart
          case isFalse hneth =>
            have hdma : ∀ q ∈ xferPages, q ≠ Page.UPD → q ≠ Page.EPD → q ≠ Page.U 0 → q ≠ Page.ETH → q ∈ apartPages := by decide
            exact (((Changes.refl s).resetPage (hdma p hp hnu hne hn0 hneth)).trans (State.noteLegalRings_apartOnly _)).transferred_of_apart
  exact ((h1.put _ (ownerWord_page hp (by decide))).put _ (ownerWord_page hp (by decide))).logE _ _ (ownerWord_log hp)

/-- R145: the legal domain takes the pages. -/
theorem State.takePages_transferred : Transferred s s.takePages :=
  Changes.foldl_mem _ _ (fun _ hp t => Changes.ite (Changes.refl t) (t.setOwner_transferred hp 0)) s

/-- R148: it gives them back. -/
theorem State.returnPages_transferred : Transferred s s.returnPages :=
  Changes.foldl_mem _ _ (fun _ hp t => Changes.ite (t.setOwner_transferred hp 2) (Changes.refl t)) s

end

/-- The words of the start and the sequence number of retry requests do not change with an owner. -/
theorem ownerWord_apart : ∀ f ∈ [F.BOOT_STAT_STAGE, F.BOOT_STARTS_CONSEC, F.BOOT_WINTER_REASON, F.BOOT_APPRST_CAUSE, F.UPD_RQSEQ], ¬ OwnerWord f.addr := by
  unfold OwnerWord EngineWord InPages
  decide

end Sys2Proof.Machine
end

section
/-!
Proofs about what a start leaves alone: the marks of the domains in the boot record (which run, the cause of the legal reset, Production test, a tag
mismatch that waits) and the word of BOOT.APPRST. First the operations of a start one by one, then the cold start and the resets.
-/

namespace Sys2Proof.Machine

/-- The marks of the domains. -/
def Boot.marks (b : Boot) : Boot :=
  { appRuns := b.appRuns, legalRuns := b.legalRuns, powered := b.powered, resetCause := b.resetCause, productionTest := b.productionTest
    mismatch := b.mismatch }

/-- Of a state, these marks only. -/
def State.onlyMarks (s : State) : State := { State.reset with boot := s.boot.marks }

/-- From `s` to `t` the marks and the word of BOOT.APPRST are kept. -/
abbrev Marked (s t : State) : Prop := Changes State.onlyMarks (· ≠ F.BOOT_APPRST_CAUSE.addr) s t

/-- From `s` to `t` the marks are kept; any word may have changed. -/
abbrev BootMarked (s t : State) : Prop := Changes State.onlyMarks (fun _ => True) s t

theorem Marked.bootMarked {s t : State} (h : Marked s t) : BootMarked s t := h.mono (fun _ => rfl) fun _ _ => trivial

theorem ne_of_inPages {ps : List Nat} {b : Nat} (hb : ¬ InPages ps b) {a : Nat} (ha : InPages ps a) : a ≠ b := fun h => hb (h ▸ ha)

namespace Changes

variable {W : Nat → Prop} {s t : State}

/-- Components other than the marks and the register words change. -/
theorem congrMarks (h : Changes State.onlyMarks W s t) {u : State} (hb : u.boot.marks = t.boot.marks) (hr : u.regs = t.regs) :
    Changes State.onlyMarks W s u :=
  h.trans ⟨congrArg (fun b => ({ State.reset with boot := b } : State)) hb, fun a _ => by rw [State.word, State.word, hr]⟩

section
variable (h : Changes State.onlyMarks W s t)
include h

theorem withLog (x : EventLog) : Changes State.onlyMarks W s { t with log := x } := h.congrMarks rfl rfl
theorem withSession (x : Session) : Changes State.onlyMarks W s { t with session := x } := h.congrMarks rfl rfl
theorem withTenants (x : Tenants) : Changes State.onlyMarks W s { t with tenants := x } := h.congrMarks rfl rfl
theorem withSafety (x : Safety) : Changes State.onlyMarks W s { t with safety := x } := h.congrMarks rfl rfl
theorem withUpdate (x : Update) : Changes State.onlyMarks W s { t with update := x } := h.congrMarks rfl rfl
theorem withTags (x : List (Nat × SramTag)) : Changes State.onlyMarks W s { t with sramTags := x } := h.congrMarks rfl rfl
theorem withRings (x : List (Nat × Ring)) : Changes State.onlyMarks W s { t with rings := x } := h.congrMarks rfl rfl
theorem withReader (x : Reader) : Changes State.onlyMarks W s { t with reader := x } := h.congrMarks rfl rfl
theorem withEther (x : Ether) : Changes State.onlyMarks W s { t with ether := x } := h.congrMarks rfl rfl
theorem withPanel (m : List Host.Cell) (x : List (Nat × SramTag)) (p : Panel) : Changes State.onlyMarks W s { t with mem := m, sramTags := x, panel := p } :=
  h.congrMarks rfl rfl
theorem withBoot (x : Boot) (hx : x.marks = t.boot.marks) : Changes State.onlyMarks W s { t with boot := x } := h.congrMarks hx rfl
end

theorem bootMarks (h : Changes State.onlyMarks W s t) : t.boot.marks = s.boot.marks := h.kept (fun u => u.boot.marks) fun _ => rfl

theorem incSat {e : State → State} (h : Changes e W s t) {f : Field} (hf : W f.addr) : Changes e W s (t.incSat f) := h.put _ hf

theorem bootMarked_of_apart (h : t.apart = s.apart) : BootMarked s t := by
  have hb : t.boot = s.boot := congrArg (·.2.2.2.2.1) h
  exact ⟨congrArg (fun b : Boot => ({ State.reset with boot := b.marks } : State)) hb, fun _ ha => absurd trivial ha⟩

end Changes

section
variable (s : State)

/-! ### Lines of the ledger -/

theorem State.setLine_marked (i d : Nat) : Marked s (s.setLine i d) := (Changes.refl s).congrMarks rfl rfl

theorem State.setLines_marked (n : Nat) : ∀ (s : State) (i v : Nat), Marked s (s.setLines i n v) := by
  induction n with
  | zero => exact fun s _ _ => Changes.refl s
  | succ n ih => exact fun s _ _ => (s.setLine_marked _ _).trans (ih _ _ _)

theorem State.setLineList_marked (ds : List Nat) : ∀ (s : State) (l : Nat), Marked s (s.setLineList l ds) := by
  induction ds with
  | nil => exact fun s _ => Changes.refl s
  | cons d ds ih => exact fun s _ => (s.setLine_marked _ _).trans (ih _ _)

theorem State.commitCopy_marked (la lb n : Nat) (body : Nat → List Nat) : Marked s (s.commitCopy la lb n body) :=
  (State.setLineList_marked _ s _).trans (State.setLine_marked _ _ _)

theorem State.commitBoot_marked : Marked s s.commitBoot := .ite (s.setLine_marked _ _) (s.setLine_marked _ _)

theorem State.spoilList_marked (i cause : Nat) : Marked s (s.spoilList i cause) := by
  unfold State.spoilList
  extract_lets t tn s1
  have h1 : Marked s s1 := .ite (.withTenants (.refl s) _) (.refl s)
  exact .ite (.ite (.logE (.irq (.withTenants h1 _) _ (by decide)) _ _ (by decide)) h1) (.refl s)

theorem State.readLine_marked (i : Nat) : Marked s (s.readLine i).2 := by
  have hbad : Marked s (s.noteBadLine i) := (((Changes.refl s).incSat (by decide)).put _ (by decide)).put _ (by decide) |>.irq _ (by decide)
  unfold State.readLine
  split
  · exact .refl s
  · exact (((s.setLine_marked _ _).incSat (by decide)).irq _ (by decide)).logE _ _ (by decide)
  · dsimp only
    exact (hbad.logE _ _ (by decide)).trans (.ite (State.spoilList_marked _ _ _) (.refl _))

theorem State.touch_marked (i n : Nat) : Marked s (s.touch i n) := .foldl _ (fun t _ => t.readLine_marked _) _ s

/-! ### Events and sessions -/

theorem State.settle_marked : Marked s s.settle :=
  s.settle_switched.mono (fun _ => rfl) fun _ => ne_of_inPages (by unfold InPages; decide)

theorem State.noteMode_marked : Marked s s.noteMode :=
  s.noteMode_changes.mono (fun _ => rfl) fun _ => ne_of_inPages (by unfold InPages; decide)

theorem State.toStage_marked (st : Nat) : Marked s (s.toStage st) :=
  .ite s.noteMode_marked ((((Changes.refl s).put _ (by decide)).irq _ (by decide)).trans (State.noteMode_marked _))

theorem State.beginClose_marked (reason appReason : Nat) : Marked s (s.beginClose reason appReason) := by
  have hset (x : Session) : Marked s { s with session := x } := .withSession (.refl s) x
  unfold State.beginClose
  split
  · exact ((hset _).put _ (by decide)).irq _ (by decide)
  · exact hset _
  · exact .ite (hset _) (.refl s)
  · exact hset _

theorem State.closeSession_marked (reason appReason : Nat) : Marked s (s.closeSession reason appReason) :=
  (s.beginClose_marked _ _).trans (State.settle_marked _)

theorem State.incLec_marked (code : Nat) : Marked s (s.incLec code) := by
  unfold State.incLec
  extract_lets n s1
  have h1 : Marked s s1 := (((Changes.refl s).put _ (by decide)).put _ (by decide)).irq _ (by decide)
  exact .ite ((Changes.refl s).put _ (by decide)) (.ite (.logE (.put (.withLog h1 _) _ (by decide)) _ _ (by decide)) h1)

theorem State.fault_marked (c : Nat) : Marked s (s.fault Page.LDG c) :=
  Changes.incSat (.ite (((Changes.refl s).put _ (by decide)).put _ (by decide)) (.refl s)) (by decide)

theorem State.writeCounted_marked (e : EventRec) : Marked s (s.writeCounted e) := by
  unfold State.writeCounted
  extract_lets used last e' s1 s2 s3 s4
  have h3 : Marked s s3 := ((s.incLec_marked _).trans (State.setLines_marked _ _ _ _)).put _ (by decide)
  have h4 : Marked s s4 := .ite (((h3.put _ (by decide)).trans (State.fault_marked _ _)).trans (State.closeSession_marked _ _ _)) h3
  exact .ite ((Changes.refl s).incSat (by decide))
    (.ite (.logE (.irq (.put (.withLog h4 _) _ (by decide)) _ (by decide)) _ _ (by decide)) h4)

theorem State.writeRing_marked (e : EventRec) : Marked s (s.writeRing e) := by
  unfold State.writeRing
  extract_lets pos s1
  have h1 : Marked s s1 := State.setLines_marked _ _ _ _
  exact .put (.withLog h1 _) _ (by decide)

theorem State.admitWaiting_marked : Marked s s.admitWaiting := by
  unfold State.admitWaiting
  split
  · exact .refl s
  · exact .ite (.withLog (.refl s) _) (.refl s)

theorem State.reportDrops_marked : Marked s s.reportDrops := .ite (.logE (.withLog (.refl s) _) _ _ (by decide)) (.refl s)

theorem State.commitEvent_marked : Marked s s.commitEvent := by
  have hlog (x : EventLog) : Marked s { s with log := x } := .withLog (.refl s) x
  have hcounted (e : EventRec) (x : EventLog) : Marked s (({ s with log := x } : State).writeCounted e).admitWaiting :=
    ((hlog x).trans (State.writeCounted_marked _ e)).trans (State.admitWaiting_marked _)
  have hring (e : EventRec) (x : EventLog) : Marked s (({ s with log := x } : State).writeRing e).reportDrops :=
    ((hlog x).trans (State.writeRing_marked _ e)).trans (State.reportDrops_marked _)
  unfold State.commitEvent
  dsimp only
  split
  · exact .refl s
  · exact hcounted _ _
  · exact hring _ _
  · exact .ite (hcounted _ _) (hring _ _)

theorem State.commitEvents_marked (n : Nat) : ∀ s : State, Marked s (s.commitEvents n) := by
  induction n with
  | zero => exact Changes.refl
  | succ n ih => exact fun s => s.commitEvent_marked.trans (ih _)

theorem State.collect_marked (e : EventRec) : Marked s (s.collect e) :=
  ⟨congrArg State.onlyMarks (s.collect_rest e), fun a ha => s.collect_words e a fun hm =>
    ha fun h => absurd (h ▸ hm) (by decide)⟩

theorem State.flushBootBuffer_marked (cycle : Nat) : Marked s (s.flushBootBuffer cycle) := by
  unfold State.flushBootBuffer
  exact Changes.trans (.withLog (.refl s) _) (.foldl _ (fun t e => t.collect_marked e) _ _)

/-! ### Winter mode -/

theorem State.holdIsland_marked (src : Nat) : Marked s (s.holdIsland src) := by
  unfold State.holdIsland
  exact .ite ((((((Changes.refl s).put _ (by decide)).put _ (by decide)).irq _ (by decide)).logE _ _ (by decide)).trans (State.settle_marked _)) (.refl s)

theorem State.takePages_marked : Marked s s.takePages :=
  s.takePages_transferred.mono (fun _ => rfl) fun _ ha h => ownerWord_apart F.BOOT_APPRST_CAUSE (by simp) (h ▸ ha)

theorem State.holdWinter_marked : Marked s s.holdWinter :=
  ((s.holdIsland_marked 1).trans (State.takePages_marked _)).trans (State.toStage_marked _ _)

theorem State.romServe_marked : Marked s s.romServe := by
  have hlec : Marked s (s.holdIsland 1).restoreLec := by
    unfold State.restoreLec
    exact ((s.holdIsland_marked 1).trans (State.touch_marked _ _ _)).put _ (by decide)
  unfold State.romServe
  exact ((((hlec.put _ (by decide)).put _ (by decide)).trans (State.flushBootBuffer_marked _ _)).trans (State.commitEvents_marked _ _)).trans
    (State.toStage_marked _ _)

theorem State.commitStart_marked : Marked s s.commitStart := by
  unfold State.commitStart
  exact (Changes.when _ (.withBoot (.refl s) _ (by rfl)) (State.commitCopy_marked _ _ _ _ _)).trans (State.commitBoot_marked _)

theorem State.enterWinter_marked (reason code : Nat) (rom : Bool) : Marked s (s.enterWinter reason code rom) := by
  unfold State.enterWinter
  extract_lets _ s0 s1 _ s2
  have h0 : Marked s s0 := (((s.holdIsland_marked 1).put _ (by decide)).put _ (by decide)).put _ (by decide)
  have h1 : Marked s s1 := (((h0.trans (State.closeSession_marked _ _ _)).logE _ _ (by decide)).irq _ (by decide)).trans (State.commitStart_marked _)
  have h2 : Marked s s2 := h1.withBoot _ (by rfl)
  exact .ite (.ite (.trans (.withBoot (.refl s) _ (by rfl)) (State.romServe_marked _)) s.holdWinter_marked)
    (.ite (h2.trans (State.romServe_marked _)) (h2.trans (State.holdWinter_marked _)))

/-! ### Stage S0 -/

theorem State.loadBoot_marked : Marked s s.loadBoot := by
  unfold State.loadBoot
  exact .ite (s.touch_marked _ _) (((((s.touch_marked _ _).setWord _ (by decide)).setWord _ (by decide)).put _ (by decide)).put _ (by decide)
    |>.put _ (by decide))

theorem floor_apart : ∀ i ∈ List.range 7, (F.UPD_FLOOR.i i).addr ≠ F.BOOT_APPRST_CAUSE.addr := by decide

theorem State.loadBsel_marked : Marked s s.loadBsel := by
  have h0 : Marked s (s.touchCopies 0x10 0x18 8) := (s.touch_marked _ _).trans (State.touch_marked _ _ _)
  unfold State.loadBsel
  dsimp only
  split
  · exact h0
  · have hfloor (v : Nat → Nat) (t : State) : Marked t ((List.range 7).foldl (fun (t : State) i => t.put (F.UPD_FLOOR.i i) (v i)) t) :=
      .foldl_mem _ _ (fun i hi t => (Changes.refl t).put _ (floor_apart i hi)) t
    exact .withUpdate (.put (.trans (.put (.put (.put (.put (.put (.put (.put h0 _ (by decide)) _ (by decide)) _ (by decide)) _ (by decide)) _
      (by decide)) _ (by decide)) _ (by decide)) (hfloor _ _)) _ (by decide)) _

theorem State.makeActive_marked (b : Nat) : Marked s (s.makeActive b) :=
  .put (.put (.withUpdate (.refl s) _) _ (by decide)) _ (by decide)

theorem suspField_apart (b : Nat) : (suspField b).addr ≠ F.BOOT_APPRST_CAUSE.addr := by
  rw [suspField_addr]
  decide

theorem State.markSuspect_marked (b : Nat) : Marked s (s.markSuspect b) :=
  .irq (.put (f := suspField b) (.refl s) 1 (suspField_apart b)) 3 (by decide)

theorem State.setBytes_marked (l : List Byte) : ∀ (s : State) (a : Nat), Marked s (s.setBytes a l) := by
  induction l with
  | nil => exact fun s _ => Changes.refl s
  | cons b l ih => exact fun s a => ((Changes.refl s).congrMarks (u := s.setByte a b) rfl rfl).trans (ih _ _)

theorem State.copyLegal_marked : Marked s s.copyLegal := by
  unfold State.copyLegal
  exact .ite (.withTags (State.setBytes_marked _ s _) _) (.refl s)

theorem State.bankFails_marked : Marked s s.bankFails := by
  unfold State.bankFails
  extract_lets b s1 s2 _ s3
  have h1 : Marked s s1 := (s.markSuspect_marked _).logE _ _ (by decide)
  have h2 : Marked s s2 := ((h1.trans (State.makeActive_marked _ _)).logE _ _ (by decide)).trans (State.toStage_marked _ _)
  have h3 : Marked s s3 := h2.withBoot _ (by rfl)
  exact .ite (.ite (h3.trans (State.copyLegal_marked _))
    (((h3.trans (State.markSuspect_marked _ _)).logE _ _ (by decide)).trans (State.enterWinter_marked _ _ _ _)))
    (h1.trans (State.enterWinter_marked _ _ _ _))

/-- The legal domain leaves reset, the supply valid. -/
def State.legalStarted (cause : Nat) : State := { s with boot := { s.boot with powered := true, legalRuns := true, resetCause := cause } }

/-- S0 starts the legal domain and keeps the marks otherwise. -/
theorem State.stageS0_starts (cause : Nat) (z : ColdCheck) : ∃ u : State, Marked s u ∧ Marked (u.legalStarted cause) (s.stageS0 cause z) := by
  unfold State.stageS0
  extract_lets s1 s2 _ s3 s4 s5 s6 s7 _ _ s8
  have h2 : Marked s s2 := (((s.loadBoot_marked.trans (State.loadBsel_marked _)).put _ (by decide)).put _ (by decide)).put _ (by decide)
  have h4 : Marked s3 s4 := (((Changes.refl s3).put _ (by decide)).trans (State.noteMode_marked _)).logE _ _ (by decide)
  have hlog (u : State) (c a : Nat) : Marked u (u.logE Page.LDG c a) := (Changes.refl u).logE _ _ (by decide)
  have h7 : Marked s3 s7 := Changes.when _ (.when _ (.when _ h4 (hlog _ _ _)) (hlog _ _ _)) (hlog _ _ _)
  have h8 : Marked s3 s8 := h7.congrMarks (by rfl) (by rfl)
  exact ⟨s2, h2, .ite (h8.trans (State.romServe_marked _)) (.ite (h8.trans (State.enterWinter_marked _ _ _ _))
    (.ite (h8.trans (State.copyLegal_marked _)) (h8.trans (State.bankFails_marked _))))⟩

/-! ### A cold start -/

theorem State.resetSwPages_switched {e : State → State} : Changes e (InPages switchPages) s s.resetSwPages := by
  have hpage : ∀ p ∈ [Page.SW 0, Page.SW 1], p ∈ switchPages := by decide
  refine .foldl_mem _ _ (fun p hp t => ?_) s
  have hrange {a b : Nat} (hb : b ≤ 0x1000) (x : Nat) (hlo : p + a ≤ x) (hhi : x < p + b) : InPages switchPages x := ⟨p, hpage p hp, by omega, by omega⟩
  exact (((Changes.refl t).resetRange _ _ (hrange (by decide))).resetRange _ _ (hrange (by decide))).resetRange _ _ (hrange (by decide))

theorem Changes.setSafety {W : Nat → Prop} {s t : State} (h : Changes State.offSwitches W s t) (x : Safety) :
    Changes State.offSwitches W s { t with safety := x } := h.trans ⟨rfl, fun _ _ => rfl⟩

theorem State.resetSwitches_switched : Switched s s.resetSwitches := by
  have hboth (f : Field) (h0 : InPages switchPages (f.i 0).addr) (h1 : InPages switchPages (f.i 1).addr) (t : State) : Switched t (t.putBoth f 0) :=
    ((Changes.refl t).put 0 h0).put 0 h1
  have hputs := ((hboth F.SW_CTL_EN (by unfold InPages; decide) (by unfold InPages; decide) s).trans
    (hboth F.SW_REQ_MASK (by unfold InPages; decide) (by unfold InPages; decide) _)).trans
    (hboth F.SW_SHED_MASK (by unfold InPages; decide) (by unfold InPages; decide) _)
  have hcfg (t : State) (n : Fin 24) : Switched t (t.resetChCfg n) :=
    (Changes.refl t).setWord _ (swField_inPages n _ rfl (by decide) (by decide))
  unfold State.resetSwitches
  extract_lets s1 s2
  have h2 : Switched s s2 := Changes.trans (t := s1) hputs (.foldl _ hcfg _ s1)
  exact (h2.setSafety _).trans (State.settle_switched _)

theorem State.trimKept_marked : Marked s s.trimKept :=
  .put (.put (.put (.put (.put (.put (.put (.put (.refl s) _ (by decide)) _ (by decide)) _ (by decide)) _ (by decide)) _ (by decide)) _ (by decide)) _
    (by decide)) _ (by decide)

/-- A cold start while the supply stays keeps the word of BOOT.APPRST; no mark is left. -/
theorem State.coldReset_marks : (s.coldReset false).boot.marks = {} ∧ (s.coldReset false).word F.BOOT_APPRST_CAUSE.addr = s.word F.BOOT_APPRST_CAUSE.addr := by
  unfold State.coldReset
  extract_lets u u1 _ t
  have hu : u.word F.BOOT_APPRST_CAUSE.addr = s.word F.BOOT_APPRST_CAUSE.addr :=
    ((s.resetSwPages_switched.trans (State.resetSwitches_switched _)).2 _ (by unfold InPages; decide))
  have hkept : coldKeeps false F.BOOT_APPRST_CAUSE.addr = true := by decide
  have ht : t.word F.BOOT_APPRST_CAUSE.addr = u.word F.BOOT_APPRST_CAUSE.addr := by
    change storeRead resetWord (storeErase (fun a => !coldKeeps false a) u.regs) F.BOOT_APPRST_CAUSE.addr = _
    rw [storeRead_erase, hkept]
    rfl
  have htrim := t.trimKept_marked
  exact ⟨htrim.bootMarks, (htrim.2 _ fun h => h rfl).trans (ht.trans hu)⟩

/-- A cold start while the supply stays starts the legal domain alone. -/
theorem State.coldStart_starts (cause : Nat) (z : ColdCheck) {pre : State → State} (hpre : ∀ u, Marked u (pre u)) :
    (s.coldStart false cause z pre).boot.marks = { powered := true, legalRuns := true, resetCause := cause }
      ∧ (s.coldStart false cause z pre).word F.BOOT_APPRST_CAUSE.addr = s.word F.BOOT_APPRST_CAUSE.addr := by
  unfold State.coldStart
  extract_lets staged role s1
  have h1 : Marked (s.coldReset false) s1 := (State.settle_marked _).trans (hpre _)
  have hrole : Marked s1 (s1.logE Page.VEH 0x0511 2) := (Changes.refl s1).logE _ _ (by decide)
  have hstaged (u : State) : Marked u (u.logE Page.UPD 0x0F06 4) := (Changes.refl u).logE _ _ (by decide)
  have h2 : Marked (s.coldReset false) ((s1.when role (·.logE Page.VEH 0x0511 2)).when staged (·.logE Page.UPD 0x0F06 4)) :=
    Changes.when _ (.when _ h1 hrole) (hstaged _)
  obtain ⟨u, hu, hstart⟩ := State.stageS0_starts _ cause z
  obtain ⟨hmarks, hword⟩ := s.coldReset_marks
  have hfresh : u.boot.marks = {} := (h2.trans hu).bootMarks.trans hmarks
  have hkept {t v : State} (h : Marked t v) : v.word F.BOOT_APPRST_CAUSE.addr = t.word F.BOOT_APPRST_CAUSE.addr := h.2 _ fun h => h rfl
  have hstarted : (u.legalStarted cause).boot.marks = { u.boot.marks with powered := true, legalRuns := true, resetCause := cause } := rfl
  exact ⟨hstart.bootMarks.trans (by rw [hstarted, hfresh]), (hkept hstart).trans ((hkept (h2.trans hu)).trans hword)⟩

end

end Sys2Proof.Machine
end

section
/-!
Proofs about restarts of the legal domain, tag mismatches and the confirmation of a start (R125, R131, R133 to R139).
-/

namespace Sys2Proof.Machine

/-! ### The application domain is reset -/

section
variable (s : State)

theorem State.resetOwned_bootMarked (p : Nat) {f : State → State} (hf : ∀ u, BootMarked u (f u)) : BootMarked s (s.resetOwned p f) := .ite (hf s) (.refl s)

theorem State.resetTen_bootMarked : BootMarked s s.resetTen := by
  unfold State.resetTen
  exact .withTenants (.resetRange (.foldl _ (fun u _ => (u.spoilList_marked _ _).bootMarked) _ s) _ _ fun _ _ _ => trivial) _

theorem State.resetPage_bootMarked (p : Nat) : BootMarked s (s.resetPage p) := .bootMarked_of_apart (s.resetPage_apart p)

theorem State.resetPat_bootMarked (p : Nat) : BootMarked s (s.resetPat p) := .bootMarked_of_apart (s.resetPat_apart p)

theorem State.resetAppRings_bootMarked : BootMarked s s.resetAppRings := by
  unfold State.resetAppRings
  extract_lets s1 s2 s3
  have h2 : BootMarked s s2 := .withRings (.resetRange (.refl s) _ _ fun _ _ _ => trivial) _
  have h3 : BootMarked s s3 := h2.trans (.foldl _ (fun u _ => .put (.put (.put (.refl u) _ trivial) _ trivial) _ trivial) _ s2)
  exact h3.trans (.bootMarked_of_apart (State.noteLegalRings_apart _))

theorem State.resetPanelApp_bootMarked : BootMarked s s.resetPanelApp := by
  unfold State.resetPanelApp
  extract_lets _ s1
  have h1 : BootMarked s s1 := .withPanel (.refl s) _ _ _
  exact h1.trans (.bootMarked_of_apart (State.showQueues_apart _))

theorem State.resetEpdApp_bootMarked : BootMarked s s.resetEpdApp := by
  unfold State.resetEpdApp
  exact .trans (.eraseRegs (.refl s) _ fun _ _ => trivial) (.bootMarked_of_apart (State.showQueues_apart _))

theorem State.resetRange_bootMarked (a b : Nat) : BootMarked s (s.resetRange a b) := .resetRange (.refl s) _ _ fun _ _ _ => trivial

theorem State.resetSys_bootMarked : BootMarked s s.resetSys :=
  ((s.resetRange_bootMarked _ _).trans (State.resetRange_bootMarked _ _ _)).trans (State.resetRange_bootMarked _ _ _)

theorem State.resetTmr_bootMarked (standby : Bool) : BootMarked s (s.resetTmr standby) := by
  unfold State.resetTmr
  extract_lets s1
  have h1 : BootMarked s s1 := (s.resetRange_bootMarked _ _).trans (State.resetRange_bootMarked _ _ _)
  exact .ite h1 (h1.trans (State.resetRange_bootMarked _ _ _))

theorem State.resetSwitches_bootMarked : BootMarked s s.resetSwitches := s.resetSwitches_switched.mono (fun _ => rfl) fun _ _ => trivial

theorem State.loseSwitch_bootMarked (n : Fin 24) : BootMarked s (s.loseSwitch n) := by
  have hcell (x : SwChan) : BootMarked s (s.setSw n x) := .withSafety (.refl s) _
  unfold State.loseSwitch
  exact .when _ (.setWord (.setWord (.setWord (.put (.setWord (.put (hcell _) _ trivial) _ trivial) _ trivial) _ trivial) _ trivial) _ trivial)
    (.put (.refl _) _ trivial)

theorem State.standbySwitches_bootMarked : BootMarked s s.standbySwitches :=
  (s.resetSwitches_bootMarked.trans (.foldl _ State.loseSwitch_bootMarked _ _)).trans (State.settle_marked _).bootMarked

theorem State.resetReader_bootMarked : BootMarked s s.resetReader := .withReader (s.resetRange_bootMarked _ _) _

/-- What a reset puts back of the application domain does not reach the marks. -/
theorem State.resetAppRegs_bootMarked (standby : Bool) : BootMarked s (s.resetAppRegs standby) := by
  unfold State.resetAppRegs
  extract_lets pilot s1 s2 s3 s4 s5 s6 s7 s8 s9 u0 s10 keepU0
  have hsys (u : State) : BootMarked u ((u.resetSys.resetTmr standby).resetSwPages) :=
    (u.resetSys_bootMarked.trans (State.resetTmr_bootMarked _ _)).trans (State.resetSwPages_switched _ |>.mono (fun _ => rfl) fun _ _ => trivial)
  have h1 : BootMarked s s1 := .foldl _ State.resetPat_bootMarked _ s
  have h2 : BootMarked s s2 := (h1.trans (hsys s1)).trans (.foldl _ State.resetPage_bootMarked _ _)
  have h3 : BootMarked s s3 := .ite (h2.put _ trivial) h2
  have hsw : BootMarked s (if standby then s3.standbySwitches else s3.resetSwitches) :=
    .ite (h3.trans (State.standbySwitches_bootMarked _)) (h3.trans (State.resetSwitches_bootMarked _))
  have h4 : BootMarked s s4 := ((hsw.trans (State.resetTen_bootMarked _)).trans (State.resetReader_bootMarked _)).trans (State.resetPanelApp_bootMarked _)
  have h6 : BootMarked s s6 := (h4.trans (State.resetOwned_bootMarked _ _ State.resetEpdApp_bootMarked)).trans
    (State.resetOwned_bootMarked _ _ fun u => u.resetPage_bootMarked _)
  have h8 : BootMarked s s8 := (h6.trans (State.resetAppRings_bootMarked _)).trans
    (State.resetOwned_bootMarked _ _ fun u => .bootMarked_of_apart u.resetUpd_apart)
  have heth (u : State) : BootMarked u { (u.resetPat Page.ETH).resetPage Page.ETH with ether := {} } :=
    .withEther ((u.resetPat_bootMarked _).trans (State.resetPage_bootMarked _ _)) _
  have h10 : BootMarked s s10 := (h8.trans (State.resetOwned_bootMarked _ _ heth)).trans
    (State.resetOwned_bootMarked _ _ fun u => (u.resetPat_bootMarked _).trans (State.resetPage_bootMarked _ _))
  exact .congrMarks h10 rfl rfl

/-- After a reset of the application domain no tag mismatch waits. -/
theorem State.applicationReset_matched (cause : Nat) : (s.applicationReset cause false).boot.marks.mismatch = false := by
  unfold State.applicationReset
  extract_lets s1 s2 _ s3 s4 s5
  have h5 : BootMarked s3 s5 := .put (.trans (.put (.put (.refl s3) _ trivial) _ trivial) (State.resetAppRegs_bootMarked _ _)) _ trivial
  have hall : BootMarked s3 s5.settle := h5.trans (State.settle_marked _).bootMarked
  rw [hall.bootMarks]
  rfl

theorem State.previousBank_marks (code arg : Nat) (z : ColdCheck) :
    (s.previousBank code arg z).boot.marks = { powered := true, legalRuns := true, resetCause := 3 } := by
  unfold State.previousBank
  extract_lets b s1 s2
  exact (State.coldStart_starts _ 3 z (pre := id) Changes.refl).1

theorem State.fallBack_marks (cause : Nat) (z : ColdCheck) :
    (s.fallBack cause z).boot.marks = { powered := true, legalRuns := true, resetCause := 3 } := by
  unfold State.fallBack
  exact s.previousBank_marks _ _ z

theorem mismatch_of_marks {a b : Boot} (h : a.marks = b) : a.mismatch = b.mismatch := h ▸ rfl

/-- After a failed start no tag mismatch waits (R131). -/
theorem State.failStart_matched (cause code : Nat) (z : ColdCheck) : (s.failStart cause code z).boot.mismatch = false := by
  unfold State.failStart
  extract_lets good always s1 n s2 _ s3
  have h1 : BootMarked (s.applicationReset cause false) s1 := Changes.when _ (.refl _) (.logE (.refl _) _ _ fun _ _ => trivial)
  have h3 : BootMarked (s.applicationReset cause false) s3 := .trans (.withBoot (.put h1 _ trivial) _ (by rfl)) (State.commitBoot_marked _).bootMarked
  have hkept {t : State} (h : BootMarked (s.applicationReset cause false) t) : t.boot.mismatch = false :=
    (mismatch_of_marks h.bootMarks).trans (s.applicationReset_matched cause)
  split
  · exact hkept (h1.trans (State.toStage_marked _ _).bootMarked)
  · split
    · exact hkept (h3.trans (State.toStage_marked _ _).bootMarked)
    · split
      · exact mismatch_of_marks (State.fallBack_marks _ _ z)
      · exact hkept (h3.trans (State.enterWinter_marked _ _ _ _).bootMarked)

end

/-! ### The confirmation of a start (R133 to R137) -/

theorem exec_startConfirmation (s : State) (v : Word) : exec (.startConfirmation v) s = .next (s.confirmStart v.toNat) := rfl

theorem exec_startGood (s : State) : exec .startGood s = .next s.becomeGood := rfl

theorem exec_mismatchReset (s : State) (z : ColdCheck) (h : s.boot.mismatch = true) : exec (.mismatchReset z) s = .next (s.failStart 4 0x0109 z) :=
  congrArg Host.Outcome.next (if_pos h)

theorem start_confirmed (s : State) : Claims.startConfirmation s := by
  intro happ hok hdl
  have heq : s.confirmStart 0x5A3C = ((s.put F.BOOT_STAT_START_OK 1).put F.BOOT_DEADLINE_MS 0).put F.BOOT_GOODLEFT_S 600 := by
    simp [State.confirmStart, happ, hok, hdl]
  have hw : Changes id (· ∈ [F.BOOT_STAT_START_OK.addr, F.BOOT_DEADLINE_MS.addr, F.BOOT_GOODLEFT_S.addr]) s (s.confirmStart 0x5A3C) :=
    heq ▸ .put (.put (.put (.refl s) 1 (by decide)) 0 (by decide)) 600 (by decide)
  rw [exec_startConfirmation]
  refine completes_next (t := s.confirmStart 0x5A3C) ⟨State.on_of_get ?_, ?_, ?_, hw.2, ?_⟩
  · rw [heq, State.get_put_addr _ _ _ _ (by decide), State.get_put_addr _ _ _ _ (by decide), State.get_put_same _ _ _ (by decide)]
    rfl
  · rw [heq, State.get_put_addr _ _ _ _ (by decide), State.get_put_same _ _ _ (by decide)]
    rfl
  · rw [heq, State.get_put_same _ _ _ (by decide)]
    rfl
  · refine State.eq_of_rest_log hw.1 ?_
    rw [heq, State.put_log, State.put_log, State.put_log]

theorem start_deadline_resets (s : State) (z : ColdCheck) : Claims.startDeadlineExpiry s z := by
  intro happ hpow hok
  have heq : exec (.startDeadlineExpiry z) s = .next ((s.logE Page.BOOT 0x0107 0).failStart 3 0x0107 z) :=
    congrArg Host.Outcome.next (if_pos ⟨happ, hpow, by rw [hok]; rfl⟩)
  have hheld : Held s ((s.logE Page.BOOT 0x0107 0).failStart 3 0x0107 z) := ((Held.refl s).logE _ _ _).trans (State.failStart_held _ _ _ _)
  rw [heq]
  exact completes_next ⟨State.failStart_stopped _ _ _ _, hheld.flash, hheld.pending⟩

theorem mismatch_resets (s : State) (z : ColdCheck) : Claims.mismatchReset s z := by
  intro hmis
  have hheld := s.failStart_held 4 0x0109 z
  rw [exec_mismatchReset s z hmis]
  exact completes_next ⟨s.failStart_stopped _ _ _, s.failStart_matched _ _ _, hheld.flash, hheld.pending⟩

/-! ### A run is good -/

section
variable (s : State)

/-- A state with the ledger taken out. -/
def State.offLedger : State := { s with ledger := [] }

theorem Changes.ledger_frame {W : Nat → Prop} {s t : State} (h : Changes State.offLedger W s t) :
    t = { s with regs := t.regs, ledger := t.ledger, log := t.log } := by
  have hself : ∀ u : State, u = { u.rest.offLedger with regs := u.regs, ledger := u.ledger, log := u.log } := fun _ => rfl
  have ht := hself t
  rwa [h.1] at ht

theorem Changes.commitBoot {W : Nat → Prop} {s t : State} (h : Changes State.offLedger W s t) : Changes State.offLedger W s t.commitBoot :=
  h.trans ⟨by rw [t.commitBoot_frame]; rfl, fun a _ => t.commitBoot_word a⟩

theorem State.commitBoot_log : s.commitBoot.log = s.log := by rw [s.commitBoot_frame]

/-- The run of the legal domain has qualified. -/
def State.legalQualified : State := (s.put F.BOOT_STARTS_LCONSEC 0).commitBoot

theorem legal_run_qualified (s : State) : Claims.legalRunQualified s := by
  intro hlegal hpow hstage hrom
  by_cases hzero : s.get F.BOOT_STARTS_LCONSEC = 0
  · have heq : exec .legalRunQualified s = .next s := congrArg Host.Outcome.next (if_neg fun h => h.2.2.2.2 hzero)
    rw [heq]
    exact completes_next ⟨hzero, fun _ _ => rfl, rfl⟩
  · have heq : exec .legalRunQualified s = .next s.legalQualified :=
      congrArg Host.Outcome.next (if_pos ⟨hlegal, hpow, hstage, by rw [hrom]; rfl, hzero⟩)
    have hput : Changes State.offLedger (InPages [Page.BOOT]) s (s.put F.BOOT_STARTS_LCONSEC 0) := .put (.refl s) 0 (by unfold InPages; decide)
    have hlog : s.legalQualified.log = s.log := (State.commitBoot_log _).trans (s.put_log _ _)
    have hframe : s.legalQualified = { s with regs := s.legalQualified.regs, ledger := s.legalQualified.ledger, log := s.legalQualified.log } :=
      hput.commitBoot.ledger_frame
    rw [hlog] at hframe
    rw [heq]
    exact completes_next ⟨(State.commitBoot_get _ _).trans (State.get_put_same _ _ _ (by decide)), hput.commitBoot.2, hframe⟩

/-- The boot record of a good start. -/
def State.goodCommitted : State := (((s.put F.BOOT_STAT_GOOD 1).put F.BOOT_GOODLEFT_S 0).put F.BOOT_STARTS_CONSEC 0).commitBoot

theorem State.goodCommitted_changes : Changes State.offLedger (InPages [Page.BOOT, Page.LDG]) s s.goodCommitted :=
  .commitBoot (.put (.put (.put (.refl s) 1 (by unfold InPages; decide)) 0 (by unfold InPages; decide)) 0 (by unfold InPages; decide))

theorem State.goodCommitted_log : s.goodCommitted.log = s.log := by
  rw [State.goodCommitted, State.commitBoot_log, State.put_log, State.put_log, State.put_log]

theorem start_becomes_good (s : State) : Claims.startGood s := by
  intro happ hpow hok hgood hr
  have heq : s.becomeGood = (s.goodCommitted.irq Page.BOOT 4).logE Page.BOOT 0x0113 0 :=
    if_pos ⟨happ, hpow, hok, by rw [hgood]; rfl⟩
  have hchg : Changes State.offLedger (InPages [Page.BOOT, Page.LDG]) s s.becomeGood :=
    heq ▸ .logE_page (.irq_page s.goodCommitted_changes (by decide) 4) (by decide) _ _ (by decide)
  have hget (f : Field) (hf : f.addr ∉ logWords Page.BOOT) (hirq : f.addr ≠ Page.BOOT + 0x10) : s.becomeGood.get f = s.goodCommitted.get f := by
    rw [heq, (State.logE_onlyLogged _ _ _ _).get f hf]
    exact State.get_put_addr _ _ _ _ hirq
  have hlog : (s.goodCommitted.irq Page.BOOT 4).log = s.log := (State.irq_log _ _ _).trans s.goodCommitted_log
  have hlogged : Logged Page.BOOT 0x0113 0 s s.becomeGood := heq ▸ (LogsAtMost.of_log 0 hlog).logged _ _ _ hr
  rw [exec_startGood]
  refine completes_next ⟨State.on_of_get ?_, ?_, hlogged, hchg.2, hchg.ledger_frame⟩
  · rw [hget _ (by decide) (by decide), State.goodCommitted, State.commitBoot_get, State.get_put_addr _ _ _ _ (by decide), State.get_put_addr _ _ _ _ (by decide),
      State.get_put_same _ _ _ (by decide)]
    rfl
  · rw [hget _ (by decide) (by decide), State.goodCommitted, State.commitBoot_get, State.get_put_same _ _ _ (by decide)]
    rfl

end

/-! ### A line that fails its tag on a fetch (R131) -/

theorem fetch_mismatched (s : State) (who : Initiator) (ofs : BitVec 28) : Claims.fetchTagMismatch s who ofs := by
  intro happ hr
  have heq : exec (.fetchTagMismatch who ofs) s = .next (s.fetchMismatch ofs.toNat) := congrArg Host.Outcome.next (if_pos happ)
  have hdone := s.fetchMismatch_done ofs.toNat happ hr rfl
  have hofs : ofs.toNat % 2 ^ 32 = ofs.toNat := Nat.mod_eq_of_lt (ofs.isLt.trans (by decide))
  rw [hofs] at hdone
  rw [heq]
  exact completes_next hdone

/-! ### A legal restart (R125) -/

section
variable (s : State)

theorem State.coldStart_held_pre (cause : Nat) (z : ColdCheck) {pre : State → State} (hpre : ∀ u, Held u (pre u)) :
    Held s (s.coldStart false cause z pre) := by
  unfold State.coldStart
  extract_lets staged role s1
  have h1 : Held s s1 := .trans (.settle (s.coldReset_held false)) (hpre _)
  exact .trans (.when (.when h1 _ fun u => .logE (.refl u) _ _ _) _ fun u => .logE (.refl u) _ _ _) (State.stageS0_held _ _ _)

theorem State.commitCounted_held (n : Nat) : ∀ s : State, Held s (s.commitCounted n) := by
  induction n with
  | zero => exact Held.refl
  | succ n ih =>
    intro s
    unfold State.commitCounted
    split
    · exact .refl s
    · have hcommit (e : EventRec) (x : EventLog) : Held s (({ s with log := x } : State).writeCounted e).admitWaiting :=
        .trans (.trans (.setLog (.refl s) x) (State.writeCounted_held _ e)) (State.admitWaiting_held _)
      exact (hcommit _ _).trans (ih _)

theorem State.legalResetCommit_held : Held s s.legalResetCommit := by
  unfold State.legalResetCommit
  extract_lets _ s0 s1 s2
  have h0 : Held s s0 := .settle (.setSession (.refl s) _)
  have h2 : Held s s2 := .trans (.trans (.trans h0 (State.freezeEngine_held _)) (State.stopPulses_held _)) (State.commitMirror_held _ _ _ _ _)
  have hc := State.commitCounted_held (s2.log.counted.length + s2.log.waiting.length) s2
  exact .ite (h2.trans ⟨hc.flash, hc.pending, id⟩) h0

/-- What a legal restart makes of the module. -/
structure LegalRestarted (cause : Nat) (s t : State) : Prop where
  marks : t.boot.marks = { powered := true, legalRuns := true, resetCause := cause }
  apprst : t.get F.BOOT_APPRST_CAUSE = 6
  held : Held s t

theorem State.legalRestart_restarts (cause : Nat) (z : ColdCheck) : LegalRestarted cause s (s.legalRestart cause z) := by
  unfold State.legalRestart
  extract_lets code fails s1 s2 s3 pre
  have h3 : Held s s3 := .trans (.when (.put s.legalResetCommit_held _ _) _ fun u => .put (.refl u) _ _) (State.commitBoot_held _)
  have hheld (u : State) : Held u (pre u) := .when (.when (.logE (.refl u) _ _ _) _ fun v => .logE (.refl v) _ _ _) _ fun v => .logE (.refl v) _ _ _
  have hmarked (u : State) : Marked u (pre u) :=
    Changes.when _ (.when _ (.logE (.refl u) _ _ (by decide)) (.logE (.refl _) _ _ (by decide))) (.logE (.refl _) _ _ (by decide))
  obtain ⟨hmarks, hword⟩ := State.coldStart_starts (s3.put F.BOOT_APPRST_CAUSE 6) cause z hmarked
  refine ⟨hmarks, ?_, (h3.put _ _).trans (State.coldStart_held_pre _ cause z hheld)⟩
  rw [State.get, hword, ← State.get, State.get_put_same _ _ _ (by decide)]
  rfl

/-- What the claims on restarts say follows. -/
theorem LegalRestarted.done {cause : Nat} {s t : State} (h : LegalRestarted cause s t) :
    t.boot.legalRuns = true ∧ t.boot.powered = true ∧ t.boot.appRuns = false ∧ t.boot.resetCause = cause ∧ t.boot.productionTest = false
      ∧ t.get F.BOOT_APPRST_CAUSE = 6 ∧ t.flash = s.flash ∧ t.pending = s.pending := by
  have hmark {α : Type} (f : Boot → α) (hf : ∀ b : Boot, f b = f b.marks) : f t.boot = f { powered := true, legalRuns := true, resetCause := cause } :=
    (hf _).trans (congrArg f h.marks)
  exact ⟨hmark Boot.legalRuns fun _ => rfl, hmark Boot.powered fun _ => rfl, hmark Boot.appRuns fun _ => rfl, hmark Boot.resetCause fun _ => rfl,
    hmark Boot.productionTest fun _ => rfl, h.apprst, h.held.flash, h.held.pending⟩

theorem legal_watchdog_restarts (s : State) (z : ColdCheck) : Claims.legalWatchdogExpiry s z := by
  intro hlegal hpow
  have heq : exec (.legalWatchdogExpiry z) s = .next (s.legalRestart 1 z) := congrArg Host.Outcome.next (if_pos ⟨hlegal, hpow⟩)
  rw [heq]
  exact completes_next (s.legalRestart_restarts 1 z).done

theorem lockstep_mismatch_restarts (s : State) (z : ColdCheck) : Claims.lockstepMismatch s z := by
  intro hlegal hpow
  have heq : exec (.lockstepMismatch z) s = .next (s.legalRestart 2 z) := congrArg Host.Outcome.next (if_pos ⟨hlegal, hpow⟩)
  rw [heq]
  exact completes_next (s.legalRestart_restarts 2 z).done

end

/-- Settles O5, the claims on restarts, tag mismatches and the confirmation of a start. -/
theorem restartsAndConfirmation : Obligations.RestartsAndConfirmation :=
  ⟨legal_watchdog_restarts, lockstep_mismatch_restarts, legal_run_qualified, fetch_mismatched, mismatch_resets, start_confirmed, start_deadline_resets,
    start_becomes_good⟩

end Sys2Proof.Machine
end

section
/-!
Proofs about the commands of the update engine (R729, R731) and the answers of the recovery service to them (R752): what a command changes, what it leaves
in UPD.STAT and UPD.RES, and what it answers.
-/

namespace Sys2Proof.Machine

/-! ### Fields of one word -/

/-- Two fields share no bit. -/
def Field.apart (f g : Field) : Bool :=
  g.addr != f.addr || (decide (f.lo + f.width ≤ 32) && (decide (g.lo + g.width ≤ f.lo) || decide (f.lo + f.width ≤ g.lo)))

theorem State.get_put_apart (s : State) (f g : Field) (v : Nat) (h : f.apart g = true) : (s.put f v).get g = s.get g := by
  rcases Bool.or_eq_true_iff.1 h with ha | hb
  · exact s.get_put_addr f g v (by simpa using ha)
  · obtain ⟨hf, hd⟩ := Bool.and_eq_true_iff.1 hb
    by_cases ha : g.addr = f.addr
    · exact s.get_put_disjoint f g v ha (of_decide_eq_true hf) ((Bool.or_eq_true_iff.1 hd).imp of_decide_eq_true of_decide_eq_true)
    · exact s.get_put_addr f g v ha

/-! ### What commands of the engine change -/

/-- The pages of a command of the engine. -/
def updPages : List Nat := [Page.UPD, Page.ANG, Page.LDG]

/-- A state with what a command of the engine may change besides register words taken out. -/
def State.offUpd (s : State) : State := { s with flash := [], ledger := [], update := {}, fresh := 0, bus := ⟨false, 0⟩ }

/-- From `s` to `t` only what a command of the engine, and its answer, may change has changed. -/
abbrev UpdOnly (s t : State) : Prop := Changes State.offUpd (InPages updPages) s t

theorem UpdOnly.frame {s t : State} (h : UpdOnly s t) : Claims.updFrame { s with bus := t.bus } t := by
  have hself : ∀ u : State, u = { u.rest.offUpd with
    regs := u.regs, log := u.log, flash := u.flash, ledger := u.ledger, update := u.update, fresh := u.fresh, bus := u.bus } := fun _ => rfl
  have ht := hself t
  rw [h.1] at ht
  exact ⟨h.2, ht⟩

theorem UpdOnly.frame_silent {s t : State} (h : UpdOnly s t) (hb : t.bus = s.bus) : Claims.updFrame s t := by
  have hf := h.frame
  rwa [hb] at hf

theorem Changes.updOnly_of_engine {e : State → State} {s t : State} (h : Changes e EngineWord s t) (he : ∀ u, State.offUpd u = State.offUpd (e u)) :
    UpdOnly s t :=
  h.mono he fun _ => engineWord_inPages

theorem updPages_upd {o : Nat} (ho : o < 0x1000) : InPages updPages (Page.UPD + o) := inPages_add (by decide) ho

namespace Changes

variable {W : Nat → Prop} {s t : State} (h : Changes State.offUpd W s t)
include h

theorem withEngine (x : Update) : Changes State.offUpd W s { t with update := x } := h.trans ⟨rfl, fun _ _ => rfl⟩
theorem withAnswer (x : Update) (b : BusResult) : Changes State.offUpd W s { t with update := x, bus := b } := h.trans ⟨rfl, fun _ _ => rfl⟩
end Changes

/-! ### The engine passes to a state -/

section
variable (s : State)

theorem State.noteEngine_get {f : Field} (h : F.UPD_STAT_ENGIDLE.apart f = true) : s.noteEngine.get f = s.get f := s.get_put_apart _ _ _ h

/-- The fields that a change of state leaves alone: none of the parts, not STATE, SETBLK, TWOK, ENGIDLE or IRQ_RAW. -/
def stateKeeps (f : Field) : Bool :=
  [F.UPD_STAT_ENGIDLE, F.UPD_STAT_STATE, F.IRQ_RAW.on Page.UPD].all (·.apart f)

/-- Passing to a state other than IDLE changes STATE and ENGIDLE only, besides the interrupt. -/
theorem State.toEngine_keeps {st : Nat} (hst : st ≠ 0) {f : Field} (h : stateKeeps f = true) : (s.toEngine st).get f = s.get f := by
  obtain ⟨hidle, hstate, hirq⟩ : F.UPD_STAT_ENGIDLE.apart f = true ∧ F.UPD_STAT_STATE.apart f = true ∧ (F.IRQ_RAW.on Page.UPD).apart f = true := by
    simpa [stateKeeps] using h
  unfold State.toEngine
  extract_lets s1 s2
  have h2 : s2 = s1 := if_neg hst
  rw [State.noteEngine_get _ hidle, h2]
  dsimp only [s1]
  split
  · rfl
  · exact (State.get_put_apart _ _ _ _ hirq).trans (State.get_put_apart _ _ _ _ hstate)

theorem State.clearParts_get {f : Field} (h : f.addr = F.UPD_STAT_STATE.addr) : ((List.range 64).foldl State.clearPart s).get f = s.get f := by
  have hparts : Changes id (fun a => Page.UPD + 0x200 ≤ a) s ((List.range 64).foldl State.clearPart s) :=
    Changes.foldl _ (fun t k => by
      refine ((Changes.refl t).put 0 ?_).setWord 0 ?_
      · simp only [Field.i, F.UPD_PART_BYTES, Page.UPD]; omega
      · simp only [Field.i, F.UPD_PART_ST, Page.UPD]; omega) _ s
  exact hparts.get f (by rw [h]; decide)

theorem State.toEngine_state {st : Nat} (hst : st < 8) : (s.toEngine st).updState = st := by
  unfold State.toEngine State.updState
  extract_lets s1 s2
  have h1 : s1.get F.UPD_STAT_STATE = st := by
    dsimp only [s1]
    split
    case isTrue h => exact h
    case isFalse h => exact (State.get_put_apart _ _ _ _ (by decide)).trans ((State.get_put_same _ _ _ (by decide)).trans (Nat.mod_eq_of_lt hst))
  have h2 : s2.get F.UPD_STAT_STATE = s1.get F.UPD_STAT_STATE := by
    dsimp only [s2]
    split
    · exact (State.clearParts_get _ rfl).trans ((State.get_put_apart _ _ _ _ (by decide)).trans (State.get_put_apart _ _ _ _ (by decide)))
    · rfl
  rw [State.noteEngine_get _ (by decide), h2, h1]

theorem State.toEngine_log (st : Nat) : (s.toEngine st).log = s.log := by
  have hclear (l : List Nat) : ∀ t : State, (l.foldl State.clearPart t).log = t.log := by
    induction l with
    | nil => exact fun _ => rfl
    | cons k l ih => exact fun t => (ih _).trans ((State.setWord_log _ _ _).trans (State.put_log _ _ _))
  unfold State.toEngine
  extract_lets s1 s2
  have h1 : s1.log = s.log := by
    dsimp only [s1]
    split
    · rfl
    · rw [State.irq_log, State.put_log]
  have h2 : s2.log = s1.log := by
    dsimp only [s2]
    split
    · exact (hclear _ ((s1.put F.UPD_STAT_SETBLK 0).put F.UPD_STAT_TWOK 0)).trans ((State.put_log _ _ _).trans (State.put_log _ _ _))
    · rfl
  rw [State.noteEngine, State.put_log, h2, h1]

/-! ### A command ends -/

theorem State.updDone_engine (op part r : Nat) : EngineOnly s (s.updDone op part r) := by
  unfold State.updDone
  extract_lets s1 _ s2
  have h1 : EngineOnly s s1 := .put (f := F.UPD_STAT_BUSY) (.put (f := F.UPD_RES_OP) (.put (f := F.UPD_RES_PART) (.put (f := F.UPD_RES_RESULT) (.refl s)
    _ engineWord_res) _ engineWord_res) _ engineWord_res) 0 engineWord_stat
  exact .irq ((h1.setUpdate _).trans (State.noteEngine_engine _)) 0 engineWord_irq

theorem State.updDone_update (op part r : Nat) : (s.updDone op part r).update = { s.update with op := 0 } := by
  simp only [State.updDone, State.noteEngine, State.irq_update, State.put_update]

theorem State.updDone_log (op part r : Nat) : (s.updDone op part r).log = s.log := by
  simp only [State.updDone, State.noteEngine, State.irq_log, State.put_log]

theorem State.get_engine (x : Update) (f : Field) : ({ s with update := x } : State).get f = s.get f := rfl

/-- What the end of a command shows of a field that the showing of ENGIDLE and the interrupt leave alone. -/
theorem State.updDone_shown (op part r : Nat) {f : Field} (hidle : F.UPD_STAT_ENGIDLE.apart f = true) (hirq : (F.IRQ_RAW.on Page.UPD).apart f = true) :
    (s.updDone op part r).get f = ((((s.put F.UPD_RES_RESULT r).put F.UPD_RES_PART part).put F.UPD_RES_OP op).put F.UPD_STAT_BUSY 0).get f := by
  unfold State.updDone
  extract_lets s1 _ s2
  have hirq' : (s2.noteEngine.irq Page.UPD 0).get f = s2.noteEngine.get f := State.get_put_apart _ _ _ _ hirq
  have h2 : s2.get f = s1.get f := s1.get_engine _ f
  rw [hirq', s2.noteEngine_get hidle, h2]

theorem State.updDone_result (op part : Nat) {r : Nat} (hr : r < 32) : (s.updDone op part r).get F.UPD_RES_RESULT = r := by
  rw [s.updDone_shown _ _ _ (by decide) (by decide), State.get_put_apart _ _ _ _ (by decide), State.get_put_apart _ _ _ _ (by decide),
    State.get_put_apart _ _ _ _ (by decide), State.get_put_same _ _ _ (by decide)]
  exact Nat.mod_eq_of_lt hr

theorem State.updDone_idle (op part r : Nat) : (s.updDone op part r).on F.UPD_STAT_BUSY = false := by
  refine State.off_of_get ?_
  rw [s.updDone_shown _ _ _ (by decide) (by decide), State.get_put_same _ _ _ (by decide)]
  rfl

theorem State.updDone_state (op part r : Nat) : (s.updDone op part r).updState = s.updState := by
  rw [State.updState, s.updDone_shown _ _ _ (by decide) (by decide), State.get_put_apart _ _ _ _ (by decide), State.get_put_apart _ _ _ _ (by decide),
    State.get_put_apart _ _ _ _ (by decide), State.get_put_apart _ _ _ _ (by decide), State.updState]

/-! ### A command begins -/

/-- What a command that has begun keeps: BUSY, TGTBANK, the record of the engine and the last access. -/
structure Running (s t : State) : Prop where
  only : UpdOnly s t
  busy : t.get F.UPD_STAT_BUSY = s.get F.UPD_STAT_BUSY
  target : t.targetBank = s.targetBank
  update : t.update = s.update
  bus : t.bus = s.bus

namespace Running

theorem trans {s t u : State} (h : Running s t) (k : Running t u) : Running s u :=
  ⟨h.only.trans k.only, k.busy.trans h.busy, k.target.trans h.target, k.update.trans h.update, k.bus.trans h.bus⟩

/-- Memories alone change. -/
theorem of_memory {s t : State} (h : t = { s with flash := t.flash, ledger := t.ledger, fresh := t.fresh }) : Running s t := by
  have hregs : t.regs = s.regs := by rw [h]
  have hget (f : Field) : t.get f = s.get f := by rw [State.get, State.word, hregs, ← State.word, ← State.get]
  exact ⟨⟨by rw [h]; rfl, fun a _ => by rw [State.word, hregs, ← State.word]⟩, hget _, hget _, by rw [h], by rw [h]⟩

/-- Registers and events alone change, and neither BUSY nor TGTBANK. -/
theorem of_words {s t : State} (h : Changes id (InPages updPages) s t) (hb : t.get F.UPD_STAT_BUSY = s.get F.UPD_STAT_BUSY)
    (ht : t.get F.UPD_STAT_TGTBANK = s.get F.UPD_STAT_TGTBANK) : Running s t :=
  ⟨h.mono (fun _ => rfl) fun _ => id, hb, ht, h.kept State.update fun _ => rfl, h.kept State.bus fun _ => rfl⟩

theorem put {f : Field} (s : State) (v : Nat) (hp : InPages updPages f.addr) (hb : f.apart F.UPD_STAT_BUSY = true)
    (ht : f.apart F.UPD_STAT_TGTBANK = true) : Running s (s.put f v) :=
  of_words (.put (.refl s) v hp) (s.get_put_apart _ _ _ hb) (s.get_put_apart _ _ _ ht)

/-- A word other than UPD.STAT. -/
theorem put_addr {f : Field} (s : State) (v : Nat) (hp : InPages updPages f.addr) (hne : F.UPD_STAT_STATE.addr ≠ f.addr) : Running s (s.put f v) :=
  of_words (.put (.refl s) v hp) (s.get_put_addr _ F.UPD_STAT_BUSY _ hne) (s.get_put_addr _ F.UPD_STAT_TGTBANK _ hne)

end Running

theorem State.toEngine_running {st : Nat} (hst : st ≠ 0) : Running s (s.toEngine st) :=
  .of_words ((s.toEngine_engine st).mono (fun _ => rfl) fun _ => engineWord_inPages) (s.toEngine_keeps hst (by decide)) (s.toEngine_keeps hst (by decide))

theorem State.setLineList_frame (ds : List Nat) : ∀ (s : State) (l : Nat), s.setLineList l ds = { s with ledger := (s.setLineList l ds).ledger } := by
  induction ds with
  | nil => exact fun _ _ => rfl
  | cons d ds ih =>
    intro s l
    rw [State.setLineList, ih]
    rfl

theorem State.commitBsel_frame : s.commitBsel = { s with ledger := s.commitBsel.ledger } := by
  unfold State.commitBsel State.commitCopy
  extract_lets ga gb l d
  obtain ⟨x, hx⟩ : ∃ x, s.setLineList (l + 1) d.tail = { s with ledger := x } := ⟨_, State.setLineList_frame _ s _⟩
  rw [hx]
  rfl

theorem State.commitBsel_running : Running s s.commitBsel := .of_memory (by rw [s.commitBsel_frame])

theorem State.setFlashBytes_frame (l : List Byte) : ∀ (s : State) (a : Nat), s.setFlashBytes a l = { s with flash := (s.setFlashBytes a l).flash } := by
  induction l with
  | nil => exact fun _ _ => rfl
  | cons b l ih =>
    intro s a
    rw [State.setFlashBytes, ih]
    rfl

theorem State.setFlashBytes_running (a : Nat) (l : List Byte) : Running s (s.setFlashBytes a l) := .of_memory (by rw [s.setFlashBytes_frame])

theorem State.eraseFlash_running (a b : Nat) : Running s (s.eraseFlash a b) := .of_memory rfl

/-- The engine begins a command. -/
structure Began (op part ofs len : Nat) (s t : State) : Prop where
  only : EngineOnly s t
  busy : t.on F.UPD_STAT_BUSY = true
  update : t.update = { s.update with op := op, part := part, ofs := ofs, len := len }

theorem State.updBegin_update (op part ofs len : Nat) :
    (s.updBegin op part ofs len).update = { s.update with op := op, part := part, ofs := ofs, len := len } := by
  simp only [State.updBegin, State.noteEngine, State.put_update]

theorem State.updBegin_began (op part ofs len : Nat) : Began op part ofs len s (s.updBegin op part ofs len) := by
  unfold State.updBegin
  extract_lets s1
  have h1 : EngineOnly s s1 := .put (.refl s) 1 engineWord_stat
  refine ⟨(h1.setUpdate _).trans (State.noteEngine_engine _), ?_, ?_⟩
  · have hput : s1.get F.UPD_STAT_BUSY = 1 := s.get_put_same _ _ (by decide)
    exact State.on_of_get ((State.noteEngine_get _ (by decide)).trans ((s1.get_engine _ _).trans hput))
  · exact s.updBegin_update op part ofs len

end

end Sys2Proof.Machine
end

section
/-!
Proofs about the messages of the recovery protocol (R751, R752): what is not served, HELLO, MANBUF, and the messages that run a command of the update
engine.
-/

namespace Sys2Proof.Machine

/-! ### The execution of the messages -/

section
variable (s : State) (eth : Bool)

theorem exec_recoveryHello : exec (.recoveryHello eth) s = .next (s.recoveryHello eth) := rfl
theorem exec_recoveryManbuf (v : Word) (l : List Byte) : exec (.recoveryManbuf eth v l) s = .next (s.recoveryManbuf eth v.toNat l) := rfl
theorem exec_recoveryOpen (v : Word) : exec (.recoveryOpen eth v) s = .next (s.recoveryOpen eth v.toNat) := rfl
theorem exec_recoveryData (p : Byte) (v : Word) (l : List Byte) : exec (.recoveryData eth p v l) s = .next (s.recoveryData eth p.toNat v.toNat l) := rfl
theorem exec_recoveryPrepare : exec (.recoveryPrepare eth) s = .next (s.recoveryPrepare eth) := rfl
theorem exec_recoveryActivate : exec (.recoveryActivate eth) s = .next (s.recoveryActivate eth) := rfl
theorem exec_recoveryAbort : exec (.recoveryAbort eth) s = .next (s.recoveryAbort eth) := rfl
theorem exec_recoveryRetry (q : BitVec 768) : exec (.recoveryRetry eth q) s = .next (s.recoveryRetry eth (toBytes 96 q.toNat)) := rfl

/-! ### Messages that are not served (R751, R752) -/

theorem messageFits_eth (n : Nat) : messageFits true n = decide (n + 5 ≤ 1500) := rfl
theorem messageFits_uart (n : Nat) : messageFits false n = decide (n + 1 ≤ 65545) := rfl

theorem State.recoveryManbuf_unserved (ofs : Nat) (l : List Byte) (h : s.recovers eth = false ∨ messageFits eth (l.length + 4) = false) :
    s.recoveryManbuf eth ofs l = s := by
  refine if_neg fun hserved => ?_
  obtain ⟨hrec, hfits⟩ := Bool.and_eq_true_iff.1 hserved
  rcases h with h | h
  · exact Bool.false_ne_true (h.symm.trans hrec)
  · exact Bool.false_ne_true (h.symm.trans hfits)

theorem State.recoveryData_unserved (part ofs : Nat) (l : List Byte)
    (h : s.recovers eth = false ∨ messageFits eth (l.length + 8) = false ∨ (eth = true ∧ 1016 < l.length)) : s.recoveryData eth part ofs l = s := by
  refine if_neg fun hserved => ?_
  obtain ⟨hboth, hlen⟩ := Bool.and_eq_true_iff.1 hserved
  obtain ⟨hrec, hfits⟩ := Bool.and_eq_true_iff.1 hboth
  rcases h with h | h | ⟨heth, hlong⟩
  · exact Bool.false_ne_true (h.symm.trans hrec)
  · exact Bool.false_ne_true (h.symm.trans hfits)
  · simp [heth] at hlen
    omega

theorem completes_unserved {t : State} (h : t = s) : Completes (.next t) fun u => u = s := completes_next h

theorem messages_unserved (s : State) (eth : Bool) (c : Fin 9) (v : Word) (l : List Byte) (p : Byte) (q : BitVec 768) :
    Claims.recoveryOff s eth c v l p q := by
  intro hoff
  have hno (h8 : c ≠ 8) (h1 : c ≠ 1) (h3 : c ≠ 3) : s.recovers eth = false := by
    rcases hoff with hoff | hoff | ⟨hc, -⟩ | ⟨hc, -⟩ | ⟨hc, -⟩
    · exact hoff
    · exact absurd hoff h8
    · exact absurd hc h1
    · exact absurd hc h3
    · exact absurd hc h3
  match c with
  | 0 => exact completes_unserved s (if_neg (by simp [hno]))
  | 1 =>
    refine completes_unserved s (s.recoveryManbuf_unserved eth _ _ ?_)
    rcases hoff with hoff | hoff | ⟨-, heth, hlong⟩ | ⟨hc, -⟩ | ⟨hc, -⟩
    · exact .inl hoff
    · exact absurd hoff (by decide)
    · exact .inr (by rw [heth, messageFits_eth]; exact decide_eq_false (by omega))
    · exact absurd hc (by decide)
    · exact absurd hc (by decide)
  | 2 => exact completes_unserved s (if_neg (by simp [hno]))
  | 3 =>
    refine completes_unserved s (s.recoveryData_unserved eth _ _ _ ?_)
    rcases hoff with hoff | hoff | ⟨hc, -⟩ | ⟨-, heth, hlong⟩ | ⟨-, hlong⟩
    · exact .inl hoff
    · exact absurd hoff (by decide)
    · exact absurd hc (by decide)
    · exact .inr (.inr ⟨heth, hlong⟩)
    · refine .inr (.inl ?_)
      cases eth
      · rw [messageFits_uart]
        exact decide_eq_false (by omega)
      · rw [messageFits_eth]
        exact decide_eq_false (by omega)
  | 4 => exact completes_unserved s (if_neg (by simp [hno]))
  | 5 => exact completes_unserved s (if_neg (by simp [hno]))
  | 6 => exact completes_unserved s (if_neg (by simp [hno]))
  | 7 => exact completes_unserved s (if_pos (by simp [hno]))
  | 8 => exact completes_unserved s rfl

/-! ### HELLO and MANBUF (R752) -/

theorem hello_answered (s : State) (eth : Bool) : Claims.recoveryHello s eth := by
  intro hrec
  rw [exec_recoveryHello, State.recoveryHello, if_pos hrec]
  exact completes_next ⟨rfl, rfl⟩

/-- What a buffer holds after bytes have been put into it. -/
theorem bufPut_getD (buf : List Byte) (ofs : Nat) (l : List Byte) (i : Nat) :
    (bufPut buf ofs l).getD i 0 = if ofs ≤ i ∧ i < ofs + l.length then l.getD (i - ofs) 0 else buf.getD i 0 := by
  unfold bufPut
  extract_lets b
  have hlen : ofs ≤ b.length := by
    simp only [b, List.length_append, List.length_replicate]
    omega
  have hpad (k : Nat) : b.getD k 0 = buf.getD k 0 := by
    simp only [b, List.getD_eq_getElem?_getD, List.getElem?_append, List.getElem?_replicate]
    grind
  have htake : (b.take ofs).length = ofs := by rw [List.length_take, Nat.min_eq_left hlen]
  rw [← hpad i]
  by_cases hbelow : i < ofs
  · rw [if_neg (by omega)]
    simp only [List.getD_eq_getElem?_getD, List.append_assoc]
    rw [List.getElem?_append_left (by omega), List.getElem?_take_of_lt hbelow]
  · by_cases hin : i < ofs + l.length
    · rw [if_pos ⟨by omega, hin⟩]
      simp only [List.getD_eq_getElem?_getD, List.append_assoc]
      rw [List.getElem?_append_right (by omega), htake, List.getElem?_append_left (by omega)]
    · rw [if_neg (by omega)]
      simp only [List.getD_eq_getElem?_getD]
      rw [List.getElem?_append_right (by simp only [List.length_append]; omega), List.length_append, htake, List.getElem?_drop]
      congr 2
      omega

theorem manbuf_filled (s : State) (eth : Bool) (v : Word) (l : List Byte) (i : Nat) : Claims.recoveryManbuf s eth v l i := by
  intro hrec hlen
  have hfits : messageFits eth (l.length + 4) = true := by
    cases eth
    · simp [messageFits] at hlen ⊢
      omega
    · simp [messageFits] at hlen ⊢
      omega
  rw [exec_recoveryManbuf, State.recoveryManbuf, if_pos (by rw [hrec, hfits]; rfl)]
  by_cases hroom : v.toNat + l.length ≤ 65536
  · rw [if_neg (by unfold manbufSize; omega), decide_eq_true hroom]
    exact completes_next ⟨rfl, fun _ => bufPut_getD _ _ _ _, nofun, rfl⟩
  · rw [if_pos (by unfold manbufSize; omega), decide_eq_false hroom]
    exact completes_next ⟨rfl, nofun, fun _ => rfl, rfl⟩

end

end Sys2Proof.Machine
end

section
/-!
Proofs about the messages of the recovery protocol that run a command of the update engine (R732, R735 to R737, R740, R752).
-/

namespace Sys2Proof.Machine

/-! ### The answer to a command -/

section
variable (s : State)

/-- The engine takes command `cmd` of the service. -/
def State.asking (cmd : Nat) : State := { s with update := { s.update with asked := cmd } }

theorem State.asking_on (cmd : Nat) (f : Field) : (s.asking cmd).on f = s.on f := rfl

theorem State.asking_updOnly (cmd : Nat) : UpdOnly s (s.asking cmd) := .withEngine (.refl s) _

theorem State.updCommand_idle {op : Nat} (k : State → State) (h : s.on F.UPD_STAT_BUSY = false) : s.updCommand op k = k s := if_neg (by simp [h])

/-- A command that still runs is not answered yet. -/
theorem State.answerDone_running (h : s.on F.UPD_STAT_BUSY = true) : s.answerDone = s := if_neg (by simp [h])

/-- The state in which a command is answered. -/
theorem State.answerDone_idle (hasked : s.update.asked ≠ 0) (h : s.on F.UPD_STAT_BUSY = false) :
    s.answerDone = ({ s with update := { s.update with asked := 0 } } : State).answerRecovery s.update.asked (s.get F.UPD_RES_RESULT) [] :=
  if_pos ⟨hasked, by simp [h]⟩

/-- A command that has ended with RESULT `r`, its answer due. -/
structure Ended (cmd r : Nat) (u : State) : Prop where
  asked : u.update.asked = cmd
  idle : u.on F.UPD_STAT_BUSY = false
  result : u.get F.UPD_RES_RESULT = r

/-- Its answer, and all that the answer changes. -/
theorem Ended.answered {cmd r : Nat} {u : State} (h : Ended cmd r u) (hcmd : cmd ≠ 0) :
    Claims.recoveryAnswer u.answerDone cmd r []
      ∧ u.answerDone = { u with update := { u.update with asked := 0 }, bus := u.answerDone.bus } := by
  rw [u.answerDone_idle (by rw [h.asked]; exact hcmd) h.idle, h.asked, h.result]
  exact ⟨rfl, rfl⟩

/-- The answer changes neither registers nor memories. -/
theorem State.answerDone_frame : s.answerDone = { s with update := s.answerDone.update, bus := s.answerDone.bus } := by
  unfold State.answerDone
  split
  · rfl
  · rfl

theorem State.answerDone_get (f : Field) : s.answerDone.get f = s.get f := by rw [s.answerDone_frame]; rfl

theorem State.answerDone_updState : s.answerDone.updState = s.updState := s.answerDone_get F.UPD_STAT_STATE

theorem State.answerDone_on (f : Field) : s.answerDone.on f = s.on f := on_congr (s.answerDone_get f)

theorem State.answerDone_flash : s.answerDone.flash = s.flash := by rw [s.answerDone_frame]

theorem State.answerDone_ledger : s.answerDone.ledger = s.ledger := by rw [s.answerDone_frame]

theorem State.answerDone_log : s.answerDone.log = s.log := by rw [s.answerDone_frame]

theorem Changes.answerDone {W : Nat → Prop} {s t : State} (h : Changes State.offUpd W s t) : Changes State.offUpd W s t.answerDone := by
  rw [t.answerDone_frame]
  exact h.withAnswer _ _

/-- A command of the service that is refused: what the engine and the answer show, all else as it was. -/
structure Refused (cmd r : Nat) (s t : State) : Prop where
  answer : Claims.recoveryAnswer t cmd r []
  result : t.get F.UPD_RES_RESULT = r
  state : t.updState = s.updState
  idle : t.on F.UPD_STAT_BUSY = false
  update : t.update = { s.update with op := 0, asked := 0 }
  flash : t.flash = s.flash
  ledger : t.ledger = s.ledger
  only : UpdOnly s t

/-- The answer of a command that has ended without effect. -/
theorem Ended.refused {cmd r : Nat} {s u : State} (h : Ended cmd r u) (hcmd : cmd ≠ 0) (hstate : u.updState = s.updState)
    (hupd : u.update = { s.update with op := 0, asked := cmd }) (honly : Changes State.offUpdate (InPages updPages) s u) : Refused cmd r s u.answerDone := by
  obtain ⟨hans, heq⟩ := h.answered hcmd
  have hrec : u.answerDone.update = { s.update with op := 0, asked := 0 } := by rw [heq, hupd]
  exact ⟨hans, (u.answerDone_get _).trans h.result, u.answerDone_updState.trans hstate, (u.answerDone_on _).trans h.idle, hrec,
    u.answerDone_flash.trans (honly.kept State.flash fun _ => rfl), u.answerDone_ledger.trans (honly.kept State.ledger fun _ => rfl),
    (honly.mono (fun _ => rfl) fun _ => id).answerDone⟩

theorem State.asking_engine (cmd : Nat) : EngineOnly s (s.asking cmd) := Changes.setUpdate (.refl s) _

/-- A command that ends at once. -/
theorem State.updDone_ended (cmd op part : Nat) {r : Nat} (hr : r < 32) : Ended cmd r ((s.asking cmd).updDone op part r) :=
  ⟨by rw [State.updDone_update]; rfl, State.updDone_idle _ _ _ _, State.updDone_result _ _ _ hr⟩

theorem State.askedDone_only (cmd op part r : Nat) : Changes State.offUpdate (InPages updPages) s ((s.asking cmd).updDone op part r) :=
  ((s.asking_engine cmd).trans (State.updDone_engine _ _ _ _)).mono (fun _ => rfl) fun _ => engineWord_inPages

theorem State.updDone_refused (cmd op part : Nat) {r : Nat} (hcmd : cmd ≠ 0) (hr : r < 32) :
    Refused cmd r s ((s.asking cmd).updDone op part r).answerDone :=
  (s.updDone_ended cmd op part hr).refused hcmd (State.updDone_state _ _ _ _) (State.updDone_update _ _ _ _) (s.askedDone_only cmd op part r)

/-- The same with an event of the engine. -/
theorem State.updDone_refused_logged (cmd op part code arg : Nat) {r : Nat} (hcmd : cmd ≠ 0) (hr : r < 32) :
    Refused cmd r s (((s.asking cmd).updDone op part r).logE Page.UPD code arg).answerDone := by
  have hended := s.updDone_ended cmd op part hr
  have hlog := State.logE_onlyLogged ((s.asking cmd).updDone op part r) Page.UPD code arg
  have hrec : (((s.asking cmd).updDone op part r).logE Page.UPD code arg).update = ((s.asking cmd).updDone op part r).update := by rw [State.logE_frame]
  have hstate : (((s.asking cmd).updDone op part r).logE Page.UPD code arg).updState = ((s.asking cmd).updDone op part r).updState :=
    hlog.get F.UPD_STAT_STATE (by decide)
  refine Ended.refused ⟨(congrArg Update.asked hrec).trans hended.asked, (on_congr (hlog.get _ (by decide))).trans hended.idle,
    (hlog.get _ (by decide)).trans hended.result⟩ hcmd
    (hstate.trans (State.updDone_state _ _ _ _)) (hrec.trans (State.updDone_update _ _ _ _))
    ((s.askedDone_only cmd op part r).logE_page (by decide) _ _ (by decide))

/-! ### OPEN (R732) -/

/-- Each check of OPEN has its RESULT. -/
theorem State.openCheck_lt (m : List Byte) (rom : Bool) : s.openCheck m rom < 32 := by
  unfold State.openCheck
  split_ifs <;> decide

theorem State.openCheck_manifest {m : List Byte} {rom : Bool} (h : s.openCheck m rom = 1) : manifestOk m = true := by
  by_contra hbad
  rw [State.openCheck, if_pos (by simpa using hbad)] at h
  exact absurd h (by decide)

/-- A manifest that is in order names at most 64 parts (R723). -/
theorem manParts_length {m : List Byte} (h : manifestOk m = true) : (manParts m).length ≤ 64 := by
  have hcount : manNapp m ≤ 62 := by
    unfold manifestOk at h
    simp only [Bool.and_eq_true, decide_eq_true_eq] at h
    tauto
  simp only [manParts, List.length_append, List.length_map, List.length_range, List.length_cons, List.length_nil]
  omega

theorem State.notePart_running {k : Nat} (hk : k < 256) (n st keep : Nat) :
    Running s (((s.put (F.UPD_PART_BYTES.i k) n).put (F.UPD_PART_ST.i k) st).put (F.UPD_PART_KEEP.i k) keep) := by
  have hbytes : (F.UPD_PART_BYTES.i k).addr = Page.UPD + (0x200 + k * 8) := by simp only [Field.i, F.UPD_PART_BYTES, Page.UPD]; omega
  have hst : (F.UPD_PART_ST.i k).addr = Page.UPD + (0x204 + k * 8) := by simp only [Field.i, F.UPD_PART_ST, Page.UPD]; omega
  have hkeep : (F.UPD_PART_KEEP.i k).addr = Page.UPD + (0x204 + k * 8) := by simp only [Field.i, F.UPD_PART_KEEP, Page.UPD]; omega
  have hput {f : Field} {o : Nat} (hf : f.addr = Page.UPD + (o + k * 8)) (hlo : 0x200 ≤ o) (hhi : o < 0x208) (t : State) (v : Nat) : Running t (t.put f v) :=
    .put_addr t v (hf ▸ updPages_upd (by omega)) (by rw [hf]; simp only [F.UPD_STAT_STATE, Page.UPD]; omega)
  exact ((hput hbytes (by decide) (by decide) s n).trans (hput hst (by decide) (by decide) _ st)).trans (hput hkeep (by decide) (by decide) _ keep)

theorem Running.refl : Running s s := ⟨.refl s, rfl, rfl, rfl, rfl⟩

theorem Running.foldl_mem {β : Type} (f : State → β → State) (l : List β) (hf : ∀ b ∈ l, ∀ t, Running t (f t b)) :
    ∀ s : State, Running s (l.foldl f s) := by
  induction l with
  | nil => exact Running.refl
  | cons b l ih => exact fun s => (hf b List.mem_cons_self s).trans (ih (fun c hc => hf c (List.mem_cons_of_mem b hc)) (f s b))

/-- The parts of a manifest that is in order are noted. -/
theorem State.noteParts_running {m : List Byte} (h : manifestOk m = true) (all : Bool) : Running s (s.noteParts m all) := by
  refine Running.foldl_mem _ _ (fun e he t => State.notePart_running t ?_ _ _ _) s
  have hidx := List.snd_lt_of_mem_zipIdx he
  have hlen := manParts_length h
  omega

theorem bankField_apart (b : Nat) {f : Field} (hf : f = confField b ∨ f = complField b) : f.addr = F.UPD_BANKS_CONF_SPR.addr := by
  rcases hf with rfl | rfl
  · unfold confField
    split <;> rfl
  · unfold complField
    split <;> rfl

theorem State.putBank_running (b v : Nat) {f : Field} (hf : f = confField b ∨ f = complField b) : Running s (s.put f v) := by
  have haddr := bankField_apart b hf
  exact .put_addr s v (haddr ▸ updPages_upd (o := 0x70) (by decide)) (by rw [haddr]; decide)

/-- What OPEN makes of the engine while it runs. -/
structure Opening (b cmd : Nat) (s u : State) : Prop where
  only : UpdOnly s u
  busy : u.on F.UPD_STAT_BUSY = true
  target : u.targetBank = b % 2
  asked : u.update.asked = cmd
  bus : u.bus = s.bus

theorem Opening.running {b cmd : Nat} {s u v : State} (h : Opening b cmd s u) (k : Running u v) : Opening b cmd s v :=
  ⟨h.only.trans k.only, (on_congr k.busy).trans h.busy, k.target.trans h.target, (congrArg Update.asked k.update).trans h.asked, k.bus.trans h.bus⟩

/-- OPEN begins on bank `b`. -/
theorem State.begins_opening (cmd b : Nat) : Opening b cmd s (((s.asking cmd).updBegin 1 0 0 0).put F.UPD_STAT_TGTBANK b) := by
  obtain ⟨honly, hbusy, hupd⟩ := (s.asking cmd).updBegin_began 1 0 0 0
  have hbus : ((s.asking cmd).updBegin 1 0 0 0).bus = s.bus := honly.kept State.bus fun _ => rfl
  refine ⟨.put ((s.asking_updOnly cmd).trans (honly.updOnly_of_engine fun _ => rfl)) _ (updPages_upd (o := 0xC) (by decide)), ?_, ?_, ?_, ?_⟩
  · exact (on_congr (State.get_put_apart _ _ _ _ (by decide))).trans hbusy
  · exact State.get_put_same _ _ _ (by decide)
  · rw [State.put_update, hupd]
    rfl
  · rw [State.put_bus, hbus]

theorem State.openManifest_opens (cmd : Nat) (m : List Byte) (rom : Bool) (hstate : s.updState = 0) (hpend : s.on F.UPD_STAT_PENDING = false)
    (hcheck : s.openCheck m rom = 1) : Opening (1 - s.update.active) cmd s ((s.asking cmd).openManifest m rom) := by
  have hm := s.openCheck_manifest hcheck
  have hstate' : ¬ (s.asking cmd).updState ≠ 0 := not_not.2 hstate
  have hpend' : ¬ (s.asking cmd).on F.UPD_STAT_PENDING = true := by rw [s.asking_on, hpend]; exact Bool.false_ne_true
  have hcheck' : ¬ (s.asking cmd).openCheck m rom ≠ 1 := not_not.2 hcheck
  unfold State.openManifest
  rw [if_neg hstate', if_neg hpend']
  extract_lets r b same s1 s2
  rw [if_neg hcheck']
  have h1 : Opening b cmd s s1 := ((s.begins_opening cmd b).running (State.toEngine_running _ (by decide))).running
    (.put _ _ (updPages_upd (o := 0xC) (by decide)) (by decide) (by decide))
  have h2 : Opening b cmd s s2 := ((h1.running (State.putBank_running _ b 0 (.inl rfl))).running (State.putBank_running _ b 0 (.inr rfl))).running
    (State.commitBsel_running _)
  split
  · exact ((h2.running (State.noteParts_running _ hm _)).running (.put (f := F.UPD_STAT_SETBLK) _ _ (updPages_upd (o := 0xC) (by decide)) (by decide)
      (by decide))).running (State.toEngine_running _ (by decide))
  · exact ((h2.running (State.eraseFlash_running _ _ _)).running (State.setFlashBytes_running _ _ _)).running (State.noteParts_running _ hm _)

/-- What the claim on OPEN says of RESULT `r`. -/
def OpenDone (r : Nat) (s t : State) : Prop :=
  (r ≠ 1 → t.get F.UPD_RES_RESULT = r ∧ t.updState = s.updState ∧ t.flash = s.flash ∧ t.ledger = s.ledger)
    ∧ (r ≠ 1 → s.on F.UPD_STAT_BUSY = false → Claims.recoveryAnswer t 0x03 r [] ∧ t.update = { s.update with op := 0, asked := 0 })
    ∧ (r = 1 → t.on F.UPD_STAT_BUSY = true ∧ t.update.asked = 3 ∧ t.bus = s.bus ∧ t.targetBank = (1 - s.update.active) % 2)
    ∧ Claims.updFrame { s with bus := t.bus } t

theorem Refused.openDone {r : Nat} {s t : State} (h : Refused 3 r s t) (hr : r ≠ 1) : OpenDone r s t :=
  ⟨fun _ => ⟨h.result, h.state, h.flash, h.ledger⟩, fun _ _ => ⟨h.answer, h.update⟩, fun h1 => absurd h1 hr, h.only.frame⟩

/-- A command written while another runs is refused with RESULT 2 and not answered. -/
theorem State.busy_refuses (cmd op : Nat) (k : State → State) (hbusy : s.on F.UPD_STAT_BUSY = true) :
    ((s.asking cmd).updCommand op k).answerDone = ((s.asking cmd).put F.UPD_RES_RESULT 2).put F.UPD_RES_OP op := by
  have heq : (s.asking cmd).updCommand op k = ((s.asking cmd).put F.UPD_RES_RESULT 2).put F.UPD_RES_OP op := if_pos hbusy
  rw [heq]
  exact State.answerDone_running _
    ((on_congr ((State.get_put_apart _ _ _ _ (by decide)).trans (State.get_put_apart _ _ _ _ (by decide)))).trans hbusy)

theorem State.open_busy (k : State → State) (hbusy : s.on F.UPD_STAT_BUSY = true) : OpenDone 2 s ((s.asking 3).updCommand 1 k).answerDone := by
  rw [s.busy_refuses _ _ _ hbusy]
  have honly : UpdOnly s (((s.asking 3).put F.UPD_RES_RESULT 2).put F.UPD_RES_OP 1) :=
    .put (.put (s.asking_updOnly 3) _ (updPages_upd (o := 0x58) (by decide))) _ (updPages_upd (o := 0x58) (by decide))
  refine ⟨fun _ => ⟨?_, ?_, ?_, ?_⟩, fun _ hidle => absurd (hbusy.symm.trans hidle) nofun, nofun, honly.frame⟩
  · rw [State.get_put_apart _ _ _ _ (by decide), State.get_put_same _ _ _ (by decide)]
    rfl
  · exact (State.get_put_apart _ _ _ _ (by decide)).trans (State.get_put_apart _ _ _ _ (by decide))
  · rw [State.put_flash, State.put_flash]
    rfl
  · rw [State.put_ledger, State.put_ledger]
    rfl

theorem Opening.openDone {s u : State} (h : Opening (1 - s.update.active) 3 s u) : OpenDone 1 s u.answerDone := by
  rw [u.answerDone_running h.busy]
  exact ⟨fun h1 => absurd rfl h1, fun h1 => absurd rfl h1, fun _ => ⟨h.busy, h.asked, h.bus, h.target⟩, h.only.frame⟩

/-- The RESULT of OPEN on a manifest. -/
def State.recoveryOpenResult (m : List Byte) (rom : Bool) : Nat :=
  if s.on F.UPD_STAT_BUSY then 2 else if s.updState ≠ 0 then 3 else if s.on F.UPD_STAT_PENDING then 14 else s.openCheck m rom

theorem State.openManifest_done (m : List Byte) (rom : Bool) :
    OpenDone (s.recoveryOpenResult m rom) s ((s.asking 3).updCommand 1 fun u => u.openManifest m rom).answerDone := by
  unfold State.recoveryOpenResult
  by_cases hbusy : s.on F.UPD_STAT_BUSY = true
  · rw [if_pos hbusy]
    exact s.open_busy _ hbusy
  have hidle : (s.asking 3).on F.UPD_STAT_BUSY = false := eq_false_of_ne_true hbusy
  rw [if_neg hbusy, (s.asking 3).updCommand_idle _ hidle]
  by_cases hstate : s.updState ≠ 0
  · have heq : (s.asking 3).openManifest m rom = (s.asking 3).updDone 1 0 3 := if_pos hstate
    rw [if_pos hstate, heq]
    exact (s.updDone_refused 3 1 0 (by decide) (by decide)).openDone (by decide)
  by_cases hpend : s.on F.UPD_STAT_PENDING = true
  · have heq : (s.asking 3).openManifest m rom = (s.asking 3).updDone 1 0 14 := (if_neg hstate).trans (if_pos hpend)
    rw [if_neg hstate, if_pos hpend, heq]
    exact (s.updDone_refused 3 1 0 (by decide) (by decide)).openDone (by decide)
  rw [if_neg hstate, if_neg hpend]
  by_cases hcheck : s.openCheck m rom ≠ 1
  · have heq : (s.asking 3).openManifest m rom = ((s.asking 3).updDone 1 0 (s.openCheck m rom)).logE Page.UPD 0x0F02 (s.openCheck m rom) :=
      (if_neg hstate).trans ((if_neg hpend).trans (if_pos hcheck))
    rw [heq]
    exact (s.updDone_refused_logged 3 1 0 _ _ (by decide) (s.openCheck_lt m rom)).openDone hcheck
  · rw [not_not.1 hcheck]
    exact (s.openManifest_opens 3 m rom (not_not.1 hstate) (by simpa using hpend) (not_not.1 hcheck)).openDone

theorem open_served (s : State) (eth : Bool) (total : Word) : Claims.recoveryOpen s eth total := by
  intro hrec
  have heq : s.recoveryOpen eth total.toNat
      = ((s.asking 3).updCommand 1 fun u => u.openManifest (s.update.manbuf.take total.toNat) s.romLevel).answerDone := if_pos hrec
  rw [exec_recoveryOpen, heq]
  exact completes_next (s.openManifest_done (s.update.manbuf.take total.toNat) s.romLevel)

/-! ### DATA (R735) -/

theorem State.recoveryData_served {eth : Bool} {l : List Byte} (hrec : s.recovers eth = true) (hlen : l.length ≤ 1016) (hidle : s.on F.UPD_STAT_BUSY = false)
    (part ofs : Nat) : s.recoveryData eth part ofs l = ((s.asking 4).writeBytes part ofs l).answerDone := by
  have hfits : messageFits eth (l.length + 8) = true := by
    cases eth
    · rw [messageFits_uart]
      exact decide_eq_true (by omega)
    · rw [messageFits_eth]
      exact decide_eq_true (by omega)
  have hshort : (eth && decide (l.length + 8 > 1024)) = false := by
    rw [decide_eq_false (by omega), Bool.and_false]
  have hserved : s.recoveryData eth part ofs l = ((s.asking 4).updCommand 2 fun u => u.writeBytes part ofs l).answerDone :=
    if_pos (by rw [hrec, hfits, hshort]; rfl)
  rw [hserved, (s.asking 4).updCommand_idle _ hidle]

theorem data_refused (s : State) (eth : Bool) (p : Byte) (v : Word) (l : List Byte) : Claims.recoveryData s eth p v l := by
  intro hrec hlen hidle hstate
  have heq : (s.asking 4).writeBytes p.toNat v.toNat l = (s.asking 4).updDone 2 p.toNat 3 := if_pos hstate
  have h := s.updDone_refused 4 2 p.toNat (r := 3) (by decide) (by decide)
  rw [exec_recoveryData, s.recoveryData_served hrec hlen hidle, heq]
  exact completes_next ⟨h.answer, h.result, h.flash, h.only.frame⟩

/-- WRITE of bytes that continue a part within its size (R735). -/
theorem State.writeBytes_taken {i ofs : Nat} {l : List Byte} {e : PartEntry} (hstate : s.updState = 2)
    (hpart : (manParts (s.bankManifest s.targetBank))[i]? = some e) (hpos : 1 ≤ l.length) (hlen : l.length ≤ 65536) (hofs : ofs = s.get (F.UPD_PART_BYTES.i i))
    (hfit : ofs + l.length ≤ e.size) (htype : e.type ≠ 3) :
    s.writeBytes i ofs l = ((s.updBegin 2 i ofs l.length).setFlashBytes (bankBase s.targetBank + e.target + ofs) l).put (F.UPD_PART_ST.i i) 1 := by
  have hwrite (t : State) : t.writePart s.targetBank e ofs l = t.setFlashBytes (bankBase s.targetBank + e.target + ofs) l := if_neg htype
  unfold State.writeBytes
  rw [if_neg (not_not.2 hstate)]
  extract_lets ps
  have hps : ps[i]? = some e := hpart
  simp only [hps]
  rw [if_neg, hwrite]
  rintro (h | h | h | h | h)
  · omega
  · omega
  · exact h hofs
  · omega
  · exact h (.inl htype)

theorem data_taken (s : State) (eth : Bool) (p : Byte) (v : Word) (l : List Byte) : Claims.recoveryDataTaken s eth p v l := by
  intro hrec hpos hlen hidle hstate hofs hpart
  obtain ⟨e, he, hfit⟩ := (Option.any_eq_true _ _).1 hpart
  obtain ⟨hsize, htype⟩ := Bool.and_eq_true_iff.1 hfit
  obtain ⟨honly, hbusy, hupd⟩ := (s.asking 4).updBegin_began 2 p.toNat v.toNat l.length
  have heq := (s.asking 4).writeBytes_taken hstate he hpos (hlen.trans (by decide)) hofs (of_decide_eq_true hsize) (by simpa using htype)
  generalize hu : (s.asking 4).updBegin 2 p.toNat v.toNat l.length = u at honly hbusy hupd heq
  have hst : InPages updPages (F.UPD_PART_ST.i p.toNat).addr := engineWord_inPages (engineWord_st p.isLt)
  have hrun : Running u ((s.asking 4).writeBytes p.toNat v.toNat l) :=
    heq ▸ (u.setFlashBytes_running _ l).trans (.put_addr _ 1 hst (by simp only [F.UPD_STAT_STATE, Field.i, F.UPD_PART_ST]; omega))
  have hbus : ((s.asking 4).writeBytes p.toNat v.toNat l).bus = s.bus := hrun.bus.trans (honly.kept State.bus fun _ => rfl)
  have hrunning := (on_congr hrun.busy).trans hbusy
  rw [exec_recoveryData, s.recoveryData_served hrec hlen hidle, State.answerDone_running _ hrunning]
  exact completes_next ⟨hrunning, hbus, hrun.update.trans hupd,
    UpdOnly.frame_silent (((s.asking_updOnly 4).trans (honly.updOnly_of_engine fun _ => rfl)).trans hrun.only) hbus⟩

/-! ### PREPARE (R737) -/

/-- May preparation begin: STAGING with every part verified? -/
def State.prepareReady : Bool :=
  decide (s.updState = 2) && (List.range (manParts (s.bankManifest s.targetBank)).length).all (fun i => s.get (F.UPD_PART_ST.i i) == 2)

/-- PREPARE that begins. -/
def State.preparing : State := ((s.updBegin 3 0 0 0).put F.UPD_STAT_SETBLK 1).toEngine 3

theorem State.beginPrepare_ready (h : s.prepareReady = true) : s.beginPrepare = s.preparing := by
  obtain ⟨hstate, hparts⟩ := Bool.and_eq_true_iff.1 h
  exact if_pos ⟨of_decide_eq_true hstate, hparts⟩

theorem State.beginPrepare_unready (h : s.prepareReady = false) : s.beginPrepare = s.updDone 3 0 3 := by
  refine if_neg fun ⟨hstate, hparts⟩ => Bool.false_ne_true (h.symm.trans ?_)
  exact Bool.and_eq_true_iff.2 ⟨decide_eq_true hstate, hparts⟩

theorem State.preparing_running : Running (s.updBegin 3 0 0 0) s.preparing :=
  (Running.put (f := F.UPD_STAT_SETBLK) _ _ (updPages_upd (o := 0xC) (by decide)) (by decide) (by decide)).trans (State.toEngine_running _ (by decide))

theorem State.preparing_flash : s.preparing.flash = s.flash := by
  have hput : ((s.updBegin 3 0 0 0).put F.UPD_STAT_SETBLK 1).flash = s.flash :=
    (State.put_flash _ _ _).trans ((s.updBegin_began 3 0 0 0).only.kept State.flash fun _ => rfl)
  exact ((State.toEngine_engine (e := id) _ 3).kept State.flash fun _ => rfl).trans hput

theorem State.preparing_blocks : s.preparing.on F.UPD_STAT_SETBLK = true :=
  State.on_of_get ((State.toEngine_keeps _ (by decide) (by decide)).trans (State.get_put_same _ _ _ (by decide)))

theorem prepare_served (s : State) (eth : Bool) : Claims.recoveryPrepare s eth := by
  intro hrec hidle
  have heq : s.recoveryPrepare eth = ((s.asking 5).updCommand 3 State.beginPrepare).answerDone := if_pos hrec
  rw [exec_recoveryPrepare, heq, (s.asking 5).updCommand_idle _ hidle]
  by_cases hready : s.prepareReady = true
  · obtain ⟨honly, hbusy, hupd⟩ := (s.asking 5).updBegin_began 3 0 0 0
    have hrun := (s.asking 5).preparing_running
    have hrunning := (on_congr hrun.busy).trans hbusy
    have hframe : UpdOnly s (s.asking 5).preparing := ((s.asking_updOnly 5).trans (honly.updOnly_of_engine fun _ => rfl)).trans hrun.only
    rw [(s.asking 5).beginPrepare_ready hready, State.answerDone_running _ hrunning]
    exact completes_next ⟨fun _ => ⟨State.toEngine_state _ (by decide), hrunning, State.preparing_blocks _, hrun.update.trans hupd,
      hrun.bus.trans (honly.kept State.bus fun _ => rfl)⟩, fun h => absurd (h.symm.trans hready) nofun, State.preparing_flash _, hframe.frame⟩
  · have hno := eq_false_of_ne_true hready
    have h := s.updDone_refused 5 3 0 (r := 3) (by decide) (by decide)
    rw [(s.asking 5).beginPrepare_unready hno]
    exact completes_next ⟨fun hok => absurd (hno.symm.trans hok) nofun, fun _ => ⟨h.answer, h.state⟩, h.flash, h.only.frame⟩

/-! ### ACTIVATE (R740) -/

/-- The last state of the engine before a session would be closed for an activation. -/
def State.activating (source : Nat) : State := ({ s with update := { s.update with begun := source, cluster := false } } : State).toEngine 6

theorem State.beginActivation_eq (source : Nat) : s.beginActivation source = (s.activating source).closeSession 0x09 0 := rfl

theorem State.activating_update (source : Nat) : (s.activating source).update = { s.update with begun := source, cluster := false } :=
  (State.toEngine_engine (e := id) _ 6).kept State.update fun _ => rfl

theorem State.activating_get (source : Nat) {f : Field} (h : stateKeeps f = true) : (s.activating source).get f = s.get f :=
  (State.toEngine_keeps _ (by decide) h).trans (s.get_engine _ f)

theorem State.activating_engine (source : Nat) : EngineOnly s (s.activating source) := (Changes.setUpdate (.refl s) _).trans (State.toEngine_engine _ 6)

/-- A state with what the close of no session may change besides register words taken out. -/
def State.offClose : State := { s with session := {}, safety := {}, fresh := 0 }

/-- Where no session is open, its close marks the legal condition only, and the channels settle. -/
theorem State.closeSession_none (reason appReason : Nat) (h : s.get F.SIG_STAT_SESS = 0) :
    Changes State.offClose (InPages switchPages) s (s.closeSession reason appReason) := by
  have hsess : (if s.boot.pfail then 0 else s.get F.SIG_STAT_SESS) = 0 := by rw [h, ite_self]
  have heq : s.beginClose reason appReason = { s with session := { s.session with legalCond := false } } := by
    unfold State.beginClose
    rw [hsess]
    rfl
  have hbegin : Changes State.offClose (InPages switchPages) s (s.beginClose reason appReason) := by
    rw [heq]
    exact ⟨rfl, fun _ _ => rfl⟩
  exact hbegin.trans ((State.settle_switched _).mono (fun _ => rfl) fun _ => id)

/-- The pages of an activation that begins where no session is open. -/
def activationPages : List Nat := [Page.UPD, Page.ANG, Page.LDG, Page.SAF, Page.SW 0, Page.SW 1]

theorem Changes.activationRegs {W : Nat → Prop} {e : State → State} {s t : State} (h : Changes e W s t) (hW : ∀ a, W a → InPages updPages a) :
    RegsIn activationPages s t := fun a ha => h.2 a fun hw =>
  let ⟨p, hp, hin⟩ := hW a hw
  ha ⟨p, (by decide : ∀ p ∈ updPages, p ∈ activationPages) p hp, hin⟩

/-- From `s` to `t` an activation has begun. -/
structure ActivationBegun (source : Nat) (s t : State) : Prop where
  state : t.updState = 6
  keeps : ∀ f ∈ [F.UPD_STAT_BUSY, F.UPD_RES_RESULT], t.get f = s.get f
  update : t.update = { s.update with begun := source, cluster := false }
  flash : t.flash = s.flash
  regs : RegsIn activationPages s t

theorem State.beginActivation_begins (source : Nat) (h : s.get F.SIG_STAT_SESS = 0) : ActivationBegun source s (s.beginActivation source) := by
  have hengine := s.activating_engine source
  have hsess : (s.activating source).get F.SIG_STAT_SESS = 0 :=
    (hengine.get _ fun hw => absurd (engineWord_inPages hw) (by unfold InPages; decide)).trans h
  have hclose := (s.activating source).closeSession_none 0x09 0 hsess
  rw [s.beginActivation_eq]
  refine ⟨?_, ?_, ?_, ?_, ?_⟩
  · exact (hclose.get F.UPD_STAT_STATE (by unfold InPages; decide)).trans (State.toEngine_state _ (by decide))
  · intro f hf
    have hfield : ¬ InPages switchPages f.addr ∧ stateKeeps f = true := by
      unfold InPages
      fin_cases hf <;> decide
    exact (hclose.get f hfield.1).trans (s.activating_get source hfield.2)
  · exact (hclose.kept State.update fun _ => rfl).trans (s.activating_update source)
  · exact (hclose.kept State.flash fun _ => rfl).trans (hengine.kept State.flash fun _ => rfl)
  · have hsw : ∀ p ∈ switchPages, p ∈ activationPages := by decide
    exact (Changes.activationRegs hengine fun _ => engineWord_inPages).trans fun a ha => hclose.2 a fun ⟨p, hp, hin⟩ => ha ⟨p, hsw p hp, hin⟩

theorem State.activate_unprepared (b : Bool) (source : Nat) (h : s.updState ≠ 4) : s.activate b source = s.updDone 4 0 3 := if_pos h

theorem State.activate_prepared (source : Nat) (h : s.updState = 4) : s.activate false source = (s.updDone 4 0 1).beginActivation source :=
  (if_neg (not_not.2 h)).trans (if_neg Bool.false_ne_true)

/-- ACTIVATE that begins the activation, ended and not yet answered. -/
def State.activated (source : Nat) : State := ((s.asking 6).updDone 4 0 1).beginActivation source

theorem State.activated_begins (source : Nat) (h : s.get F.SIG_STAT_SESS = 0) :
    ActivationBegun source ((s.asking 6).updDone 4 0 1) (s.activated source) :=
  State.beginActivation_begins _ source (((s.askedDone_only 6 4 0 1).get F.SIG_STAT_SESS (by unfold InPages; decide)).trans h)

theorem State.activated_ended (source : Nat) (h : s.get F.SIG_STAT_SESS = 0) : Ended 6 1 (s.activated source) := by
  obtain ⟨-, hkeeps, hupd, -, -⟩ := s.activated_begins source h
  obtain ⟨hasked, hidle, hresult⟩ := s.updDone_ended 6 4 0 (r := 1) (by decide)
  exact ⟨(congrArg Update.asked hupd).trans hasked, (on_congr (hkeeps F.UPD_STAT_BUSY (by simp))).trans hidle,
    (hkeeps F.UPD_RES_RESULT (by simp)).trans hresult⟩

theorem State.activated_flash (source : Nat) (h : s.get F.SIG_STAT_SESS = 0) : (s.activated source).flash = s.flash :=
  (s.activated_begins source h).flash.trans ((s.askedDone_only 6 4 0 1).kept State.flash fun _ => rfl)

theorem State.activated_regs (source : Nat) (h : s.get F.SIG_STAT_SESS = 0) : RegsIn activationPages s (s.activated source) :=
  (Changes.activationRegs (s.askedDone_only 6 4 0 1) fun _ => id).trans (s.activated_begins source h).regs

theorem State.answerDone_regs (ps : List Nat) : RegsIn ps s s.answerDone := fun a _ => by rw [s.answerDone_frame]; rfl

theorem activate_served (s : State) (eth : Bool) : Claims.recoveryActivate s eth := by
  intro hrec hidle hsess
  have heq : s.recoveryActivate eth = ((s.asking 6).updCommand 4 fun u => u.activate false (if u.romLevel then 2 else 1)).answerDone := if_pos hrec
  have hrom : (s.asking 6).romLevel = s.romLevel := rfl
  rw [exec_recoveryActivate, heq, (s.asking 6).updCommand_idle _ hidle, hrom]
  by_cases hstate : s.updState = 4
  · rw [(s.asking 6).activate_prepared _ hstate, ← State.activated]
    obtain ⟨hst, -, hupd, -, -⟩ := s.activated_begins (if s.romLevel then 2 else 1) hsess
    obtain ⟨hans, hframe⟩ := (s.activated_ended (if s.romLevel then 2 else 1) hsess).answered (by decide)
    have hflash := s.activated_flash (if s.romLevel then 2 else 1) hsess
    have hregs := s.activated_regs (if s.romLevel then 2 else 1) hsess
    generalize s.activated (if s.romLevel then 2 else 1) = u at hst hupd hans hframe hflash hregs
    have hbegun : u.answerDone.update.begun = if s.romLevel then 2 else 1 := by rw [hframe, hupd]
    exact completes_next ⟨fun _ => ⟨u.answerDone_updState.trans hst, hbegun, hans⟩, fun h => absurd hstate h,
      u.answerDone_flash.trans hflash, hregs.trans (u.answerDone_regs _)⟩
  · have h := s.updDone_refused 6 4 0 (r := 3) (by decide) (by decide)
    rw [(s.asking 6).activate_unprepared _ _ hstate]
    exact completes_next ⟨fun h4 => absurd h4 hstate, fun _ => ⟨h.state, h.answer⟩, h.flash, Changes.activationRegs h.only fun _ => id⟩

/-! ### ABORT (R736) -/

theorem State.engine_log (x : Update) : ({ s with update := x } : State).log = s.log := rfl

/-- The staging is discarded: the engine in IDLE, with event 0x0F06. -/
theorem State.discardUpdate_discards (cause : Nat) (h : s.updState ≠ 0) :
    ∃ u : State, u.log = s.log ∧ u.update.asked = s.update.asked ∧ s.discardUpdate cause = (u.toEngine 0).logE Page.UPD 0x0F06 cause := by
  unfold State.discardUpdate
  rw [if_neg h]
  extract_lets s1 s2
  have h1 : s1.log = s.log ∧ s1.update = s.update := by
    dsimp only [s1]
    unfold State.when
    split
    · exact ⟨by rw [State.irq_log, State.disarmAlm15, State.put_log], by rw [State.irq_update, State.disarmAlm15, State.put_update]⟩
    · exact ⟨rfl, rfl⟩
  have h2 : s2.log = s.log ∧ s2.update = s.update := ⟨(s1.put_log _ _).trans h1.1, (s1.put_update _ _).trans h1.2⟩
  have hasked : s2.update.asked = s.update.asked := by rw [h2.2]
  exact ⟨{ s2 with update := { s2.update with op := 0, cluster := false } }, (s2.engine_log _).trans h2.1, hasked, rfl⟩

theorem Logged.congr_log {page code arg : Nat} {s t u : State} (h : Logged page code arg s t) (hlog : u.log = t.log) : Logged page code arg s u := by
  unfold Logged State.held at h ⊢
  rwa [hlog]

/-- From `s` to `t` the staging has been discarded. -/
structure Discarded (cause : Nat) (s t : State) : Prop where
  only : EngineOnly s t
  state : t.updState = 0
  asked : t.update.asked = s.update.asked
  logged : LogRoom 1 s → Logged Page.UPD 0x0F06 cause s t

theorem State.discardUpdate_discarded (cause : Nat) (h : s.updState ≠ 0) : Discarded cause s (s.discardUpdate cause) := by
  obtain ⟨u, hlog, hasked, heq⟩ := s.discardUpdate_discards cause h
  have honly := s.discardUpdate_engine cause
  rw [heq] at honly ⊢
  refine ⟨honly, ?_, ?_, fun hr => ?_⟩
  · exact ((State.logE_onlyLogged _ _ _ _).get F.UPD_STAT_STATE (by decide)).trans (State.toEngine_state _ (by decide))
  · have hengine : (u.toEngine 0).update = u.update := (u.toEngine_engine (e := id) 0).kept State.update fun _ => rfl
    rw [State.logE_frame]
    exact (congrArg Update.asked hengine).trans hasked
  · exact (LogsAtMost.of_log 0 ((u.toEngine_log 0).trans hlog)).logged _ _ _ hr

theorem State.noteOwnArmed_member (h : s.isMaster = false) : s.noteOwnArmed = s := if_neg fun hm => Bool.false_ne_true (h.symm.trans hm.1)

/-- ABORT of a staging, ended and not yet answered. -/
def State.aborted : State := ((s.asking 7).discardUpdate 1).updDone 5 0 1

theorem State.abortUpdate_staging (h : 1 ≤ s.updState ∧ s.updState ≤ 5) (hmaster : s.isMaster = false) : (s.asking 7).abortUpdate = s.aborted := by
  have honly := (s.asking 7).discardUpdate_engine 1
  have hlstate : ((s.asking 7).discardUpdate 1).get F.CLU_STAT_LSTATE = s.get F.CLU_STAT_LSTATE :=
    honly.get F.CLU_STAT_LSTATE fun hw => absurd (engineWord_inPages hw) (by unfold InPages; decide)
  have hmember : ((s.asking 7).discardUpdate 1).isMaster = false := by rw [State.isMaster, hlstate, ← State.isMaster, hmaster]
  have heq : (s.asking 7).abortUpdate = ((s.asking 7).discardUpdate 1).noteOwnArmed.updDone 5 0 1 := if_pos h
  rw [heq, State.noteOwnArmed_member _ hmember, State.aborted]

theorem abort_served (s : State) (eth : Bool) : Claims.recoveryAbort s eth := by
  intro hrec hmaster hr
  have heq : s.recoveryAbort eth = (s.asking 7).abortUpdate.answerDone := if_pos hrec
  rw [exec_recoveryAbort, heq]
  by_cases hstate : 1 ≤ s.updState ∧ s.updState ≤ 5
  · have hbusy : (s.asking 7).updState ≠ 0 := Nat.one_le_iff_ne_zero.1 hstate.1
    have hdis := (s.asking 7).discardUpdate_discarded 1 hbusy
    have honly : EngineOnly s s.aborted := ((s.asking_engine 7).trans hdis.only).trans (State.updDone_engine _ 5 0 1)
    have hended : Ended 7 1 s.aborted := ⟨(congrArg Update.asked (State.updDone_update _ 5 0 1)).trans hdis.asked, State.updDone_idle _ _ _ _,
      State.updDone_result _ _ _ (by decide)⟩
    have hlogged : Logged Page.UPD 0x0F06 1 s s.aborted.answerDone :=
      Logged.congr_log (hdis.logged hr) (s.aborted.answerDone_log.trans (State.updDone_log _ _ _ _))
    have hup : UpdOnly s s.aborted.answerDone := Changes.answerDone (honly.updOnly_of_engine fun _ => rfl)
    rw [s.abortUpdate_staging hstate hmaster, decide_eq_true hstate]
    exact completes_next ⟨(hended.answered (by decide)).1, s.aborted.answerDone_updState.trans ((State.updDone_state _ _ _ _).trans hdis.state),
      (s.aborted.answerDone_on _).trans hended.idle, fun _ => hlogged, s.aborted.answerDone_flash.trans (honly.kept State.flash fun _ => rfl), hup.frame⟩
  · have hno : (s.asking 7).abortUpdate = (s.asking 7).updDone 5 0 3 := if_neg hstate
    have h := s.updDone_refused 7 5 0 (r := 3) (by decide) (by decide)
    rw [hno, decide_eq_false hstate]
    exact completes_next ⟨h.answer, h.state, h.idle, nofun, h.flash, h.only.frame⟩

end

end Sys2Proof.Machine
end

section
/-!
Proofs about RETRY of the recovery protocol (R148, R753): the start that it begins, and the obligation on the protocol.
-/

namespace Sys2Proof.Machine

/-! ### What a retry leaves alone once its records are written -/

/-- Of a state, the last access only. -/
def State.onlyBus (s : State) : State := { State.reset with bus := s.bus }

/-- The words of RQSEQ, of the counts of starts and of the Winter reason. -/
def retryWords : List Nat := [F.UPD_RQSEQ.addr, F.BOOT_STARTS_CONSEC.addr, F.BOOT_WINTER_REASON.addr]

/-- From `s` to `t` these words and the last access are kept. -/
abbrev RetryKept (s t : State) : Prop := Changes State.onlyBus (· ∉ retryWords) s t

theorem RetryKept.bus {s t : State} (h : RetryKept s t) : t.bus = s.bus := h.kept State.bus fun _ => rfl

theorem RetryKept.get_kept {s t : State} (h : RetryKept s t) {f : Field} (hf : f.addr ∈ retryWords) : t.get f = s.get f := h.get f fun hn => hn hf

theorem Changes.retryKept {e : State → State} {W : Nat → Prop} {s t : State} (h : Changes e W s t) (he : ∀ u, State.onlyBus u = State.onlyBus (e u))
    (hw : ∀ a ∈ retryWords, ¬ W a) : RetryKept s t := h.mono he fun a ha hm => hw a hm ha

section
variable (s : State)

theorem State.commitBoot_retryKept : RetryKept s s.commitBoot := ⟨by rw [s.commitBoot_frame]; rfl, fun a _ => s.commitBoot_word a⟩

theorem State.setBoot_retryKept (x : Boot) : RetryKept s { s with boot := x } := ⟨rfl, fun _ _ => rfl⟩

theorem State.toStage_retryKept (st : Nat) : RetryKept s (s.toStage st) := by
  have hmode (t : State) : RetryKept t t.noteMode := t.noteMode_changes.retryKept (fun _ => rfl) (by unfold retryWords InPages; decide)
  exact .ite (hmode s) ((((Changes.refl s).put _ (by decide)).irq _ (by decide)).trans (hmode _))

theorem State.toStage_stage {st : Nat} (hst : st < 8) : (s.toStage st).get F.BOOT_STAT_STAGE = st := by
  have hmode (t : State) : t.noteMode.get F.BOOT_STAT_STAGE = t.get F.BOOT_STAT_STAGE := t.noteMode_changes.get _ (by unfold InPages; decide)
  unfold State.toStage
  split
  case isTrue h => exact (hmode s).trans h
  case isFalse h =>
    rw [hmode]
    exact (State.get_put_apart _ _ _ _ (by decide)).trans ((State.get_put_same _ _ _ (by decide)).trans (Nat.mod_eq_of_lt hst))

/-! ### The island operates (R403) -/

/-- The pages of the island's pairs and events. -/
def pairPages : List Nat := [Page.SAF, Page.LDG]

/-- From `s` to `t` pairs have been evaluated: their words and records, and the events. -/
abbrev PairsOnly (s t : State) : Prop := Changes State.offSwitches (InPages pairPages) s t

theorem pairField_inPages (p : Fin 16) (k : Nat) : InPages pairPages (pairField p k).addr := by
  have h : ∀ p : Fin 16, ∃ q ∈ pairPages, q ≤ (F.SAF_PAIRST.i (p / 4)).addr ∧ (F.SAF_PAIRST.i (p / 4)).addr < q + 0x1000 := by decide
  exact h p

theorem pairFltField_inPages (p : Fin 16) : InPages pairPages (pairFltField p).addr := by
  have h : ∀ p : Fin 16, ∃ q ∈ pairPages, q ≤ (F.SAF_PAIRFLT.i (p / 8)).addr ∧ (F.SAF_PAIRFLT.i (p / 8)).addr < q + 0x1000 := by decide
  exact h p

theorem State.putPair_pairs (p : Fin 16) (k : Nat) (b : Bool) : PairsOnly s (s.putPair p k b) := .put (.refl s) _ (pairField_inPages p k)

theorem State.evalPair_pairs (quiet : Bool) (p : Fin 16) : PairsOnly s (s.evalPair quiet p) := by
  unfold State.evalPair
  extract_lets a b c ty dem was s1
  have hsaf : Page.SAF ∈ pairPages := by decide
  have h1 : PairsOnly s s1 := .put (((s.putPair_pairs p 2 _).trans (State.putPair_pairs _ p 3 _)).trans (State.putPair_pairs _ p 4 _)) _
    (pairFltField_inPages p)
  have hrst (u : State) (k : Bool) : PairsOnly u (u.when k (·.putPair p 5 true)) := .when k (.refl u) (State.putPair_pairs _ p 5 _)
  exact .ite (.refl s) (.ite (.logE_page (.irq_page (.incSat h1 (by unfold InPages; decide)) hsaf 0) hsaf _ _ (by decide))
    (.ite (.logE_page (.irq_page (h1.trans (hrst _ _)) hsaf 1) hsaf _ _ (by decide)) h1))

theorem State.setSp_pairs (p : Fin 16) (c : SafePair) : PairsOnly s (s.setSp p c) := ⟨rfl, fun _ _ => rfl⟩

theorem State.assumeDemand_pairs (p : Fin 16) : PairsOnly s (s.assumeDemand p) :=
  .ite (((s.setSp_pairs p _).trans (State.putPair_pairs _ p 2 _)).trans (State.evalPair_pairs _ _ p)) (s.evalPair_pairs _ p)

theorem State.operateIsland_retryKept : RetryKept s s.operateIsland := by
  have hstart : PairsOnly s (((s.put F.SAF_STAT_STATE 1).put F.SAF_STAT_HOLDSRC 0).irq Page.SAF 6) :=
    .irq_page (.put (f := F.SAF_STAT_HOLDSRC) (.put (.refl s) _ (by unfold InPages; decide)) _ (by unfold InPages; decide)) (by decide) 6
  have hpairs := hstart.trans (.foldl State.assumeDemand (fun t p => t.assumeDemand_pairs p) (List.finRange 16) _)
  exact (hpairs.retryKept (fun _ => rfl) (by unfold retryWords InPages; decide)).trans
    ((State.settle_switched _).retryKept (fun _ => rfl) (by unfold retryWords InPages; decide))

/-! ### The start that a retry begins (R148) -/

theorem State.returnPages_retryKept : RetryKept s s.returnPages :=
  s.returnPages_transferred.retryKept (fun _ => rfl) (List.forall_mem_cons.2 ⟨ownerWord_apart F.UPD_RQSEQ (by simp),
    List.forall_mem_cons.2 ⟨ownerWord_apart F.BOOT_STARTS_CONSEC (by simp), List.forall_mem_singleton.2 (ownerWord_apart F.BOOT_WINTER_REASON (by simp))⟩⟩)

theorem State.commitBsel_get (f : Field) : s.commitBsel.get f = s.get f := by
  obtain ⟨l, hl⟩ : ∃ l, s.commitBsel = { s with ledger := l } := ⟨_, s.commitBsel_frame⟩
  rw [hl]
  rfl

theorem State.commitBsel_bus : s.commitBsel.bus = s.bus := by rw [s.commitBsel_frame]

/-- What is left of the registers when Winter mode is left. -/
theorem State.leaveWinter_shows (hw : s.inWinter = true) :
    s.leaveWinter.get F.UPD_RQSEQ = s.get F.UPD_RQSEQ ∧ s.leaveWinter.get F.BOOT_WINTER_REASON = 0 ∧ s.leaveWinter.bus = s.bus := by
  unfold State.leaveWinter
  rw [if_pos hw]
  dsimp only
  have hlog (t : State) (a : Nat) {f : Field} (hf : f.addr ∉ logWords Page.BOOT) : (t.logE Page.BOOT 0x010D a).get f = t.get f :=
    (State.logE_onlyLogged _ _ _ _).get f hf
  refine ⟨?_, ?_, ?_⟩
  · rw [hlog _ _ (by decide), State.get_put_apart _ _ _ _ (by decide), State.get_put_apart _ _ _ _ (by decide), State.get_put_apart _ _ _ _ (by decide),
      State.get_put_apart _ _ _ _ (by decide)]
  · rw [hlog _ _ (by decide), State.get_put_apart _ _ _ _ (by decide), State.get_put_apart _ _ _ _ (by decide), State.get_put_apart _ _ _ _ (by decide),
      State.get_put_same _ _ _ (by decide)]
    rfl
  · rw [State.logE_bus, State.put_bus, State.put_bus, State.put_bus, State.put_bus]

/-- The state in which the request is recorded, Winter mode is left and the pages are given back. -/
def State.retryRecorded (rqseq : Nat) : State := ((s.put F.UPD_RQSEQ rqseq).commitBsel).leaveWinter.returnPages

theorem State.retryRecorded_shows {rqseq : Nat} (hw : s.inWinter = true) (hseq : rqseq < 2 ^ 32) :
    (s.retryRecorded rqseq).get F.UPD_RQSEQ = rqseq ∧ (s.retryRecorded rqseq).get F.BOOT_WINTER_REASON = 0 ∧ (s.retryRecorded rqseq).bus = s.bus := by
  have hput : (s.put F.UPD_RQSEQ rqseq).commitBsel.get F.UPD_RQSEQ = rqseq :=
    (State.commitBsel_get _ _).trans ((s.get_put_same _ _ (by decide)).trans (Nat.mod_eq_of_lt hseq))
  have hreason : (s.put F.UPD_RQSEQ rqseq).commitBsel.get F.BOOT_WINTER_REASON = s.get F.BOOT_WINTER_REASON :=
    (State.commitBsel_get _ _).trans (s.get_put_addr _ _ _ (by decide))
  have hin : (s.put F.UPD_RQSEQ rqseq).commitBsel.inWinter = true := by rw [State.inWinter, hreason, ← State.inWinter, hw]
  have hbus : (s.put F.UPD_RQSEQ rqseq).commitBsel.bus = s.bus := (State.commitBsel_bus _).trans (s.put_bus _ _)
  obtain ⟨hseq', hzero, hbus'⟩ := State.leaveWinter_shows _ hin
  have hret := State.returnPages_retryKept ((s.put F.UPD_RQSEQ rqseq).commitBsel).leaveWinter
  exact ⟨(hret.get_kept (by decide)).trans (hseq'.trans hput), (hret.get_kept (by decide)).trans hzero, hret.bus.trans (hbus'.trans hbus)⟩

/-- What follows the count of the start. -/
theorem State.retryStart_kept (rqseq : Nat) : RetryKept ((s.retryRecorded rqseq).put F.BOOT_STARTS_CONSEC 2) (s.retryStart rqseq) := by
  unfold State.retryStart
  extract_lets s1 s2 _ s3
  have h3 : RetryKept (s1.put F.BOOT_STARTS_CONSEC 2) s3 := (State.commitBoot_retryKept _).trans (s2.setBoot_retryKept _)
  exact (h3.trans (.ite s3.operateIsland_retryKept (.refl s3))).trans (State.toStage_retryKept _ 3)

theorem State.retryStart_stage (rqseq : Nat) : (s.retryStart rqseq).get F.BOOT_STAT_STAGE = 3 := by
  unfold State.retryStart
  exact State.toStage_stage _ (by decide)

/-- What a retry makes of the module. -/
structure Retried (rqseq : Nat) (s t : State) : Prop where
  rqseq : t.get F.UPD_RQSEQ = rqseq
  consec : t.get F.BOOT_STARTS_CONSEC = 2
  reason : t.get F.BOOT_WINTER_REASON = 0
  stage : t.get F.BOOT_STAT_STAGE = 3
  bus : t.bus = s.bus

theorem State.retryStart_retried {rqseq : Nat} (hw : s.inWinter = true) (hseq : rqseq < 2 ^ 32) : Retried rqseq s (s.retryStart rqseq) := by
  obtain ⟨hrq, hzero, hbus⟩ := s.retryRecorded_shows hw hseq
  have hkept := s.retryStart_kept rqseq
  refine ⟨?_, ?_, ?_, s.retryStart_stage rqseq, ?_⟩
  · exact (hkept.get_kept (by decide)).trans ((State.get_put_addr _ _ _ _ (by decide)).trans hrq)
  · exact (hkept.get_kept (by decide)).trans (State.get_put_same _ _ _ (by decide))
  · exact (hkept.get_kept (by decide)).trans ((State.get_put_addr _ _ _ _ (by decide)).trans hzero)
  · exact hkept.bus.trans ((State.put_bus _ _ _).trans hbus)

/-! ### RETRY (R148, R753) -/

theorem State.recovers_winter {eth : Bool} (h : s.recovers eth = true) : s.inWinter = true := by
  obtain ⟨hpow, -⟩ := Bool.and_eq_true_iff.1 h
  exact (Bool.and_eq_true_iff.1 hpow).2

theorem leAt_lt (m : List Byte) (i n : Nat) : leAt m i n < 256 ^ n :=
  (ofBytes_lt _).trans_le (Nat.pow_le_pow_right (by decide) (List.length_take_le n _))

theorem State.recoveryRetry_rom {eth : Bool} (q : List Byte) (hrec : s.recovers eth = true) (hrom : s.romLevel = true) :
    s.recoveryRetry eth q = s.answerRecovery 0x08 3 [] := by
  simp [State.recoveryRetry, hrec, hrom]

theorem State.recoveryRetry_refused {eth : Bool} {q : List Byte} (hrec : s.recovers eth = true) (hrom : s.romLevel = false) (hq : s.retryOk q = false) :
    s.recoveryRetry eth q = (s.answerRecovery 0x08 18 []).logE Page.UPD 0x0F15 (leAt q 24 4) := by
  simp [State.recoveryRetry, hrec, hrom, hq]

theorem State.recoveryRetry_taken {eth : Bool} {q : List Byte} (hrec : s.recovers eth = true) (hrom : s.romLevel = false) (hq : s.retryOk q = true) :
    s.recoveryRetry eth q = (s.answerRecovery 0x08 1 []).retryStart (leAt q 24 4) := by
  simp [State.recoveryRetry, hrec, hrom, hq]

theorem retry_served (s : State) (eth : Bool) (q : BitVec 768) : Claims.recoveryRetry s eth q := by
  intro hrec hr
  rw [exec_recoveryRetry]
  by_cases hrom : s.romLevel = true
  · rw [s.recoveryRetry_rom _ hrec hrom]
    exact completes_next ⟨fun _ => ⟨rfl, rfl⟩, fun h => absurd (h.symm.trans hrom) nofun, fun h => absurd (h.symm.trans hrom) nofun⟩
  have hlegal : s.romLevel = false := eq_false_of_ne_true hrom
  by_cases hq : s.retryOk (toBytes 96 q.toNat) = true
  · obtain ⟨hseq, hconsec, hreason, hstage, hbus⟩ :=
      (s.answerRecovery 0x08 1 []).retryStart_retried (s.recovers_winter hrec) (leAt_lt (toBytes 96 q.toNat) 24 4)
    rw [s.recoveryRetry_taken hrec hlegal hq]
    exact completes_next ⟨fun h => absurd h hrom, fun _ h => absurd (h.symm.trans hq) nofun, fun _ _ => ⟨hseq, hconsec, hreason, hstage, hbus⟩⟩
  · have hno : s.retryOk (toBytes 96 q.toNat) = false := eq_false_of_ne_true hq
    rw [s.recoveryRetry_refused hrec hlegal hno]
    generalize hu : s.answerRecovery 0x08 18 [] = u
    have hlogged : Logged Page.UPD 0x0F15 (leAt (toBytes 96 q.toNat) 24 4) s (u.logE Page.UPD 0x0F15 (leAt (toBytes 96 q.toNat) 24 4)) :=
      (LogsAtMost.of_log 0 (by rw [← hu]; rfl)).logged _ _ _ hr
    have hanswer : Claims.recoveryAnswer (u.logE Page.UPD 0x0F15 (leAt (toBytes 96 q.toNat) 24 4)) 0x08 18 [] := by
      have hstate : (u.logE Page.UPD 0x0F15 (leAt (toBytes 96 q.toNat) 24 4)).updState = u.updState :=
        (State.logE_onlyLogged _ _ _ _).get F.UPD_STAT_STATE (by decide)
      rw [Claims.recoveryAnswer, State.logE_bus, hstate, ← hu]
      rfl
    exact completes_next ⟨fun h => absurd h hrom, fun _ _ => ⟨hanswer, hlogged, by rw [State.logE_frame, ← hu]; rfl⟩, fun _ h => absurd h hq⟩

end

/-- Settles O51, the claims on the messages of the recovery protocol. -/
theorem recoveryProtocol : Obligations.RecoveryProtocol :=
  ⟨messages_unserved, hello_answered, manbuf_filled, open_served, data_refused, data_taken, prepare_served, activate_served, abort_served, retry_served⟩

end Sys2Proof.Machine
end
